-- ==== Sys2Proof/Word.lean ====
section
/-!
DEFINITION. Word.lean: the words of the Colax. A register is 32 bits (R452), a line is 64 bytes (R4), a vector register
of an engine is one line; data kept by index is a sorted list of pairs, and a set of frame numbers a list of intervals.
-/
namespace Sys2Proof

/-- A register (R452). -/
abbrev Word32 := BitVec 32

/-- A double word. -/
abbrev Word64 := BitVec 64

/-- A line of 64 bytes, byte 0 in bits 7..0 (R4). -/
abbrev Line := BitVec 512

/-- Data kept by a number: keys strictly rising, and no entry equal to what an unlisted key reads as. -/
abbrev Sparse (β : Type) := List (Nat × β)

/-- A set of numbers as intervals lo to hi, both ends included, rising and never touching. -/
abbrev ISet := List (Nat × Nat)

end Sys2Proof
end

