-- ==== Sys2Proof/Observed.lean ====
section
/-!
DEFINITION. Observed.lean: the operand types of the commands. A command's operand is either what the outside sends (a
request, a row of the pair link, a register write) or what the device measures or finds outside itself when an event
happens (the outcome of a training step, the content of a flash word); the log entries say which is which.
-/
namespace Sys2Proof

/-- Who sends a register request (R453): Nguane firmware, or host port `h` with tag and whether the value's parity is
good (R92, R106). -/
inductive Who where
  | firmware
  | port (h : Fin 12) (tag : BitVec 12) (parityOk : Bool)
  deriving DecidableEq, Repr

/-- The fields every memory request carries (R88, R94): the port it came in on, TAG, CLASS, URG, and ADDR[44:6]. -/
structure MemReq where
  port : Fin 12
  tag : BitVec 12
  cls : BitVec 6
  urg : BitVec 2
  line : BitVec 39
  deriving DecidableEq, Repr

/-- The operands of a host atomic (R90): ADDR[5:3], the two operand words and their parity (bytes of `a` in 7..0). -/
structure AtomArg where
  off : BitVec 3
  a : BitVec 64
  b : BitVec 64
  par : BitVec 16
  deriving DecidableEq, Repr

/-- The fields of a step of the engine's program store (R219). -/
structure StepF where
  typ : BitVec 4
  dst : BitVec 5
  srcA : BitVec 5
  srcB : BitVec 5
  srcC : BitVec 5
  mask : BitVec 3
  inv : Bool
  cond : BitVec 4
  ext : BitVec 24
  imm : BitVec 64
  deriving DecidableEq, Repr

/-- Which way an adaptation moves a setting (R310). -/
inductive Move where
  | stay | up | down
  deriving DecidableEq, Repr

/-- How the bring-up of a unit ends (R336, R344). -/
inductive BringUp where
  | online | offline | failed
  deriving DecidableEq, Repr

/-- How the fuses of a word read (R421): copy A and copy B, each at the NORMAL and at the STRICT reference. -/
structure FuseWord where
  na : BitVec 32
  sa : BitVec 32
  nb : BitVec 32
  sb : BitVec 32
  deriving DecidableEq, Repr
/-- A block of the save image that fails its check (R395), by what it covers: sets of the frame table, frames of the birth map, the slot
halves of an engine, the registers of a page, the taps or the tracker and poison list of a shaft, the unit states. -/
inductive ImgFail where
  | table (first : BitVec 15) (count : Fin 16)
  | birth (block : Fin 2048)
  | slots (n : Fin 48)
  | page (page : BitVec 14)
  | taps (n : Fin 48)
  | trackers (n : Fin 48)
  | units
  deriving DecidableEq, Repr
/-- How a training attempt of a host port ends (R78 to R81): no partner answers; the attempt fails; or it trains at a rate
(1: 4 GT/s to 4: 32 GT/s) after finding the given lanes failed in each direction. -/
inductive PortTrainObs where
  | noPartner
  | failed
  | trained (rate : Fin 4) (failTx failRx : List (Fin 64))
  deriving DecidableEq, Repr
/-- What a read burst brings (R269, R271): bytes that fail parity beyond those stored so, internal words with CORR high, and
internal words the die reports uncorrectable (all 16 bytes of such a word fail parity). -/
structure ReadObs where
  bad : BitVec 64
  corr : BitVec 4
  unc : BitVec 4
  deriving DecidableEq, Repr
/-- An alert (R178, R179): its cause (`data`: write-data parity), which command of the retry buffer failed (0 the newest), and
how many SRE attempts fail if the shaft is fenced. -/
structure AlertObs where
  data : Bool
  pos : Fin 32
  sreFails : Fin 4
  deriving DecidableEq, Repr
/-- What a training step finds (R198 to R200): how often the temperature moved by more than 5 °C, whether a probe met a second
alert, the impedance codes and the DRAM die's own (R195), and the widest passing run of each tap it looks for (per-bit delays by CALSEL
index, `true` the receive side; lanes by quantity as RETRAIN_STATUS.QTY numbers them), none where no code passes; the taps not listed all have
the run `bitRest` or `laneRest`. -/
structure TrainObs where
  tempMoves : Fin 3
  alertTwice : Bool
  imp : BitVec 5 × BitVec 5 × BitVec 5
  die : BitVec 5 × BitVec 5 × BitVec 5
  bits : List (Fin 83 × Bool × Option (BitVec 7 × BitVec 7))
  lanes : List (Fin 9 × Fin 4 × Option (BitVec 8 × BitVec 8))
  bitRest : Option (BitVec 7 × BitVec 7)
  laneRest : Option (BitVec 8 × BitVec 8)
  deriving DecidableEq, Repr
/-- What a short retrain finds (R201): whether every lane has a passing probe, and for each lane and strobe (`true` write) the run
of passing probes, probe 4 being the stored value and neighbours 4 taps apart; a lane not listed passes evenly around its stored value. -/
structure ShortObs where
  ok : Bool
  runs : List (Fin 9 × Bool × Fin 9 × Fin 9)
  deriving DecidableEq, Repr
/-- What a touch finds (R203): which of the probes at L − 1, L, R and R + 1 pass; for the impedance touch the moves of PU, PD, ODT;
`hit`: firmware wrote the tap while the touch ran (R206). -/
structure TouchObs where
  l1 : Bool
  l : Bool
  r : Bool
  r1 : Bool
  imp : Move × Move × Move
  hit : Bool
  deriving DecidableEq, Repr
/-- How a repair at the die ends: carried out, or undone (R289). -/
structure RepairObs where
  done : Bool
  deriving DecidableEq, Repr
/-- How a stage of the pair link's bring-up ends (R307): its work is done on these lanes (`reversed`: the lane order is); it
reaches its limit; or the signal is lost during it. -/
inductive StageObs where
  | ends (lanes : BitVec 8) (reversed : Bool)
  | limit
  | noSignal
  deriving DecidableEq, Repr
/-- How a CXL link's training ends (R298): it fails, or reaches L0 on these lanes at a rate (0 below 32 GT/s, 1 at 32 GT/s, 2 at
64 GT/s). -/
inductive CxlTrainObs where
  | failed
  | trained (rate : Fin 3) (lanes : BitVec 8) (reversed : Bool)
  deriving DecidableEq, Repr
/-- What an enumeration finds (R299, R300): Type-3 devices, devices that are not, a switch, a second switch level or port-based
routing, and whether every decoder of the devices committed. -/
structure EnumObs where
  devices : Nat
  others : Nat
  switch : Bool
  deep : Bool
  commits : Bool
  deriving DecidableEq, Repr
/-- A CXL.mem completion (R302): read data, with the poison bit or not; a write's completion; an error status. -/
inductive CplKind where
  | data (d : BitVec 512)
  | poison
  | done
  | error
  deriving DecidableEq, Repr
/-- A completion with the DevLoad it carries. -/
structure CplObs where
  kind : CplKind
  devload : BitVec 2
  deriving DecidableEq, Repr
/-- A fault a self-test finds (R346, R348): a collar bond, a column signal, a row or column of the array, engine logic or scratch, a
host-port lane (`tx`: transmit), a far lane. -/
inductive Defect where
  | bond (sig : Fin 1156)
  | column (sig : Fin 105)
  | row (bank : Fin 32) (row : Fin 98304)
  | col (bank : Fin 32) (col : Fin 32)
  | logic
  | hostLane (tx : Bool) (lane : Fin 64)
  | farLane (lane : Fin 8)
  deriving DecidableEq, Repr
/-- What a target's test finds, and what each step of the full training after a column spare finds. -/
structure SelftestObs where
  defects : List Defect
  train : List TrainObs
  deriving DecidableEq, Repr
/-- What the references measure at start-up (R192 to R194): the master impedance code found, the two conversions of the converter's
calibration, and the worst error of the wake comparator in millivolts. -/
structure RefObs where
  master : BitVec 5
  zero : Int
  ref : Nat
  wakeMv : Nat
  deriving DecidableEq, Repr
/-- What a step of start-up finds (R364, R366): words of the fuse array that read otherwise than before (step 2); whether the boot
ROM's self-check passes and what the references measure (step 4); flash slots that cannot be read (step 5); collar ports that fail three attempts (step 7); shafts
that give no answer to MRR (step 9); what the steps of each shaft's training find, one that is not listed ending well (step 10); the
what the quick self-test finds, by tile (step 11); blocks of a save image that fail (step 12). -/
structure KindleObs where
  fuses : List (BitVec 13 × FuseWord)
  selfOk : Bool
  refs : RefObs
  flashBad : BitVec 2
  ports : BitVec 48
  mute : BitVec 48
  train : List (Fin 48 × List TrainObs)
  quick : List (Fin 48 × SelftestObs)
  blocks : List ImgFail
  deriving DecidableEq, Repr
/-- What an exit step finds (R391 to R395): whether it signals completion in time; collar ports that fail (step 4); each shaft's short
retrain (step 5); blocks of the save image that fail (step 6); banks whose sentinel row differs (step 7). -/
structure ExitObs where
  done : Bool
  ports : BitVec 48
  shorts : List (Fin 48 × ShortObs)
  blocks : List ImgFail
  banks : List (Fin 48 × Fin 32)
  deriving DecidableEq, Repr
/-- A power estimate (R396) by part, in units of 0.1 W. -/
structure PowerObs where
  dram : Nat
  refStatic : Nat
  engine : Nat
  logic : Nat
  host : Nat
  far : Nat
  deriving DecidableEq, Repr
/-- Arbitration points at which work waits (R139). -/
inductive ArbPoint where
  | lookup (h : Fin 12)
  | response (h : Fin 12)
  | spine
  | collar (n : Fin 48)
  | shaftLocal (n : Fin 48)
  | window (n : Fin 48)
  | held
  | table
  | far (f : Fin 4)
  | rings
  deriving DecidableEq, Repr
/-- A flit and the adapter replays since the one before (R82, R115): the 256 bytes, byte 0 in bits 7 to 0. -/
structure FlitSeen where
  bits : BitVec 2048
  replays : Nat
  deriving DecidableEq, Repr
/-- What follows a header's first word (R85, R90): its second word W, and the slot after the header, an ATOM's operands. -/
structure AfterHeader where
  w2 : BitVec 64
  arg : BitVec 128
  deriving DecidableEq, Repr
/-- A line with its parity, as it comes through the fabric. -/
structure SentLine where
  data : BitVec 512
  par : BitVec 64
  deriving DecidableEq, Repr
end Sys2Proof
end

