-- ==== Sys2Proof/Syntax.lean ====
section
/-!
DEFINITION. Syntax.lean: the commands of the Colax, one constructor per row of spec/opcode_table.json, in the table's
order. An operand is what the outside sends with the command, or what the device measures or finds outside itself when
the event happens; what the device decides from it is the command's meaning. A row that is a register write carries who
wrote (`w`) and the word written (`v`).
-/
namespace Sys2Proof

/-- The commands and events of the block. -/
inductive Instr where
  /-- PWRGOOD_RISE (R361). `refclk`: REFCLK runs at that moment (R471) -/
  | pwrgoodRise (refclk : Bool)
  /-- PWRGOOD_FALL (R361).  -/
  | pwrgoodFall
  /-- RESET_N_FALL (R361). `stuck`: shafts that do not reach self-refresh within the 10 µs of R363 -/
  | resetNFall (stuck : BitVec 48)
  /-- RESET_N_RISE (R361).  -/
  | resetNRise (refclk : Bool)
  /-- REFCLK_LOST (R16).  -/
  | refclkLost
  /-- KINDLE_STEP_END (R364). `o`: what the step measured (R364, R366) -/
  | kindleStepEnd (o : KindleObs)
  /-- KINDLE_DONE (R365).  -/
  | kindleDone (w : Who) (v : BitVec 32)
  /-- KINDLE_TIMER_EXPIRY (R365).  -/
  | kindleTimerExpiry
  /-- IMG_DATA (R375).  -/
  | imgData (w : Who) (v : BitVec 32)
  /-- IMG_GO (R368).  -/
  | imgGo (w : Who) (v : BitVec 32)
  /-- WARM (R375).  -/
  | warm (w : Who) (v : BitVec 32) (stuck : BitVec 48)
  /-- GROUND (R370).  -/
  | ground (w : Who) (v : BitVec 32)
  /-- GROUND_DIE_RESET_STEP_END (R370). `fails`: collar ports that fail three attempts (step 5) -/
  | groundDieResetStepEnd (fails : BitVec 48)
  /-- WDOG_KICK (R375).  -/
  | wdogKick (w : Who) (v : BitVec 32)
  /-- WATCHDOG_EXPIRY (R375).  -/
  | watchdogExpiry (stuck : BitVec 48)
  /-- RETRAIN_CTL_GO (R378). `pass`: one of the three attempts passed -/
  | retrainCtlGo (w : Who) (v : BitVec 32) (pass : Bool)
  /-- ADAPTER_LINK_UP (R97).  -/
  | adapterLinkUp (h : Fin 12)
  /-- INIT_FLIT (R97). `fh`: the flit header field FH of R83 -/
  | initFlit (h : Fin 12) (fh : BitVec 80)
  /-- CREDIT_INIT_TIMEOUT (R97).  -/
  | creditInitTimeout (h : Fin 12)
  /-- CREDIT_RETURN (R96). a flit arrives with its messages, and the adapter replays since the last one (R82, R115) -/
  | creditReturn (h : Fin 12) (flit : FlitSeen)
  /-- RD64 (R104).  -/
  | rd64 (m : MemReq)
  /-- RD64_NA (R104).  -/
  | rd64Na (m : MemReq)
  /-- WR64 (R104).  -/
  | wr64 (m : MemReq) (data : BitVec 512) (par : BitVec 64)
  /-- WRM64 (R89).  -/
  | wrm64 (m : MemReq) (data : BitVec 512) (par : BitVec 64) (mask : BitVec 64) (mpar : BitVec 8)
  /-- ATOM_FETCH_ADD (R90).  -/
  | atomFetchAdd (m : MemReq) (q : AtomArg)
  /-- ATOM_SWAP (R90).  -/
  | atomSwap (m : MemReq) (q : AtomArg)
  /-- ATOM_COMPARE_SWAP (R90).  -/
  | atomCompareSwap (m : MemReq) (q : AtomArg)
  /-- ATOM_SIGNED_MINIMUM (R90).  -/
  | atomSignedMinimum (m : MemReq) (q : AtomArg)
  /-- ATOM_SIGNED_MAXIMUM (R90).  -/
  | atomSignedMaximum (m : MemReq) (q : AtomArg)
  /-- ATOM_UNSIGNED_MINIMUM (R90).  -/
  | atomUnsignedMinimum (m : MemReq) (q : AtomArg)
  /-- ATOM_UNSIGNED_MAXIMUM (R90).  -/
  | atomUnsignedMaximum (m : MemReq) (q : AtomArg)
  /-- HINT_PREFETCH (R70).  -/
  | hintPrefetch (m : MemReq) (countM1 : BitVec 6)
  /-- HINT_PIN (R70).  -/
  | hintPin (m : MemReq) (countM1 : BitVec 6)
  /-- HINT_UNPIN (R70).  -/
  | hintUnpin (m : MemReq) (countM1 : BitVec 6)
  /-- HINT_DEMOTE (R70).  -/
  | hintDemote (m : MemReq) (countM1 : BitVec 6)
  /-- HINT_RELEASE (R37).  -/
  | hintRelease (m : MemReq) (countM1 : BitVec 6)
  /-- HINT_MIGRATE (R70).  -/
  | hintMigrate (m : MemReq) (countM1 : BitVec 6) (target : BitVec 6)
  /-- FLUSH_SECTOR (R71).  -/
  | flushSector (m : MemReq)
  /-- FLUSH_FRAME (R71).  -/
  | flushFrame (m : MemReq)
  /-- FENCE (R102).  -/
  | fence (m : MemReq)
  /-- UNKNOWN_OPC (R87). `slots`: slots up to the next SMAP bit or the end of the flit; `rest`: the second word W and the slot after the header; also ATOM with AOP 7 and HINT with KIND 6 or 7, which have no row (R90, R91) -/
  | unknownOpc (m : MemReq) (opc : BitVec 6) (slots : Fin 16) (rest : AfterHeader)
  /-- REGRD (R453).  -/
  | regrd (w : Who) (a : BitVec 26)
  /-- REGWR (R453).  -/
  | regwr (w : Who) (a : BitVec 26) (v : BitVec 32)
  /-- REQUEST_ADMIT (R98).  -/
  | requestAdmit (h : Fin 12) (vc2 : Bool)
  /-- RESPONSE_SEND (R96). `ns`: the latency sample of R141 in ns, the link term included -/
  | responseSend (h : Fin 12) (vc2 : Bool) (ns : Nat)
  /-- EVENT_SEND (R109).  -/
  | eventSend (h : Fin 12)
  /-- EVENT_NOTICE (R130).  -/
  | eventNotice (page : BitVec 14)
  /-- CREDIT_TIMEOUT (R99).  -/
  | creditTimeout (h : Fin 12)
  /-- LINK_DOWN (R110).  -/
  | linkDown (h : Fin 12)
  /-- RETRAIN (R116).  -/
  | retrain (h : Fin 12) (w : Who) (v : BitVec 32)
  /-- LINK_DISABLE (R116).  -/
  | linkDisable (h : Fin 12) (w : Who) (v : BitVec 32)
  /-- APPLY (R116).  -/
  | apply (h : Fin 12) (w : Who) (v : BitVec 32)
  /-- HOST_PORT_TRAINING_END (R80).  -/
  | hostPortTrainingEnd (h : Fin 12) (o : PortTrainObs)
  /-- FUNC_RESET (R344).  -/
  | funcReset (page : BitVec 14) (w : Who) (v : BitVec 32)
  /-- FUNC_RESET_END (R344). `r`: what the short retrain of a shaft found -/
  | funcResetEnd (page : BitVec 14) (o : BringUp) (r : ShortObs)
  /-- UNIT_REQ (R337). `r`: what the short retrain of a shaft returning to ONLINE finds -/
  | unitReq (page : BitVec 14) (w : Who) (v : BitVec 32) (r : ShortObs)
  /-- STATE_NOTICE (R338). `lost`: the notice does not reach the management view (R338) -/
  | stateNotice (lost : Bool)
  /-- VIEW_COMPARISON (R338).  -/
  | viewComparison
  /-- EVT_SET (R456).  -/
  | evtSet (page : BitVec 14) (w : Who) (v : BitVec 32)
  /-- COUNTER_LO_READ (R152).  -/
  | counterLoRead (w : Who) (a : BitVec 26)
  /-- TIME_LO_READ (R375).  -/
  | timeLoRead (w : Who)
  /-- EST_READ (R402).  -/
  | estRead (w : Who)
  /-- FLASH_DATA_READ (R451).  -/
  | flashDataRead (w : Who)
  /-- REG_TIMEOUT (R129). `v`: the value of a write, none for a read -/
  | regTimeout (w : Who) (a : BitVec 26) (v : Option (BitVec 32))
  /-- STALL_DETECT (R135).  -/
  | stallDetect (src : BitVec 7) (dst : BitVec 7) (mgt : Bool)
  /-- CELL_DELIVERY (R124). `oneBit`: the control word arrived with a single-bit error (R132) -/
  | cellDelivery (dst : BitVec 7) (net : BitVec 2) (oneBit : Bool)
  /-- SPINE_FAULT (R132).  -/
  | spineFault
  /-- FRAME_TABLE_LOOKUP (R32).  -/
  | frameTableLookup (bank : Fin 32)
  /-- HOLD_TIMEOUT (R55). `i`: place in the held-request queue -/
  | holdTimeout (i : Fin 1024)
  /-- HELD_REQUEST_SERVE (R55).  -/
  | heldRequestServe
  /-- FILL_LINE_ARRIVAL (R56).  -/
  | fillLineArrival (f : Fin 4)
  /-- FILL_COMMIT (R56). `ns`: the class 60 sample, from the first far read to the commit (R141) -/
  | fillCommit (i : Fin 512) (ns : Nat)
  /-- FILL_ABANDON (R58).  -/
  | fillAbandon (i : Fin 512)
  /-- WRITEBACK_CAPTURE (R59).  -/
  | writebackCapture (i : Fin 128)
  /-- WRITEBACK_COMMIT (R59). `ns`: the class 61 sample, from capture to commit (R141) -/
  | writebackCommit (i : Fin 128) (ns : Nat)
  /-- WRITEBACK_CPL_ERROR (R59).  -/
  | writebackCplError (i : Fin 128)
  /-- BLOCK_MARK_EXPIRY (R67).  -/
  | blockMarkExpiry (f : Fin 4)
  /-- EVICTION_STEP (R62).  -/
  | evictionStep (frame : BitVec 26)
  /-- SHOOTDOWN_ACK (R63).  -/
  | shootdownAck (frame : BitVec 26)
  /-- SHOOTDOWN_TIMEOUT (R63).  -/
  | shootdownTimeout (frame : BitVec 26) (n : Fin 48)
  /-- WRITE_REVOKE (R231).  -/
  | writeRevoke (n : Fin 48)
  /-- SHOOTDOWN (R231).  -/
  | shootdown (n : Fin 48)
  /-- AGE_PERIOD (R61).  -/
  | agePeriod
  /-- USED_FRAME_REPORT (R231).  -/
  | usedFrameReport (n : Fin 48)
  /-- PRECLEAN (R64).  -/
  | preclean (set : BitVec 15)
  /-- GLOBAL_EVICTION (R66).  -/
  | globalEviction
  /-- RESERVED_SLOT_MOVE (R40).  -/
  | reservedSlotMove (i : Fin 64)
  /-- MOVE_START (R68).  -/
  | moveStart
  /-- MOVE_COPY_END (R68).  -/
  | moveCopyEnd (ch : Fin 4)
  /-- MOVE_COMMIT (R68).  -/
  | moveCommit (ch : Fin 4)
  /-- MOVE_ABANDON (R68).  -/
  | moveAbandon (ch : Fin 4)
  /-- MIG_GO (R76).  -/
  | migGo (w : Who) (v : BitVec 32)
  /-- SPACE_TABLE_CLEAR (R49).  -/
  | spaceTableClear (w : Who) (v : BitVec 32)
  /-- SPACE_WALK (R49).  -/
  | spaceWalk (w : Who) (v : BitVec 32)
  /-- TABLE_WALK (R46). `bad`: ways whose entry fails parity, with true where the header bytes holding VALID and TAG pass -/
  | tableWalk (set : BitVec 15) (bad : List (Fin 18 × Bool))
  /-- WALK_END (R46).  -/
  | walkEnd
  /-- SUSPECT_CLEAR (R51).  -/
  | suspectClear (w : Who) (v : BitVec 32)
  /-- LOOKUP_FRAME (R52).  -/
  | lookupFrame (w : Who) (v : BitVec 32)
  /-- FAR_WINDOW_ENABLE (R29).  -/
  | farWindowEnable (k : Fin 64) (w : Who) (v : BitVec 32)
  /-- FAR_WINDOW_DISABLE (R29).  -/
  | farWindowDisable (k : Fin 64) (w : Who) (v : BitVec 32)
  /-- SO_WINDOW_ENABLE (R29).  -/
  | soWindowEnable (j : Fin 16) (w : Who) (v : BitVec 32)
  /-- SO_WINDOW_DISABLE (R29).  -/
  | soWindowDisable (j : Fin 16) (w : Who) (v : BitVec 32)
  /-- DRAIN_END (R29). `win`: 0 to 15 stack-only window j, 16 to 79 far window win − 16, in the order of R26 -/
  | drainEnd (win : Fin 80)
  /-- COMMAND_ISSUE (R168).  -/
  | commandIssue (n : Fin 48)
  /-- READ_DATA_RETURN (R269).  -/
  | readDataReturn (n : Fin 48) (o : ReadObs)
  /-- CORRECTION_SOURCE_TIMEOUT (R273).  -/
  | correctionSourceTimeout (n : Fin 48)
  /-- FAR_FIX_ARRIVAL (R273). `l`: the line of the shaft it is for -/
  | farFixArrival (n : Fin 48) (l : Nat) (x : SentLine)
  /-- ROW_IDLE_EXPIRY (R169).  -/
  | rowIdleExpiry (n : Fin 48) (bank : Fin 32)
  /-- REFRESH_SLOT (R173).  -/
  | refreshSlot (n : Fin 48)
  /-- TEMP_DELIVERY (R408).  -/
  | tempDelivery (n : Fin 48)
  /-- REFRESH_RATE_LOWER (R174).  -/
  | refreshRateLower (n : Fin 48)
  /-- TEMP_STALE (R175).  -/
  | tempStale (n : Fin 48)
  /-- ALERT_N (R178).  -/
  | alertN (n : Fin 48) (o : AlertObs)
  /-- PARK (R180).  -/
  | park (n : Fin 48) (w : Who) (v : BitVec 32)
  /-- WAKE (R180).  -/
  | wake (n : Fin 48) (w : Who) (v : BitVec 32)
  /-- AUTO_PARK_EXPIRY (R180).  -/
  | autoParkExpiry (n : Fin 48)
  /-- PARKED_ACCESS_WAKE (R180).  -/
  | parkedAccessWake (n : Fin 48)
  /-- FREQ_GO (R184).  -/
  | freqGo (n : Fin 48) (w : Who) (v : BitVec 32)
  /-- CEILING_CHANGE (R184).  -/
  | ceilingChange (n : Fin 48)
  /-- FREQ_CHANGE_STEP_END (R182). `ok`: the step ended within its limit; `ns`: its duration; `o`: what the short retrain of step 6 found -/
  | freqChangeStepEnd (n : Fin 48) (ok : Bool) (ns : Nat) (o : ShortObs)
  /-- TRAIN_START (R198).  -/
  | trainStart (n : Fin 48) (w : Who) (v : BitVec 32)
  /-- TRAIN_ABORT (R206).  -/
  | trainAbort (n : Fin 48) (w : Who) (v : BitVec 32)
  /-- TRAIN_STEP_END (R200).  -/
  | trainStepEnd (n : Fin 48) (o : TrainObs)
  /-- RETRAIN_ROUND (R202).  -/
  | retrainRound (n : Fin 48)
  /-- TOUCH (R203).  -/
  | touch (n : Fin 48) (o : TouchObs)
  /-- GAP_WAIT_EXPIRY (R202).  -/
  | gapWaitExpiry (n : Fin 48)
  /-- HELPER_START (R197).  -/
  | helperStart (n : Fin 48) (w : Who) (v : BitVec 32)
  /-- START_IMP (R192). `src`: the register write, or none for the 100 ms period; `master`: the code found -/
  | startImp (src : Option (Who × BitVec 32)) (master : BitVec 5)
  /-- START_CONV (R193).  -/
  | startConv (src : Option (Who × BitVec 32))
  /-- START_WAKE (R194).  -/
  | startWake (w : Who) (v : BitVec 32)
  /-- CALIBRATION_LEASE_RETRY (R193).  -/
  | calibrationLeaseRetry
  /-- STEP_ISSUE (R215). `parity`: the stored step passes its parity -/
  | stepIssue (n : Fin 48) (parity : Bool)
  /-- ADD (R223).  -/
  | eAdd (n : Fin 48) (f : StepF)
  /-- SUB (R223).  -/
  | eSub (n : Fin 48) (f : StepF)
  /-- MUL (R223).  -/
  | eMul (n : Fin 48) (f : StepF)
  /-- MULH (R223).  -/
  | eMulh (n : Fin 48) (f : StepF)
  /-- FMA (R223).  -/
  | eFma (n : Fin 48) (f : StepF)
  /-- FMS (R223).  -/
  | eFms (n : Fin 48) (f : StepF)
  /-- FNMA (R223).  -/
  | eFnma (n : Fin 48) (f : StepF)
  /-- RCP (R223).  -/
  | eRcp (n : Fin 48) (f : StepF)
  /-- MIN (R223).  -/
  | eMin (n : Fin 48) (f : StepF)
  /-- MAX (R223).  -/
  | eMax (n : Fin 48) (f : StepF)
  /-- ABS (R223).  -/
  | eAbs (n : Fin 48) (f : StepF)
  /-- NEG (R223).  -/
  | eNeg (n : Fin 48) (f : StepF)
  /-- ADDS (R223).  -/
  | eAdds (n : Fin 48) (f : StepF)
  /-- SUBS (R223).  -/
  | eSubs (n : Fin 48) (f : StepF)
  /-- DOT4 (R223).  -/
  | eDot4 (n : Fin 48) (f : StepF)
  /-- DOT2 (R223).  -/
  | eDot2 (n : Fin 48) (f : StepF)
  /-- AND (R223).  -/
  | eAnd (n : Fin 48) (f : StepF)
  /-- OR (R223).  -/
  | eOr (n : Fin 48) (f : StepF)
  /-- XOR (R223).  -/
  | eXor (n : Fin 48) (f : StepF)
  /-- ANDN (R223).  -/
  | eAndn (n : Fin 48) (f : StepF)
  /-- NOT (R223).  -/
  | eNot (n : Fin 48) (f : StepF)
  /-- SHL (R223).  -/
  | eShl (n : Fin 48) (f : StepF)
  /-- SHR (R223).  -/
  | eShr (n : Fin 48) (f : StepF)
  /-- SAR (R223).  -/
  | eSar (n : Fin 48) (f : StepF)
  /-- ROTL (R223).  -/
  | eRotl (n : Fin 48) (f : StepF)
  /-- POPC (R223).  -/
  | ePopc (n : Fin 48) (f : StepF)
  /-- CLZ (R223).  -/
  | eClz (n : Fin 48) (f : StepF)
  /-- RSQ (R223).  -/
  | eRsq (n : Fin 48) (f : StepF)
  /-- MOV (R223).  -/
  | eMov (n : Fin 48) (f : StepF)
  /-- SALU_ADD (R223).  -/
  | eSaluAdd (n : Fin 48) (f : StepF)
  /-- SALU_SUB (R223).  -/
  | eSaluSub (n : Fin 48) (f : StepF)
  /-- SALU_MUL (R223).  -/
  | eSaluMul (n : Fin 48) (f : StepF)
  /-- SALU_AND (R223).  -/
  | eSaluAnd (n : Fin 48) (f : StepF)
  /-- SALU_OR (R223).  -/
  | eSaluOr (n : Fin 48) (f : StepF)
  /-- SALU_XOR (R223).  -/
  | eSaluXor (n : Fin 48) (f : StepF)
  /-- SALU_SHL (R223).  -/
  | eSaluShl (n : Fin 48) (f : StepF)
  /-- SALU_SHR (R223).  -/
  | eSaluShr (n : Fin 48) (f : StepF)
  /-- SALU_SIGNED_MIN (R223).  -/
  | eSaluSignedMin (n : Fin 48) (f : StepF)
  /-- SALU_SIGNED_MAX (R223).  -/
  | eSaluSignedMax (n : Fin 48) (f : StepF)
  /-- SLI (R223).  -/
  | eSli (n : Fin 48) (f : StepF)
  /-- BCAST (R223).  -/
  | eBcast (n : Fin 48) (f : StepF)
  /-- CMPEQ (R223).  -/
  | eCmpeq (n : Fin 48) (f : StepF)
  /-- CMPNE (R223).  -/
  | eCmpne (n : Fin 48) (f : StepF)
  /-- CMPLT (R223).  -/
  | eCmplt (n : Fin 48) (f : StepF)
  /-- CMPLE (R223).  -/
  | eCmple (n : Fin 48) (f : StepF)
  /-- CMPGT (R223).  -/
  | eCmpgt (n : Fin 48) (f : StepF)
  /-- CMPGE (R223).  -/
  | eCmpge (n : Fin 48) (f : StepF)
  /-- CMPNAN (R223).  -/
  | eCmpnan (n : Fin 48) (f : StepF)
  /-- SEL (R223).  -/
  | eSel (n : Fin 48) (f : StepF)
  /-- MAND (R223).  -/
  | eMand (n : Fin 48) (f : StepF)
  /-- MOR (R223).  -/
  | eMor (n : Fin 48) (f : StepF)
  /-- MXOR (R223).  -/
  | eMxor (n : Fin 48) (f : StepF)
  /-- MNOT (R223).  -/
  | eMnot (n : Fin 48) (f : StepF)
  /-- MSUM (R223).  -/
  | eMsum (n : Fin 48) (f : StepF)
  /-- MFIRST (R223).  -/
  | eMfirst (n : Fin 48) (f : StepF)
  /-- MLD (R223).  -/
  | eMld (n : Fin 48) (f : StepF)
  /-- MST (R223).  -/
  | eMst (n : Fin 48) (f : StepF)
  /-- RSUM (R223).  -/
  | eRsum (n : Fin 48) (f : StepF)
  /-- RMIN (R223).  -/
  | eRmin (n : Fin 48) (f : StepF)
  /-- RMAX (R223).  -/
  | eRmax (n : Fin 48) (f : StepF)
  /-- ROR (R223).  -/
  | eRor (n : Fin 48) (f : StepF)
  /-- PERM (R223).  -/
  | ePerm (n : Fin 48) (f : StepF)
  /-- SHUF (R223).  -/
  | eShuf (n : Fin 48) (f : StepF)
  /-- COMPRESS (R223).  -/
  | eCompress (n : Fin 48) (f : StepF)
  /-- EXPAND (R223).  -/
  | eExpand (n : Fin 48) (f : StepF)
  /-- EXTR (R223).  -/
  | eExtr (n : Fin 48) (f : StepF)
  /-- INSR (R223).  -/
  | eInsr (n : Fin 48) (f : StepF)
  /-- HASH (R223).  -/
  | eHash (n : Fin 48) (f : StepF)
  /-- CRC (R223).  -/
  | eCrc (n : Fin 48) (f : StepF)
  /-- CVT (R223).  -/
  | eCvt (n : Fin 48) (f : StepF)
  /-- PACK (R223).  -/
  | ePack (n : Fin 48) (f : StepF)
  /-- UNPK (R223).  -/
  | eUnpk (n : Fin 48) (f : StepF)
  /-- PREFIX (R223).  -/
  | ePrefix (n : Fin 48) (f : StepF)
  /-- SOPEN (R226).  -/
  | eSopen (n : Fin 48) (f : StepF)
  /-- SRD (R227).  -/
  | eSrd (n : Fin 48) (f : StepF)
  /-- SWR (R227).  -/
  | eSwr (n : Fin 48) (f : StepF)
  /-- SCLOSE (R223).  -/
  | eSclose (n : Fin 48) (f : StepF)
  /-- SCRLD (R223).  -/
  | eScrld (n : Fin 48) (f : StepF)
  /-- SCRST (R223).  -/
  | eScrst (n : Fin 48) (f : StepF)
  /-- SCRGATH (R223).  -/
  | eScrgath (n : Fin 48) (f : StepF)
  /-- SCRSCAT (R223).  -/
  | eScrscat (n : Fin 48) (f : StepF)
  /-- SCRADD (R223).  -/
  | eScradd (n : Fin 48) (f : StepF)
  /-- SSKIP (R223).  -/
  | eSskip (n : Fin 48) (f : StepF)
  /-- SPOS (R223).  -/
  | eSpos (n : Fin 48) (f : StepF)
  /-- LDG (R223).  -/
  | eLdg (n : Fin 48) (f : StepF)
  /-- STG (R223).  -/
  | eStg (n : Fin 48) (f : StepF)
  /-- SCRZ (R223).  -/
  | eScrz (n : Fin 48) (f : StepF)
  /-- AADD (R232).  -/
  | eAadd (n : Fin 48) (f : StepF)
  /-- ASWAP (R232).  -/
  | eAswap (n : Fin 48) (f : StepF)
  /-- ACAS (R232).  -/
  | eAcas (n : Fin 48) (f : StepF)
  /-- AMINS (R232).  -/
  | eAmins (n : Fin 48) (f : StepF)
  /-- AMAXS (R232).  -/
  | eAmaxs (n : Fin 48) (f : StepF)
  /-- AMINU (R232).  -/
  | eAminu (n : Fin 48) (f : StepF)
  /-- AMAXU (R232).  -/
  | eAmaxu (n : Fin 48) (f : StepF)
  /-- AVADD (R223).  -/
  | eAvadd (n : Fin 48) (f : StepF)
  /-- STEP_FENCE (R234).  -/
  | eFence (n : Fin 48) (f : StepF)
  /-- FENCEW (R234).  -/
  | eFencew (n : Fin 48) (f : StepF)
  /-- STEP_HINT_PREFETCH (R233).  -/
  | eHintPrefetch (n : Fin 48) (f : StepF)
  /-- STEP_HINT_PIN (R233).  -/
  | eHintPin (n : Fin 48) (f : StepF)
  /-- STEP_HINT_UNPIN (R233).  -/
  | eHintUnpin (n : Fin 48) (f : StepF)
  /-- STEP_HINT_DEMOTE (R233).  -/
  | eHintDemote (n : Fin 48) (f : StepF)
  /-- STEP_HINT_RELEASE (R233).  -/
  | eHintRelease (n : Fin 48) (f : StepF)
  /-- STEP_HINT_MIGRATE (R233).  -/
  | eHintMigrate (n : Fin 48) (f : StepF)
  /-- STEP_FLUSH_SECTOR (R233).  -/
  | eFlushSector (n : Fin 48) (f : StepF)
  /-- STEP_FLUSH_FRAME (R233).  -/
  | eFlushFrame (n : Fin 48) (f : StepF)
  /-- NOP (R223).  -/
  | eNop (n : Fin 48) (f : StepF)
  /-- LOOP (R225).  -/
  | eLoop (n : Fin 48) (f : StepF)
  /-- BRK (R224).  -/
  | eBrk (n : Fin 48) (f : StepF)
  /-- BR (R224).  -/
  | eBr (n : Fin 48) (f : StepF)
  /-- WAIT (R223).  -/
  | eWait (n : Fin 48) (f : StepF)
  /-- END (R234).  -/
  | eEnd (n : Fin 48) (f : StepF)
  /-- PARAM (R223).  -/
  | eParam (n : Fin 48) (f : StepF)
  /-- TRAP (R236).  -/
  | eTrap (n : Fin 48) (f : StepF)
  /-- ILLEGAL_OP (R236).  -/
  | eIllegalOp (n : Fin 48) (op : BitVec 8) (f : StepF)
  /-- STREAM_LINE_ARRIVAL (R228).  -/
  | streamLineArrival (n : Fin 48)
  /-- ENGINE_RETRY_EXPIRY (R237).  -/
  | engineRetryExpiry (n : Fin 48)
  /-- ENGINE_FREQ_CHANGE (R216).  -/
  | engineFreqChange (n : Fin 48)
  /-- HALT (R241).  -/
  | halt (n : Fin 48) (w : Who) (v : BitVec 32)
  /-- STEP (R241).  -/
  | stepDebug (n : Fin 48) (w : Who) (v : BitVec 32)
  /-- INVALIDATE (R241).  -/
  | invalidate (n : Fin 48) (w : Who) (v : BitVec 32)
  /-- PROGRAM_STORE_WRITE (R261).  -/
  | programStoreWrite (w : Who) (a : BitVec 26) (v : BitVec 32)
  /-- DOORBELL (R246).  -/
  | doorbell (k : Fin 64) (w : Who) (v : BitVec 32)
  /-- DESCRIPTOR_FETCH_RETURN (R247).  -/
  | descriptorFetchReturn (k : Fin 64)
  /-- JOB_PLACEMENT (R252).  -/
  | jobPlacement
  /-- JOB_START (R254).  -/
  | jobStart (n : Fin 48)
  /-- JOB_TIMEOUT (R255).  -/
  | jobTimeout (n : Fin 48)
  /-- JOB_END_TIMEOUT_RESET (R255).  -/
  | jobEndTimeoutReset (n : Fin 48)
  /-- ABORT (R255).  -/
  | abort (n : Fin 48) (w : Who) (v : BitVec 32)
  /-- COMPLETION_RECORD_WRITE (R256).  -/
  | completionRecordWrite (n : Fin 48)
  /-- COMPLETION_WRITE_ANSWER (R258).  -/
  | completionWriteAnswer (n : Fin 48)
  /-- RESUME (R265).  -/
  | resume (k : Fin 64) (w : Who) (v : BitVec 32)
  /-- SLOT_FLIP (R260).  -/
  | slotFlip (n : Fin 48) (w : Who) (v : BitVec 32)
  /-- SCRUB_VISIT (R277). of shaft 4 · die + q, as the events of a die page count its shafts -/
  | scrubVisit (die : Fin 12) (q : Fin 4)
  /-- TRACKER_ENTRY_EXPIRY (R281).  -/
  | trackerEntryExpiry (n : Fin 48) (i : Fin 128)
  /-- ROW_REPAIR (R282). `src`: the write of REPAIR_CTL KIND 0, or none for the weak tracker -/
  | rowRepair (n : Fin 48) (src : Option (Who × BitVec 32)) (o : RepairObs)
  /-- COLUMN_REPAIR (R285).  -/
  | columnRepair (n : Fin 48) (w : Who) (v : BitVec 32) (o : RepairObs)
  /-- ROLE (R295).  -/
  | role (f : Fin 4) (w : Who) (v : BitVec 32)
  /-- FAR_PORT_DISABLE (R317).  -/
  | farPortDisable (f : Fin 4) (w : Who) (v : BitVec 32)
  /-- PAIR_STAGE_END (R307).  -/
  | pairStageEnd (f : Fin 4) (o : StageObs)
  /-- CAP (R308). `seen`: symbols corrected and bad headers met since the row before (R303, R308) -/
  | cap (f : Fin 4) (row : BitVec 512) (seen : BitVec 8 × BitVec 8)
  /-- IDLE (R304). `seen`: symbols corrected and bad headers met since the row before (R303, R308) -/
  | idle (f : Fin 4) (row : BitVec 512) (seen : BitVec 8 × BitVec 8)
  /-- MSG (R304). `rows`: the data rows that follow; `seen` as for IDLE -/
  | msg (f : Fin 4) (row : BitVec 512) (rows : List (BitVec 512)) (seen : BitVec 8 × BitVec 8)
  /-- NAK (R306). `seen`: symbols corrected and bad headers met since the row before (R303, R308) -/
  | nak (f : Fin 4) (row : BitVec 512) (seen : BitVec 8 × BitVec 8)
  /-- UNCORRECTABLE_CODEWORD (R306).  -/
  | uncorrectableCodeword (f : Fin 4)
  /-- REPLAY_ACK_TIMEOUT (R306).  -/
  | replayAckTimeout (f : Fin 4)
  /-- BLOCK_LOCK_LOSS (R308).  -/
  | blockLockLoss (f : Fin 4) (lane : Fin 8)
  /-- LOSS_OF_SIGNAL (R312).  -/
  | lossOfSignal (f : Fin 4) (lane : Fin 8)
  /-- LOSS_OF_LOCK (R312).  -/
  | lossOfLock (f : Fin 4) (lane : Fin 8)
  /-- ADAPTATION (R310).  -/
  | adaptation (f : Fin 4) (lane : Fin 8) (ctle : Move) (dfe : Move)
  /-- SLIP_GO (R309). `good`: 64 good headers follow at the commanded position -/
  | slipGo (f : Fin 4) (w : Who) (v : BitVec 32) (good : Bool)
  /-- SCAN_GO (R311).  -/
  | scanGo (f : Fin 4) (w : Who) (v : BitVec 32)
  /-- SCAN_POINT_END (R311).  -/
  | scanPointEnd (f : Fin 4) (errors : Nat) (retrain : Bool)
  /-- LOOP_NEAR_END_SERIAL (R313).  -/
  | loopNearEndSerial (f : Fin 4) (w : Who) (v : BitVec 32)
  /-- LOOP_NEAR_END_PARALLEL (R313).  -/
  | loopNearEndParallel (f : Fin 4) (w : Who) (v : BitVec 32)
  /-- LOOP_FAR_END (R313).  -/
  | loopFarEnd (f : Fin 4) (w : Who) (v : BitVec 32)
  /-- LOOP_END (R313).  -/
  | loopEnd (f : Fin 4) (failLanes : BitVec 8) (errors : Nat)
  /-- CXL_LINK_TRAINED (R298).  -/
  | cxlLinkTrained (f : Fin 4) (o : CxlTrainObs)
  /-- ENUMERATION_END (R300).  -/
  | enumerationEnd (f : Fin 4) (o : EnumObs)
  /-- ENUMERATION_TIMEOUT (R300).  -/
  | enumerationTimeout (f : Fin 4)
  /-- COMMIT (R301).  -/
  | commit (f : Fin 4) (k : Fin 8) (w : Who) (v : BitVec 32)
  /-- CXL_COMPLETION (R302).  -/
  | cxlCompletion (f : Fin 4) (tag : Nat) (o : CplObs)
  /-- FAR_TIMEOUT (R302).  -/
  | farTimeout (f : Fin 4) (tag : Nat)
  /-- MWRITE (R322).  -/
  | mwrite (f : Fin 4)
  /-- MRELEASE (R322).  -/
  | mrelease (f : Fin 4)
  /-- MACK (R323).  -/
  | mack (f : Fin 4)
  /-- MREFUSE (R325).  -/
  | mrefuse (f : Fin 4)
  /-- CANDLE (R328).  -/
  | candle (f : Fin 4)
  /-- CANDLE_SEND (R327).  -/
  | candleSend
  /-- PARTNER_DARK (R327).  -/
  | partnerDark
  /-- RREQ (R326).  -/
  | rreq (f : Fin 4)
  /-- RDATA (R326).  -/
  | rdata (f : Fin 4)
  /-- CFGWR (R330).  -/
  | cfgwr (f : Fin 4)
  /-- HANDOVER (R327).  -/
  | handover (f : Fin 4)
  /-- HANDOVER_TIMEOUT (R327).  -/
  | handoverTimeout
  /-- TAKEOVER (R327).  -/
  | takeover (w : Who) (v : BitVec 32)
  /-- STRICT_COPY_TIMEOUT (R323).  -/
  | strictCopyTimeout (mseq : BitVec 16)
  /-- LAGGED_COPY_SEND (R324).  -/
  | laggedCopySend
  /-- MW_ENABLE (R321).  -/
  | mwEnable (j : Fin 16) (w : Who) (v : BitVec 32)
  /-- MW_BIRTH_CHECK_END (R321).  -/
  | mwBirthCheckEnd (j : Fin 16)
  /-- RESYNC (R329).  -/
  | resync
  /-- RESYNC_END (R329).  -/
  | resyncEnd
  /-- PAIR_ROLE_WRITE (R319). `epochReg`: the write goes to EPOCH, otherwise to CTL -/
  | pairRoleWrite (w : Who) (epochReg : Bool) (v : BitVec 32)
  /-- EVACUATION_END (R339).  -/
  | evacuationEnd (n : Fin 48)
  /-- FENCED_HOLD_TIMEOUT (R341).  -/
  | fencedHoldTimeout (n : Fin 48)
  /-- SHAFT_FAILED (R342).  -/
  | shaftFailed (n : Fin 48)
  /-- SELFTEST_COLLAR (R346).  -/
  | selftestCollar (w : Who) (v : BitVec 32)
  /-- SELFTEST_COLUMN (R346).  -/
  | selftestColumn (w : Who) (v : BitVec 32)
  /-- SELFTEST_ARRAY (R347).  -/
  | selftestArray (w : Who) (v : BitVec 32)
  /-- SELFTEST_ENGINE (R346).  -/
  | selftestEngine (w : Who) (v : BitVec 32)
  /-- SELFTEST_HOSTBUMP (R346).  -/
  | selftestHostbump (w : Who) (v : BitVec 32)
  /-- SELFTEST_FARPAD (R346).  -/
  | selftestFarpad (w : Who) (v : BitVec 32)
  /-- SELFTEST_FULL (R346).  -/
  | selftestFull (w : Who) (v : BitVec 32)
  /-- SELFTEST_TARGET_END (R348).  -/
  | selftestTargetEnd (page : BitVec 14) (o : SelftestObs)
  /-- LEASE_REQUEST (R353).  -/
  | leaseRequest (w : Who) (v : BitVec 32)
  /-- LEASE_RELEASE (R360).  -/
  | leaseRelease (w : Who) (v : BitVec 32)
  /-- LONG_HOLD (R353).  -/
  | longHold (i : BitVec 7)
  /-- TAP_BYPASS (R350). `bits`: what TDI shifts in -/
  | tapBypass (bits : List Bool)
  /-- TAP_SAMPLE_PRELOAD (R350).  -/
  | tapSamplePreload (bits : List Bool) (pads : List Bool)
  /-- TAP_EXTEST (R351).  -/
  | tapExtest (bits : List Bool) (pads : List Bool)
  /-- TAP_IDCODE (R350).  -/
  | tapIdcode (bits : List Bool)
  /-- TAP_1838_CONFIG (R350).  -/
  | tap1838Config (bits : List Bool)
  /-- TRST_N_LOW (R351).  -/
  | trstNLow
  /-- MODE_REQ_RUN (R379).  -/
  | modeReqRun (w : Who) (v : BitVec 32)
  /-- MODE_REQ_DIM (R381).  -/
  | modeReqDim (w : Who) (v : BitVec 32)
  /-- MODE_REQ_SHUTTERED (R384).  -/
  | modeReqShuttered (w : Who) (v : BitVec 32)
  /-- MODE_REQ_LAMPROOM (R382).  -/
  | modeReqLamproom (w : Who) (v : BitVec 32)
  /-- DIM_GROUP_END (R381).  -/
  | dimGroupEnd
  /-- LAMPROOM_DRAIN_END (R382).  -/
  | lamproomDrainEnd
  /-- ENTRY_STAGE_END (R384).  -/
  | entryStageEnd
  /-- DRAIN_LIMIT (R389).  -/
  | drainLimit
  /-- WAKE_COMPARATOR_WAKE (R390).  -/
  | wakeComparatorWake
  /-- EXIT_STEP_END (R391).  -/
  | exitStepEnd (o : ExitObs)
  /-- PAD_RELEASE (R393).  -/
  | padRelease (w : Who) (v : BitVec 32)
  /-- POWER_ESTIMATE (R396).  -/
  | powerEstimate (o : PowerObs)
  /-- ROUND_START (R404). `late`: the round starts more than 1 ms late (R404) -/
  | roundStart (late : Bool)
  /-- DIODE_CONVERSION (R403). `raw`: the corrected temperature in units of 1/16 °C -/
  | diodeConversion (raw : Int)
  /-- MODEL_UPDATE (R406). `est`: the raw estimates of the fourteen nodes, 1/16 °C (R406) -/
  | modelUpdate (est : List Int)
  /-- STALE_DIE (R405).  -/
  | staleDie (i : Fin 14)
  /-- DEMAND_HOLD_EXPIRY (R410).  -/
  | demandHoldExpiry (i : Fin 14)
  /-- TRIP_ACK (R413).  -/
  | tripAck (w : Who) (v : BitVec 32)
  /-- ON_DEMAND_READING (R404).  -/
  | onDemandReading (w : Who) (v : BitVec 32) (raw : Int)
  /-- RESENSE (R422).  -/
  | resense (w : Who) (v : BitVec 32)
  /-- BURN (R431).  -/
  | burn (w : Who) (v : BitVec 32)
  /-- LOCK (R433).  -/
  | lock (w : Who) (v : BitVec 32)
  /-- SHADOW_DATA_WRITE (R430).  -/
  | shadowDataWrite (w : Who) (v : BitVec 32)
  /-- HOURS_BIT_DUE (R429).  -/
  | hoursBitDue
  /-- TALLY_RECORD_ARRIVAL (R440).  -/
  | tallyRecordArrival
  /-- TALLY_RECORD_WRITE (R440).  -/
  | tallyRecordWrite
  /-- TOKEN_REFILL (R443).  -/
  | tokenRefill
  /-- BLOCK_FLUSH (R446).  -/
  | blockFlush
  /-- FLASH_OPERATION_END (R446).  -/
  | flashOperationEnd (ok : Bool)
  /-- NOW (R446).  -/
  | now (w : Who) (v : BitVec 32)
  /-- SNAPSHOT (R448).  -/
  | snapshot (w : Who) (v : BitVec 32)
  /-- URG7_TRIGGER (R449).  -/
  | urg7Trigger
  /-- FROZEN_CLEAR (R448).  -/
  | frozenClear (w : Who) (v : BitVec 32)
  /-- LIFE_RECORD_WRITE (R447).  -/
  | lifeRecordWrite
  /-- URGENCY_ACCEPT (R144). `code`: URGi[1:0], Gray-coded, seen in FILTER consecutive samples -/
  | urgencyAccept (i : Fin 8) (code : BitVec 2)
  /-- LEVEL_RECOMPUTE (R143).  -/
  | levelRecompute
  /-- M_DECAY (R142).  -/
  | mDecay (c : Fin 64)
  /-- DEFICIT_INTERVAL (R147).  -/
  | deficitInterval
  /-- WATERLINE_RECOMPUTE (R150).  -/
  | waterlineRecompute
  /-- STARVE_EXPIRY (R138).  -/
  | starveExpiry (p : ArbPoint) (i : Nat)
  /-- MON_WINDOW_END (R151).  -/
  | monWindowEnd (c : Fin 64)
  /-- WAKE_SENSE_CROSSING (R390). `mv`: the voltage on WAKE_SENSE in mV -/
  | wakeSenseCrossing (mv : Nat)
  /-- HELPER_RUN_END (R197).  -/
  | helperRunEnd (n : Fin 48) (fail : BitVec 72) (errors : Nat)
  /-- CONVERTER_CALIBRATION_END (R193).  -/
  | converterCalibrationEnd (zero : Int) (ref : Nat)
  /-- WAKE_CHECK_END (R194).  -/
  | wakeCheckEnd (errMv : Nat)
  /-- FUSE_WORD_BURN_END (R431). bits of copy A and B that fail verification after both attempts -/
  | fuseWordBurnEnd (weakA : BitVec 32) (weakB : BitVec 32)
  /-- RESENSE_END (R422). words that read otherwise at the present temperature -/
  | resenseEnd (flaky : List (BitVec 13 × FuseWord))
  /-- LAG_TIME_LIMIT (R324).  -/
  | lagTimeLimit
  /-- DEVICE_INITIATED_REQUEST (R299).  -/
  | deviceInitiatedRequest (f : Fin 4)
  /-- CXL_RECEIVER_DETECTED (R298). `found`: a receiver answers -/
  | cxlReceiverDetected (f : Fin 4) (found : Bool)
  /-- IDLE_PARK_UNDER_CAP (R397).  -/
  | idleParkUnderCap (n : Fin 48)
  /-- SUPPLY_RAIL_CHANGE (R473). `far`: VDDA_FAR, otherwise VDD_UCIE -/
  | supplyRailChange (far : Bool) (on : Bool)
  deriving DecidableEq, Repr

end Sys2Proof
end

