-- ==== Sys2Proof/Decode.lean ====
section
/-!
DEFINITION. Decode.lean: the command that a word of the opcode table spells. No row of spec/opcode_table.json has bits: the commands of the
Colax are messages, register requests and events, which have no common encoding. The messages that do arrive as bits are decoded by the
meanings themselves: flits (R82 to R85), the rows of the pair link (R304), the steps of a program store (R219), register addresses (R452).
-/
namespace Sys2Proof

/-- The command that the bits of a table row spell: none, since no row has bits. -/
def decodeTableWord (_nbits _w : Nat) : Option Instr := none

end Sys2Proof
end

