-- ==== Sys2Proof/Machine/RegFields.lean ====
section
/-!
DEFINITION. Machine/RegFields.lean: a name for every field of every register (PAGE.REGISTER.FIELD as the spec writes
it, R5), and one for every event bit. `page` is the first page of the group; `stride` the distance of array elements.
-/
namespace Sys2Proof.Machine

/-- Where a register field is: first page of its group, offset, array stride, and bits hi..lo. -/
structure Fld where
  page : Nat
  off : Nat
  stride : Nat
  hi : Nat
  lo : Nat
  deriving DecidableEq, Repr

end Sys2Proof.Machine

namespace Sys2Proof.Machine.Reg

/-- DEVICE.IDENT.DEVICE (R375) -/
def DEVICE_IDENT_DEVICE : Fld := ⟨0x0, 0x40, 0, 31, 16⟩
/-- DEVICE.IDENT.FAMILY (R375) -/
def DEVICE_IDENT_FAMILY : Fld := ⟨0x0, 0x40, 0, 15, 8⟩
/-- DEVICE.IDENT.STEPPING (R375) -/
def DEVICE_IDENT_STEPPING : Fld := ⟨0x0, 0x40, 0, 7, 0⟩
/-- DEVICE.RESET_CAUSE.WARM (R375) -/
def DEVICE_RESET_CAUSE_WARM : Fld := ⟨0x0, 0x44, 0, 3, 0⟩
/-- DEVICE.RESET_CAUSE.GROUND (R375) -/
def DEVICE_RESET_CAUSE_GROUND : Fld := ⟨0x0, 0x44, 0, 7, 4⟩
/-- DEVICE.RESET_CAUSE.REFCLK_LOST (R375) -/
def DEVICE_RESET_CAUSE_REFCLK_LOST : Fld := ⟨0x0, 0x44, 0, 8, 8⟩
/-- DEVICE.RESET_CAUSE.KINDLE_TIMEOUT (R375) -/
def DEVICE_RESET_CAUSE_KINDLE_TIMEOUT : Fld := ⟨0x0, 0x44, 0, 9, 9⟩
/-- DEVICE.RESET.WARM (R375) -/
def DEVICE_RESET_WARM : Fld := ⟨0x0, 0x48, 0, 0, 0⟩
/-- DEVICE.RESET.GROUND (R375) -/
def DEVICE_RESET_GROUND : Fld := ⟨0x0, 0x48, 0, 1, 1⟩
/-- DEVICE.KINDLE_CTL.DONE (R375) -/
def DEVICE_KINDLE_CTL_DONE : Fld := ⟨0x0, 0x4c, 0, 0, 0⟩
/-- DEVICE.KINDLE_CTL.TARGET (R375) -/
def DEVICE_KINDLE_CTL_TARGET : Fld := ⟨0x0, 0x4c, 0, 1, 1⟩
/-- DEVICE.KINDLE_CTL.NEXT_LAMPROOM (R375) -/
def DEVICE_KINDLE_CTL_NEXT_LAMPROOM : Fld := ⟨0x0, 0x4c, 0, 8, 8⟩
/-- DEVICE.KINDLE_STATUS.ACTIVE (R375) -/
def DEVICE_KINDLE_STATUS_ACTIVE : Fld := ⟨0x0, 0x50, 0, 31, 31⟩
/-- DEVICE.KINDLE_STATUS.FAULT (R375) -/
def DEVICE_KINDLE_STATUS_FAULT : Fld := ⟨0x0, 0x50, 0, 27, 24⟩
/-- DEVICE.KINDLE_STATUS.STEP (R375) -/
def DEVICE_KINDLE_STATUS_STEP : Fld := ⟨0x0, 0x50, 0, 20, 16⟩
/-- DEVICE.KINDLE_STATUS.ELAPSED_MS (R375) -/
def DEVICE_KINDLE_STATUS_ELAPSED_MS : Fld := ⟨0x0, 0x50, 0, 15, 0⟩
/-- DEVICE.BOOT_STATUS.SLOT (R375) -/
def DEVICE_BOOT_STATUS_SLOT : Fld := ⟨0x0, 0x54, 0, 29, 28⟩
/-- DEVICE.BOOT_STATUS.RESULT (R375) -/
def DEVICE_BOOT_STATUS_RESULT : Fld := ⟨0x0, 0x54, 0, 27, 24⟩
/-- DEVICE.BOOT_STATUS.GEN (R375) -/
def DEVICE_BOOT_STATUS_GEN : Fld := ⟨0x0, 0x54, 0, 23, 0⟩
/-- DEVICE.IMG_ADDR.OFFSET (R375) -/
def DEVICE_IMG_ADDR_OFFSET : Fld := ⟨0x0, 0x58, 0, 22, 2⟩
/-- DEVICE.IMG_DATA.DATA (R375) -/
def DEVICE_IMG_DATA_DATA : Fld := ⟨0x0, 0x5c, 0, 31, 0⟩
/-- DEVICE.BOOT_CTL.IMG_GO (R375) -/
def DEVICE_BOOT_CTL_IMG_GO : Fld := ⟨0x0, 0x60, 0, 0, 0⟩
/-- DEVICE.WDOG_CTL.EN (R375) -/
def DEVICE_WDOG_CTL_EN : Fld := ⟨0x0, 0x64, 0, 0, 0⟩
/-- DEVICE.WDOG_CTL.MS (R375) -/
def DEVICE_WDOG_CTL_MS : Fld := ⟨0x0, 0x64, 0, 31, 16⟩
/-- DEVICE.WDOG_KICK.ANY (R375) -/
def DEVICE_WDOG_KICK_ANY : Fld := ⟨0x0, 0x68, 0, 31, 0⟩
/-- DEVICE.TIME_LO.VALUE (R375) -/
def DEVICE_TIME_LO_VALUE : Fld := ⟨0x0, 0x6c, 0, 31, 0⟩
/-- DEVICE.TIME_HI.VALUE (R375) -/
def DEVICE_TIME_HI_VALUE : Fld := ⟨0x0, 0x70, 0, 31, 0⟩
/-- DEVICE.CNT_WARM.VALUE (R374) -/
def DEVICE_CNT_WARM_VALUE : Fld := ⟨0x0, 0x74, 0, 31, 0⟩
/-- DEVICE.CNT_GROUND.VALUE (R374) -/
def DEVICE_CNT_GROUND_VALUE : Fld := ⟨0x0, 0x78, 0, 31, 0⟩
/-- MODES.STATUS.MODE (R399) -/
def MODES_STATUS_MODE : Fld := ⟨0x1, 0x40, 0, 2, 0⟩
/-- MODES.STATUS.PHASE (R399) -/
def MODES_STATUS_PHASE : Fld := ⟨0x1, 0x40, 0, 7, 4⟩
/-- MODES.STATUS.PADS_LATCHED (R399) -/
def MODES_STATUS_PADS_LATCHED : Fld := ⟨0x1, 0x40, 0, 8, 8⟩
/-- MODES.STATUS.SAVE_VALID (R399) -/
def MODES_STATUS_SAVE_VALID : Fld := ⟨0x1, 0x40, 0, 9, 9⟩
/-- MODES.REQ.TARGET (R399) -/
def MODES_REQ_TARGET : Fld := ⟨0x1, 0x44, 0, 2, 0⟩
/-- MODES.REQ.GO (R399) -/
def MODES_REQ_GO : Fld := ⟨0x1, 0x44, 0, 31, 31⟩
/-- MODES.REQ_STATUS.RESULT (R399) -/
def MODES_REQ_STATUS_RESULT : Fld := ⟨0x1, 0x48, 0, 3, 0⟩
/-- MODES.REQ_STATUS.STAGE (R399) -/
def MODES_REQ_STATUS_STAGE : Fld := ⟨0x1, 0x48, 0, 11, 8⟩
/-- MODES.PAD_RELEASE.GO (R399) -/
def MODES_PAD_RELEASE_GO : Fld := ⟨0x1, 0x4c, 0, 0, 0⟩
/-- MODES.TRANS_CTL.GROUP (R399) -/
def MODES_TRANS_CTL_GROUP : Fld := ⟨0x1, 0x50, 0, 3, 0⟩
/-- MODES.TRANS_CTL.DRAIN_MS (R399) -/
def MODES_TRANS_CTL_DRAIN_MS : Fld := ⟨0x1, 0x50, 0, 23, 16⟩
/-- MODES.WAKE_CTL.EN (R399) -/
def MODES_WAKE_CTL_EN : Fld := ⟨0x1, 0x54, 0, 0, 0⟩
/-- MODES.WAKE_CTL.POLARITY (R399) -/
def MODES_WAKE_CTL_POLARITY : Fld := ⟨0x1, 0x54, 0, 1, 1⟩
/-- MODES.WAKE_CTL.HYST (R399) -/
def MODES_WAKE_CTL_HYST : Fld := ⟨0x1, 0x54, 0, 2, 2⟩
/-- MODES.WAKE_CTL.THRESH (R399) -/
def MODES_WAKE_CTL_THRESH : Fld := ⟨0x1, 0x54, 0, 14, 8⟩
/-- MODES.WAKE_STATUS.LEVEL (R399) -/
def MODES_WAKE_STATUS_LEVEL : Fld := ⟨0x1, 0x58, 0, 0, 0⟩
/-- MODES.EXIT_Di.DELAY_US (R399) -/
def MODES_EXIT_Di_DELAY_US : Fld := ⟨0x1, 0x60, 4, 15, 0⟩
/-- MODES.EXIT_STATUS.LATE (R399) -/
def MODES_EXIT_STATUS_LATE : Fld := ⟨0x1, 0x80, 0, 7, 0⟩
/-- MODES.EXIT_STATUS.RESTARTS (R399) -/
def MODES_EXIT_STATUS_RESTARTS : Fld := ⟨0x1, 0x80, 0, 9, 8⟩
/-- MODES.EXIT_STATUS.ELAPSED_US (R399) -/
def MODES_EXIT_STATUS_ELAPSED_US : Fld := ⟨0x1, 0x80, 0, 31, 16⟩
/-- MODES.SENT_SEL.SHAFT (R399) -/
def MODES_SENT_SEL_SHAFT : Fld := ⟨0x1, 0x84, 0, 5, 0⟩
/-- MODES.SENT_BANKS.BANKS (R399) -/
def MODES_SENT_BANKS_BANKS : Fld := ⟨0x1, 0x88, 0, 31, 0⟩
/-- MODES.SENT_STATUS.SUSPECT (R399) -/
def MODES_SENT_STATUS_SUSPECT : Fld := ⟨0x1, 0x8c, 0, 10, 0⟩
/-- MODES.SENT_STATUS.NO_SENTINEL (R399) -/
def MODES_SENT_STATUS_NO_SENTINEL : Fld := ⟨0x1, 0x8c, 0, 26, 16⟩
/-- MODES.CNT_SHUTTER.VALUE (R398) -/
def MODES_CNT_SHUTTER_VALUE : Fld := ⟨0x1, 0x90, 0, 31, 0⟩
/-- MODES.CNT_ABORT.VALUE (R398) -/
def MODES_CNT_ABORT_VALUE : Fld := ⟨0x1, 0x94, 0, 31, 0⟩
/-- MODES.CNT_EXIT_LATE.VALUE (R398) -/
def MODES_CNT_EXIT_LATE_VALUE : Fld := ⟨0x1, 0x98, 0, 31, 0⟩
/-- PAGES.COUNT.PAGES (R465) -/
def PAGES_COUNT_PAGES : Fld := ⟨0x2, 0x40, 0, 7, 0⟩
/-- PAGES.COUNT.LIVE (R465) -/
def PAGES_COUNT_LIVE : Fld := ⟨0x2, 0x40, 0, 15, 8⟩
/-- PAGES.LIVEx.PAGES (R465) -/
def PAGES_LIVEx_PAGES : Fld := ⟨0x2, 0x44, 4, 31, 0⟩
/-- PAGES.EVT_PENDx.PAGES (R465) -/
def PAGES_EVT_PENDx_PAGES : Fld := ⟨0x2, 0x58, 4, 31, 0⟩
/-- PAGES.PORTS.ONLINE (R465) -/
def PAGES_PORTS_ONLINE : Fld := ⟨0x2, 0x6c, 0, 11, 0⟩
/-- PAGES.PORTS.MGMT (R465) -/
def PAGES_PORTS_MGMT : Fld := ⟨0x2, 0x6c, 0, 27, 16⟩
/-- LEASES.REQ.RES (R360) -/
def LEASES_REQ_RES : Fld := ⟨0x3, 0x40, 0, 6, 0⟩
/-- LEASES.REQ.RANK (R360) -/
def LEASES_REQ_RANK : Fld := ⟨0x3, 0x40, 0, 9, 8⟩
/-- LEASES.REQ.RELEASE (R360) -/
def LEASES_REQ_RELEASE : Fld := ⟨0x3, 0x40, 0, 30, 30⟩
/-- LEASES.REQ.GO (R360) -/
def LEASES_REQ_GO : Fld := ⟨0x3, 0x40, 0, 31, 31⟩
/-- LEASES.REQ_STATUS.GRANTED (R360) -/
def LEASES_REQ_STATUS_GRANTED : Fld := ⟨0x3, 0x44, 0, 31, 31⟩
/-- LEASES.REQ_STATUS.BUSY (R360) -/
def LEASES_REQ_STATUS_BUSY : Fld := ⟨0x3, 0x44, 0, 30, 30⟩
/-- LEASES.SEL.RES (R360) -/
def LEASES_SEL_RES : Fld := ⟨0x3, 0x48, 0, 6, 0⟩
/-- LEASES.SEL_STATUS.HELD (R360) -/
def LEASES_SEL_STATUS_HELD : Fld := ⟨0x3, 0x4c, 0, 31, 31⟩
/-- LEASES.SEL_STATUS.RANK (R360) -/
def LEASES_SEL_STATUS_RANK : Fld := ⟨0x3, 0x4c, 0, 25, 24⟩
/-- LEASES.SEL_STATUS.HOLDER (R360) -/
def LEASES_SEL_STATUS_HOLDER : Fld := ⟨0x3, 0x4c, 0, 19, 16⟩
/-- LEASES.SEL_STATUS.HELD_MS (R360) -/
def LEASES_SEL_STATUS_HELD_MS : Fld := ⟨0x3, 0x4c, 0, 15, 0⟩
/-- LEASES.HOLD_LIMIT.MS (R360) -/
def LEASES_HOLD_LIMIT_MS : Fld := ⟨0x3, 0x50, 0, 15, 0⟩
/-- LEASES.HELDx.RES (R360) -/
def LEASES_HELDx_RES : Fld := ⟨0x3, 0x60, 4, 31, 0⟩
/-- LEASES.CNT_BUSY.VALUE (R359) -/
def LEASES_CNT_BUSY_VALUE : Fld := ⟨0x3, 0x70, 0, 31, 0⟩
/-- LEASES.CNT_PREEMPT.VALUE (R359) -/
def LEASES_CNT_PREEMPT_VALUE : Fld := ⟨0x3, 0x74, 0, 31, 0⟩
/-- FUSES.STATUS.MARG_TOTAL (R437) -/
def FUSES_STATUS_MARG_TOTAL : Fld := ⟨0x4, 0x40, 0, 13, 0⟩
/-- FUSES.STATUS.MARG_OVF (R437) -/
def FUSES_STATUS_MARG_OVF : Fld := ⟨0x4, 0x40, 0, 16, 16⟩
/-- FUSES.STATUS.SENSED (R437) -/
def FUSES_STATUS_SENSED : Fld := ⟨0x4, 0x40, 0, 17, 17⟩
/-- FUSES.STATUS.OVERRIDES (R437) -/
def FUSES_STATUS_OVERRIDES : Fld := ⟨0x4, 0x40, 0, 18, 18⟩
/-- FUSES.ALARM.DIGEST_MISMATCH (R437) -/
def FUSES_ALARM_DIGEST_MISMATCH : Fld := ⟨0x4, 0x44, 0, 10, 0⟩
/-- FUSES.ALARM.MARGINAL (R437) -/
def FUSES_ALARM_MARGINAL : Fld := ⟨0x4, 0x44, 0, 16, 16⟩
/-- FUSES.ALARM.COUNTER_INCONSISTENT (R437) -/
def FUSES_ALARM_COUNTER_INCONSISTENT : Fld := ⟨0x4, 0x44, 0, 17, 17⟩
/-- FUSES.ALARM.INCOMPLETE (R437) -/
def FUSES_ALARM_INCOMPLETE : Fld := ⟨0x4, 0x44, 0, 18, 18⟩
/-- FUSES.ALARM.TORN (R437) -/
def FUSES_ALARM_TORN : Fld := ⟨0x4, 0x44, 0, 19, 19⟩
/-- FUSES.REGION_SEL.ID (R437) -/
def FUSES_REGION_SEL_ID : Fld := ⟨0x4, 0x48, 0, 3, 0⟩
/-- FUSES.REGION_STATUS.GEN (R437) -/
def FUSES_REGION_STATUS_GEN : Fld := ⟨0x4, 0x4c, 0, 3, 0⟩
/-- FUSES.REGION_STATUS.LOCKED (R437) -/
def FUSES_REGION_STATUS_LOCKED : Fld := ⟨0x4, 0x4c, 0, 8, 8⟩
/-- FUSES.REGION_STATUS.FORCED (R437) -/
def FUSES_REGION_STATUS_FORCED : Fld := ⟨0x4, 0x4c, 0, 9, 9⟩
/-- FUSES.REGION_STATUS.COMPLETE (R437) -/
def FUSES_REGION_STATUS_COMPLETE : Fld := ⟨0x4, 0x4c, 0, 10, 10⟩
/-- FUSES.REGION_STATUS.DIGEST_OK (R437) -/
def FUSES_REGION_STATUS_DIGEST_OK : Fld := ⟨0x4, 0x4c, 0, 11, 11⟩
/-- FUSES.REGION_STATUS.TORN (R437) -/
def FUSES_REGION_STATUS_TORN : Fld := ⟨0x4, 0x4c, 0, 12, 12⟩
/-- FUSES.REGION_STATUS.APPLIED (R437) -/
def FUSES_REGION_STATUS_APPLIED : Fld := ⟨0x4, 0x4c, 0, 13, 13⟩
/-- FUSES.REGION_STATUS.SLOTS (R437) -/
def FUSES_REGION_STATUS_SLOTS : Fld := ⟨0x4, 0x4c, 0, 18, 16⟩
/-- FUSES.REGION_STATUS.KIND (R437) -/
def FUSES_REGION_STATUS_KIND : Fld := ⟨0x4, 0x4c, 0, 23, 20⟩
/-- FUSES.MARG_IDX.IDX (R437) -/
def FUSES_MARG_IDX_IDX : Fld := ⟨0x4, 0x50, 0, 5, 0⟩
/-- FUSES.MARG_WORD.VALID (R437) -/
def FUSES_MARG_WORD_VALID : Fld := ⟨0x4, 0x54, 0, 31, 31⟩
/-- FUSES.MARG_WORD.COPY_DIFF (R437) -/
def FUSES_MARG_WORD_COPY_DIFF : Fld := ⟨0x4, 0x54, 0, 17, 17⟩
/-- FUSES.MARG_WORD.PASS_DIFF (R437) -/
def FUSES_MARG_WORD_PASS_DIFF : Fld := ⟨0x4, 0x54, 0, 16, 16⟩
/-- FUSES.MARG_WORD.ADDR (R437) -/
def FUSES_MARG_WORD_ADDR : Fld := ⟨0x4, 0x54, 0, 12, 0⟩
/-- FUSES.SHADOW_ADDR.ADDR (R437) -/
def FUSES_SHADOW_ADDR_ADDR : Fld := ⟨0x4, 0x58, 0, 12, 0⟩
/-- FUSES.SHADOW_DATA.DATA (R437) -/
def FUSES_SHADOW_DATA_DATA : Fld := ⟨0x4, 0x5c, 0, 31, 0⟩
/-- FUSES.TRIAL_EN.EN (R437) -/
def FUSES_TRIAL_EN_EN : Fld := ⟨0x4, 0x60, 0, 0, 0⟩
/-- FUSES.BURN_IN_RUN.EN (R437) -/
def FUSES_BURN_IN_RUN_EN : Fld := ⟨0x4, 0x64, 0, 0, 0⟩
/-- FUSES.BURN_CTL.ADDR (R437) -/
def FUSES_BURN_CTL_ADDR : Fld := ⟨0x4, 0x68, 0, 12, 0⟩
/-- FUSES.BURN_CTL.GO (R437) -/
def FUSES_BURN_CTL_GO : Fld := ⟨0x4, 0x68, 0, 31, 31⟩
/-- FUSES.BURN_STATUS.BUSY (R437) -/
def FUSES_BURN_STATUS_BUSY : Fld := ⟨0x4, 0x6c, 0, 31, 31⟩
/-- FUSES.BURN_STATUS.RESULT (R437) -/
def FUSES_BURN_STATUS_RESULT : Fld := ⟨0x4, 0x6c, 0, 29, 28⟩
/-- FUSES.BURN_STATUS.REASON (R437) -/
def FUSES_BURN_STATUS_REASON : Fld := ⟨0x4, 0x6c, 0, 27, 24⟩
/-- FUSES.BURN_STATUS.FUSES (R437) -/
def FUSES_BURN_STATUS_FUSES : Fld := ⟨0x4, 0x6c, 0, 22, 16⟩
/-- FUSES.LOCK_CTL.REGION (R437) -/
def FUSES_LOCK_CTL_REGION : Fld := ⟨0x4, 0x70, 0, 3, 0⟩
/-- FUSES.LOCK_CTL.FORCE (R437) -/
def FUSES_LOCK_CTL_FORCE : Fld := ⟨0x4, 0x70, 0, 8, 8⟩
/-- FUSES.LOCK_CTL.GO (R437) -/
def FUSES_LOCK_CTL_GO : Fld := ⟨0x4, 0x70, 0, 31, 31⟩
/-- FUSES.LOCK_STATUS.BUSY (R437) -/
def FUSES_LOCK_STATUS_BUSY : Fld := ⟨0x4, 0x74, 0, 31, 31⟩
/-- FUSES.LOCK_STATUS.RESULT (R437) -/
def FUSES_LOCK_STATUS_RESULT : Fld := ⟨0x4, 0x74, 0, 29, 28⟩
/-- FUSES.LOCK_STATUS.REASON (R437) -/
def FUSES_LOCK_STATUS_REASON : Fld := ⟨0x4, 0x74, 0, 27, 24⟩
/-- FUSES.RESENSE.GO (R437) -/
def FUSES_RESENSE_GO : Fld := ⟨0x4, 0x78, 0, 0, 0⟩
/-- FUSES.RESENSE_STATUS.DONE (R437) -/
def FUSES_RESENSE_STATUS_DONE : Fld := ⟨0x4, 0x7c, 0, 31, 31⟩
/-- FUSES.RESENSE_STATUS.REASON (R437) -/
def FUSES_RESENSE_STATUS_REASON : Fld := ⟨0x4, 0x7c, 0, 27, 24⟩
/-- FUSES.RESENSE_STATUS.TEMP (R437) -/
def FUSES_RESENSE_STATUS_TEMP : Fld := ⟨0x4, 0x7c, 0, 23, 16⟩
/-- FUSES.RESENSE_STATUS.CHANGED (R437) -/
def FUSES_RESENSE_STATUS_CHANGED : Fld := ⟨0x4, 0x7c, 0, 13, 0⟩
/-- FUSES.CYCLES.COUNT (R437) -/
def FUSES_CYCLES_COUNT : Fld := ⟨0x4, 0x80, 0, 14, 0⟩
/-- FUSES.CYCLES.INCONSISTENT (R437) -/
def FUSES_CYCLES_INCONSISTENT : Fld := ⟨0x4, 0x80, 0, 30, 30⟩
/-- FUSES.CYCLES.SATURATED (R437) -/
def FUSES_CYCLES_SATURATED : Fld := ⟨0x4, 0x80, 0, 31, 31⟩
/-- FUSES.HOURS_FUSE.BITS (R437) -/
def FUSES_HOURS_FUSE_BITS : Fld := ⟨0x4, 0x84, 0, 12, 0⟩
/-- FUSES.HOURS_FUSE.INCONSISTENT (R437) -/
def FUSES_HOURS_FUSE_INCONSISTENT : Fld := ⟨0x4, 0x84, 0, 30, 30⟩
/-- FUSES.CNT_BURN.VALUE (R436) -/
def FUSES_CNT_BURN_VALUE : Fld := ⟨0x4, 0x88, 0, 31, 0⟩
/-- FUSES.CNT_BURN_FAIL.VALUE (R436) -/
def FUSES_CNT_BURN_FAIL_VALUE : Fld := ⟨0x4, 0x8c, 0, 31, 0⟩
/-- TALLY.HEAD.SEQ (R451) -/
def TALLY_HEAD_SEQ : Fld := ⟨0x5, 0x40, 0, 31, 0⟩
/-- TALLY.FLUSHED.SEQ (R451) -/
def TALLY_FLUSHED_SEQ : Fld := ⟨0x5, 0x44, 0, 31, 0⟩
/-- TALLY.RATE_CTL.BURST (R451) -/
def TALLY_RATE_CTL_BURST : Fld := ⟨0x5, 0x48, 0, 7, 0⟩
/-- TALLY.RATE_CTL.REFILL_MS (R451) -/
def TALLY_RATE_CTL_REFILL_MS : Fld := ⟨0x5, 0x48, 0, 31, 16⟩
/-- TALLY.FLUSH_CTL.NOW (R451) -/
def TALLY_FLUSH_CTL_NOW : Fld := ⟨0x5, 0x4c, 0, 0, 0⟩
/-- TALLY.SNAP_CTL.GO (R451) -/
def TALLY_SNAP_CTL_GO : Fld := ⟨0x5, 0x50, 0, 0, 0⟩
/-- TALLY.SNAP_CTL.EXT_EN (R451) -/
def TALLY_SNAP_CTL_EXT_EN : Fld := ⟨0x5, 0x50, 0, 1, 1⟩
/-- TALLY.SNAP_CTL.CODE_EN (R451) -/
def TALLY_SNAP_CTL_CODE_EN : Fld := ⟨0x5, 0x50, 0, 2, 2⟩
/-- TALLY.SNAP_CTL.SEV_EN (R451) -/
def TALLY_SNAP_CTL_SEV_EN : Fld := ⟨0x5, 0x50, 0, 3, 3⟩
/-- TALLY.SNAP_CTL.FREEZE (R451) -/
def TALLY_SNAP_CTL_FREEZE : Fld := ⟨0x5, 0x50, 0, 4, 4⟩
/-- TALLY.SNAP_CTL.SEV (R451) -/
def TALLY_SNAP_CTL_SEV : Fld := ⟨0x5, 0x50, 0, 10, 8⟩
/-- TALLY.SNAP_CTL.CODE (R451) -/
def TALLY_SNAP_CTL_CODE : Fld := ⟨0x5, 0x50, 0, 31, 16⟩
/-- TALLY.SNAP_STATUS.FROZEN (R451) -/
def TALLY_SNAP_STATUS_FROZEN : Fld := ⟨0x5, 0x54, 0, 0, 0⟩
/-- TALLY.SNAP_STATUS.LAST (R451) -/
def TALLY_SNAP_STATUS_LAST : Fld := ⟨0x5, 0x54, 0, 3, 1⟩
/-- TALLY.SNAP_STATUS.MISSED (R451) -/
def TALLY_SNAP_STATUS_MISSED : Fld := ⟨0x5, 0x54, 0, 15, 8⟩
/-- TALLY.TIME.HOURS (R451) -/
def TALLY_TIME_HOURS : Fld := ⟨0x5, 0x58, 0, 31, 12⟩
/-- TALLY.TIME.SEC (R451) -/
def TALLY_TIME_SEC : Fld := ⟨0x5, 0x58, 0, 11, 0⟩
/-- TALLY.CYCLES.COUNT (R451) -/
def TALLY_CYCLES_COUNT : Fld := ⟨0x5, 0x5c, 0, 31, 0⟩
/-- TALLY.FLASH_ADDR.ADDR (R451) -/
def TALLY_FLASH_ADDR_ADDR : Fld := ⟨0x5, 0x60, 0, 25, 2⟩
/-- TALLY.FLASH_DATA.DATA (R451) -/
def TALLY_FLASH_DATA_DATA : Fld := ⟨0x5, 0x64, 0, 31, 0⟩
/-- TALLY.CNT_SUPPRESSED.VALUE (R450) -/
def TALLY_CNT_SUPPRESSED_VALUE : Fld := ⟨0x5, 0x70, 0, 31, 0⟩
/-- TALLY.CNT_DROPPED.VALUE (R450) -/
def TALLY_CNT_DROPPED_VALUE : Fld := ⟨0x5, 0x74, 0, 31, 0⟩
/-- TALLY.CNT_LOST_UNFLUSHED.VALUE (R450) -/
def TALLY_CNT_LOST_UNFLUSHED_VALUE : Fld := ⟨0x5, 0x78, 0, 31, 0⟩
/-- TALLY.CNT_FLUSH.VALUE (R450) -/
def TALLY_CNT_FLUSH_VALUE : Fld := ⟨0x5, 0x7c, 0, 31, 0⟩
/-- HEAT.CTL.PERIOD_US (R418) -/
def HEAT_CTL_PERIOD_US : Fld := ⟨0x6, 0x40, 0, 15, 0⟩
/-- HEAT.CTL.HOLD_MS (R418) -/
def HEAT_CTL_HOLD_MS : Fld := ⟨0x6, 0x40, 0, 23, 16⟩
/-- HEAT.STATUS.STEP (R418) -/
def HEAT_STATUS_STEP : Fld := ⟨0x6, 0x44, 0, 2, 0⟩
/-- HEAT.STATUS.TRIPPED (R418) -/
def HEAT_STATUS_TRIPPED : Fld := ⟨0x6, 0x44, 0, 8, 8⟩
/-- HEAT.STATUS.ACK_WAIT (R418) -/
def HEAT_STATUS_ACK_WAIT : Fld := ⟨0x6, 0x44, 0, 9, 9⟩
/-- HEAT.STATUS.THERM (R418) -/
def HEAT_STATUS_THERM : Fld := ⟨0x6, 0x44, 0, 10, 10⟩
/-- HEAT.STATUS.TRIP_DIES (R418) -/
def HEAT_STATUS_TRIP_DIES : Fld := ⟨0x6, 0x44, 0, 29, 16⟩
/-- HEAT.LIM_DRAM.T1 (R418) -/
def HEAT_LIM_DRAM_T1 : Fld := ⟨0x6, 0x48, 0, 7, 0⟩
/-- HEAT.LIM_DRAM.T2 (R418) -/
def HEAT_LIM_DRAM_T2 : Fld := ⟨0x6, 0x48, 0, 15, 8⟩
/-- HEAT.LIM_DRAM.T3 (R418) -/
def HEAT_LIM_DRAM_T3 : Fld := ⟨0x6, 0x48, 0, 23, 16⟩
/-- HEAT.LIM_DRAM.TRIP (R418) -/
def HEAT_LIM_DRAM_TRIP : Fld := ⟨0x6, 0x48, 0, 31, 24⟩
/-- HEAT.LIM_LOGIC.T1 (R418) -/
def HEAT_LIM_LOGIC_T1 : Fld := ⟨0x6, 0x4c, 0, 7, 0⟩
/-- HEAT.LIM_LOGIC.T2 (R418) -/
def HEAT_LIM_LOGIC_T2 : Fld := ⟨0x6, 0x4c, 0, 15, 8⟩
/-- HEAT.LIM_LOGIC.T3 (R418) -/
def HEAT_LIM_LOGIC_T3 : Fld := ⟨0x6, 0x4c, 0, 23, 16⟩
/-- HEAT.LIM_LOGIC.TRIP (R418) -/
def HEAT_LIM_LOGIC_TRIP : Fld := ⟨0x6, 0x4c, 0, 31, 24⟩
/-- HEAT.RATE.WARN (R418) -/
def HEAT_RATE_WARN : Fld := ⟨0x6, 0x50, 0, 7, 0⟩
/-- HEAT.RATE.ACT (R418) -/
def HEAT_RATE_ACT : Fld := ⟨0x6, 0x50, 0, 15, 8⟩
/-- HEAT.RATE.LOGIC_WARN (R418) -/
def HEAT_RATE_LOGIC_WARN : Fld := ⟨0x6, 0x50, 0, 23, 16⟩
/-- HEAT.CANARY_CTL.DISAGREE (R418) -/
def HEAT_CANARY_CTL_DISAGREE : Fld := ⟨0x6, 0x54, 0, 7, 0⟩
/-- HEAT.CANARY_CTL.COUNT (R418) -/
def HEAT_CANARY_CTL_COUNT : Fld := ⟨0x6, 0x54, 0, 11, 8⟩
/-- HEAT.CANARY_CTL.CLEAR (R418) -/
def HEAT_CANARY_CTL_CLEAR : Fld := ⟨0x6, 0x54, 0, 23, 16⟩
/-- HEAT.HOST_LIMIT.GBPS (R418) -/
def HEAT_HOST_LIMIT_GBPS : Fld := ⟨0x6, 0x58, 0, 7, 0⟩
/-- HEAT.READ_REQ.DIODE (R418) -/
def HEAT_READ_REQ_DIODE : Fld := ⟨0x6, 0x5c, 0, 3, 0⟩
/-- HEAT.READ_REQ.GO (R418) -/
def HEAT_READ_REQ_GO : Fld := ⟨0x6, 0x5c, 0, 31, 31⟩
/-- HEAT.READ_RESULT.DONE (R418) -/
def HEAT_READ_RESULT_DONE : Fld := ⟨0x6, 0x60, 0, 31, 31⟩
/-- HEAT.READ_RESULT.REASON (R418) -/
def HEAT_READ_RESULT_REASON : Fld := ⟨0x6, 0x60, 0, 27, 24⟩
/-- HEAT.READ_RESULT.TEMP (R418) -/
def HEAT_READ_RESULT_TEMP : Fld := ⟨0x6, 0x60, 0, 15, 0⟩
/-- HEAT.TRIP_ACK.ACK (R418) -/
def HEAT_TRIP_ACK_ACK : Fld := ⟨0x6, 0x64, 0, 0, 0⟩
/-- HEAT.SUSPECT.DIES (R418) -/
def HEAT_SUSPECT_DIES : Fld := ⟨0x6, 0x68, 0, 13, 0⟩
/-- HEAT.STALE.DIES (R418) -/
def HEAT_STALE_DIES : Fld := ⟨0x6, 0x6c, 0, 13, 0⟩
/-- HEAT.TEMPi.READING (R418) -/
def HEAT_TEMPi_READING : Fld := ⟨0x6, 0x70, 4, 15, 0⟩
/-- HEAT.TEMPi.EFFECTIVE (R418) -/
def HEAT_TEMPi_EFFECTIVE : Fld := ⟨0x6, 0x70, 4, 31, 16⟩
/-- HEAT.MODELi.ESTIMATE (R418) -/
def HEAT_MODELi_ESTIMATE : Fld := ⟨0x6, 0xb0, 4, 15, 0⟩
/-- HEAT.MODELi.RISE (R418) -/
def HEAT_MODELi_RISE : Fld := ⟨0x6, 0xb0, 4, 31, 16⟩
/-- HEAT.DEMAND.D0 (R418) -/
def HEAT_DEMAND_D0 : Fld := ⟨0x6, 0xf0, 0, 1, 0⟩
/-- HEAT.DEMAND.D1 (R418) -/
def HEAT_DEMAND_D1 : Fld := ⟨0x6, 0xf0, 0, 3, 2⟩
/-- HEAT.DEMAND.D2 (R418) -/
def HEAT_DEMAND_D2 : Fld := ⟨0x6, 0xf0, 0, 5, 4⟩
/-- HEAT.DEMAND.D3 (R418) -/
def HEAT_DEMAND_D3 : Fld := ⟨0x6, 0xf0, 0, 7, 6⟩
/-- HEAT.DEMAND.D4 (R418) -/
def HEAT_DEMAND_D4 : Fld := ⟨0x6, 0xf0, 0, 9, 8⟩
/-- HEAT.DEMAND.D5 (R418) -/
def HEAT_DEMAND_D5 : Fld := ⟨0x6, 0xf0, 0, 11, 10⟩
/-- HEAT.DEMAND.D6 (R418) -/
def HEAT_DEMAND_D6 : Fld := ⟨0x6, 0xf0, 0, 13, 12⟩
/-- HEAT.DEMAND.D7 (R418) -/
def HEAT_DEMAND_D7 : Fld := ⟨0x6, 0xf0, 0, 15, 14⟩
/-- HEAT.DEMAND.D8 (R418) -/
def HEAT_DEMAND_D8 : Fld := ⟨0x6, 0xf0, 0, 17, 16⟩
/-- HEAT.DEMAND.D9 (R418) -/
def HEAT_DEMAND_D9 : Fld := ⟨0x6, 0xf0, 0, 19, 18⟩
/-- HEAT.DEMAND.D10 (R418) -/
def HEAT_DEMAND_D10 : Fld := ⟨0x6, 0xf0, 0, 21, 20⟩
/-- HEAT.DEMAND.D11 (R418) -/
def HEAT_DEMAND_D11 : Fld := ⟨0x6, 0xf0, 0, 23, 22⟩
/-- HEAT.DEMAND.D12 (R418) -/
def HEAT_DEMAND_D12 : Fld := ⟨0x6, 0xf0, 0, 25, 24⟩
/-- HEAT.DEMAND.D13 (R418) -/
def HEAT_DEMAND_D13 : Fld := ⟨0x6, 0xf0, 0, 27, 26⟩
/-- HEAT.CNT_ROUNDS.VALUE (R417) -/
def HEAT_CNT_ROUNDS_VALUE : Fld := ⟨0x6, 0x100, 0, 31, 0⟩
/-- HEAT.CNT_ROUND_LATE.VALUE (R417) -/
def HEAT_CNT_ROUND_LATE_VALUE : Fld := ⟨0x6, 0x104, 0, 31, 0⟩
/-- HEAT.CNT_STEP_UP.VALUE (R417) -/
def HEAT_CNT_STEP_UP_VALUE : Fld := ⟨0x6, 0x108, 0, 31, 0⟩
/-- HEAT.CNT_TRIP.VALUE (R417) -/
def HEAT_CNT_TRIP_VALUE : Fld := ⟨0x6, 0x10c, 0, 31, 0⟩
/-- HEAT.CNT_SUSPECT.VALUE (R417) -/
def HEAT_CNT_SUSPECT_VALUE : Fld := ⟨0x6, 0x110, 0, 31, 0⟩
/-- CALREF.CTL.START_IMP (R212) -/
def CALREF_CTL_START_IMP : Fld := ⟨0x7, 0x40, 0, 0, 0⟩
/-- CALREF.CTL.START_CONV (R212) -/
def CALREF_CTL_START_CONV : Fld := ⟨0x7, 0x40, 0, 1, 1⟩
/-- CALREF.CTL.START_WAKE (R212) -/
def CALREF_CTL_START_WAKE : Fld := ⟨0x7, 0x40, 0, 2, 2⟩
/-- CALREF.CTL.CONV_PERIOD_MS (R212) -/
def CALREF_CTL_CONV_PERIOD_MS : Fld := ⟨0x7, 0x40, 0, 31, 16⟩
/-- CALREF.STATUS.IMP_VALID (R212) -/
def CALREF_STATUS_IMP_VALID : Fld := ⟨0x7, 0x44, 0, 0, 0⟩
/-- CALREF.STATUS.CONV_VALID (R212) -/
def CALREF_STATUS_CONV_VALID : Fld := ⟨0x7, 0x44, 0, 1, 1⟩
/-- CALREF.STATUS.WAKE_VALID (R212) -/
def CALREF_STATUS_WAKE_VALID : Fld := ⟨0x7, 0x44, 0, 2, 2⟩
/-- CALREF.STATUS.BUSY (R212) -/
def CALREF_STATUS_BUSY : Fld := ⟨0x7, 0x44, 0, 3, 3⟩
/-- CALREF.STATUS.REASON_IMP (R212) -/
def CALREF_STATUS_REASON_IMP : Fld := ⟨0x7, 0x44, 0, 11, 8⟩
/-- CALREF.STATUS.REASON_CONV (R212) -/
def CALREF_STATUS_REASON_CONV : Fld := ⟨0x7, 0x44, 0, 15, 12⟩
/-- CALREF.STATUS.REASON_WAKE (R212) -/
def CALREF_STATUS_REASON_WAKE : Fld := ⟨0x7, 0x44, 0, 19, 16⟩
/-- CALREF.IMP.MASTER (R212) -/
def CALREF_IMP_MASTER : Fld := ⟨0x7, 0x48, 0, 4, 0⟩
/-- CALREF.CONV_RAW.ZERO (R212) -/
def CALREF_CONV_RAW_ZERO : Fld := ⟨0x7, 0x4c, 0, 15, 0⟩
/-- CALREF.CONV_RAW.REF (R212) -/
def CALREF_CONV_RAW_REF : Fld := ⟨0x7, 0x4c, 0, 31, 16⟩
/-- CALREF.CONV_CORR.GAIN (R212) -/
def CALREF_CONV_CORR_GAIN : Fld := ⟨0x7, 0x50, 0, 15, 0⟩
/-- CALREF.CONV_CORR.OFFSET (R212) -/
def CALREF_CONV_CORR_OFFSET : Fld := ⟨0x7, 0x50, 0, 27, 16⟩
/-- CALREF.WAKE_CHK.ERR_MV (R212) -/
def CALREF_WAKE_CHK_ERR_MV : Fld := ⟨0x7, 0x54, 0, 7, 0⟩
/-- CALREF.CAL_COUNT.VALUE (R211) -/
def CALREF_CAL_COUNT_VALUE : Fld := ⟨0x7, 0x58, 0, 31, 0⟩
/-- CALREF.CAL_TIME.VALUE (R211) -/
def CALREF_CAL_TIME_VALUE : Fld := ⟨0x7, 0x5c, 0, 31, 0⟩
/-- CALREF.MARGINx.SHAFTS (R212) -/
def CALREF_MARGINx_SHAFTS : Fld := ⟨0x7, 0x60, 4, 31, 0⟩
/-- CALREF.REJECTx.SHAFTS (R212) -/
def CALREF_REJECTx_SHAFTS : Fld := ⟨0x7, 0x68, 4, 31, 0⟩
/-- SELFTEST.CTL.ALLOW_LOSS (R357) -/
def SELFTEST_CTL_ALLOW_LOSS : Fld := ⟨0x8, 0x40, 0, 0, 0⟩
/-- SELFTEST.CTL.QUICK_EN (R357) -/
def SELFTEST_CTL_QUICK_EN : Fld := ⟨0x8, 0x40, 0, 1, 1⟩
/-- SELFTEST.RUN.KIND (R357) -/
def SELFTEST_RUN_KIND : Fld := ⟨0x8, 0x44, 0, 2, 0⟩
/-- SELFTEST.RUN.PATH (R357) -/
def SELFTEST_RUN_PATH : Fld := ⟨0x8, 0x44, 0, 8, 8⟩
/-- SELFTEST.RUN.GO (R357) -/
def SELFTEST_RUN_GO : Fld := ⟨0x8, 0x44, 0, 31, 31⟩
/-- SELFTEST.TARGET_LO.UNITS (R357) -/
def SELFTEST_TARGET_LO_UNITS : Fld := ⟨0x8, 0x48, 0, 31, 0⟩
/-- SELFTEST.TARGET_HI.UNITS (R357) -/
def SELFTEST_TARGET_HI_UNITS : Fld := ⟨0x8, 0x4c, 0, 15, 0⟩
/-- SELFTEST.STATUS.BUSY (R357) -/
def SELFTEST_STATUS_BUSY : Fld := ⟨0x8, 0x50, 0, 31, 31⟩
/-- SELFTEST.STATUS.DONE (R357) -/
def SELFTEST_STATUS_DONE : Fld := ⟨0x8, 0x50, 0, 30, 30⟩
/-- SELFTEST.STATUS.RESULT (R357) -/
def SELFTEST_STATUS_RESULT : Fld := ⟨0x8, 0x50, 0, 29, 28⟩
/-- SELFTEST.STATUS.REASON (R357) -/
def SELFTEST_STATUS_REASON : Fld := ⟨0x8, 0x50, 0, 27, 24⟩
/-- SELFTEST.STATUS.KIND (R357) -/
def SELFTEST_STATUS_KIND : Fld := ⟨0x8, 0x50, 0, 2, 0⟩
/-- SELFTEST.FAIL_LO.UNITS (R357) -/
def SELFTEST_FAIL_LO_UNITS : Fld := ⟨0x8, 0x54, 0, 31, 0⟩
/-- SELFTEST.FAIL_HI.UNITS (R357) -/
def SELFTEST_FAIL_HI_UNITS : Fld := ⟨0x8, 0x58, 0, 31, 0⟩
/-- SELFTEST.REPAIR_LO.UNITS (R357) -/
def SELFTEST_REPAIR_LO_UNITS : Fld := ⟨0x8, 0x5c, 0, 31, 0⟩
/-- SELFTEST.REPAIR_HI.UNITS (R357) -/
def SELFTEST_REPAIR_HI_UNITS : Fld := ⟨0x8, 0x60, 0, 31, 0⟩
/-- SELFTEST.ELAPSED.US (R357) -/
def SELFTEST_ELAPSED_US : Fld := ⟨0x8, 0x64, 0, 31, 0⟩
/-- SELFTEST.TAP_CTL.TEST_EN (R357) -/
def SELFTEST_TAP_CTL_TEST_EN : Fld := ⟨0x8, 0x68, 0, 0, 0⟩
/-- SELFTEST.REQ_LAST.PAGE (R357) -/
def SELFTEST_REQ_LAST_PAGE : Fld := ⟨0x8, 0x6c, 0, 29, 16⟩
/-- SELFTEST.REQ_LAST.RESULT (R357) -/
def SELFTEST_REQ_LAST_RESULT : Fld := ⟨0x8, 0x6c, 0, 3, 0⟩
/-- SELFTEST.CNT_RUNS.VALUE (R356) -/
def SELFTEST_CNT_RUNS_VALUE : Fld := ⟨0x8, 0x70, 0, 31, 0⟩
/-- SELFTEST.CNT_VIEW_FIX.VALUE (R356) -/
def SELFTEST_CNT_VIEW_FIX_VALUE : Fld := ⟨0x8, 0x74, 0, 31, 0⟩
/-- SELFTEST.CNT_REQ_REJECT.VALUE (R356) -/
def SELFTEST_CNT_REQ_REJECT_VALUE : Fld := ⟨0x8, 0x78, 0, 31, 0⟩
/-- CLASSES.CTL.BUDGET_EFF (R156) -/
def CLASSES_CTL_BUDGET_EFF : Fld := ⟨0x9, 0x40, 0, 6, 0⟩
/-- CLASSES.CTL.DEFICIT_PRIO (R156) -/
def CLASSES_CTL_DEFICIT_PRIO : Fld := ⟨0x9, 0x40, 0, 10, 8⟩
/-- CLASSES.CTL.STARVE_US (R156) -/
def CLASSES_CTL_STARVE_US : Fld := ⟨0x9, 0x40, 0, 31, 16⟩
/-- CLASSES.URG_FLOOR.L1 (R156) -/
def CLASSES_URG_FLOOR_L1 : Fld := ⟨0x9, 0x44, 0, 2, 0⟩
/-- CLASSES.URG_FLOOR.L2 (R156) -/
def CLASSES_URG_FLOOR_L2 : Fld := ⟨0x9, 0x44, 0, 6, 4⟩
/-- CLASSES.URG_FLOOR.L3 (R156) -/
def CLASSES_URG_FLOOR_L3 : Fld := ⟨0x9, 0x44, 0, 10, 8⟩
/-- CLASSES.URG_CTL.EN (R156) -/
def CLASSES_URG_CTL_EN : Fld := ⟨0x9, 0x48, 0, 7, 0⟩
/-- CLASSES.URG_CTL.FILTER (R156) -/
def CLASSES_URG_CTL_FILTER : Fld := ⟨0x9, 0x48, 0, 11, 8⟩
/-- CLASSES.URG_LEVEL.LEVEL0 (R156) -/
def CLASSES_URG_LEVEL_LEVEL0 : Fld := ⟨0x9, 0x4c, 0, 1, 0⟩
/-- CLASSES.URG_LEVEL.LEVEL1 (R156) -/
def CLASSES_URG_LEVEL_LEVEL1 : Fld := ⟨0x9, 0x4c, 0, 3, 2⟩
/-- CLASSES.URG_LEVEL.LEVEL2 (R156) -/
def CLASSES_URG_LEVEL_LEVEL2 : Fld := ⟨0x9, 0x4c, 0, 5, 4⟩
/-- CLASSES.URG_LEVEL.LEVEL3 (R156) -/
def CLASSES_URG_LEVEL_LEVEL3 : Fld := ⟨0x9, 0x4c, 0, 7, 6⟩
/-- CLASSES.URG_LEVEL.LEVEL4 (R156) -/
def CLASSES_URG_LEVEL_LEVEL4 : Fld := ⟨0x9, 0x4c, 0, 9, 8⟩
/-- CLASSES.URG_LEVEL.LEVEL5 (R156) -/
def CLASSES_URG_LEVEL_LEVEL5 : Fld := ⟨0x9, 0x4c, 0, 11, 10⟩
/-- CLASSES.URG_LEVEL.LEVEL6 (R156) -/
def CLASSES_URG_LEVEL_LEVEL6 : Fld := ⟨0x9, 0x4c, 0, 13, 12⟩
/-- CLASSES.URG_LEVEL.LEVEL7 (R156) -/
def CLASSES_URG_LEVEL_LEVEL7 : Fld := ⟨0x9, 0x4c, 0, 15, 14⟩
/-- CLASSES.WL_STATUS.WATERLINE (R156) -/
def CLASSES_WL_STATUS_WATERLINE : Fld := ⟨0x9, 0x50, 0, 6, 0⟩
/-- CLASSES.WL_STATUS.OVERBOOKED (R156) -/
def CLASSES_WL_STATUS_OVERBOOKED : Fld := ⟨0x9, 0x50, 0, 8, 8⟩
/-- CLASSES.BUDGET.UNITS (R156) -/
def CLASSES_BUDGET_UNITS : Fld := ⟨0x9, 0x54, 0, 16, 0⟩
/-- CLASSES.FLOOR_SUM.UNITS (R156) -/
def CLASSES_FLOOR_SUM_UNITS : Fld := ⟨0x9, 0x58, 0, 21, 0⟩
/-- CLASSES.DEV_FLOOR.UNITS (R156) -/
def CLASSES_DEV_FLOOR_UNITS : Fld := ⟨0x9, 0x5c, 0, 17, 0⟩
/-- CLASSES.MISS_STATUS0.CLASS (R156) -/
def CLASSES_MISS_STATUS0_CLASS : Fld := ⟨0x9, 0x60, 0, 31, 0⟩
/-- CLASSES.MISS_STATUS1.CLASS (R156) -/
def CLASSES_MISS_STATUS1_CLASS : Fld := ⟨0x9, 0x64, 0, 31, 0⟩
/-- CLASSES.CNT_RECOMPUTE.VALUE (R155) -/
def CLASSES_CNT_RECOMPUTE_VALUE : Fld := ⟨0x9, 0x68, 0, 31, 0⟩
/-- HAULAGE.SPACE_CTL.TABLE_CLEAR (R49) -/
def HAULAGE_SPACE_CTL_TABLE_CLEAR : Fld := ⟨0xa, 0x40, 0, 0, 0⟩
/-- HAULAGE.SPACE_CTL.WALK (R49) -/
def HAULAGE_SPACE_CTL_WALK : Fld := ⟨0xa, 0x40, 0, 1, 1⟩
/-- HAULAGE.SPACE_STATUS.CLEARING (R49) -/
def HAULAGE_SPACE_STATUS_CLEARING : Fld := ⟨0xa, 0x44, 0, 0, 0⟩
/-- HAULAGE.SPACE_STATUS.WALKING (R49) -/
def HAULAGE_SPACE_STATUS_WALKING : Fld := ⟨0xa, 0x44, 0, 1, 1⟩
/-- HAULAGE.SPACE_STATUS.WIN_OVERLAP (R49) -/
def HAULAGE_SPACE_STATUS_WIN_OVERLAP : Fld := ⟨0xa, 0x44, 0, 2, 2⟩
/-- HAULAGE.SPACE_STATUS.SUSPECT_ANY (R49) -/
def HAULAGE_SPACE_STATUS_SUSPECT_ANY : Fld := ⟨0xa, 0x44, 0, 3, 3⟩
/-- HAULAGE.SPACE_STATUS.DRAIN_ANY (R49) -/
def HAULAGE_SPACE_STATUS_DRAIN_ANY : Fld := ⟨0xa, 0x44, 0, 4, 4⟩
/-- HAULAGE.USABLE_SLOTS.COUNT (R50) -/
def HAULAGE_USABLE_SLOTS_COUNT : Fld := ⟨0xa, 0x48, 0, 19, 0⟩
/-- HAULAGE.FREE_SLOTS.COUNT (R50) -/
def HAULAGE_FREE_SLOTS_COUNT : Fld := ⟨0xa, 0x4c, 0, 19, 0⟩
/-- HAULAGE.RESIDENT.COUNT (R50) -/
def HAULAGE_RESIDENT_COUNT : Fld := ⟨0xa, 0x50, 0, 19, 0⟩
/-- HAULAGE.PIN_COUNT.COUNT (R50) -/
def HAULAGE_PIN_COUNT_COUNT : Fld := ⟨0xa, 0x54, 0, 19, 0⟩
/-- HAULAGE.PIN_LIMIT.LIMIT (R50) -/
def HAULAGE_PIN_LIMIT_LIMIT : Fld := ⟨0xa, 0x58, 0, 19, 0⟩
/-- HAULAGE.SO_TOTAL.COUNT (R50) -/
def HAULAGE_SO_TOTAL_COUNT : Fld := ⟨0xa, 0x5c, 0, 19, 0⟩
/-- HAULAGE.WALK_RESULT.DROPPED (R51) -/
def HAULAGE_WALK_RESULT_DROPPED : Fld := ⟨0xa, 0x60, 0, 31, 20⟩
/-- HAULAGE.WALK_RESULT.LOST (R51) -/
def HAULAGE_WALK_RESULT_LOST : Fld := ⟨0xa, 0x60, 0, 19, 8⟩
/-- HAULAGE.WALK_RESULT.SUSPECT (R51) -/
def HAULAGE_WALK_RESULT_SUSPECT : Fld := ⟨0xa, 0x60, 0, 7, 0⟩
/-- HAULAGE.LOST_COUNT.SUSPECT_SETS (R51) -/
def HAULAGE_LOST_COUNT_SUSPECT_SETS : Fld := ⟨0xa, 0x64, 0, 31, 16⟩
/-- HAULAGE.LOST_COUNT.ENTRIES (R51) -/
def HAULAGE_LOST_COUNT_ENTRIES : Fld := ⟨0xa, 0x64, 0, 8, 0⟩
/-- HAULAGE.LOST_IDX.IDX (R51) -/
def HAULAGE_LOST_IDX_IDX : Fld := ⟨0xa, 0x68, 0, 7, 0⟩
/-- HAULAGE.LOST_FRAME.VALID (R51) -/
def HAULAGE_LOST_FRAME_VALID : Fld := ⟨0xa, 0x6c, 0, 31, 31⟩
/-- HAULAGE.LOST_FRAME.FRAME (R51) -/
def HAULAGE_LOST_FRAME_FRAME : Fld := ⟨0xa, 0x6c, 0, 25, 0⟩
/-- HAULAGE.SUSPECT_CLEAR.ALL (R51) -/
def HAULAGE_SUSPECT_CLEAR_ALL : Fld := ⟨0xa, 0x70, 0, 31, 31⟩
/-- HAULAGE.SUSPECT_CLEAR.SET (R51) -/
def HAULAGE_SUSPECT_CLEAR_SET : Fld := ⟨0xa, 0x70, 0, 14, 0⟩
/-- HAULAGE.RESV_IDX.IDX (R51) -/
def HAULAGE_RESV_IDX_IDX : Fld := ⟨0xa, 0x74, 0, 5, 0⟩
/-- HAULAGE.RESV_LOC.SHAFT (R51) -/
def HAULAGE_RESV_LOC_SHAFT : Fld := ⟨0xa, 0x78, 0, 21, 16⟩
/-- HAULAGE.RESV_LOC.SLOT (R51) -/
def HAULAGE_RESV_LOC_SLOT : Fld := ⟨0xa, 0x78, 0, 13, 0⟩
/-- HAULAGE.LOOKUP_FRAME.FRAME (R52) -/
def HAULAGE_LOOKUP_FRAME_FRAME : Fld := ⟨0xa, 0x7c, 0, 25, 0⟩
/-- HAULAGE.LOOKUP_RESULT0.DONE (R52) -/
def HAULAGE_LOOKUP_RESULT0_DONE : Fld := ⟨0xa, 0x80, 0, 31, 31⟩
/-- HAULAGE.LOOKUP_RESULT0.HIT (R52) -/
def HAULAGE_LOOKUP_RESULT0_HIT : Fld := ⟨0xa, 0x80, 0, 30, 30⟩
/-- HAULAGE.LOOKUP_RESULT0.BORN (R52) -/
def HAULAGE_LOOKUP_RESULT0_BORN : Fld := ⟨0xa, 0x80, 0, 29, 29⟩
/-- HAULAGE.LOOKUP_RESULT0.LOST (R52) -/
def HAULAGE_LOOKUP_RESULT0_LOST : Fld := ⟨0xa, 0x80, 0, 28, 28⟩
/-- HAULAGE.LOOKUP_RESULT0.PIN (R52) -/
def HAULAGE_LOOKUP_RESULT0_PIN : Fld := ⟨0xa, 0x80, 0, 27, 27⟩
/-- HAULAGE.LOOKUP_RESULT0.FAR_VALID (R52) -/
def HAULAGE_LOOKUP_RESULT0_FAR_VALID : Fld := ⟨0xa, 0x80, 0, 26, 26⟩
/-- HAULAGE.LOOKUP_RESULT0.STACK_ONLY (R52) -/
def HAULAGE_LOOKUP_RESULT0_STACK_ONLY : Fld := ⟨0xa, 0x80, 0, 25, 25⟩
/-- HAULAGE.LOOKUP_RESULT0.SHAFT (R52) -/
def HAULAGE_LOOKUP_RESULT0_SHAFT : Fld := ⟨0xa, 0x80, 0, 24, 19⟩
/-- HAULAGE.LOOKUP_RESULT0.SLOT (R52) -/
def HAULAGE_LOOKUP_RESULT0_SLOT : Fld := ⟨0xa, 0x80, 0, 18, 5⟩
/-- HAULAGE.LOOKUP_RESULT0.WAY (R52) -/
def HAULAGE_LOOKUP_RESULT0_WAY : Fld := ⟨0xa, 0x80, 0, 4, 0⟩
/-- HAULAGE.LOOKUP_RESULT1.DCOUNT (R52) -/
def HAULAGE_LOOKUP_RESULT1_DCOUNT : Fld := ⟨0xa, 0x84, 0, 31, 24⟩
/-- HAULAGE.LOOKUP_RESULT1.AGE (R52) -/
def HAULAGE_LOOKUP_RESULT1_AGE : Fld := ⟨0xa, 0x84, 0, 23, 16⟩
/-- HAULAGE.LOOKUP_RESULT1.SUSPECT (R52) -/
def HAULAGE_LOOKUP_RESULT1_SUSPECT : Fld := ⟨0xa, 0x84, 0, 15, 15⟩
/-- HAULAGE.LOOKUP_RESULT1.SET (R52) -/
def HAULAGE_LOOKUP_RESULT1_SET : Fld := ⟨0xa, 0x84, 0, 14, 0⟩
/-- HAULAGE.FWk_BASE.FRAME (R53) -/
def HAULAGE_FWk_BASE_FRAME : Fld := ⟨0xa, 0x400, 16, 25, 0⟩
/-- HAULAGE.FWk_SIZE.FRAMES (R53) -/
def HAULAGE_FWk_SIZE_FRAMES : Fld := ⟨0xa, 0x404, 16, 26, 0⟩
/-- HAULAGE.FWk_FADDR.FFRAME (R53) -/
def HAULAGE_FWk_FADDR_FFRAME : Fld := ⟨0xa, 0x408, 16, 31, 0⟩
/-- HAULAGE.FWk_CTL.EN (R53) -/
def HAULAGE_FWk_CTL_EN : Fld := ⟨0xa, 0x40c, 16, 0, 0⟩
/-- HAULAGE.FWk_CTL.ADOPT (R53) -/
def HAULAGE_FWk_CTL_ADOPT : Fld := ⟨0xa, 0x40c, 16, 1, 1⟩
/-- HAULAGE.FWk_CTL.PORT (R53) -/
def HAULAGE_FWk_CTL_PORT : Fld := ⟨0xa, 0x40c, 16, 5, 4⟩
/-- HAULAGE.FWk_CTL.DRAINING (R53) -/
def HAULAGE_FWk_CTL_DRAINING : Fld := ⟨0xa, 0x40c, 16, 8, 8⟩
/-- HAULAGE.FWk_CTL.OVERLAP (R53) -/
def HAULAGE_FWk_CTL_OVERLAP : Fld := ⟨0xa, 0x40c, 16, 9, 9⟩
/-- HAULAGE.SWj_BASE.FRAME (R53) -/
def HAULAGE_SWj_BASE_FRAME : Fld := ⟨0xa, 0x800, 16, 25, 0⟩
/-- HAULAGE.SWj_SIZE.FRAMES (R53) -/
def HAULAGE_SWj_SIZE_FRAMES : Fld := ⟨0xa, 0x804, 16, 26, 0⟩
/-- HAULAGE.SWj_CTL.EN (R53) -/
def HAULAGE_SWj_CTL_EN : Fld := ⟨0xa, 0x808, 16, 0, 0⟩
/-- HAULAGE.SWj_CTL.DRAINING (R53) -/
def HAULAGE_SWj_CTL_DRAINING : Fld := ⟨0xa, 0x808, 16, 8, 8⟩
/-- HAULAGE.SWj_CTL.OVERLAP (R53) -/
def HAULAGE_SWj_CTL_OVERLAP : Fld := ⟨0xa, 0x808, 16, 9, 9⟩
/-- HAULAGE.FILL_CTL.PREFETCH_PCT (R76) -/
def HAULAGE_FILL_CTL_PREFETCH_PCT : Fld := ⟨0xa, 0x100, 0, 6, 0⟩
/-- HAULAGE.FILL_STATUS.WB_USED (R76) -/
def HAULAGE_FILL_STATUS_WB_USED : Fld := ⟨0xa, 0x104, 0, 25, 16⟩
/-- HAULAGE.FILL_STATUS.FILL_USED (R76) -/
def HAULAGE_FILL_STATUS_FILL_USED : Fld := ⟨0xa, 0x104, 0, 9, 0⟩
/-- HAULAGE.AGE_CTL.PERIOD (R76) -/
def HAULAGE_AGE_CTL_PERIOD : Fld := ⟨0xa, 0x108, 0, 15, 0⟩
/-- HAULAGE.FREE_CTL.PRECLEAN (R76) -/
def HAULAGE_FREE_CTL_PRECLEAN : Fld := ⟨0xa, 0x10c, 0, 16, 16⟩
/-- HAULAGE.FREE_CTL.LOW (R76) -/
def HAULAGE_FREE_CTL_LOW : Fld := ⟨0xa, 0x10c, 0, 15, 0⟩
/-- HAULAGE.MOVE_CTL.MAX_MOVES (R76) -/
def HAULAGE_MOVE_CTL_MAX_MOVES : Fld := ⟨0xa, 0x110, 0, 2, 0⟩
/-- HAULAGE.KEEPWn.KW0 (R76) -/
def HAULAGE_KEEPWn_KW0 : Fld := ⟨0xa, 0x114, 4, 3, 0⟩
/-- HAULAGE.KEEPWn.KW1 (R76) -/
def HAULAGE_KEEPWn_KW1 : Fld := ⟨0xa, 0x114, 4, 7, 4⟩
/-- HAULAGE.KEEPWn.KW2 (R76) -/
def HAULAGE_KEEPWn_KW2 : Fld := ⟨0xa, 0x114, 4, 11, 8⟩
/-- HAULAGE.KEEPWn.KW3 (R76) -/
def HAULAGE_KEEPWn_KW3 : Fld := ⟨0xa, 0x114, 4, 15, 12⟩
/-- HAULAGE.KEEPWn.KW4 (R76) -/
def HAULAGE_KEEPWn_KW4 : Fld := ⟨0xa, 0x114, 4, 19, 16⟩
/-- HAULAGE.KEEPWn.KW5 (R76) -/
def HAULAGE_KEEPWn_KW5 : Fld := ⟨0xa, 0x114, 4, 23, 20⟩
/-- HAULAGE.KEEPWn.KW6 (R76) -/
def HAULAGE_KEEPWn_KW6 : Fld := ⟨0xa, 0x114, 4, 27, 24⟩
/-- HAULAGE.KEEPWn.KW7 (R76) -/
def HAULAGE_KEEPWn_KW7 : Fld := ⟨0xa, 0x114, 4, 31, 28⟩
/-- HAULAGE.MIG_FRAME.FRAME (R76) -/
def HAULAGE_MIG_FRAME_FRAME : Fld := ⟨0xa, 0x140, 0, 25, 0⟩
/-- HAULAGE.MIG_CTL.GO (R76) -/
def HAULAGE_MIG_CTL_GO : Fld := ⟨0xa, 0x144, 0, 31, 31⟩
/-- HAULAGE.MIG_CTL.SHAFT (R76) -/
def HAULAGE_MIG_CTL_SHAFT : Fld := ⟨0xa, 0x144, 0, 5, 0⟩
/-- HAULAGE.MIG_STATUS.BUSY (R76) -/
def HAULAGE_MIG_STATUS_BUSY : Fld := ⟨0xa, 0x148, 0, 31, 31⟩
/-- HAULAGE.MIG_STATUS.DONE (R76) -/
def HAULAGE_MIG_STATUS_DONE : Fld := ⟨0xa, 0x148, 0, 30, 30⟩
/-- HAULAGE.MIG_STATUS.REASON (R76) -/
def HAULAGE_MIG_STATUS_REASON : Fld := ⟨0xa, 0x148, 0, 27, 24⟩
/-- HAULAGE.FAR_STATUS.BLOCKED (R76) -/
def HAULAGE_FAR_STATUS_BLOCKED : Fld := ⟨0xa, 0x150, 0, 3, 0⟩
/-- HAULAGE.CNT_FILL.VALUE (R75) -/
def HAULAGE_CNT_FILL_VALUE : Fld := ⟨0xa, 0x160, 0, 31, 0⟩
/-- HAULAGE.CNT_WBACK.VALUE (R75) -/
def HAULAGE_CNT_WBACK_VALUE : Fld := ⟨0xa, 0x164, 0, 31, 0⟩
/-- HAULAGE.CNT_EVICT.VALUE (R75) -/
def HAULAGE_CNT_EVICT_VALUE : Fld := ⟨0xa, 0x168, 0, 31, 0⟩
/-- HAULAGE.CNT_MOVE.VALUE (R75) -/
def HAULAGE_CNT_MOVE_VALUE : Fld := ⟨0xa, 0x16c, 0, 31, 0⟩
/-- HAULAGE.CNT_HINT_DROP.VALUE (R75) -/
def HAULAGE_CNT_HINT_DROP_VALUE : Fld := ⟨0xa, 0x170, 0, 31, 0⟩
/-- HAULAGE.CNT_FALLBACK.VALUE (R75) -/
def HAULAGE_CNT_FALLBACK_VALUE : Fld := ⟨0xa, 0x174, 0, 31, 0⟩
/-- HAULAGE.CNT_HOLD_NACK.VALUE (R75) -/
def HAULAGE_CNT_HOLD_NACK_VALUE : Fld := ⟨0xa, 0x178, 0, 31, 0⟩
/-- DISPATCH.CTL.PLACE_MODE (R265) -/
def DISPATCH_CTL_PLACE_MODE : Fld := ⟨0xb, 0x40, 0, 1, 0⟩
/-- DISPATCH.CTL.PREHAUL_FRAMES (R265) -/
def DISPATCH_CTL_PREHAUL_FRAMES : Fld := ⟨0xb, 0x40, 0, 14, 8⟩
/-- DISPATCH.CTL.MOVE_HOLD_US (R265) -/
def DISPATCH_CTL_MOVE_HOLD_US : Fld := ⟨0xb, 0x40, 0, 31, 16⟩
/-- DISPATCH.STATUS.PENDING (R265) -/
def DISPATCH_STATUS_PENDING : Fld := ⟨0xb, 0x44, 0, 15, 0⟩
/-- DISPATCH.STATUS.RUNNING (R265) -/
def DISPATCH_STATUS_RUNNING : Fld := ⟨0xb, 0x44, 0, 31, 16⟩
/-- DISPATCH.CNT_JOBS.VALUE (R264) -/
def DISPATCH_CNT_JOBS_VALUE : Fld := ⟨0xb, 0x50, 0, 31, 0⟩
/-- DISPATCH.CNT_DONE.VALUE (R264) -/
def DISPATCH_CNT_DONE_VALUE : Fld := ⟨0xb, 0x54, 0, 31, 0⟩
/-- DISPATCH.CNT_FALLBACK.VALUE (R264) -/
def DISPATCH_CNT_FALLBACK_VALUE : Fld := ⟨0xb, 0x58, 0, 31, 0⟩
/-- DISPATCH.CNT_MOVES.VALUE (R264) -/
def DISPATCH_CNT_MOVES_VALUE : Fld := ⟨0xb, 0x5c, 0, 31, 0⟩
/-- DISPATCH.CNT_PREFETCH.VALUE (R264) -/
def DISPATCH_CNT_PREFETCH_VALUE : Fld := ⟨0xb, 0x60, 0, 31, 0⟩
/-- DISPATCH.CNT_COMP_LOST.VALUE (R264) -/
def DISPATCH_CNT_COMP_LOST_VALUE : Fld := ⟨0xb, 0x64, 0, 31, 0⟩
/-- DISPATCH.CNT_REFUSED.VALUE (R264) -/
def DISPATCH_CNT_REFUSED_VALUE : Fld := ⟨0xb, 0x68, 0, 31, 0⟩
/-- DISPATCH.CNT_TIMEOUT.VALUE (R264) -/
def DISPATCH_CNT_TIMEOUT_VALUE : Fld := ⟨0xb, 0x6c, 0, 31, 0⟩
/-- DISPATCH.RINGk_BASE_LO.ADDR (R265) -/
def DISPATCH_RINGk_BASE_LO_ADDR : Fld := ⟨0xb, 0x400, 16, 31, 7⟩
/-- DISPATCH.RINGk_BASE_HI.ADDR (R265) -/
def DISPATCH_RINGk_BASE_HI_ADDR : Fld := ⟨0xb, 0x404, 16, 12, 0⟩
/-- DISPATCH.RINGk_CTL.EN (R265) -/
def DISPATCH_RINGk_CTL_EN : Fld := ⟨0xb, 0x408, 16, 0, 0⟩
/-- DISPATCH.RINGk_CTL.DESC_CLASS (R265) -/
def DISPATCH_RINGk_CTL_DESC_CLASS : Fld := ⟨0xb, 0x408, 16, 1, 1⟩
/-- DISPATCH.RINGk_CTL.EVT_DONE (R265) -/
def DISPATCH_RINGk_CTL_EVT_DONE : Fld := ⟨0xb, 0x408, 16, 2, 2⟩
/-- DISPATCH.RINGk_CTL.RESUME (R265) -/
def DISPATCH_RINGk_CTL_RESUME : Fld := ⟨0xb, 0x408, 16, 3, 3⟩
/-- DISPATCH.RINGk_CTL.ERROR (R265) -/
def DISPATCH_RINGk_CTL_ERROR : Fld := ⟨0xb, 0x408, 16, 4, 4⟩
/-- DISPATCH.RINGk_CTL.LOG2 (R265) -/
def DISPATCH_RINGk_CTL_LOG2 : Fld := ⟨0xb, 0x408, 16, 12, 8⟩
/-- DISPATCH.RINGk_CTL.CLASS (R265) -/
def DISPATCH_RINGk_CTL_CLASS : Fld := ⟨0xb, 0x408, 16, 21, 16⟩
/-- DISPATCH.RINGk_STATUS.HEAD (R265) -/
def DISPATCH_RINGk_STATUS_HEAD : Fld := ⟨0xb, 0x40c, 16, 15, 0⟩
/-- DISPATCH.RINGk_STATUS.TAIL (R265) -/
def DISPATCH_RINGk_STATUS_TAIL : Fld := ⟨0xb, 0x40c, 16, 31, 16⟩
/-- DISPATCH.DOORBELLk.TAIL (R265) -/
def DISPATCH_DOORBELLk_TAIL : Fld := ⟨0xb, 0x800, 4, 15, 0⟩
/-- PAIR.CTL.ROLE (R333) -/
def PAIR_CTL_ROLE : Fld := ⟨0xc, 0x40, 0, 1, 0⟩
/-- PAIR.CTL.SOLO (R333) -/
def PAIR_CTL_SOLO : Fld := ⟨0xc, 0x40, 0, 4, 4⟩
/-- PAIR.EPOCH.EPOCH (R333) -/
def PAIR_EPOCH_EPOCH : Fld := ⟨0xc, 0x44, 0, 15, 0⟩
/-- PAIR.STATUS.PARTNER_UP (R333) -/
def PAIR_STATUS_PARTNER_UP : Fld := ⟨0xc, 0x48, 0, 0, 0⟩
/-- PAIR.STATUS.PARTNER_DARK (R333) -/
def PAIR_STATUS_PARTNER_DARK : Fld := ⟨0xc, 0x48, 0, 1, 1⟩
/-- PAIR.STATUS.MISMATCH (R333) -/
def PAIR_STATUS_MISMATCH : Fld := ⟨0xc, 0x48, 0, 2, 2⟩
/-- PAIR.STATUS.CONFLICT (R333) -/
def PAIR_STATUS_CONFLICT : Fld := ⟨0xc, 0x48, 0, 3, 3⟩
/-- PAIR.STATUS.HANDOVER (R333) -/
def PAIR_STATUS_HANDOVER : Fld := ⟨0xc, 0x48, 0, 4, 4⟩
/-- PAIR.STATUS.PARTNER_ROLE (R333) -/
def PAIR_STATUS_PARTNER_ROLE : Fld := ⟨0xc, 0x48, 0, 9, 8⟩
/-- PAIR.STATUS.PARTNER_EPOCH (R333) -/
def PAIR_STATUS_PARTNER_EPOCH : Fld := ⟨0xc, 0x48, 0, 31, 16⟩
/-- PAIR.TAKEOVER.GO (R333) -/
def PAIR_TAKEOVER_GO : Fld := ⟨0xc, 0x4c, 0, 31, 31⟩
/-- PAIR.TAKEOVER.EPOCH (R333) -/
def PAIR_TAKEOVER_EPOCH : Fld := ⟨0xc, 0x4c, 0, 15, 0⟩
/-- PAIR.CANDLE_CTL.PERIOD_US (R333) -/
def PAIR_CANDLE_CTL_PERIOD_US : Fld := ⟨0xc, 0x50, 0, 15, 0⟩
/-- PAIR.CANDLE_CTL.MISS_LIMIT (R333) -/
def PAIR_CANDLE_CTL_MISS_LIMIT : Fld := ⟨0xc, 0x50, 0, 23, 16⟩
/-- PAIR.LAG_CTL.LIMIT_MIB (R333) -/
def PAIR_LAG_CTL_LIMIT_MIB : Fld := ⟨0xc, 0x54, 0, 6, 0⟩
/-- PAIR.LAG_CTL.TIME_US (R333) -/
def PAIR_LAG_CTL_TIME_US : Fld := ⟨0xc, 0x54, 0, 31, 16⟩
/-- PAIR.LAG_STATUS.LINES (R333) -/
def PAIR_LAG_STATUS_LINES : Fld := ⟨0xc, 0x58, 0, 20, 0⟩
/-- PAIR.LAG_AGE.US (R333) -/
def PAIR_LAG_AGE_US : Fld := ⟨0xc, 0x5c, 0, 15, 0⟩
/-- PAIR.RESYNC_STATUS.FRAMES (R333) -/
def PAIR_RESYNC_STATUS_FRAMES : Fld := ⟨0xc, 0x60, 0, 16, 0⟩
/-- PAIR.RESYNC_STATUS.FULL (R333) -/
def PAIR_RESYNC_STATUS_FULL : Fld := ⟨0xc, 0x60, 0, 31, 31⟩
/-- PAIR.CFG_CRC.CRC (R333) -/
def PAIR_CFG_CRC_CRC : Fld := ⟨0xc, 0x64, 0, 31, 0⟩
/-- PAIR.CNT_MIRROR_LINES.VALUE (R332) -/
def PAIR_CNT_MIRROR_LINES_VALUE : Fld := ⟨0xc, 0x80, 0, 31, 0⟩
/-- PAIR.CNT_CANDLE_MISS.VALUE (R332) -/
def PAIR_CNT_CANDLE_MISS_VALUE : Fld := ⟨0xc, 0x84, 0, 31, 0⟩
/-- PAIR.CNT_TAKEOVER_REJECT.VALUE (R332) -/
def PAIR_CNT_TAKEOVER_REJECT_VALUE : Fld := ⟨0xc, 0x88, 0, 31, 0⟩
/-- PAIR.CNT_RESYNC_FRAMES.VALUE (R332) -/
def PAIR_CNT_RESYNC_FRAMES_VALUE : Fld := ⟨0xc, 0x8c, 0, 31, 0⟩
/-- PAIR.MWj_BASE.FRAME (R333) -/
def PAIR_MWj_BASE_FRAME : Fld := ⟨0xc, 0x400, 16, 25, 0⟩
/-- PAIR.MWj_SIZE.FRAMES (R333) -/
def PAIR_MWj_SIZE_FRAMES : Fld := ⟨0xc, 0x404, 16, 26, 0⟩
/-- PAIR.MWj_CTL.EN (R333) -/
def PAIR_MWj_CTL_EN : Fld := ⟨0xc, 0x408, 16, 0, 0⟩
/-- PAIR.MWj_CTL.MODE (R333) -/
def PAIR_MWj_CTL_MODE : Fld := ⟨0xc, 0x408, 16, 1, 1⟩
/-- PAIR.MWj_CTL.ENABLING (R333) -/
def PAIR_MWj_CTL_ENABLING : Fld := ⟨0xc, 0x408, 16, 8, 8⟩
/-- PAIR.MWj_CTL.BROKEN (R333) -/
def PAIR_MWj_CTL_BROKEN : Fld := ⟨0xc, 0x408, 16, 9, 9⟩
/-- PAIR.MWj_CTL.RESYNCING (R333) -/
def PAIR_MWj_CTL_RESYNCING : Fld := ⟨0xc, 0x408, 16, 10, 10⟩
/-- PAIR.MWj_CTL.OVERLAP (R333) -/
def PAIR_MWj_CTL_OVERLAP : Fld := ⟨0xc, 0x408, 16, 11, 11⟩
/-- FABRIC.DEV_SHARE.CELLS (R135) -/
def FABRIC_DEV_SHARE_CELLS : Fld := ⟨0xd, 0x40, 0, 6, 0⟩
/-- FABRIC.REG_TIMEOUT.US (R135) -/
def FABRIC_REG_TIMEOUT_US : Fld := ⟨0xd, 0x44, 0, 9, 0⟩
/-- FABRIC.STALL_CTL.LIMIT (R135) -/
def FABRIC_STALL_CTL_LIMIT : Fld := ⟨0xd, 0x48, 0, 15, 0⟩
/-- FABRIC.STALL_STATUS.NET (R135) -/
def FABRIC_STALL_STATUS_NET : Fld := ⟨0xd, 0x4c, 0, 22, 16⟩
/-- FABRIC.STALL_STATUS.DST (R135) -/
def FABRIC_STALL_STATUS_DST : Fld := ⟨0xd, 0x4c, 0, 14, 8⟩
/-- FABRIC.STALL_STATUS.SRC (R135) -/
def FABRIC_STALL_STATUS_SRC : Fld := ⟨0xd, 0x4c, 0, 6, 0⟩
/-- FABRIC.COLLAR_CLOSED0.TILES (R135) -/
def FABRIC_COLLAR_CLOSED0_TILES : Fld := ⟨0xd, 0x50, 0, 31, 0⟩
/-- FABRIC.COLLAR_CLOSED1.TILES (R135) -/
def FABRIC_COLLAR_CLOSED1_TILES : Fld := ⟨0xd, 0x54, 0, 15, 0⟩
/-- FABRIC.SEL.ATT (R135) -/
def FABRIC_SEL_ATT : Fld := ⟨0xd, 0x58, 0, 6, 0⟩
/-- FABRIC.SEL.NET (R135) -/
def FABRIC_SEL_NET : Fld := ⟨0xd, 0x58, 0, 9, 8⟩
/-- FABRIC.POOL_LEVEL.PEAK (R135) -/
def FABRIC_POOL_LEVEL_PEAK : Fld := ⟨0xd, 0x5c, 0, 31, 16⟩
/-- FABRIC.POOL_LEVEL.NOW (R135) -/
def FABRIC_POOL_LEVEL_NOW : Fld := ⟨0xd, 0x5c, 0, 15, 0⟩
/-- FABRIC.CNT_CELLS_IN.VALUE (R134) -/
def FABRIC_CNT_CELLS_IN_VALUE : Fld := ⟨0xd, 0x60, 0, 31, 0⟩
/-- FABRIC.CNT_CELLS_OUT.VALUE (R134) -/
def FABRIC_CNT_CELLS_OUT_VALUE : Fld := ⟨0xd, 0x64, 0, 31, 0⟩
/-- FABRIC.CNT_CREDIT_WAIT.VALUE (R134) -/
def FABRIC_CNT_CREDIT_WAIT_VALUE : Fld := ⟨0xd, 0x68, 0, 31, 0⟩
/-- FABRIC.CNT_STALL.VALUE (R134) -/
def FABRIC_CNT_STALL_VALUE : Fld := ⟨0xd, 0x6c, 0, 31, 0⟩
/-- FABRIC.CNT_REG_TIMEOUT.VALUE (R134) -/
def FABRIC_CNT_REG_TIMEOUT_VALUE : Fld := ⟨0xd, 0x70, 0, 31, 0⟩
/-- FABRIC.CNT_CTRL_CORR.VALUE (R134) -/
def FABRIC_CNT_CTRL_CORR_VALUE : Fld := ⟨0xd, 0x74, 0, 31, 0⟩
/-- FABRIC.CNT_EVT_NOTICE.VALUE (R134) -/
def FABRIC_CNT_EVT_NOTICE_VALUE : Fld := ⟨0xd, 0x78, 0, 31, 0⟩
/-- POWER.CAP_CTL.CAP_W (R402) -/
def POWER_CAP_CTL_CAP_W : Fld := ⟨0xe, 0x40, 0, 7, 0⟩
/-- POWER.CAP_CTL.PEAK_W (R402) -/
def POWER_CAP_CTL_PEAK_W : Fld := ⟨0xe, 0x40, 0, 15, 8⟩
/-- POWER.CAP_CTL.BURST_MS (R402) -/
def POWER_CAP_CTL_BURST_MS : Fld := ⟨0xe, 0x40, 0, 19, 16⟩
/-- POWER.CAP_CTL.HYST_W (R402) -/
def POWER_CAP_CTL_HYST_W : Fld := ⟨0xe, 0x40, 0, 27, 24⟩
/-- POWER.CAP_CTL.EN (R402) -/
def POWER_CAP_CTL_EN : Fld := ⟨0xe, 0x40, 0, 31, 31⟩
/-- POWER.EST.TOTAL (R402) -/
def POWER_EST_TOTAL : Fld := ⟨0xe, 0x44, 0, 11, 0⟩
/-- POWER.EST.PEAK (R402) -/
def POWER_EST_PEAK : Fld := ⟨0xe, 0x44, 0, 27, 16⟩
/-- POWER.EST_PARTS0.DRAM (R402) -/
def POWER_EST_PARTS0_DRAM : Fld := ⟨0xe, 0x48, 0, 7, 0⟩
/-- POWER.EST_PARTS0.REF_STATIC (R402) -/
def POWER_EST_PARTS0_REF_STATIC : Fld := ⟨0xe, 0x48, 0, 15, 8⟩
/-- POWER.EST_PARTS0.ENGINE (R402) -/
def POWER_EST_PARTS0_ENGINE : Fld := ⟨0xe, 0x48, 0, 23, 16⟩
/-- POWER.EST_PARTS0.LOGIC (R402) -/
def POWER_EST_PARTS0_LOGIC : Fld := ⟨0xe, 0x48, 0, 31, 24⟩
/-- POWER.EST_PARTS1.HOST (R402) -/
def POWER_EST_PARTS1_HOST : Fld := ⟨0xe, 0x4c, 0, 7, 0⟩
/-- POWER.EST_PARTS1.FAR (R402) -/
def POWER_EST_PARTS1_FAR : Fld := ⟨0xe, 0x4c, 0, 15, 8⟩
/-- POWER.LADDER.STEP (R402) -/
def POWER_LADDER_STEP : Fld := ⟨0xe, 0x50, 0, 2, 0⟩
/-- POWER.LADDER.BURST (R402) -/
def POWER_LADDER_BURST : Fld := ⟨0xe, 0x50, 0, 8, 8⟩
/-- POWER.LADDER.REARMED (R402) -/
def POWER_LADDER_REARMED : Fld := ⟨0xe, 0x50, 0, 9, 9⟩
/-- POWER.LADDER.OVER_US (R402) -/
def POWER_LADDER_OVER_US : Fld := ⟨0xe, 0x50, 0, 31, 16⟩
/-- POWER.CNT_STEP_UP.VALUE (R401) -/
def POWER_CNT_STEP_UP_VALUE : Fld := ⟨0xe, 0x54, 0, 31, 0⟩
/-- POWER.CNT_PEAK.VALUE (R401) -/
def POWER_CNT_PEAK_VALUE : Fld := ⟨0xe, 0x58, 0, 31, 0⟩
/-- COLLAR.TRAINED_LO.TILES (R378) -/
def COLLAR_TRAINED_LO_TILES : Fld := ⟨0xf, 0x40, 0, 31, 0⟩
/-- COLLAR.TRAINED_HI.TILES (R378) -/
def COLLAR_TRAINED_HI_TILES : Fld := ⟨0xf, 0x44, 0, 31, 0⟩
/-- COLLAR.FAILED_LO.TILES (R378) -/
def COLLAR_FAILED_LO_TILES : Fld := ⟨0xf, 0x48, 0, 31, 0⟩
/-- COLLAR.FAILED_HI.TILES (R378) -/
def COLLAR_FAILED_HI_TILES : Fld := ⟨0xf, 0x4c, 0, 31, 0⟩
/-- COLLAR.RETRAIN_CTL.TILE (R378) -/
def COLLAR_RETRAIN_CTL_TILE : Fld := ⟨0xf, 0x50, 0, 5, 0⟩
/-- COLLAR.RETRAIN_CTL.GO (R378) -/
def COLLAR_RETRAIN_CTL_GO : Fld := ⟨0xf, 0x50, 0, 31, 31⟩
/-- COLLAR.SEL.TILE (R378) -/
def COLLAR_SEL_TILE : Fld := ⟨0xf, 0x54, 0, 5, 0⟩
/-- COLLAR.PORT_STATUS.SPARES (R378) -/
def COLLAR_PORT_STATUS_SPARES : Fld := ⟨0xf, 0x58, 0, 4, 0⟩
/-- COLLAR.PORT_STATUS.RETRAINS (R378) -/
def COLLAR_PORT_STATUS_RETRAINS : Fld := ⟨0xf, 0x58, 0, 15, 8⟩
/-- COLLAR.PORT_STATUS.PASS (R378) -/
def COLLAR_PORT_STATUS_PASS : Fld := ⟨0xf, 0x58, 0, 16, 16⟩
/-- COLLAR.LAST_GDR.LOST (R378) -/
def COLLAR_LAST_GDR_LOST : Fld := ⟨0xf, 0x5c, 0, 31, 16⟩
/-- COLLAR.LAST_GDR.US (R378) -/
def COLLAR_LAST_GDR_US : Fld := ⟨0xf, 0x5c, 0, 15, 0⟩
/-- COLLAR.CNT_RETRAIN.VALUE (R377) -/
def COLLAR_CNT_RETRAIN_VALUE : Fld := ⟨0xf, 0x60, 0, 31, 0⟩
/-- COLLAR.CNT_LOST.VALUE (R377) -/
def COLLAR_CNT_LOST_VALUE : Fld := ⟨0xf, 0x64, 0, 31, 0⟩
/-- HOSTPORT.LINK_STATUS.UP (R116) -/
def HOSTPORT_LINK_STATUS_UP : Fld := ⟨0x10, 0x40, 0, 0, 0⟩
/-- HOSTPORT.LINK_STATUS.INIT_DONE (R116) -/
def HOSTPORT_LINK_STATUS_INIT_DONE : Fld := ⟨0x10, 0x40, 0, 1, 1⟩
/-- HOSTPORT.LINK_STATUS.RATE (R116) -/
def HOSTPORT_LINK_STATUS_RATE : Fld := ⟨0x10, 0x40, 0, 4, 2⟩
/-- HOSTPORT.LINK_STATUS.REPAIRED_TX (R116) -/
def HOSTPORT_LINK_STATUS_REPAIRED_TX : Fld := ⟨0x10, 0x40, 0, 11, 8⟩
/-- HOSTPORT.LINK_STATUS.REPAIRED_RX (R116) -/
def HOSTPORT_LINK_STATUS_REPAIRED_RX : Fld := ⟨0x10, 0x40, 0, 15, 12⟩
/-- HOSTPORT.LINK_STATUS.RETRAINS (R116) -/
def HOSTPORT_LINK_STATUS_RETRAINS : Fld := ⟨0x10, 0x40, 0, 23, 16⟩
/-- HOSTPORT.LINK_CTL.MAX_RATE (R116) -/
def HOSTPORT_LINK_CTL_MAX_RATE : Fld := ⟨0x10, 0x44, 0, 2, 0⟩
/-- HOSTPORT.LINK_CTL.RETRAIN (R116) -/
def HOSTPORT_LINK_CTL_RETRAIN : Fld := ⟨0x10, 0x44, 0, 8, 8⟩
/-- HOSTPORT.LINK_CTL.DISABLE (R116) -/
def HOSTPORT_LINK_CTL_DISABLE : Fld := ⟨0x10, 0x44, 0, 9, 9⟩
/-- HOSTPORT.TAG_LIMIT.LIMIT (R116) -/
def HOSTPORT_TAG_LIMIT_LIMIT : Fld := ⟨0x10, 0x48, 0, 12, 0⟩
/-- HOSTPORT.MGMT.MGMT_EN (R116) -/
def HOSTPORT_MGMT_MGMT_EN : Fld := ⟨0x10, 0x4c, 0, 0, 0⟩
/-- HOSTPORT.CREDIT_CTL.TIMEOUT (R116) -/
def HOSTPORT_CREDIT_CTL_TIMEOUT : Fld := ⟨0x10, 0x50, 0, 15, 0⟩
/-- HOSTPORT.CREDIT_CTL.CHECK_EN (R116) -/
def HOSTPORT_CREDIT_CTL_CHECK_EN : Fld := ⟨0x10, 0x50, 0, 16, 16⟩
/-- HOSTPORT.CREDIT_STATUS.VC1_AVAIL (R116) -/
def HOSTPORT_CREDIT_STATUS_VC1_AVAIL : Fld := ⟨0x10, 0x54, 0, 15, 0⟩
/-- HOSTPORT.CREDIT_STATUS.VC2_AVAIL (R116) -/
def HOSTPORT_CREDIT_STATUS_VC2_AVAIL : Fld := ⟨0x10, 0x54, 0, 23, 16⟩
/-- HOSTPORT.CREDIT_STATUS.VC3_AVAIL (R116) -/
def HOSTPORT_CREDIT_STATUS_VC3_AVAIL : Fld := ⟨0x10, 0x54, 0, 31, 24⟩
/-- HOSTPORT.OUTSTANDING.TAGS (R116) -/
def HOSTPORT_OUTSTANDING_TAGS : Fld := ⟨0x10, 0x58, 0, 12, 0⟩
/-- HOSTPORT.OUTSTANDING.RESP_SLOTS (R116) -/
def HOSTPORT_OUTSTANDING_RESP_SLOTS : Fld := ⟨0x10, 0x58, 0, 30, 16⟩
/-- HOSTPORT.LANE_REPAIR.LANE (R116) -/
def HOSTPORT_LANE_REPAIR_LANE : Fld := ⟨0x10, 0x5c, 0, 5, 0⟩
/-- HOSTPORT.LANE_REPAIR.DIR (R116) -/
def HOSTPORT_LANE_REPAIR_DIR : Fld := ⟨0x10, 0x5c, 0, 8, 8⟩
/-- HOSTPORT.LANE_REPAIR.APPLY (R116) -/
def HOSTPORT_LANE_REPAIR_APPLY : Fld := ⟨0x10, 0x5c, 0, 12, 12⟩
/-- HOSTPORT.EVT_OVF.OVF (R116) -/
def HOSTPORT_EVT_OVF_OVF : Fld := ⟨0x10, 0x60, 0, 0, 0⟩
/-- HOSTPORT.CNT_REQ.VALUE (R115) -/
def HOSTPORT_CNT_REQ_VALUE : Fld := ⟨0x10, 0x70, 0, 31, 0⟩
/-- HOSTPORT.CNT_NACK.VALUE (R115) -/
def HOSTPORT_CNT_NACK_VALUE : Fld := ⟨0x10, 0x74, 0, 31, 0⟩
/-- HOSTPORT.CNT_PARITY.VALUE (R115) -/
def HOSTPORT_CNT_PARITY_VALUE : Fld := ⟨0x10, 0x78, 0, 31, 0⟩
/-- HOSTPORT.CNT_REPLAY.VALUE (R115) -/
def HOSTPORT_CNT_REPLAY_VALUE : Fld := ⟨0x10, 0x7c, 0, 31, 0⟩
/-- HOSTPORT.CNT_CREDIT_VIOL.VALUE (R115) -/
def HOSTPORT_CNT_CREDIT_VIOL_VALUE : Fld := ⟨0x10, 0x80, 0, 31, 0⟩
/-- FARPORT.CTL.ROLE (R317) -/
def FARPORT_CTL_ROLE : Fld := ⟨0x20, 0x40, 0, 1, 0⟩
/-- FARPORT.CTL.MAX_RATE (R317) -/
def FARPORT_CTL_MAX_RATE : Fld := ⟨0x20, 0x40, 0, 4, 4⟩
/-- FARPORT.CTL.PRESET (R317) -/
def FARPORT_CTL_PRESET : Fld := ⟨0x20, 0x40, 0, 11, 8⟩
/-- FARPORT.CTL.DISABLE (R317) -/
def FARPORT_CTL_DISABLE : Fld := ⟨0x20, 0x40, 0, 16, 16⟩
/-- FARPORT.STATUS.ACTIVE_ROLE (R317) -/
def FARPORT_STATUS_ACTIVE_ROLE : Fld := ⟨0x20, 0x44, 0, 1, 0⟩
/-- FARPORT.STATUS.STAGE (R317) -/
def FARPORT_STATUS_STAGE : Fld := ⟨0x20, 0x44, 0, 6, 4⟩
/-- FARPORT.STATUS.RATE (R317) -/
def FARPORT_STATUS_RATE : Fld := ⟨0x20, 0x44, 0, 9, 8⟩
/-- FARPORT.STATUS.WIDTH (R317) -/
def FARPORT_STATUS_WIDTH : Fld := ⟨0x20, 0x44, 0, 13, 12⟩
/-- FARPORT.STATUS.REVERSED (R317) -/
def FARPORT_STATUS_REVERSED : Fld := ⟨0x20, 0x44, 0, 14, 14⟩
/-- FARPORT.STATUS.LAST_FAIL (R317) -/
def FARPORT_STATUS_LAST_FAIL : Fld := ⟨0x20, 0x44, 0, 19, 16⟩
/-- FARPORT.STATUS.FAILS (R317) -/
def FARPORT_STATUS_FAILS : Fld := ⟨0x20, 0x44, 0, 27, 24⟩
/-- FARPORT.TIMEOUT.US (R317) -/
def FARPORT_TIMEOUT_US : Fld := ⟨0x20, 0x48, 0, 15, 0⟩
/-- FARPORT.LANE_EXCL.LANES (R317) -/
def FARPORT_LANE_EXCL_LANES : Fld := ⟨0x20, 0x4c, 0, 7, 0⟩
/-- FARPORT.SLIP_CTL.LANE (R317) -/
def FARPORT_SLIP_CTL_LANE : Fld := ⟨0x20, 0x50, 0, 2, 0⟩
/-- FARPORT.SLIP_CTL.COUNT (R317) -/
def FARPORT_SLIP_CTL_COUNT : Fld := ⟨0x20, 0x50, 0, 14, 8⟩
/-- FARPORT.SLIP_CTL.HUNT_DIS (R317) -/
def FARPORT_SLIP_CTL_HUNT_DIS : Fld := ⟨0x20, 0x50, 0, 16, 16⟩
/-- FARPORT.SLIP_CTL.GO (R317) -/
def FARPORT_SLIP_CTL_GO : Fld := ⟨0x20, 0x50, 0, 31, 31⟩
/-- FARPORT.SCAN_CTL.LANE (R317) -/
def FARPORT_SCAN_CTL_LANE : Fld := ⟨0x20, 0x54, 0, 2, 0⟩
/-- FARPORT.SCAN_CTL.EYE (R317) -/
def FARPORT_SCAN_CTL_EYE : Fld := ⟨0x20, 0x54, 0, 5, 4⟩
/-- FARPORT.SCAN_CTL.PHASE (R317) -/
def FARPORT_SCAN_CTL_PHASE : Fld := ⟨0x20, 0x54, 0, 13, 8⟩
/-- FARPORT.SCAN_CTL.VOFF (R317) -/
def FARPORT_SCAN_CTL_VOFF : Fld := ⟨0x20, 0x54, 0, 22, 16⟩
/-- FARPORT.SCAN_CTL.LOG2_BITS (R317) -/
def FARPORT_SCAN_CTL_LOG2_BITS : Fld := ⟨0x20, 0x54, 0, 27, 24⟩
/-- FARPORT.SCAN_CTL.GO (R317) -/
def FARPORT_SCAN_CTL_GO : Fld := ⟨0x20, 0x54, 0, 31, 31⟩
/-- FARPORT.SCAN_STATUS.DONE (R317) -/
def FARPORT_SCAN_STATUS_DONE : Fld := ⟨0x20, 0x58, 0, 31, 31⟩
/-- FARPORT.SCAN_STATUS.REASON (R317) -/
def FARPORT_SCAN_STATUS_REASON : Fld := ⟨0x20, 0x58, 0, 27, 24⟩
/-- FARPORT.SCAN_STATUS.ERRORS (R317) -/
def FARPORT_SCAN_STATUS_ERRORS : Fld := ⟨0x20, 0x58, 0, 23, 0⟩
/-- FARPORT.LOOP_CTL.MODE (R317) -/
def FARPORT_LOOP_CTL_MODE : Fld := ⟨0x20, 0x5c, 0, 1, 0⟩
/-- FARPORT.LOOP_CTL.PATTERN (R317) -/
def FARPORT_LOOP_CTL_PATTERN : Fld := ⟨0x20, 0x5c, 0, 5, 4⟩
/-- FARPORT.LOOP_CTL.LANES (R317) -/
def FARPORT_LOOP_CTL_LANES : Fld := ⟨0x20, 0x5c, 0, 15, 8⟩
/-- FARPORT.LOOP_CTL.GO (R317) -/
def FARPORT_LOOP_CTL_GO : Fld := ⟨0x20, 0x5c, 0, 31, 31⟩
/-- FARPORT.LOOP_STATUS.DONE (R317) -/
def FARPORT_LOOP_STATUS_DONE : Fld := ⟨0x20, 0x60, 0, 31, 31⟩
/-- FARPORT.LOOP_STATUS.FAIL_LANES (R317) -/
def FARPORT_LOOP_STATUS_FAIL_LANES : Fld := ⟨0x20, 0x60, 0, 23, 16⟩
/-- FARPORT.LOOP_STATUS.ERRORS (R317) -/
def FARPORT_LOOP_STATUS_ERRORS : Fld := ⟨0x20, 0x60, 0, 15, 0⟩
/-- FARPORT.LANE_STATUS.LOS (R317) -/
def FARPORT_LANE_STATUS_LOS : Fld := ⟨0x20, 0x64, 0, 7, 0⟩
/-- FARPORT.LANE_STATUS.LOCKED (R317) -/
def FARPORT_LANE_STATUS_LOCKED : Fld := ⟨0x20, 0x64, 0, 15, 8⟩
/-- FARPORT.LANE_STATUS.USED (R317) -/
def FARPORT_LANE_STATUS_USED : Fld := ⟨0x20, 0x64, 0, 23, 16⟩
/-- FARPORT.CXL_STATUS.ENUM_DONE (R317) -/
def FARPORT_CXL_STATUS_ENUM_DONE : Fld := ⟨0x20, 0x68, 0, 0, 0⟩
/-- FARPORT.CXL_STATUS.MEM_EN (R317) -/
def FARPORT_CXL_STATUS_MEM_EN : Fld := ⟨0x20, 0x68, 0, 1, 1⟩
/-- FARPORT.CXL_STATUS.SWITCH (R317) -/
def FARPORT_CXL_STATUS_SWITCH : Fld := ⟨0x20, 0x68, 0, 2, 2⟩
/-- FARPORT.CXL_STATUS.DEVICES (R317) -/
def FARPORT_CXL_STATUS_DEVICES : Fld := ⟨0x20, 0x68, 0, 7, 4⟩
/-- FARPORT.CXL_STATUS.ENUM_ERR (R317) -/
def FARPORT_CXL_STATUS_ENUM_ERR : Fld := ⟨0x20, 0x68, 0, 11, 8⟩
/-- FARPORT.CXL_STATUS.DEVLOAD (R317) -/
def FARPORT_CXL_STATUS_DEVLOAD : Fld := ⟨0x20, 0x68, 0, 13, 12⟩
/-- FARPORT.PAIR_LINK.TX_CREDIT (R317) -/
def FARPORT_PAIR_LINK_TX_CREDIT : Fld := ⟨0x20, 0x6c, 0, 8, 0⟩
/-- FARPORT.PAIR_LINK.RX_FREE (R317) -/
def FARPORT_PAIR_LINK_RX_FREE : Fld := ⟨0x20, 0x6c, 0, 24, 16⟩
/-- FARPORT.CNT_RS_CORR.VALUE (R316) -/
def FARPORT_CNT_RS_CORR_VALUE : Fld := ⟨0x20, 0x80, 0, 31, 0⟩
/-- FARPORT.CNT_RS_UNCORR.VALUE (R316) -/
def FARPORT_CNT_RS_UNCORR_VALUE : Fld := ⟨0x20, 0x84, 0, 31, 0⟩
/-- FARPORT.CNT_HDR_BAD.VALUE (R316) -/
def FARPORT_CNT_HDR_BAD_VALUE : Fld := ⟨0x20, 0x88, 0, 31, 0⟩
/-- FARPORT.CNT_LOCK_LOSS.VALUE (R316) -/
def FARPORT_CNT_LOCK_LOSS_VALUE : Fld := ⟨0x20, 0x8c, 0, 31, 0⟩
/-- FARPORT.CNT_RETRAIN.VALUE (R316) -/
def FARPORT_CNT_RETRAIN_VALUE : Fld := ⟨0x20, 0x90, 0, 31, 0⟩
/-- FARPORT.CNT_REPLAY.VALUE (R316) -/
def FARPORT_CNT_REPLAY_VALUE : Fld := ⟨0x20, 0x94, 0, 31, 0⟩
/-- FARPORT.CNT_FAR_TIMEOUT.VALUE (R316) -/
def FARPORT_CNT_FAR_TIMEOUT_VALUE : Fld := ⟨0x20, 0x98, 0, 31, 0⟩
/-- FARPORT.CNT_CPL_ERR.VALUE (R316) -/
def FARPORT_CNT_CPL_ERR_VALUE : Fld := ⟨0x20, 0x9c, 0, 31, 0⟩
/-- FARPORT.CNT_POISON_IN.VALUE (R316) -/
def FARPORT_CNT_POISON_IN_VALUE : Fld := ⟨0x20, 0xa0, 0, 31, 0⟩
/-- FARPORT.CNT_DECODE_MISS.VALUE (R316) -/
def FARPORT_CNT_DECODE_MISS_VALUE : Fld := ⟨0x20, 0xa4, 0, 31, 0⟩
/-- FARPORT.CNT_LOS.VALUE (R316) -/
def FARPORT_CNT_LOS_VALUE : Fld := ⟨0x20, 0xa8, 0, 31, 0⟩
/-- FARPORT.HDMk_BASE.ADDR (R317) -/
def FARPORT_HDMk_BASE_ADDR : Fld := ⟨0x20, 0x100, 16, 22, 0⟩
/-- FARPORT.HDMk_SIZE.UNITS (R317) -/
def FARPORT_HDMk_SIZE_UNITS : Fld := ⟨0x20, 0x104, 16, 22, 0⟩
/-- FARPORT.HDMk_CTL.COMMIT (R317) -/
def FARPORT_HDMk_CTL_COMMIT : Fld := ⟨0x20, 0x108, 16, 0, 0⟩
/-- FARPORT.HDMk_CTL.COMMITTED (R317) -/
def FARPORT_HDMk_CTL_COMMITTED : Fld := ⟨0x20, 0x108, 16, 1, 1⟩
/-- FARPORT.HDMk_CTL.ERR (R317) -/
def FARPORT_HDMk_CTL_ERR : Fld := ⟨0x20, 0x108, 16, 2, 2⟩
/-- FARPORT.HDMk_CTL.WAYS (R317) -/
def FARPORT_HDMk_CTL_WAYS : Fld := ⟨0x20, 0x108, 16, 6, 4⟩
/-- FARPORT.HDMk_CTL.GRAN (R317) -/
def FARPORT_HDMk_CTL_GRAN : Fld := ⟨0x20, 0x108, 16, 10, 8⟩
/-- FARPORT.HDMk_TARGET.PORT0 (R317) -/
def FARPORT_HDMk_TARGET_PORT0 : Fld := ⟨0x20, 0x10c, 16, 3, 0⟩
/-- FARPORT.HDMk_TARGET.PORT1 (R317) -/
def FARPORT_HDMk_TARGET_PORT1 : Fld := ⟨0x20, 0x10c, 16, 7, 4⟩
/-- FARPORT.HDMk_TARGET.PORT2 (R317) -/
def FARPORT_HDMk_TARGET_PORT2 : Fld := ⟨0x20, 0x10c, 16, 11, 8⟩
/-- FARPORT.HDMk_TARGET.PORT3 (R317) -/
def FARPORT_HDMk_TARGET_PORT3 : Fld := ⟨0x20, 0x10c, 16, 15, 12⟩
/-- FARPORT.HDMk_TARGET.PORT4 (R317) -/
def FARPORT_HDMk_TARGET_PORT4 : Fld := ⟨0x20, 0x10c, 16, 19, 16⟩
/-- FARPORT.HDMk_TARGET.PORT5 (R317) -/
def FARPORT_HDMk_TARGET_PORT5 : Fld := ⟨0x20, 0x10c, 16, 23, 20⟩
/-- FARPORT.HDMk_TARGET.PORT6 (R317) -/
def FARPORT_HDMk_TARGET_PORT6 : Fld := ⟨0x20, 0x10c, 16, 27, 24⟩
/-- FARPORT.HDMk_TARGET.PORT7 (R317) -/
def FARPORT_HDMk_TARGET_PORT7 : Fld := ⟨0x20, 0x10c, 16, 31, 28⟩
/-- CLASSTAB.LAT.TARGET (R160) -/
def CLASSTAB_LAT_TARGET : Fld := ⟨0x40, 0x40, 64, 15, 0⟩
/-- CLASSTAB.LAT.RAMP_START (R160) -/
def CLASSTAB_LAT_RAMP_START : Fld := ⟨0x40, 0x40, 64, 22, 16⟩
/-- CLASSTAB.FLOOR.FLOOR (R160) -/
def CLASSTAB_FLOOR_FLOOR : Fld := ⟨0x40, 0x44, 64, 15, 0⟩
/-- CLASSTAB.FLOOR.RANK (R160) -/
def CLASSTAB_FLOOR_RANK : Fld := ⟨0x40, 0x44, 64, 21, 16⟩
/-- CLASSTAB.AFF_LO.SHAFTS (R160) -/
def CLASSTAB_AFF_LO_SHAFTS : Fld := ⟨0x40, 0x48, 64, 31, 0⟩
/-- CLASSTAB.AFF_HI.SHAFTS (R160) -/
def CLASSTAB_AFF_HI_SHAFTS : Fld := ⟨0x40, 0x4c, 64, 15, 0⟩
/-- CLASSTAB.URG_MAP.INPUTS (R160) -/
def CLASSTAB_URG_MAP_INPUTS : Fld := ⟨0x40, 0x50, 64, 7, 0⟩
/-- CLASSTAB.MON.MODE (R160) -/
def CLASSTAB_MON_MODE : Fld := ⟨0x40, 0x54, 64, 1, 0⟩
/-- CLASSTAB.MON.WINDOW (R160) -/
def CLASSTAB_MON_WINDOW : Fld := ⟨0x40, 0x54, 64, 31, 16⟩
/-- CLASSTAB.MISS_THRESH.THRESH (R160) -/
def CLASSTAB_MISS_THRESH_THRESH : Fld := ⟨0x40, 0x58, 64, 15, 0⟩
/-- CLASSTAB.JOB_TIMEOUT.US (R160) -/
def CLASSTAB_JOB_TIMEOUT_US : Fld := ⟨0x40, 0x5c, 64, 25, 0⟩
/-- CLASSTAB.STATE.MEASURED (R160) -/
def CLASSTAB_STATE_MEASURED : Fld := ⟨0x40, 0x60, 64, 23, 0⟩
/-- CLASSTAB.STATE.LEVEL (R160) -/
def CLASSTAB_STATE_LEVEL : Fld := ⟨0x40, 0x60, 64, 26, 24⟩
/-- CLASSTAB.STATE.DEFICIT (R160) -/
def CLASSTAB_STATE_DEFICIT : Fld := ⟨0x40, 0x60, 64, 27, 27⟩
/-- CLASSTAB.STATE.BELOW_WL (R160) -/
def CLASSTAB_STATE_BELOW_WL : Fld := ⟨0x40, 0x60, 64, 28, 28⟩
/-- CLASSTAB.MISSES.NOW (R160) -/
def CLASSTAB_MISSES_NOW : Fld := ⟨0x40, 0x64, 64, 15, 0⟩
/-- CLASSTAB.MISSES.LAST (R160) -/
def CLASSTAB_MISSES_LAST : Fld := ⟨0x40, 0x64, 64, 31, 16⟩
/-- CLASSTAB.CNT_BYTES_LO.VALUE (R160) -/
def CLASSTAB_CNT_BYTES_LO_VALUE : Fld := ⟨0x40, 0x68, 64, 31, 0⟩
/-- CLASSTAB.CNT_BYTES_HI.VALUE (R160) -/
def CLASSTAB_CNT_BYTES_HI_VALUE : Fld := ⟨0x40, 0x6c, 64, 15, 0⟩
/-- CLASSTAB.CNT_REQ_LO.VALUE (R160) -/
def CLASSTAB_CNT_REQ_LO_VALUE : Fld := ⟨0x40, 0x70, 64, 31, 0⟩
/-- CLASSTAB.CNT_REQ_HI.VALUE (R160) -/
def CLASSTAB_CNT_REQ_HI_VALUE : Fld := ⟨0x40, 0x74, 64, 15, 0⟩
/-- CLASSTAB.CNT_LAT_LO.VALUE (R160) -/
def CLASSTAB_CNT_LAT_LO_VALUE : Fld := ⟨0x40, 0x78, 64, 31, 0⟩
/-- CLASSTAB.CNT_LAT_HI.VALUE (R160) -/
def CLASSTAB_CNT_LAT_HI_VALUE : Fld := ⟨0x40, 0x7c, 64, 15, 0⟩
/-- ENGINE.EXEC_STATUS.RUNNING (R241) -/
def ENGINE_EXEC_STATUS_RUNNING : Fld := ⟨0x100, 0x40, 0, 31, 31⟩
/-- ENGINE.EXEC_STATUS.FROZEN (R241) -/
def ENGINE_EXEC_STATUS_FROZEN : Fld := ⟨0x100, 0x40, 0, 30, 30⟩
/-- ENGINE.EXEC_STATUS.HALTED (R241) -/
def ENGINE_EXEC_STATUS_HALTED : Fld := ⟨0x100, 0x40, 0, 29, 29⟩
/-- ENGINE.EXEC_STATUS.THROTTLED (R241) -/
def ENGINE_EXEC_STATUS_THROTTLED : Fld := ⟨0x100, 0x40, 0, 28, 28⟩
/-- ENGINE.EXEC_STATUS.POINT (R241) -/
def ENGINE_EXEC_STATUS_POINT : Fld := ⟨0x100, 0x40, 0, 25, 24⟩
/-- ENGINE.EXEC_STATUS.SLOT (R241) -/
def ENGINE_EXEC_STATUS_SLOT : Fld := ⟨0x100, 0x40, 0, 19, 16⟩
/-- ENGINE.EXEC_STATUS.PC (R241) -/
def ENGINE_EXEC_STATUS_PC : Fld := ⟨0x100, 0x40, 0, 11, 0⟩
/-- ENGINE.FAULT.VALID (R241) -/
def ENGINE_FAULT_VALID : Fld := ⟨0x100, 0x44, 0, 31, 31⟩
/-- ENGINE.FAULT.SLOT (R241) -/
def ENGINE_FAULT_SLOT : Fld := ⟨0x100, 0x44, 0, 27, 24⟩
/-- ENGINE.FAULT.CODE (R241) -/
def ENGINE_FAULT_CODE : Fld := ⟨0x100, 0x44, 0, 20, 16⟩
/-- ENGINE.FAULT.PC (R241) -/
def ENGINE_FAULT_PC : Fld := ⟨0x100, 0x44, 0, 11, 0⟩
/-- ENGINE.FAULT_ADDR_LO.ADDR (R241) -/
def ENGINE_FAULT_ADDR_LO_ADDR : Fld := ⟨0x100, 0x48, 0, 31, 0⟩
/-- ENGINE.FAULT_ADDR_HI.ADDR (R241) -/
def ENGINE_FAULT_ADDR_HI_ADDR : Fld := ⟨0x100, 0x4c, 0, 12, 0⟩
/-- ENGINE.FP_CTL.ROUND (R241) -/
def ENGINE_FP_CTL_ROUND : Fld := ⟨0x100, 0x50, 0, 1, 0⟩
/-- ENGINE.FCACHE_CTL.INVALIDATE (R241) -/
def ENGINE_FCACHE_CTL_INVALIDATE : Fld := ⟨0x100, 0x54, 0, 0, 0⟩
/-- ENGINE.FCACHE_STATUS.ENTRIES (R241) -/
def ENGINE_FCACHE_STATUS_ENTRIES : Fld := ⟨0x100, 0x58, 0, 8, 0⟩
/-- ENGINE.FCACHE_STATUS.LOCAL (R241) -/
def ENGINE_FCACHE_STATUS_LOCAL : Fld := ⟨0x100, 0x58, 0, 24, 16⟩
/-- ENGINE.DEBUG_CTL.HALT (R241) -/
def ENGINE_DEBUG_CTL_HALT : Fld := ⟨0x100, 0x5c, 0, 0, 0⟩
/-- ENGINE.DEBUG_CTL.STEP (R241) -/
def ENGINE_DEBUG_CTL_STEP : Fld := ⟨0x100, 0x5c, 0, 1, 1⟩
/-- ENGINE.DEBUG_CTL.BP_EN (R241) -/
def ENGINE_DEBUG_CTL_BP_EN : Fld := ⟨0x100, 0x5c, 0, 8, 8⟩
/-- ENGINE.DEBUG_CTL.BP_PC (R241) -/
def ENGINE_DEBUG_CTL_BP_PC : Fld := ⟨0x100, 0x5c, 0, 27, 16⟩
/-- ENGINE.DBG_SEL.REG (R241) -/
def ENGINE_DBG_SEL_REG : Fld := ⟨0x100, 0x60, 0, 5, 0⟩
/-- ENGINE.DBG_SEL.WORD (R241) -/
def ENGINE_DBG_SEL_WORD : Fld := ⟨0x100, 0x60, 0, 11, 8⟩
/-- ENGINE.DBG_DATA.DATA (R241) -/
def ENGINE_DBG_DATA_DATA : Fld := ⟨0x100, 0x64, 0, 31, 0⟩
/-- ENGINE.CNT_STEPS.VALUE (R240) -/
def ENGINE_CNT_STEPS_VALUE : Fld := ⟨0x100, 0x80, 0, 31, 0⟩
/-- ENGINE.CNT_CYCLES.VALUE (R240) -/
def ENGINE_CNT_CYCLES_VALUE : Fld := ⟨0x100, 0x84, 0, 31, 0⟩
/-- ENGINE.CNT_STALL.VALUE (R240) -/
def ENGINE_CNT_STALL_VALUE : Fld := ⟨0x100, 0x88, 0, 31, 0⟩
/-- ENGINE.CNT_FC_HIT.VALUE (R240) -/
def ENGINE_CNT_FC_HIT_VALUE : Fld := ⟨0x100, 0x8c, 0, 31, 0⟩
/-- ENGINE.CNT_FC_MISS.VALUE (R240) -/
def ENGINE_CNT_FC_MISS_VALUE : Fld := ⟨0x100, 0x90, 0, 31, 0⟩
/-- ENGINE.CNT_LINES_LOCAL.VALUE (R240) -/
def ENGINE_CNT_LINES_LOCAL_VALUE : Fld := ⟨0x100, 0x94, 0, 31, 0⟩
/-- ENGINE.CNT_LINES_REMOTE.VALUE (R240) -/
def ENGINE_CNT_LINES_REMOTE_VALUE : Fld := ⟨0x100, 0x98, 0, 31, 0⟩
/-- ENGINE.CNT_POISON.VALUE (R240) -/
def ENGINE_CNT_POISON_VALUE : Fld := ⟨0x100, 0x9c, 0, 31, 0⟩
/-- ENGINE.CNT_SHOOTDOWN.VALUE (R240) -/
def ENGINE_CNT_SHOOTDOWN_VALUE : Fld := ⟨0x100, 0xa0, 0, 31, 0⟩
/-- ENGINE.CNT_FAULT.VALUE (R240) -/
def ENGINE_CNT_FAULT_VALUE : Fld := ⟨0x100, 0xa4, 0, 31, 0⟩
/-- ENGINE.JOBQ.QUEUED (R268) -/
def ENGINE_JOBQ_QUEUED : Fld := ⟨0x100, 0x100, 0, 2, 0⟩
/-- ENGINE.JOBQ.RING (R268) -/
def ENGINE_JOBQ_RING : Fld := ⟨0x100, 0x100, 0, 21, 16⟩
/-- ENGINE.RUN_ID.JOB_ID (R268) -/
def ENGINE_RUN_ID_JOB_ID : Fld := ⟨0x100, 0x104, 0, 23, 0⟩
/-- ENGINE.JOB_TIME.US (R268) -/
def ENGINE_JOB_TIME_US : Fld := ⟨0x100, 0x108, 0, 25, 0⟩
/-- ENGINE.JOB_CTL.ABORT (R268) -/
def ENGINE_JOB_CTL_ABORT : Fld := ⟨0x100, 0x10c, 0, 0, 0⟩
/-- ENGINE.JOB_CTL.DRAIN (R268) -/
def ENGINE_JOB_CTL_DRAIN : Fld := ⟨0x100, 0x10c, 0, 1, 1⟩
/-- ENGINE.SLOT_ACTIVE.HALF (R268) -/
def ENGINE_SLOT_ACTIVE_HALF : Fld := ⟨0x100, 0x110, 0, 15, 0⟩
/-- ENGINE.SLOT_FLIP.FLIP (R268) -/
def ENGINE_SLOT_FLIP_FLIP : Fld := ⟨0x100, 0x114, 0, 15, 0⟩
/-- ENGINE.SLOT_OLD.BUSY (R268) -/
def ENGINE_SLOT_OLD_BUSY : Fld := ⟨0x100, 0x118, 0, 15, 0⟩
/-- ENGINE.CNT_STORE_REJECT.VALUE (R267) -/
def ENGINE_CNT_STORE_REJECT_VALUE : Fld := ⟨0x100, 0x120, 0, 31, 0⟩
/-- ENGINE.SLOTs_A.BASE (R268) -/
def ENGINE_SLOTs_A_BASE : Fld := ⟨0x100, 0x140, 8, 11, 0⟩
/-- ENGINE.SLOTs_A.LEN (R268) -/
def ENGINE_SLOTs_A_LEN : Fld := ⟨0x100, 0x140, 8, 28, 16⟩
/-- ENGINE.SLOTs_A.VALID (R268) -/
def ENGINE_SLOTs_A_VALID : Fld := ⟨0x100, 0x140, 8, 31, 31⟩
/-- ENGINE.SLOTs_B.BASE (R268) -/
def ENGINE_SLOTs_B_BASE : Fld := ⟨0x100, 0x144, 8, 11, 0⟩
/-- ENGINE.SLOTs_B.LEN (R268) -/
def ENGINE_SLOTs_B_LEN : Fld := ⟨0x100, 0x144, 8, 28, 16⟩
/-- ENGINE.SLOTs_B.VALID (R268) -/
def ENGINE_SLOTs_B_VALID : Fld := ⟨0x100, 0x144, 8, 31, 31⟩
/-- SHAFT.STATUS.POINT (R188) -/
def SHAFT_STATUS_POINT : Fld := ⟨0x200, 0x40, 0, 1, 0⟩
/-- SHAFT.STATUS.ACTIVE_SET (R188) -/
def SHAFT_STATUS_ACTIVE_SET : Fld := ⟨0x200, 0x40, 0, 2, 2⟩
/-- SHAFT.STATUS.PARKED (R188) -/
def SHAFT_STATUS_PARKED : Fld := ⟨0x200, 0x40, 0, 3, 3⟩
/-- SHAFT.STATUS.SELF_REFRESH (R188) -/
def SHAFT_STATUS_SELF_REFRESH : Fld := ⟨0x200, 0x40, 0, 4, 4⟩
/-- SHAFT.STATUS.FREQ_BUSY (R188) -/
def SHAFT_STATUS_FREQ_BUSY : Fld := ⟨0x200, 0x40, 0, 5, 5⟩
/-- SHAFT.STATUS.REF_RATE (R188) -/
def SHAFT_STATUS_REF_RATE : Fld := ⟨0x200, 0x40, 0, 7, 6⟩
/-- SHAFT.STATUS.TEMP_STALE (R188) -/
def SHAFT_STATUS_TEMP_STALE : Fld := ⟨0x200, 0x40, 0, 8, 8⟩
/-- SHAFT.STATUS.CEILING (R188) -/
def SHAFT_STATUS_CEILING : Fld := ⟨0x200, 0x40, 0, 10, 9⟩
/-- SHAFT.SCHED_CTL.ROW_HIT_MAX (R188) -/
def SHAFT_SCHED_CTL_ROW_HIT_MAX : Fld := ⟨0x200, 0x44, 0, 4, 0⟩
/-- SHAFT.SCHED_CTL.ROW_IDLE (R188) -/
def SHAFT_SCHED_CTL_ROW_IDLE : Fld := ⟨0x200, 0x44, 0, 15, 8⟩
/-- SHAFT.SCHED_CTL.WR_HIGH (R188) -/
def SHAFT_SCHED_CTL_WR_HIGH : Fld := ⟨0x200, 0x44, 0, 21, 16⟩
/-- SHAFT.SCHED_CTL.WR_LOW (R188) -/
def SHAFT_SCHED_CTL_WR_LOW : Fld := ⟨0x200, 0x44, 0, 29, 24⟩
/-- SHAFT.REF_CTL.ALL_BANK (R188) -/
def SHAFT_REF_CTL_ALL_BANK : Fld := ⟨0x200, 0x48, 0, 0, 0⟩
/-- SHAFT.REF_CTL.MIN_RATE (R188) -/
def SHAFT_REF_CTL_MIN_RATE : Fld := ⟨0x200, 0x48, 0, 2, 1⟩
/-- SHAFT.REF_STATUS.TEMP (R188) -/
def SHAFT_REF_STATUS_TEMP : Fld := ⟨0x200, 0x4c, 0, 7, 0⟩
/-- SHAFT.REF_STATUS.RATE (R188) -/
def SHAFT_REF_STATUS_RATE : Fld := ⟨0x200, 0x4c, 0, 9, 8⟩
/-- SHAFT.REF_STATUS.RFM_PENDING (R188) -/
def SHAFT_REF_STATUS_RFM_PENDING : Fld := ⟨0x200, 0x4c, 0, 23, 16⟩
/-- SHAFT.RDT_CTL.THRESH (R188) -/
def SHAFT_RDT_CTL_THRESH : Fld := ⟨0x200, 0x50, 0, 14, 0⟩
/-- SHAFT.PARK_CTL.PARK (R188) -/
def SHAFT_PARK_CTL_PARK : Fld := ⟨0x200, 0x54, 0, 0, 0⟩
/-- SHAFT.PARK_CTL.WAKE (R188) -/
def SHAFT_PARK_CTL_WAKE : Fld := ⟨0x200, 0x54, 0, 1, 1⟩
/-- SHAFT.PARK_CTL.AUTO (R188) -/
def SHAFT_PARK_CTL_AUTO : Fld := ⟨0x200, 0x54, 0, 8, 8⟩
/-- SHAFT.PARK_CTL.IDLE_US (R188) -/
def SHAFT_PARK_CTL_IDLE_US : Fld := ⟨0x200, 0x54, 0, 31, 16⟩
/-- SHAFT.FREQ_CTL.GO (R188) -/
def SHAFT_FREQ_CTL_GO : Fld := ⟨0x200, 0x58, 0, 0, 0⟩
/-- SHAFT.FREQ_CTL.USE_DEFAULT (R188) -/
def SHAFT_FREQ_CTL_USE_DEFAULT : Fld := ⟨0x200, 0x58, 0, 1, 1⟩
/-- SHAFT.FREQ_CTL.POINT (R188) -/
def SHAFT_FREQ_CTL_POINT : Fld := ⟨0x200, 0x58, 0, 5, 4⟩
/-- SHAFT.FREQ_STATUS.BUSY (R188) -/
def SHAFT_FREQ_STATUS_BUSY : Fld := ⟨0x200, 0x5c, 0, 31, 31⟩
/-- SHAFT.FREQ_STATUS.RESULT (R188) -/
def SHAFT_FREQ_STATUS_RESULT : Fld := ⟨0x200, 0x5c, 0, 30, 28⟩
/-- SHAFT.FREQ_STATUS.BY (R188) -/
def SHAFT_FREQ_STATUS_BY : Fld := ⟨0x200, 0x5c, 0, 27, 26⟩
/-- SHAFT.FREQ_STATUS.LAST_NS (R188) -/
def SHAFT_FREQ_STATUS_LAST_NS : Fld := ⟨0x200, 0x5c, 0, 15, 0⟩
/-- SHAFT.ALERT_STATUS.LAST_CAUSE (R188) -/
def SHAFT_ALERT_STATUS_LAST_CAUSE : Fld := ⟨0x200, 0x60, 0, 1, 0⟩
/-- SHAFT.ALERT_STATUS.CONSEC (R188) -/
def SHAFT_ALERT_STATUS_CONSEC : Fld := ⟨0x200, 0x60, 0, 5, 4⟩
/-- SHAFT.CNT_ACT.VALUE (R187) -/
def SHAFT_CNT_ACT_VALUE : Fld := ⟨0x200, 0x80, 0, 31, 0⟩
/-- SHAFT.CNT_RD.VALUE (R187) -/
def SHAFT_CNT_RD_VALUE : Fld := ⟨0x200, 0x84, 0, 31, 0⟩
/-- SHAFT.CNT_WR.VALUE (R187) -/
def SHAFT_CNT_WR_VALUE : Fld := ⟨0x200, 0x88, 0, 31, 0⟩
/-- SHAFT.CNT_ATOM.VALUE (R187) -/
def SHAFT_CNT_ATOM_VALUE : Fld := ⟨0x200, 0x8c, 0, 31, 0⟩
/-- SHAFT.CNT_REF.VALUE (R187) -/
def SHAFT_CNT_REF_VALUE : Fld := ⟨0x200, 0x90, 0, 31, 0⟩
/-- SHAFT.CNT_RFM.VALUE (R187) -/
def SHAFT_CNT_RFM_VALUE : Fld := ⟨0x200, 0x94, 0, 31, 0⟩
/-- SHAFT.CNT_RFM_FORCED.VALUE (R187) -/
def SHAFT_CNT_RFM_FORCED_VALUE : Fld := ⟨0x200, 0x98, 0, 31, 0⟩
/-- SHAFT.CNT_ALERT_CA.VALUE (R187) -/
def SHAFT_CNT_ALERT_CA_VALUE : Fld := ⟨0x200, 0x9c, 0, 31, 0⟩
/-- SHAFT.CNT_ALERT_WD.VALUE (R187) -/
def SHAFT_CNT_ALERT_WD_VALUE : Fld := ⟨0x200, 0xa0, 0, 31, 0⟩
/-- SHAFT.CNT_REPLAY.VALUE (R187) -/
def SHAFT_CNT_REPLAY_VALUE : Fld := ⟨0x200, 0xa4, 0, 31, 0⟩
/-- SHAFT.CNT_FREQ.VALUE (R187) -/
def SHAFT_CNT_FREQ_VALUE : Fld := ⟨0x200, 0xa8, 0, 31, 0⟩
/-- SHAFT.CNT_PARK.VALUE (R187) -/
def SHAFT_CNT_PARK_VALUE : Fld := ⟨0x200, 0xac, 0, 31, 0⟩
/-- SHAFT.SETA_CTL.POINT (R189) -/
def SHAFT_SETA_CTL_POINT : Fld := ⟨0x200, 0x100, 0, 1, 0⟩
/-- SHAFT.SETA_CTL.ACTIVE (R189) -/
def SHAFT_SETA_CTL_ACTIVE : Fld := ⟨0x200, 0x100, 0, 31, 31⟩
/-- SHAFT.SETA_ROW.TRCD (R189) -/
def SHAFT_SETA_ROW_TRCD : Fld := ⟨0x200, 0x104, 0, 7, 0⟩
/-- SHAFT.SETA_ROW.TRP (R189) -/
def SHAFT_SETA_ROW_TRP : Fld := ⟨0x200, 0x104, 0, 15, 8⟩
/-- SHAFT.SETA_ROW.TRAS (R189) -/
def SHAFT_SETA_ROW_TRAS : Fld := ⟨0x200, 0x104, 0, 23, 16⟩
/-- SHAFT.SETA_ROW.TRC (R189) -/
def SHAFT_SETA_ROW_TRC : Fld := ⟨0x200, 0x104, 0, 31, 24⟩
/-- SHAFT.SETA_WRITE.TWR (R189) -/
def SHAFT_SETA_WRITE_TWR : Fld := ⟨0x200, 0x108, 0, 7, 0⟩
/-- SHAFT.SETA_WRITE.WL (R189) -/
def SHAFT_SETA_WRITE_WL : Fld := ⟨0x200, 0x108, 0, 15, 8⟩
/-- SHAFT.SETA_WRITE.TWTR_S (R189) -/
def SHAFT_SETA_WRITE_TWTR_S : Fld := ⟨0x200, 0x108, 0, 23, 16⟩
/-- SHAFT.SETA_WRITE.TWTR_L (R189) -/
def SHAFT_SETA_WRITE_TWTR_L : Fld := ⟨0x200, 0x108, 0, 31, 24⟩
/-- SHAFT.SETA_READ.RL (R189) -/
def SHAFT_SETA_READ_RL : Fld := ⟨0x200, 0x10c, 0, 7, 0⟩
/-- SHAFT.SETA_READ.TRTW (R189) -/
def SHAFT_SETA_READ_TRTW : Fld := ⟨0x200, 0x10c, 0, 15, 8⟩
/-- SHAFT.SETA_READ.TCCD_S (R189) -/
def SHAFT_SETA_READ_TCCD_S : Fld := ⟨0x200, 0x10c, 0, 19, 16⟩
/-- SHAFT.SETA_READ.TCCD_L (R189) -/
def SHAFT_SETA_READ_TCCD_L : Fld := ⟨0x200, 0x10c, 0, 23, 20⟩
/-- SHAFT.SETA_ACT.TRRD_S (R189) -/
def SHAFT_SETA_ACT_TRRD_S : Fld := ⟨0x200, 0x110, 0, 7, 0⟩
/-- SHAFT.SETA_ACT.TRRD_L (R189) -/
def SHAFT_SETA_ACT_TRRD_L : Fld := ⟨0x200, 0x110, 0, 15, 8⟩
/-- SHAFT.SETA_ACT.TFAW (R189) -/
def SHAFT_SETA_ACT_TFAW : Fld := ⟨0x200, 0x110, 0, 23, 16⟩
/-- SHAFT.SETA_REF.TRFCPB (R189) -/
def SHAFT_SETA_REF_TRFCPB : Fld := ⟨0x200, 0x114, 0, 9, 0⟩
/-- SHAFT.SETA_REF.TRFCAB (R189) -/
def SHAFT_SETA_REF_TRFCAB : Fld := ⟨0x200, 0x114, 0, 25, 16⟩
/-- SHAFT.SETA_MISC.TRFM (R189) -/
def SHAFT_SETA_MISC_TRFM : Fld := ⟨0x200, 0x118, 0, 7, 0⟩
/-- SHAFT.SETA_MISC.TXS (R189) -/
def SHAFT_SETA_MISC_TXS : Fld := ⟨0x200, 0x118, 0, 25, 16⟩
/-- SHAFT.SETB_CTL.POINT (R189) -/
def SHAFT_SETB_CTL_POINT : Fld := ⟨0x200, 0x140, 0, 1, 0⟩
/-- SHAFT.SETB_CTL.ACTIVE (R189) -/
def SHAFT_SETB_CTL_ACTIVE : Fld := ⟨0x200, 0x140, 0, 31, 31⟩
/-- SHAFT.SETB_ROW.TRCD (R189) -/
def SHAFT_SETB_ROW_TRCD : Fld := ⟨0x200, 0x144, 0, 7, 0⟩
/-- SHAFT.SETB_ROW.TRP (R189) -/
def SHAFT_SETB_ROW_TRP : Fld := ⟨0x200, 0x144, 0, 15, 8⟩
/-- SHAFT.SETB_ROW.TRAS (R189) -/
def SHAFT_SETB_ROW_TRAS : Fld := ⟨0x200, 0x144, 0, 23, 16⟩
/-- SHAFT.SETB_ROW.TRC (R189) -/
def SHAFT_SETB_ROW_TRC : Fld := ⟨0x200, 0x144, 0, 31, 24⟩
/-- SHAFT.SETB_WRITE.TWR (R189) -/
def SHAFT_SETB_WRITE_TWR : Fld := ⟨0x200, 0x148, 0, 7, 0⟩
/-- SHAFT.SETB_WRITE.WL (R189) -/
def SHAFT_SETB_WRITE_WL : Fld := ⟨0x200, 0x148, 0, 15, 8⟩
/-- SHAFT.SETB_WRITE.TWTR_S (R189) -/
def SHAFT_SETB_WRITE_TWTR_S : Fld := ⟨0x200, 0x148, 0, 23, 16⟩
/-- SHAFT.SETB_WRITE.TWTR_L (R189) -/
def SHAFT_SETB_WRITE_TWTR_L : Fld := ⟨0x200, 0x148, 0, 31, 24⟩
/-- SHAFT.SETB_READ.RL (R189) -/
def SHAFT_SETB_READ_RL : Fld := ⟨0x200, 0x14c, 0, 7, 0⟩
/-- SHAFT.SETB_READ.TRTW (R189) -/
def SHAFT_SETB_READ_TRTW : Fld := ⟨0x200, 0x14c, 0, 15, 8⟩
/-- SHAFT.SETB_READ.TCCD_S (R189) -/
def SHAFT_SETB_READ_TCCD_S : Fld := ⟨0x200, 0x14c, 0, 19, 16⟩
/-- SHAFT.SETB_READ.TCCD_L (R189) -/
def SHAFT_SETB_READ_TCCD_L : Fld := ⟨0x200, 0x14c, 0, 23, 20⟩
/-- SHAFT.SETB_ACT.TRRD_S (R189) -/
def SHAFT_SETB_ACT_TRRD_S : Fld := ⟨0x200, 0x150, 0, 7, 0⟩
/-- SHAFT.SETB_ACT.TRRD_L (R189) -/
def SHAFT_SETB_ACT_TRRD_L : Fld := ⟨0x200, 0x150, 0, 15, 8⟩
/-- SHAFT.SETB_ACT.TFAW (R189) -/
def SHAFT_SETB_ACT_TFAW : Fld := ⟨0x200, 0x150, 0, 23, 16⟩
/-- SHAFT.SETB_REF.TRFCPB (R189) -/
def SHAFT_SETB_REF_TRFCPB : Fld := ⟨0x200, 0x154, 0, 9, 0⟩
/-- SHAFT.SETB_REF.TRFCAB (R189) -/
def SHAFT_SETB_REF_TRFCAB : Fld := ⟨0x200, 0x154, 0, 25, 16⟩
/-- SHAFT.SETB_MISC.TRFM (R189) -/
def SHAFT_SETB_MISC_TRFM : Fld := ⟨0x200, 0x158, 0, 7, 0⟩
/-- SHAFT.SETB_MISC.TXS (R189) -/
def SHAFT_SETB_MISC_TXS : Fld := ⟨0x200, 0x158, 0, 25, 16⟩
/-- SHAFT.TRAIN_CTL.START (R210) -/
def SHAFT_TRAIN_CTL_START : Fld := ⟨0x200, 0x200, 0, 0, 0⟩
/-- SHAFT.TRAIN_CTL.ABORT (R210) -/
def SHAFT_TRAIN_CTL_ABORT : Fld := ⟨0x200, 0x200, 0, 1, 1⟩
/-- SHAFT.TRAIN_CTL.STEP (R210) -/
def SHAFT_TRAIN_CTL_STEP : Fld := ⟨0x200, 0x200, 0, 7, 4⟩
/-- SHAFT.TRAIN_STATUS.BUSY (R210) -/
def SHAFT_TRAIN_STATUS_BUSY : Fld := ⟨0x200, 0x204, 0, 31, 31⟩
/-- SHAFT.TRAIN_STATUS.DONE (R210) -/
def SHAFT_TRAIN_STATUS_DONE : Fld := ⟨0x200, 0x204, 0, 30, 30⟩
/-- SHAFT.TRAIN_STATUS.RESULT (R210) -/
def SHAFT_TRAIN_STATUS_RESULT : Fld := ⟨0x200, 0x204, 0, 29, 28⟩
/-- SHAFT.TRAIN_STATUS.REASON (R210) -/
def SHAFT_TRAIN_STATUS_REASON : Fld := ⟨0x200, 0x204, 0, 27, 24⟩
/-- SHAFT.TRAIN_STATUS.LANE (R210) -/
def SHAFT_TRAIN_STATUS_LANE : Fld := ⟨0x200, 0x204, 0, 11, 8⟩
/-- SHAFT.TRAIN_STATUS.STEP (R210) -/
def SHAFT_TRAIN_STATUS_STEP : Fld := ⟨0x200, 0x204, 0, 7, 4⟩
/-- SHAFT.RETRAIN_CTL.EN (R210) -/
def SHAFT_RETRAIN_CTL_EN : Fld := ⟨0x200, 0x208, 0, 0, 0⟩
/-- SHAFT.RETRAIN_CTL.DRIFT_LIMIT (R210) -/
def SHAFT_RETRAIN_CTL_DRIFT_LIMIT : Fld := ⟨0x200, 0x208, 0, 7, 4⟩
/-- SHAFT.RETRAIN_CTL.MIN_WIDTH (R210) -/
def SHAFT_RETRAIN_CTL_MIN_WIDTH : Fld := ⟨0x200, 0x208, 0, 13, 8⟩
/-- SHAFT.RETRAIN_CTL.PERIOD_MS (R210) -/
def SHAFT_RETRAIN_CTL_PERIOD_MS : Fld := ⟨0x200, 0x208, 0, 25, 16⟩
/-- SHAFT.RETRAIN_CTL.GAP_WAIT_MS (R210) -/
def SHAFT_RETRAIN_CTL_GAP_WAIT_MS : Fld := ⟨0x200, 0x208, 0, 31, 28⟩
/-- SHAFT.RETRAIN_STATUS.LANE (R210) -/
def SHAFT_RETRAIN_STATUS_LANE : Fld := ⟨0x200, 0x20c, 0, 3, 0⟩
/-- SHAFT.RETRAIN_STATUS.QTY (R210) -/
def SHAFT_RETRAIN_STATUS_QTY : Fld := ⟨0x200, 0x20c, 0, 6, 4⟩
/-- SHAFT.RETRAIN_STATUS.MOVE (R210) -/
def SHAFT_RETRAIN_STATUS_MOVE : Fld := ⟨0x200, 0x20c, 0, 9, 8⟩
/-- SHAFT.RETRAIN_STATUS.REASON (R210) -/
def SHAFT_RETRAIN_STATUS_REASON : Fld := ⟨0x200, 0x20c, 0, 15, 12⟩
/-- SHAFT.RETRAIN_STATUS.SKIPPED (R210) -/
def SHAFT_RETRAIN_STATUS_SKIPPED : Fld := ⟨0x200, 0x20c, 0, 31, 16⟩
/-- SHAFT.CAL_COUNT.COUNT (R210) -/
def SHAFT_CAL_COUNT_COUNT : Fld := ⟨0x200, 0x210, 0, 31, 0⟩
/-- SHAFT.CAL_TIME.HOURS (R210) -/
def SHAFT_CAL_TIME_HOURS : Fld := ⟨0x200, 0x214, 0, 31, 12⟩
/-- SHAFT.CAL_TIME.SEC (R210) -/
def SHAFT_CAL_TIME_SEC : Fld := ⟨0x200, 0x214, 0, 11, 0⟩
/-- SHAFT.IMP_CODE.PU (R210) -/
def SHAFT_IMP_CODE_PU : Fld := ⟨0x200, 0x218, 0, 4, 0⟩
/-- SHAFT.IMP_CODE.PD (R210) -/
def SHAFT_IMP_CODE_PD : Fld := ⟨0x200, 0x218, 0, 12, 8⟩
/-- SHAFT.IMP_CODE.ODT (R210) -/
def SHAFT_IMP_CODE_ODT : Fld := ⟨0x200, 0x218, 0, 20, 16⟩
/-- SHAFT.CALSEL.INDEX (R210) -/
def SHAFT_CALSEL_INDEX : Fld := ⟨0x200, 0x21c, 0, 6, 0⟩
/-- SHAFT.CALSEL.POINT (R210) -/
def SHAFT_CALSEL_POINT : Fld := ⟨0x200, 0x21c, 0, 9, 8⟩
/-- SHAFT.BITDLY.RX (R210) -/
def SHAFT_BITDLY_RX : Fld := ⟨0x200, 0x220, 0, 6, 0⟩
/-- SHAFT.BITDLY.TX (R210) -/
def SHAFT_BITDLY_TX : Fld := ⟨0x200, 0x220, 0, 14, 8⟩
/-- SHAFT.HELPER_CTL.START (R210) -/
def SHAFT_HELPER_CTL_START : Fld := ⟨0x200, 0x224, 0, 0, 0⟩
/-- SHAFT.HELPER_CTL.PATTERN (R210) -/
def SHAFT_HELPER_CTL_PATTERN : Fld := ⟨0x200, 0x224, 0, 6, 4⟩
/-- SHAFT.HELPER_CTL.TARGET (R210) -/
def SHAFT_HELPER_CTL_TARGET : Fld := ⟨0x200, 0x224, 0, 8, 8⟩
/-- SHAFT.HELPER_CTL.BURSTS (R210) -/
def SHAFT_HELPER_CTL_BURSTS : Fld := ⟨0x200, 0x224, 0, 31, 16⟩
/-- SHAFT.HELPER_SEED.SEED (R210) -/
def SHAFT_HELPER_SEED_SEED : Fld := ⟨0x200, 0x228, 0, 22, 0⟩
/-- SHAFT.HELPER_STATUS.DONE (R210) -/
def SHAFT_HELPER_STATUS_DONE : Fld := ⟨0x200, 0x22c, 0, 31, 31⟩
/-- SHAFT.HELPER_STATUS.REASON (R210) -/
def SHAFT_HELPER_STATUS_REASON : Fld := ⟨0x200, 0x22c, 0, 27, 24⟩
/-- SHAFT.HELPER_STATUS.ERRORS (R210) -/
def SHAFT_HELPER_STATUS_ERRORS : Fld := ⟨0x200, 0x22c, 0, 15, 0⟩
/-- SHAFT.HELPER_FAILx.MASK (R210) -/
def SHAFT_HELPER_FAILx_MASK : Fld := ⟨0x200, 0x230, 4, 31, 0⟩
/-- SHAFT.BYTEb_TAP.RD_STROBE (R210) -/
def SHAFT_BYTEb_TAP_RD_STROBE : Fld := ⟨0x200, 0x240, 4, 7, 0⟩
/-- SHAFT.BYTEb_TAP.WR_STROBE (R210) -/
def SHAFT_BYTEb_TAP_WR_STROBE : Fld := ⟨0x200, 0x240, 4, 15, 8⟩
/-- SHAFT.BYTEb_TAP.RD_VREF (R210) -/
def SHAFT_BYTEb_TAP_RD_VREF : Fld := ⟨0x200, 0x240, 4, 21, 16⟩
/-- SHAFT.BYTEb_TAP.WR_VREF (R210) -/
def SHAFT_BYTEb_TAP_WR_VREF : Fld := ⟨0x200, 0x240, 4, 29, 24⟩
/-- SHAFT.BYTEb_MARGIN.RD_WIDTH (R210) -/
def SHAFT_BYTEb_MARGIN_RD_WIDTH : Fld := ⟨0x200, 0x270, 4, 7, 0⟩
/-- SHAFT.BYTEb_MARGIN.WR_WIDTH (R210) -/
def SHAFT_BYTEb_MARGIN_WR_WIDTH : Fld := ⟨0x200, 0x270, 4, 15, 8⟩
/-- SHAFT.BYTEb_MARGIN.RD_VWIDTH (R210) -/
def SHAFT_BYTEb_MARGIN_RD_VWIDTH : Fld := ⟨0x200, 0x270, 4, 21, 16⟩
/-- SHAFT.BYTEb_MARGIN.WR_VWIDTH (R210) -/
def SHAFT_BYTEb_MARGIN_WR_VWIDTH : Fld := ⟨0x200, 0x270, 4, 29, 24⟩
/-- SHAFT.SCRUB_CTL.EN (R292) -/
def SHAFT_SCRUB_CTL_EN : Fld := ⟨0x200, 0x300, 0, 0, 0⟩
/-- SHAFT.SCRUB_CTL.WB_DIRTY (R292) -/
def SHAFT_SCRUB_CTL_WB_DIRTY : Fld := ⟨0x200, 0x300, 0, 1, 1⟩
/-- SHAFT.SCRUB_CTL.PERIOD_H (R292) -/
def SHAFT_SCRUB_CTL_PERIOD_H : Fld := ⟨0x200, 0x300, 0, 15, 8⟩
/-- SHAFT.SCRUB_STATUS.PASSES (R292) -/
def SHAFT_SCRUB_STATUS_PASSES : Fld := ⟨0x200, 0x304, 0, 15, 0⟩
/-- SHAFT.SCRUB_STATUS.ACTIVE (R292) -/
def SHAFT_SCRUB_STATUS_ACTIVE : Fld := ⟨0x200, 0x304, 0, 31, 31⟩
/-- SHAFT.SCRUB_POS.BANK (R292) -/
def SHAFT_SCRUB_POS_BANK : Fld := ⟨0x200, 0x308, 0, 21, 17⟩
/-- SHAFT.SCRUB_POS.ROW (R292) -/
def SHAFT_SCRUB_POS_ROW : Fld := ⟨0x200, 0x308, 0, 16, 0⟩
/-- SHAFT.TRACK_CTL.REWRITE_AT (R292) -/
def SHAFT_TRACK_CTL_REWRITE_AT : Fld := ⟨0x200, 0x30c, 0, 3, 0⟩
/-- SHAFT.TRACK_CTL.WEAK_AT (R292) -/
def SHAFT_TRACK_CTL_WEAK_AT : Fld := ⟨0x200, 0x30c, 0, 7, 4⟩
/-- SHAFT.TRACK_CTL.COL_ROWS (R292) -/
def SHAFT_TRACK_CTL_COL_ROWS : Fld := ⟨0x200, 0x30c, 0, 15, 8⟩
/-- SHAFT.TRACK_CTL.AUTO_REPAIR (R292) -/
def SHAFT_TRACK_CTL_AUTO_REPAIR : Fld := ⟨0x200, 0x30c, 0, 16, 16⟩
/-- SHAFT.TRACK_STATUS.ENTRIES (R292) -/
def SHAFT_TRACK_STATUS_ENTRIES : Fld := ⟨0x200, 0x310, 0, 7, 0⟩
/-- SHAFT.TRACK_STATUS.WEAK (R292) -/
def SHAFT_TRACK_STATUS_WEAK : Fld := ⟨0x200, 0x310, 0, 15, 8⟩
/-- SHAFT.TRACK_IDX.IDX (R292) -/
def SHAFT_TRACK_IDX_IDX : Fld := ⟨0x200, 0x314, 0, 6, 0⟩
/-- SHAFT.TRACK_ENTRY.VALID (R292) -/
def SHAFT_TRACK_ENTRY_VALID : Fld := ⟨0x200, 0x318, 0, 31, 31⟩
/-- SHAFT.TRACK_ENTRY.STATE (R292) -/
def SHAFT_TRACK_ENTRY_STATE : Fld := ⟨0x200, 0x318, 0, 30, 29⟩
/-- SHAFT.TRACK_ENTRY.COUNT (R292) -/
def SHAFT_TRACK_ENTRY_COUNT : Fld := ⟨0x200, 0x318, 0, 25, 22⟩
/-- SHAFT.TRACK_ENTRY.BANK (R292) -/
def SHAFT_TRACK_ENTRY_BANK : Fld := ⟨0x200, 0x318, 0, 21, 17⟩
/-- SHAFT.TRACK_ENTRY.ROW (R292) -/
def SHAFT_TRACK_ENTRY_ROW : Fld := ⟨0x200, 0x318, 0, 16, 0⟩
/-- SHAFT.POISON_STATUS.ENTRIES (R292) -/
def SHAFT_POISON_STATUS_ENTRIES : Fld := ⟨0x200, 0x31c, 0, 8, 0⟩
/-- SHAFT.POISON_STATUS.UNLISTED (R292) -/
def SHAFT_POISON_STATUS_UNLISTED : Fld := ⟨0x200, 0x31c, 0, 31, 16⟩
/-- SHAFT.POISON_IDX.IDX (R292) -/
def SHAFT_POISON_IDX_IDX : Fld := ⟨0x200, 0x320, 0, 7, 0⟩
/-- SHAFT.POISON_LINE.VALID (R292) -/
def SHAFT_POISON_LINE_VALID : Fld := ⟨0x200, 0x324, 0, 31, 31⟩
/-- SHAFT.POISON_LINE.LINE (R292) -/
def SHAFT_POISON_LINE_LINE : Fld := ⟨0x200, 0x324, 0, 26, 0⟩
/-- SHAFT.REPAIR_CTL.TARGET (R292) -/
def SHAFT_REPAIR_CTL_TARGET : Fld := ⟨0x200, 0x328, 0, 16, 0⟩
/-- SHAFT.REPAIR_CTL.BANK (R292) -/
def SHAFT_REPAIR_CTL_BANK : Fld := ⟨0x200, 0x328, 0, 21, 17⟩
/-- SHAFT.REPAIR_CTL.KIND (R292) -/
def SHAFT_REPAIR_CTL_KIND : Fld := ⟨0x200, 0x328, 0, 24, 24⟩
/-- SHAFT.REPAIR_CTL.GO (R292) -/
def SHAFT_REPAIR_CTL_GO : Fld := ⟨0x200, 0x328, 0, 31, 31⟩
/-- SHAFT.REPAIR_STATUS.BUSY (R292) -/
def SHAFT_REPAIR_STATUS_BUSY : Fld := ⟨0x200, 0x32c, 0, 31, 31⟩
/-- SHAFT.REPAIR_STATUS.RESULT (R292) -/
def SHAFT_REPAIR_STATUS_RESULT : Fld := ⟨0x200, 0x32c, 0, 30, 28⟩
/-- SHAFT.REPAIR_STATUS.REASON (R292) -/
def SHAFT_REPAIR_STATUS_REASON : Fld := ⟨0x200, 0x32c, 0, 27, 24⟩
/-- SHAFT.REPAIR_STATUS.SPARE (R292) -/
def SHAFT_REPAIR_STATUS_SPARE : Fld := ⟨0x200, 0x32c, 0, 21, 16⟩
/-- SHAFT.COL_SUSPECT.VALID (R292) -/
def SHAFT_COL_SUSPECT_VALID : Fld := ⟨0x200, 0x330, 0, 31, 31⟩
/-- SHAFT.COL_SUSPECT.ROWS (R292) -/
def SHAFT_COL_SUSPECT_ROWS : Fld := ⟨0x200, 0x330, 0, 23, 16⟩
/-- SHAFT.COL_SUSPECT.BANK (R292) -/
def SHAFT_COL_SUSPECT_BANK : Fld := ⟨0x200, 0x330, 0, 12, 8⟩
/-- SHAFT.COL_SUSPECT.COLUMN (R292) -/
def SHAFT_COL_SUSPECT_COLUMN : Fld := ⟨0x200, 0x330, 0, 4, 0⟩
/-- SHAFT.CNT_CORR.VALUE (R291) -/
def SHAFT_CNT_CORR_VALUE : Fld := ⟨0x200, 0x340, 0, 31, 0⟩
/-- SHAFT.CNT_UNCORR.VALUE (R291) -/
def SHAFT_CNT_UNCORR_VALUE : Fld := ⟨0x200, 0x344, 0, 31, 0⟩
/-- SHAFT.CNT_PARITY_RD.VALUE (R291) -/
def SHAFT_CNT_PARITY_RD_VALUE : Fld := ⟨0x200, 0x348, 0, 31, 0⟩
/-- SHAFT.CNT_REREAD_OK.VALUE (R291) -/
def SHAFT_CNT_REREAD_OK_VALUE : Fld := ⟨0x200, 0x34c, 0, 31, 0⟩
/-- SHAFT.CNT_RESENSE_OK.VALUE (R291) -/
def SHAFT_CNT_RESENSE_OK_VALUE : Fld := ⟨0x200, 0x350, 0, 31, 0⟩
/-- SHAFT.CNT_FAR_FIX.VALUE (R291) -/
def SHAFT_CNT_FAR_FIX_VALUE : Fld := ⟨0x200, 0x354, 0, 31, 0⟩
/-- SHAFT.CNT_PAIR_FIX.VALUE (R291) -/
def SHAFT_CNT_PAIR_FIX_VALUE : Fld := ⟨0x200, 0x358, 0, 31, 0⟩
/-- SHAFT.CNT_POISONED.VALUE (R291) -/
def SHAFT_CNT_POISONED_VALUE : Fld := ⟨0x200, 0x35c, 0, 31, 0⟩
/-- SHAFT.CNT_SCRUB_WB.VALUE (R291) -/
def SHAFT_CNT_SCRUB_WB_VALUE : Fld := ⟨0x200, 0x360, 0, 31, 0⟩
/-- SHAFT.CNT_ROW_REPAIR.VALUE (R291) -/
def SHAFT_CNT_ROW_REPAIR_VALUE : Fld := ⟨0x200, 0x364, 0, 31, 0⟩
/-- SHAFT.CNT_COL_REPAIR.VALUE (R291) -/
def SHAFT_CNT_COL_REPAIR_VALUE : Fld := ⟨0x200, 0x368, 0, 31, 0⟩
/-- SHAFT.CNT_TRACK_DROP.VALUE (R291) -/
def SHAFT_CNT_TRACK_DROP_VALUE : Fld := ⟨0x200, 0x36c, 0, 31, 0⟩
/-- SHAFT.CNT_PARITY_IN.VALUE (R291) -/
def SHAFT_CNT_PARITY_IN_VALUE : Fld := ⟨0x200, 0x370, 0, 31, 0⟩
/-- SHAFT.CNT_SCRUB_IGNORED.VALUE (R291) -/
def SHAFT_CNT_SCRUB_IGNORED_VALUE : Fld := ⟨0x200, 0x374, 0, 31, 0⟩
/-- DIE.IDENT.POSITION (R294) -/
def DIE_IDENT_POSITION : Fld := ⟨0x300, 0x40, 0, 3, 0⟩
/-- DIE.IDENT.REV (R294) -/
def DIE_IDENT_REV : Fld := ⟨0x300, 0x40, 0, 11, 8⟩
/-- DIE.REPAIR_SUM.ROWS_USED (R294) -/
def DIE_REPAIR_SUM_ROWS_USED : Fld := ⟨0x300, 0x44, 0, 12, 0⟩
/-- DIE.REPAIR_SUM.COLS_USED (R294) -/
def DIE_REPAIR_SUM_COLS_USED : Fld := ⟨0x300, 0x44, 0, 24, 16⟩
/-- DIE.BANK_SEL.CHANNEL (R294) -/
def DIE_BANK_SEL_CHANNEL : Fld := ⟨0x300, 0x48, 0, 1, 0⟩
/-- DIE.BANK_SEL.BANK (R294) -/
def DIE_BANK_SEL_BANK : Fld := ⟨0x300, 0x48, 0, 12, 8⟩
/-- DIE.BANK_SPARES.ROWS_FREE (R294) -/
def DIE_BANK_SPARES_ROWS_FREE : Fld := ⟨0x300, 0x4c, 0, 6, 0⟩
/-- DIE.BANK_SPARES.COLS_FREE (R294) -/
def DIE_BANK_SPARES_COLS_FREE : Fld := ⟨0x300, 0x4c, 0, 10, 8⟩
/-- DIE.CNT_CORR.VALUE (R293) -/
def DIE_CNT_CORR_VALUE : Fld := ⟨0x300, 0x50, 0, 31, 0⟩
/-- DIE.CNT_UNCORR.VALUE (R293) -/
def DIE_CNT_UNCORR_VALUE : Fld := ⟨0x300, 0x54, 0, 31, 0⟩
/-- DIE.SPARE_LOW.THRESH (R294) -/
def DIE_SPARE_LOW_THRESH : Fld := ⟨0x300, 0x58, 0, 6, 0⟩
/-- DEVICE.EVT_STATUS bit 0 -/
def EV_DEVICE_KINDLE_DONE : Nat := 0
/-- DEVICE.EVT_STATUS bit 1 -/
def EV_DEVICE_GROUND_DONE : Nat := 1
/-- DEVICE.EVT_STATUS bit 2 -/
def EV_DEVICE_BOOT_FALLBACK : Nat := 2
/-- MODES.EVT_STATUS bit 0 -/
def EV_MODES_MODE_DONE : Nat := 0
/-- MODES.EVT_STATUS bit 1 -/
def EV_MODES_REQ_REJECT : Nat := 1
/-- MODES.EVT_STATUS bit 2 -/
def EV_MODES_ENTRY_ABORTED : Nat := 2
/-- MODES.EVT_STATUS bit 3 -/
def EV_MODES_WAKE : Nat := 3
/-- MODES.EVT_STATUS bit 4 -/
def EV_MODES_EXIT_LATE : Nat := 4
/-- MODES.EVT_STATUS bit 5 -/
def EV_MODES_RETENTION_SUSPECT : Nat := 5
/-- MODES.EVT_STATUS bit 6 -/
def EV_MODES_RESTORE_FAIL : Nat := 6
/-- FUSES.EVT_STATUS bit 0 -/
def EV_FUSES_ALARM : Nat := 0
/-- FUSES.EVT_STATUS bit 1 -/
def EV_FUSES_RESENSE_DONE : Nat := 1
/-- FUSES.EVT_STATUS bit 2 -/
def EV_FUSES_RESENSE_CHANGE : Nat := 2
/-- FUSES.EVT_STATUS bit 3 -/
def EV_FUSES_BURN_DONE : Nat := 3
/-- FUSES.EVT_STATUS bit 4 -/
def EV_FUSES_BURN_FAIL : Nat := 4
/-- FUSES.EVT_STATUS bit 5 -/
def EV_FUSES_CYCLES_SAT : Nat := 5
/-- HEAT.EVT_STATUS bit 0 -/
def EV_HEAT_WARN : Nat := 0
/-- HEAT.EVT_STATUS bit 1 -/
def EV_HEAT_RATE_WARN : Nat := 1
/-- HEAT.EVT_STATUS bit 2 -/
def EV_HEAT_STEP_UP : Nat := 2
/-- HEAT.EVT_STATUS bit 3 -/
def EV_HEAT_STEP_CLEAR : Nat := 3
/-- HEAT.EVT_STATUS bit 4 -/
def EV_HEAT_TRIP : Nat := 4
/-- HEAT.EVT_STATUS bit 5 -/
def EV_HEAT_TRIP_CLEAR : Nat := 5
/-- HEAT.EVT_STATUS bit 6 -/
def EV_HEAT_SUSPECT : Nat := 6
/-- HEAT.EVT_STATUS bit 7 -/
def EV_HEAT_ROUND_LATE : Nat := 7
/-- HEAT.EVT_STATUS bit 8 -/
def EV_HEAT_DIODE_FAULT : Nat := 8
/-- CALREF.EVT_STATUS bit 0 -/
def EV_CALREF_IMP_FAIL : Nat := 0
/-- CALREF.EVT_STATUS bit 1 -/
def EV_CALREF_CONV_FAIL : Nat := 1
/-- CALREF.EVT_STATUS bit 2 -/
def EV_CALREF_WAKE_FAIL : Nat := 2
/-- CALREF.EVT_STATUS bit 3 -/
def EV_CALREF_SHAFT_MARGIN : Nat := 3
/-- CALREF.EVT_STATUS bit 4 -/
def EV_CALREF_SHAFT_REJECT : Nat := 4
/-- SELFTEST.EVT_STATUS bit 0 -/
def EV_SELFTEST_RUN_DONE : Nat := 0
/-- SELFTEST.EVT_STATUS bit 1 -/
def EV_SELFTEST_UNIT_FAILED : Nat := 1
/-- SELFTEST.EVT_STATUS bit 2 -/
def EV_SELFTEST_VIEW_FIX : Nat := 2
/-- SELFTEST.EVT_STATUS bit 3 -/
def EV_SELFTEST_REQ_REJECT : Nat := 3
/-- SELFTEST.EVT_STATUS bit 4 -/
def EV_SELFTEST_EVAC_DONE : Nat := 4
/-- CLASSES.EVT_STATUS bit 0 -/
def EV_CLASSES_WATERLINE : Nat := 0
/-- CLASSES.EVT_STATUS bit 1 -/
def EV_CLASSES_MISS : Nat := 1
/-- CLASSES.EVT_STATUS bit 2 -/
def EV_CLASSES_URG_CONFLICT : Nat := 2
/-- HAULAGE.EVT_STATUS bit 0 -/
def EV_HAULAGE_FREE_LOW : Nat := 0
/-- HAULAGE.EVT_STATUS bit 1 -/
def EV_HAULAGE_FAR_BLOCKED : Nat := 1
/-- HAULAGE.EVT_STATUS bit 2 -/
def EV_HAULAGE_MOVE_DONE : Nat := 2
/-- HAULAGE.EVT_STATUS bit 3 -/
def EV_HAULAGE_LOST_ADDED : Nat := 3
/-- HAULAGE.EVT_STATUS bit 4 -/
def EV_HAULAGE_DRAIN_DONE : Nat := 4
/-- HAULAGE.EVT_STATUS bit 5 -/
def EV_HAULAGE_EVAC_STALL : Nat := 5
/-- DISPATCH.EVT_STATUS bit 0 -/
def EV_DISPATCH_JOB_DONE : Nat := 0
/-- DISPATCH.EVT_STATUS bit 1 -/
def EV_DISPATCH_RING_ERR : Nat := 1
/-- DISPATCH.EVT_STATUS bit 2 -/
def EV_DISPATCH_COMP_LOST : Nat := 2
/-- DISPATCH.EVT_STATUS bit 3 -/
def EV_DISPATCH_REFUSED : Nat := 3
/-- DISPATCH.EVT_STATUS bit 4 -/
def EV_DISPATCH_TIMEOUT : Nat := 4
/-- PAIR.EVT_STATUS bit 0 -/
def EV_PAIR_PARTNER_DARK : Nat := 0
/-- PAIR.EVT_STATUS bit 1 -/
def EV_PAIR_PARTNER_UP : Nat := 1
/-- PAIR.EVT_STATUS bit 2 -/
def EV_PAIR_TAKEOVER : Nat := 2
/-- PAIR.EVT_STATUS bit 3 -/
def EV_PAIR_DEMOTED : Nat := 3
/-- PAIR.EVT_STATUS bit 4 -/
def EV_PAIR_MIRROR_BROKEN : Nat := 4
/-- PAIR.EVT_STATUS bit 5 -/
def EV_PAIR_LAG_STALL : Nat := 5
/-- PAIR.EVT_STATUS bit 6 -/
def EV_PAIR_MISMATCH : Nat := 6
/-- PAIR.EVT_STATUS bit 7 -/
def EV_PAIR_RESYNC_DONE : Nat := 7
/-- PAIR.EVT_STATUS bit 8 -/
def EV_PAIR_RESYNC_OVF : Nat := 8
/-- FABRIC.EVT_STATUS bit 0 -/
def EV_FABRIC_STALL : Nat := 0
/-- FABRIC.EVT_STATUS bit 1 -/
def EV_FABRIC_REG_TIMEOUT : Nat := 1
/-- FABRIC.EVT_STATUS bit 2 -/
def EV_FABRIC_COLLAR_CLOSED : Nat := 2
/-- FABRIC.EVT_STATUS bit 3 -/
def EV_FABRIC_CTRL_CORR : Nat := 3
/-- HOSTPORT.EVT_STATUS bit 0 -/
def EV_HOSTPORT_LINK_UP : Nat := 0
/-- HOSTPORT.EVT_STATUS bit 1 -/
def EV_HOSTPORT_LINK_DOWN : Nat := 1
/-- HOSTPORT.EVT_STATUS bit 2 -/
def EV_HOSTPORT_RATE_LOW : Nat := 2
/-- HOSTPORT.EVT_STATUS bit 3 -/
def EV_HOSTPORT_LANE_REPAIRED : Nat := 3
/-- HOSTPORT.EVT_STATUS bit 4 -/
def EV_HOSTPORT_REPAIR_FAIL : Nat := 4
/-- HOSTPORT.EVT_STATUS bit 5 -/
def EV_HOSTPORT_PROTOCOL_ERR : Nat := 5
/-- HOSTPORT.EVT_STATUS bit 6 -/
def EV_HOSTPORT_CREDIT_VIOL : Nat := 6
/-- HOSTPORT.EVT_STATUS bit 7 -/
def EV_HOSTPORT_CREDIT_TIMEOUT : Nat := 7
/-- HOSTPORT.EVT_STATUS bit 8 -/
def EV_HOSTPORT_PARITY_IN : Nat := 8
/-- HOSTPORT.EVT_STATUS bit 9 -/
def EV_HOSTPORT_EVT_OVF : Nat := 9
/-- FARPORT.EVT_STATUS bit 0 -/
def EV_FARPORT_LINK_UP : Nat := 0
/-- FARPORT.EVT_STATUS bit 1 -/
def EV_FARPORT_LINK_DOWN : Nat := 1
/-- FARPORT.EVT_STATUS bit 2 -/
def EV_FARPORT_DEGRADED : Nat := 2
/-- FARPORT.EVT_STATUS bit 3 -/
def EV_FARPORT_TRAIN_FAIL : Nat := 3
/-- FARPORT.EVT_STATUS bit 4 -/
def EV_FARPORT_FAILED : Nat := 4
/-- FARPORT.EVT_STATUS bit 5 -/
def EV_FARPORT_LOS : Nat := 5
/-- FARPORT.EVT_STATUS bit 6 -/
def EV_FARPORT_LOCK_LOSS : Nat := 6
/-- FARPORT.EVT_STATUS bit 7 -/
def EV_FARPORT_RS_UNCORR : Nat := 7
/-- FARPORT.EVT_STATUS bit 8 -/
def EV_FARPORT_DECODE_MISS : Nat := 8
/-- FARPORT.EVT_STATUS bit 9 -/
def EV_FARPORT_ENUM : Nat := 9
/-- FARPORT.EVT_STATUS bit 10 -/
def EV_FARPORT_SCAN_DONE : Nat := 10
/-- FARPORT.EVT_STATUS bit 11 -/
def EV_FARPORT_LOOP_DONE : Nat := 11
/-- FARPORT.EVT_STATUS bit 12 -/
def EV_FARPORT_FAR_TIMEOUT : Nat := 12
/-- ENGINE.EVT_STATUS bit 0 -/
def EV_ENGINE_FAULT : Nat := 0
/-- ENGINE.EVT_STATUS bit 1 -/
def EV_ENGINE_HALTED : Nat := 1
/-- ENGINE.EVT_STATUS bit 2 -/
def EV_ENGINE_POISON : Nat := 2
/-- ENGINE.EVT_STATUS bit 3 -/
def EV_ENGINE_LATE_ACK : Nat := 3
/-- SHAFT.EVT_STATUS bit 0 -/
def EV_SHAFT_ALERT_FENCE : Nat := 0
/-- SHAFT.EVT_STATUS bit 1 -/
def EV_SHAFT_FREQ_DONE : Nat := 1
/-- SHAFT.EVT_STATUS bit 2 -/
def EV_SHAFT_FREQ_FAIL : Nat := 2
/-- SHAFT.EVT_STATUS bit 3 -/
def EV_SHAFT_REF_RATE : Nat := 3
/-- SHAFT.EVT_STATUS bit 4 -/
def EV_SHAFT_TEMP_STALE : Nat := 4
/-- SHAFT.EVT_STATUS bit 5 -/
def EV_SHAFT_RFM_FORCED : Nat := 5
/-- TALLY.EVT_STATUS bit 0 -/
def EV_TALLY_FLUSH_LAG : Nat := 0
/-- TALLY.EVT_STATUS bit 1 -/
def EV_TALLY_FLUSH_FAIL : Nat := 1
/-- TALLY.EVT_STATUS bit 2 -/
def EV_TALLY_SNAPSHOT : Nat := 2
/-- TALLY.EVT_STATUS bit 3 -/
def EV_TALLY_LIFE_BAD : Nat := 3
/-- TALLY.EVT_STATUS bit 4 -/
def EV_TALLY_FROZEN : Nat := 4
/-- POWER.EVT_STATUS bit 0 -/
def EV_POWER_CAP_STEP : Nat := 0
/-- POWER.EVT_STATUS bit 1 -/
def EV_POWER_CAP_CLEAR : Nat := 1
/-- POWER.EVT_STATUS bit 2 -/
def EV_POWER_PEAK : Nat := 2
/-- COLLAR.EVT_STATUS bit 0 -/
def EV_COLLAR_RETRAIN_FAIL : Nat := 0
/-- COLLAR.EVT_STATUS bit 1 -/
def EV_COLLAR_LOST : Nat := 1
/-- LEASES.EVT_STATUS bit 0 -/
def EV_LEASES_LONG_HOLD : Nat := 0
/-- LEASES.EVT_STATUS bit 1 -/
def EV_LEASES_PREEMPT : Nat := 1
/-- PAGES.EVT_STATUS bit 0 -/
def EV_PAGES_LIVE_CHANGE : Nat := 0
/-- DIE.EVT_STATUS bit 0 -/
def EV_DIE_POISON : Nat := 0
/-- DIE.EVT_STATUS bit 4 -/
def EV_DIE_ROW_REPAIRED : Nat := 4
/-- DIE.EVT_STATUS bit 8 -/
def EV_DIE_COLUMN_SUSPECT : Nat := 8
/-- DIE.EVT_STATUS bit 12 -/
def EV_DIE_SPARE_LOW : Nat := 12
/-- DIE.EVT_STATUS bit 16 -/
def EV_DIE_SPARE_EXHAUSTED : Nat := 16
/-- DIE.EVT_STATUS bit 20 -/
def EV_DIE_POISON_OVF : Nat := 20
/-- DIE.EVT_STATUS bit 24 -/
def EV_DIE_REPAIR_DONE : Nat := 24

end Sys2Proof.Machine.Reg
end

