-- ==== Sys2Proof/Machine/RegMap.lean ====
section
/-!
DEFINITION. Machine/RegMap.lean: the register map of the Colax, from the register tables of the spec (R454 and each
chapter's page and field tables): offset, array stride and count, reset word, and every field with its access code and
its static legal range. Clamps that depend on another field or on the machine's state are in Machine/Regs.lean.
-/

namespace Sys2Proof.Machine

/-- Access codes (R6). -/
inductive Access where
  | ro | rw | w1c | w1s | wo
  deriving DecidableEq, Repr

/-- One field of a register: bits, access, and the static legal range of a configuration field (R460). -/
structure FieldD where
  hi : Nat
  lo : Nat
  acc : Access
  min : Nat
  max : Nat
  deriving DecidableEq, Repr

/-- One register of a page, or an array of `count` registers `stride` bytes apart. -/
structure RegD where
  off : Nat
  stride : Nat
  count : Nat
  rst : Nat
  fields : List FieldD
  deriving DecidableEq, Repr

/-- The common header (R454, R455). Reserved positions of the event registers are masked per page in Machine/Regs.lean. -/
def regsHeader : List RegD := [
  ⟨0x000, 0, 1, 0, [⟨31, 16, .ro, 0, 65535⟩, ⟨15, 0, .ro, 0, 65535⟩]⟩,
  ⟨0x004, 0, 1, 0x00a10001, [⟨31, 0, .ro, 0, 4294967295⟩]⟩,
  ⟨0x008, 0, 1, 0, [⟨3, 0, .ro, 0, 15⟩, ⟨31, 16, .ro, 0, 65535⟩]⟩,
  ⟨0x00c, 0, 1, 0, [⟨3, 0, .rw, 0, 15⟩, ⟨31, 16, .rw, 0, 65535⟩]⟩,
  ⟨0x010, 0, 1, 0, [⟨0, 0, .w1s, 0, 1⟩]⟩,
  ⟨0x014, 0, 1, 0, [⟨31, 0, .w1c, 0, 4294967295⟩]⟩,
  ⟨0x018, 0, 1, 0, [⟨31, 0, .rw, 0, 4294967295⟩]⟩,
  ⟨0x01c, 0, 1, 0, [⟨31, 0, .w1s, 0, 4294967295⟩]⟩,
  ⟨0x020, 0, 1, 0, [⟨19, 16, .rw, 0, 11⟩, ⟨11, 0, .rw, 0, 4095⟩]⟩,
  ⟨0x024, 0, 1, 0, [⟨31, 31, .ro, 0, 1⟩, ⟨22, 16, .ro, 0, 127⟩, ⟨7, 0, .ro, 0, 255⟩]⟩]

/-- Registers of page group DEVICE, part 0 (R374, R375). -/
def regsDevice0 : List RegD := [
  ⟨0x40, 0, 1, 0xc4830ea1, [⟨31, 16, .ro, 0, 65535⟩, ⟨15, 8, .ro, 0, 255⟩, ⟨7, 0, .ro, 0, 255⟩]⟩,
  ⟨0x44, 0, 1, 0x0, [⟨3, 0, .ro, 0, 15⟩, ⟨7, 4, .ro, 0, 15⟩, ⟨8, 8, .w1c, 0, 1⟩, ⟨9, 9, .w1c, 0, 1⟩]⟩,
  ⟨0x48, 0, 1, 0x0, [⟨0, 0, .w1s, 0, 1⟩, ⟨1, 1, .w1s, 0, 1⟩]⟩,
  ⟨0x4c, 0, 1, 0x0, [⟨0, 0, .w1s, 0, 1⟩, ⟨1, 1, .rw, 0, 1⟩, ⟨8, 8, .rw, 0, 1⟩]⟩,
  ⟨0x50, 0, 1, 0x80010000, [⟨31, 31, .ro, 0, 1⟩, ⟨27, 24, .ro, 0, 15⟩, ⟨20, 16, .ro, 0, 31⟩, ⟨15, 0, .ro, 0, 65535⟩]⟩,
  ⟨0x54, 0, 1, 0x0, [⟨29, 28, .ro, 0, 3⟩, ⟨27, 24, .ro, 0, 15⟩, ⟨23, 0, .ro, 0, 16777215⟩]⟩,
  ⟨0x58, 0, 1, 0x0, [⟨22, 2, .rw, 0, 2097151⟩]⟩,
  ⟨0x5c, 0, 1, 0x0, [⟨31, 0, .wo, 0, 4294967295⟩]⟩,
  ⟨0x60, 0, 1, 0x0, [⟨0, 0, .w1s, 0, 1⟩]⟩,
  ⟨0x64, 0, 1, 0x3e80000, [⟨0, 0, .rw, 0, 1⟩, ⟨31, 16, .rw, 10, 10000⟩]⟩,
  ⟨0x68, 0, 1, 0x0, [⟨31, 0, .wo, 0, 4294967295⟩]⟩,
  ⟨0x6c, 0, 1, 0x0, [⟨31, 0, .ro, 0, 4294967295⟩]⟩,
  ⟨0x70, 0, 1, 0x0, [⟨31, 0, .ro, 0, 4294967295⟩]⟩,
  ⟨0x74, 0, 1, 0x0, [⟨31, 0, .ro, 0, 4294967295⟩]⟩,
  ⟨0x78, 0, 1, 0x0, [⟨31, 0, .ro, 0, 4294967295⟩]⟩]

/-- Every register of page group DEVICE from offset 0x040. -/
def regsDevice : List RegD := regsDevice0

/-- Registers of page group MODES, part 0 (R398, R399). -/
def regsModes0 : List RegD := [
  ⟨0x40, 0, 1, 0x1, [⟨2, 0, .ro, 0, 7⟩, ⟨7, 4, .ro, 0, 15⟩, ⟨8, 8, .ro, 0, 1⟩, ⟨9, 9, .ro, 0, 1⟩]⟩,
  ⟨0x44, 0, 1, 0x2, [⟨2, 0, .rw, 2, 5⟩, ⟨31, 31, .w1s, 0, 1⟩]⟩,
  ⟨0x48, 0, 1, 0x0, [⟨3, 0, .ro, 0, 15⟩, ⟨11, 8, .ro, 0, 15⟩]⟩,
  ⟨0x4c, 0, 1, 0x0, [⟨0, 0, .w1s, 0, 1⟩]⟩,
  ⟨0x50, 0, 1, 0x140004, [⟨3, 0, .rw, 1, 8⟩, ⟨23, 16, .rw, 1, 100⟩]⟩,
  ⟨0x54, 0, 1, 0x3201, [⟨0, 0, .rw, 0, 1⟩, ⟨1, 1, .rw, 0, 1⟩, ⟨2, 2, .rw, 0, 1⟩, ⟨14, 8, .rw, 0, 100⟩]⟩,
  ⟨0x58, 0, 1, 0x0, [⟨0, 0, .ro, 0, 1⟩]⟩,
  ⟨0x60, 4, 8, 0x0, [⟨15, 0, .rw, 0, 65535⟩]⟩,
  ⟨0x80, 0, 1, 0x0, [⟨7, 0, .ro, 0, 255⟩, ⟨9, 8, .ro, 0, 3⟩, ⟨31, 16, .ro, 0, 65535⟩]⟩,
  ⟨0x84, 0, 1, 0x0, [⟨5, 0, .rw, 0, 47⟩]⟩,
  ⟨0x88, 0, 1, 0x0, [⟨31, 0, .ro, 0, 4294967295⟩]⟩,
  ⟨0x8c, 0, 1, 0x0, [⟨10, 0, .ro, 0, 2047⟩, ⟨26, 16, .ro, 0, 2047⟩]⟩,
  ⟨0x90, 0, 1, 0x0, [⟨31, 0, .ro, 0, 4294967295⟩]⟩,
  ⟨0x94, 0, 1, 0x0, [⟨31, 0, .ro, 0, 4294967295⟩]⟩,
  ⟨0x98, 0, 1, 0x0, [⟨31, 0, .ro, 0, 4294967295⟩]⟩]

/-- Every register of page group MODES from offset 0x040. -/
def regsModes : List RegD := regsModes0

/-- Registers of page group PAGES, part 0 (R465, R465). -/
def regsPages0 : List RegD := [
  ⟨0x40, 0, 1, 0x90, [⟨7, 0, .ro, 0, 255⟩, ⟨15, 8, .ro, 0, 255⟩]⟩,
  ⟨0x44, 4, 5, 0x0, [⟨31, 0, .ro, 0, 4294967295⟩]⟩,
  ⟨0x58, 4, 5, 0x0, [⟨31, 0, .ro, 0, 4294967295⟩]⟩,
  ⟨0x6c, 0, 1, 0x0, [⟨11, 0, .ro, 0, 4095⟩, ⟨27, 16, .ro, 0, 4095⟩]⟩]

/-- Every register of page group PAGES from offset 0x040. -/
def regsPages : List RegD := regsPages0

/-- Registers of page group LEASES, part 0 (R359, R360). -/
def regsLeases0 : List RegD := [
  ⟨0x40, 0, 1, 0x200, [⟨6, 0, .rw, 0, 127⟩, ⟨9, 8, .rw, 2, 3⟩, ⟨30, 30, .w1s, 0, 1⟩, ⟨31, 31, .w1s, 0, 1⟩]⟩,
  ⟨0x44, 0, 1, 0x0, [⟨31, 31, .ro, 0, 1⟩, ⟨30, 30, .ro, 0, 1⟩]⟩,
  ⟨0x48, 0, 1, 0x0, [⟨6, 0, .rw, 0, 127⟩]⟩,
  ⟨0x4c, 0, 1, 0x0, [⟨31, 31, .ro, 0, 1⟩, ⟨25, 24, .ro, 0, 3⟩, ⟨19, 16, .ro, 0, 15⟩, ⟨15, 0, .ro, 0, 65535⟩]⟩,
  ⟨0x50, 0, 1, 0x64, [⟨15, 0, .rw, 1, 65535⟩]⟩,
  ⟨0x60, 4, 4, 0x0, [⟨31, 0, .ro, 0, 4294967295⟩]⟩,
  ⟨0x70, 0, 1, 0x0, [⟨31, 0, .ro, 0, 4294967295⟩]⟩,
  ⟨0x74, 0, 1, 0x0, [⟨31, 0, .ro, 0, 4294967295⟩]⟩]

/-- Every register of page group LEASES from offset 0x040. -/
def regsLeases : List RegD := regsLeases0

/-- Registers of page group FUSES, part 0 (R436, R437). -/
def regsFuses0 : List RegD := [
  ⟨0x40, 0, 1, 0x0, [⟨13, 0, .ro, 0, 16383⟩, ⟨16, 16, .ro, 0, 1⟩, ⟨17, 17, .ro, 0, 1⟩, ⟨18, 18, .ro, 0, 1⟩]⟩,
  ⟨0x44, 0, 1, 0x0, [⟨10, 0, .ro, 0, 2047⟩, ⟨16, 16, .ro, 0, 1⟩, ⟨17, 17, .ro, 0, 1⟩, ⟨18, 18, .ro, 0, 1⟩, ⟨19, 19, .ro, 0, 1⟩]⟩,
  ⟨0x48, 0, 1, 0x0, [⟨3, 0, .rw, 0, 10⟩]⟩,
  ⟨0x4c, 0, 1, 0x0, [⟨3, 0, .ro, 0, 15⟩, ⟨8, 8, .ro, 0, 1⟩, ⟨9, 9, .ro, 0, 1⟩, ⟨10, 10, .ro, 0, 1⟩, ⟨11, 11, .ro, 0, 1⟩, ⟨12, 12, .ro, 0, 1⟩, ⟨13, 13, .ro, 0, 1⟩, ⟨18, 16, .ro, 0, 7⟩, ⟨23, 20, .ro, 0, 15⟩]⟩,
  ⟨0x50, 0, 1, 0x0, [⟨5, 0, .rw, 0, 63⟩]⟩,
  ⟨0x54, 0, 1, 0x0, [⟨31, 31, .ro, 0, 1⟩, ⟨17, 17, .ro, 0, 1⟩, ⟨16, 16, .ro, 0, 1⟩, ⟨12, 0, .ro, 0, 8191⟩]⟩,
  ⟨0x58, 0, 1, 0x0, [⟨12, 0, .rw, 0, 8191⟩]⟩,
  ⟨0x5c, 0, 1, 0x0, [⟨31, 0, .rw, 0, 4294967295⟩]⟩,
  ⟨0x60, 0, 1, 0x0, [⟨0, 0, .rw, 0, 1⟩]⟩,
  ⟨0x64, 0, 1, 0x0, [⟨0, 0, .rw, 0, 1⟩]⟩,
  ⟨0x68, 0, 1, 0x0, [⟨12, 0, .rw, 0, 8191⟩, ⟨31, 31, .w1s, 0, 1⟩]⟩,
  ⟨0x6c, 0, 1, 0x0, [⟨31, 31, .ro, 0, 1⟩, ⟨29, 28, .ro, 0, 3⟩, ⟨27, 24, .ro, 0, 15⟩, ⟨22, 16, .ro, 0, 127⟩]⟩,
  ⟨0x70, 0, 1, 0x0, [⟨3, 0, .rw, 0, 15⟩, ⟨8, 8, .rw, 0, 1⟩, ⟨31, 31, .w1s, 0, 1⟩]⟩,
  ⟨0x74, 0, 1, 0x0, [⟨31, 31, .ro, 0, 1⟩, ⟨29, 28, .ro, 0, 3⟩, ⟨27, 24, .ro, 0, 15⟩]⟩,
  ⟨0x78, 0, 1, 0x0, [⟨0, 0, .w1s, 0, 1⟩]⟩,
  ⟨0x7c, 0, 1, 0x0, [⟨31, 31, .ro, 0, 1⟩, ⟨27, 24, .ro, 0, 15⟩, ⟨23, 16, .ro, 0, 255⟩, ⟨13, 0, .ro, 0, 16383⟩]⟩]

/-- Registers of page group FUSES, part 1 (R436, R437). -/
def regsFuses1 : List RegD := [
  ⟨0x80, 0, 1, 0x0, [⟨14, 0, .ro, 0, 32767⟩, ⟨30, 30, .ro, 0, 1⟩, ⟨31, 31, .ro, 0, 1⟩]⟩,
  ⟨0x84, 0, 1, 0x0, [⟨12, 0, .ro, 0, 8191⟩, ⟨30, 30, .ro, 0, 1⟩]⟩,
  ⟨0x88, 0, 1, 0x0, [⟨31, 0, .ro, 0, 4294967295⟩]⟩,
  ⟨0x8c, 0, 1, 0x0, [⟨31, 0, .ro, 0, 4294967295⟩]⟩]

/-- Every register of page group FUSES from offset 0x040. -/
def regsFuses : List RegD := regsFuses0 ++ regsFuses1

/-- Registers of page group TALLY, part 0 (R450, R451). -/
def regsTally0 : List RegD := [
  ⟨0x40, 0, 1, 0x0, [⟨31, 0, .ro, 0, 4294967295⟩]⟩,
  ⟨0x44, 0, 1, 0x0, [⟨31, 0, .ro, 0, 4294967295⟩]⟩,
  ⟨0x48, 0, 1, 0x3e80010, [⟨7, 0, .rw, 1, 255⟩, ⟨31, 16, .rw, 10, 65535⟩]⟩,
  ⟨0x4c, 0, 1, 0x0, [⟨0, 0, .w1s, 0, 1⟩]⟩,
  ⟨0x50, 0, 1, 0x400, [⟨0, 0, .w1s, 0, 1⟩, ⟨1, 1, .rw, 0, 1⟩, ⟨2, 2, .rw, 0, 1⟩, ⟨3, 3, .rw, 0, 1⟩, ⟨4, 4, .rw, 0, 1⟩, ⟨10, 8, .rw, 0, 4⟩, ⟨31, 16, .rw, 0, 65535⟩]⟩,
  ⟨0x54, 0, 1, 0x0, [⟨0, 0, .w1c, 0, 1⟩, ⟨3, 1, .ro, 0, 7⟩, ⟨15, 8, .ro, 0, 255⟩]⟩,
  ⟨0x58, 0, 1, 0x0, [⟨31, 12, .ro, 0, 1048575⟩, ⟨11, 0, .ro, 0, 4095⟩]⟩,
  ⟨0x5c, 0, 1, 0x0, [⟨31, 0, .ro, 0, 4294967295⟩]⟩,
  ⟨0x60, 0, 1, 0x0, [⟨25, 2, .rw, 0, 16777215⟩]⟩,
  ⟨0x64, 0, 1, 0x0, [⟨31, 0, .ro, 0, 4294967295⟩]⟩,
  ⟨0x70, 0, 1, 0x0, [⟨31, 0, .ro, 0, 4294967295⟩]⟩,
  ⟨0x74, 0, 1, 0x0, [⟨31, 0, .ro, 0, 4294967295⟩]⟩,
  ⟨0x78, 0, 1, 0x0, [⟨31, 0, .ro, 0, 4294967295⟩]⟩,
  ⟨0x7c, 0, 1, 0x0, [⟨31, 0, .ro, 0, 4294967295⟩]⟩]

/-- Every register of page group TALLY from offset 0x040. -/
def regsTally : List RegD := regsTally0

/-- Registers of page group HEAT, part 0 (R417, R418). -/
def regsHeat0 : List RegD := [
  ⟨0x40, 0, 1, 0xa03e8, [⟨15, 0, .rw, 560, 10000⟩, ⟨23, 16, .rw, 1, 255⟩]⟩,
  ⟨0x44, 0, 1, 0x0, [⟨2, 0, .ro, 0, 7⟩, ⟨8, 8, .ro, 0, 1⟩, ⟨9, 9, .ro, 0, 1⟩, ⟨10, 10, .ro, 0, 1⟩, ⟨29, 16, .ro, 0, 16383⟩]⟩,
  ⟨0x48, 0, 1, 0x6965625f, [⟨7, 0, .rw, 60, 255⟩, ⟨15, 8, .rw, 60, 255⟩, ⟨23, 16, .rw, 60, 255⟩, ⟨31, 24, .rw, 60, 255⟩]⟩,
  ⟨0x4c, 0, 1, 0x6e6c6964, [⟨7, 0, .rw, 60, 255⟩, ⟨15, 8, .rw, 60, 255⟩, ⟨23, 16, .rw, 60, 255⟩, ⟨31, 24, .rw, 60, 255⟩]⟩,
  ⟨0x50, 0, 1, 0x5f3214, [⟨7, 0, .rw, 5, 100⟩, ⟨15, 8, .rw, 0, 200⟩, ⟨23, 16, .rw, 60, 255⟩]⟩,
  ⟨0x54, 0, 1, 0x100406, [⟨7, 0, .rw, 2, 20⟩, ⟨11, 8, .rw, 2, 15⟩, ⟨23, 16, .rw, 4, 255⟩]⟩,
  ⟨0x58, 0, 1, 0x30, [⟨7, 0, .rw, 8, 192⟩]⟩,
  ⟨0x5c, 0, 1, 0x0, [⟨3, 0, .rw, 0, 13⟩, ⟨31, 31, .w1s, 0, 1⟩]⟩,
  ⟨0x60, 0, 1, 0x0, [⟨31, 31, .ro, 0, 1⟩, ⟨27, 24, .ro, 0, 15⟩, ⟨15, 0, .ro, 0, 65535⟩]⟩,
  ⟨0x64, 0, 1, 0x0, [⟨0, 0, .w1s, 0, 1⟩]⟩,
  ⟨0x68, 0, 1, 0x0, [⟨13, 0, .ro, 0, 16383⟩]⟩,
  ⟨0x6c, 0, 1, 0x0, [⟨13, 0, .ro, 0, 16383⟩]⟩,
  ⟨0x70, 4, 14, 0x0, [⟨15, 0, .ro, 0, 65535⟩, ⟨31, 16, .ro, 0, 65535⟩]⟩,
  ⟨0xb0, 4, 14, 0x0, [⟨15, 0, .ro, 0, 65535⟩, ⟨31, 16, .ro, 0, 65535⟩]⟩,
  ⟨0xf0, 0, 1, 0x0, [⟨1, 0, .ro, 0, 3⟩, ⟨3, 2, .ro, 0, 3⟩, ⟨5, 4, .ro, 0, 3⟩, ⟨7, 6, .ro, 0, 3⟩, ⟨9, 8, .ro, 0, 3⟩, ⟨11, 10, .ro, 0, 3⟩, ⟨13, 12, .ro, 0, 3⟩, ⟨15, 14, .ro, 0, 3⟩, ⟨17, 16, .ro, 0, 3⟩, ⟨19, 18, .ro, 0, 3⟩, ⟨21, 20, .ro, 0, 3⟩, ⟨23, 22, .ro, 0, 3⟩, ⟨25, 24, .ro, 0, 3⟩, ⟨27, 26, .ro, 0, 3⟩]⟩,
  ⟨0x100, 0, 1, 0x0, [⟨31, 0, .ro, 0, 4294967295⟩]⟩]

/-- Registers of page group HEAT, part 1 (R417, R418). -/
def regsHeat1 : List RegD := [
  ⟨0x104, 0, 1, 0x0, [⟨31, 0, .ro, 0, 4294967295⟩]⟩,
  ⟨0x108, 0, 1, 0x0, [⟨31, 0, .ro, 0, 4294967295⟩]⟩,
  ⟨0x10c, 0, 1, 0x0, [⟨31, 0, .ro, 0, 4294967295⟩]⟩,
  ⟨0x110, 0, 1, 0x0, [⟨31, 0, .ro, 0, 4294967295⟩]⟩]

/-- Every register of page group HEAT from offset 0x040. -/
def regsHeat : List RegD := regsHeat0 ++ regsHeat1

/-- Registers of page group CALREF, part 0 (R211, R212). -/
def regsCalref0 : List RegD := [
  ⟨0x40, 0, 1, 0x3e80000, [⟨0, 0, .w1s, 0, 1⟩, ⟨1, 1, .w1s, 0, 1⟩, ⟨2, 2, .w1s, 0, 1⟩, ⟨31, 16, .rw, 100, 65535⟩]⟩,
  ⟨0x44, 0, 1, 0x0, [⟨0, 0, .ro, 0, 1⟩, ⟨1, 1, .ro, 0, 1⟩, ⟨2, 2, .ro, 0, 1⟩, ⟨3, 3, .ro, 0, 1⟩, ⟨11, 8, .ro, 0, 15⟩, ⟨15, 12, .ro, 0, 15⟩, ⟨19, 16, .ro, 0, 15⟩]⟩,
  ⟨0x48, 0, 1, 0x10, [⟨4, 0, .ro, 0, 31⟩]⟩,
  ⟨0x4c, 0, 1, 0x0, [⟨15, 0, .ro, 0, 65535⟩, ⟨31, 16, .ro, 0, 65535⟩]⟩,
  ⟨0x50, 0, 1, 0x8000, [⟨15, 0, .ro, 0, 65535⟩, ⟨27, 16, .ro, 0, 4095⟩]⟩,
  ⟨0x54, 0, 1, 0x0, [⟨7, 0, .ro, 0, 255⟩]⟩,
  ⟨0x58, 0, 1, 0x0, [⟨31, 0, .ro, 0, 4294967295⟩]⟩,
  ⟨0x5c, 0, 1, 0x0, [⟨31, 0, .ro, 0, 4294967295⟩]⟩,
  ⟨0x60, 4, 2, 0x0, [⟨31, 0, .w1c, 0, 4294967295⟩]⟩,
  ⟨0x68, 4, 2, 0x0, [⟨31, 0, .w1c, 0, 4294967295⟩]⟩]

/-- Every register of page group CALREF from offset 0x040. -/
def regsCalref : List RegD := regsCalref0

/-- Registers of page group SELFTEST, part 0 (R356, R357). -/
def regsSelftest0 : List RegD := [
  ⟨0x40, 0, 1, 0x2, [⟨0, 0, .rw, 0, 1⟩, ⟨1, 1, .rw, 0, 1⟩]⟩,
  ⟨0x44, 0, 1, 0x0, [⟨2, 0, .rw, 0, 7⟩, ⟨8, 8, .rw, 0, 1⟩, ⟨31, 31, .w1s, 0, 1⟩]⟩,
  ⟨0x48, 0, 1, 0x0, [⟨31, 0, .rw, 0, 4294967295⟩]⟩,
  ⟨0x4c, 0, 1, 0x0, [⟨15, 0, .rw, 0, 65535⟩]⟩,
  ⟨0x50, 0, 1, 0x0, [⟨31, 31, .ro, 0, 1⟩, ⟨30, 30, .ro, 0, 1⟩, ⟨29, 28, .ro, 0, 3⟩, ⟨27, 24, .ro, 0, 15⟩, ⟨2, 0, .ro, 0, 7⟩]⟩,
  ⟨0x54, 0, 1, 0x0, [⟨31, 0, .ro, 0, 4294967295⟩]⟩,
  ⟨0x58, 0, 1, 0x0, [⟨31, 0, .ro, 0, 4294967295⟩]⟩,
  ⟨0x5c, 0, 1, 0x0, [⟨31, 0, .ro, 0, 4294967295⟩]⟩,
  ⟨0x60, 0, 1, 0x0, [⟨31, 0, .ro, 0, 4294967295⟩]⟩,
  ⟨0x64, 0, 1, 0x0, [⟨31, 0, .ro, 0, 4294967295⟩]⟩,
  ⟨0x68, 0, 1, 0x0, [⟨0, 0, .rw, 0, 1⟩]⟩,
  ⟨0x6c, 0, 1, 0x0, [⟨29, 16, .ro, 0, 16383⟩, ⟨3, 0, .ro, 0, 15⟩]⟩,
  ⟨0x70, 0, 1, 0x0, [⟨31, 0, .ro, 0, 4294967295⟩]⟩,
  ⟨0x74, 0, 1, 0x0, [⟨31, 0, .ro, 0, 4294967295⟩]⟩,
  ⟨0x78, 0, 1, 0x0, [⟨31, 0, .ro, 0, 4294967295⟩]⟩]

/-- Every register of page group SELFTEST from offset 0x040. -/
def regsSelftest : List RegD := regsSelftest0

/-- Registers of page group CLASSES, part 0 (R155, R156). -/
def regsClasses0 : List RegD := [
  ⟨0x40, 0, 1, 0x140550, [⟨6, 0, .rw, 50, 100⟩, ⟨10, 8, .rw, 0, 7⟩, ⟨31, 16, .rw, 1, 65535⟩]⟩,
  ⟨0x44, 0, 1, 0x753, [⟨2, 0, .rw, 0, 7⟩, ⟨6, 4, .rw, 0, 7⟩, ⟨10, 8, .rw, 0, 7⟩]⟩,
  ⟨0x48, 0, 1, 0x200, [⟨7, 0, .rw, 0, 255⟩, ⟨11, 8, .rw, 1, 15⟩]⟩,
  ⟨0x4c, 0, 1, 0x0, [⟨1, 0, .ro, 0, 3⟩, ⟨3, 2, .ro, 0, 3⟩, ⟨5, 4, .ro, 0, 3⟩, ⟨7, 6, .ro, 0, 3⟩, ⟨9, 8, .ro, 0, 3⟩, ⟨11, 10, .ro, 0, 3⟩, ⟨13, 12, .ro, 0, 3⟩, ⟨15, 14, .ro, 0, 3⟩]⟩,
  ⟨0x50, 0, 1, 0x40, [⟨6, 0, .ro, 0, 127⟩, ⟨8, 8, .ro, 0, 1⟩]⟩,
  ⟨0x54, 0, 1, 0x0, [⟨16, 0, .ro, 0, 131071⟩]⟩,
  ⟨0x58, 0, 1, 0x0, [⟨21, 0, .ro, 0, 4194303⟩]⟩,
  ⟨0x5c, 0, 1, 0x204, [⟨17, 0, .ro, 0, 262143⟩]⟩,
  ⟨0x60, 0, 1, 0x0, [⟨31, 0, .w1c, 0, 4294967295⟩]⟩,
  ⟨0x64, 0, 1, 0x0, [⟨31, 0, .w1c, 0, 4294967295⟩]⟩,
  ⟨0x68, 0, 1, 0x0, [⟨31, 0, .ro, 0, 4294967295⟩]⟩]

/-- Every register of page group CLASSES from offset 0x040. -/
def regsClasses : List RegD := regsClasses0

/-- Registers of page group HAULAGE, part 0 (R48, R75, R49, R50, R51, R52, R53, R76). -/
def regsHaulage0 : List RegD := [
  ⟨0x40, 0, 1, 0x0, [⟨0, 0, .w1s, 0, 1⟩, ⟨1, 1, .w1s, 0, 1⟩]⟩,
  ⟨0x44, 0, 1, 0x0, [⟨0, 0, .ro, 0, 1⟩, ⟨1, 1, .ro, 0, 1⟩, ⟨2, 2, .ro, 0, 1⟩, ⟨3, 3, .ro, 0, 1⟩, ⟨4, 4, .ro, 0, 1⟩]⟩,
  ⟨0x48, 0, 1, 0x8ffc0, [⟨19, 0, .ro, 0, 1048575⟩]⟩,
  ⟨0x4c, 0, 1, 0x0, [⟨19, 0, .ro, 0, 1048575⟩]⟩,
  ⟨0x50, 0, 1, 0x0, [⟨19, 0, .ro, 0, 1048575⟩]⟩,
  ⟨0x54, 0, 1, 0x0, [⟨19, 0, .ro, 0, 1048575⟩]⟩,
  ⟨0x58, 0, 1, 0x6bfd0, [⟨19, 0, .rw, 0, 442320⟩]⟩,
  ⟨0x5c, 0, 1, 0x0, [⟨19, 0, .ro, 0, 1048575⟩]⟩,
  ⟨0x60, 0, 1, 0x0, [⟨31, 20, .ro, 0, 4095⟩, ⟨19, 8, .ro, 0, 4095⟩, ⟨7, 0, .ro, 0, 255⟩]⟩,
  ⟨0x64, 0, 1, 0x0, [⟨31, 16, .ro, 0, 65535⟩, ⟨8, 0, .ro, 0, 511⟩]⟩,
  ⟨0x68, 0, 1, 0x0, [⟨7, 0, .rw, 0, 255⟩]⟩,
  ⟨0x6c, 0, 1, 0x0, [⟨31, 31, .ro, 0, 1⟩, ⟨25, 0, .ro, 0, 67108863⟩]⟩,
  ⟨0x70, 0, 1, 0x0, [⟨31, 31, .wo, 0, 1⟩, ⟨14, 0, .wo, 0, 32767⟩]⟩,
  ⟨0x74, 0, 1, 0x0, [⟨5, 0, .rw, 0, 63⟩]⟩,
  ⟨0x78, 0, 1, 0x0, [⟨21, 16, .ro, 0, 63⟩, ⟨13, 0, .ro, 0, 16383⟩]⟩,
  ⟨0x7c, 0, 1, 0x0, [⟨25, 0, .rw, 0, 67108863⟩]⟩]

/-- Registers of page group HAULAGE, part 1 (R48, R75, R49, R50, R51, R52, R53, R76). -/
def regsHaulage1 : List RegD := [
  ⟨0x80, 0, 1, 0x0, [⟨31, 31, .ro, 0, 1⟩, ⟨30, 30, .ro, 0, 1⟩, ⟨29, 29, .ro, 0, 1⟩, ⟨28, 28, .ro, 0, 1⟩, ⟨27, 27, .ro, 0, 1⟩, ⟨26, 26, .ro, 0, 1⟩, ⟨25, 25, .ro, 0, 1⟩, ⟨24, 19, .ro, 0, 63⟩, ⟨18, 5, .ro, 0, 16383⟩, ⟨4, 0, .ro, 0, 31⟩]⟩,
  ⟨0x84, 0, 1, 0x0, [⟨31, 24, .ro, 0, 255⟩, ⟨23, 16, .ro, 0, 255⟩, ⟨15, 15, .ro, 0, 1⟩, ⟨14, 0, .ro, 0, 32767⟩]⟩,
  ⟨0x400, 16, 64, 0x0, [⟨25, 0, .rw, 0, 67108863⟩]⟩,
  ⟨0x404, 16, 64, 0x1, [⟨26, 0, .rw, 1, 134217727⟩]⟩,
  ⟨0x408, 16, 64, 0x0, [⟨31, 0, .rw, 0, 4294967295⟩]⟩,
  ⟨0x40c, 16, 64, 0x0, [⟨0, 0, .rw, 0, 1⟩, ⟨1, 1, .rw, 0, 1⟩, ⟨5, 4, .rw, 0, 3⟩, ⟨8, 8, .ro, 0, 1⟩, ⟨9, 9, .ro, 0, 1⟩]⟩,
  ⟨0x800, 16, 16, 0x0, [⟨25, 0, .rw, 0, 67108863⟩]⟩,
  ⟨0x804, 16, 16, 0x1, [⟨26, 0, .rw, 1, 134217727⟩]⟩,
  ⟨0x808, 16, 16, 0x0, [⟨0, 0, .rw, 0, 1⟩, ⟨8, 8, .ro, 0, 1⟩, ⟨9, 9, .ro, 0, 1⟩]⟩,
  ⟨0x100, 0, 1, 0x32, [⟨6, 0, .rw, 0, 100⟩]⟩,
  ⟨0x104, 0, 1, 0x0, [⟨25, 16, .ro, 0, 1023⟩, ⟨9, 0, .ro, 0, 1023⟩]⟩,
  ⟨0x108, 0, 1, 0x3e8, [⟨15, 0, .rw, 10, 65535⟩]⟩,
  ⟨0x10c, 0, 1, 0x10400, [⟨16, 16, .rw, 0, 1⟩, ⟨15, 0, .rw, 256, 16384⟩]⟩,
  ⟨0x110, 0, 1, 0x4, [⟨2, 0, .rw, 1, 4⟩]⟩,
  ⟨0x114, 4, 8, 0x88888888, [⟨3, 0, .rw, 0, 15⟩, ⟨7, 4, .rw, 0, 15⟩, ⟨11, 8, .rw, 0, 15⟩, ⟨15, 12, .rw, 0, 15⟩, ⟨19, 16, .rw, 0, 15⟩, ⟨23, 20, .rw, 0, 15⟩, ⟨27, 24, .rw, 0, 15⟩, ⟨31, 28, .rw, 0, 15⟩]⟩,
  ⟨0x140, 0, 1, 0x0, [⟨25, 0, .rw, 0, 67108863⟩]⟩]

/-- Registers of page group HAULAGE, part 2 (R48, R75, R49, R50, R51, R52, R53, R76). -/
def regsHaulage2 : List RegD := [
  ⟨0x144, 0, 1, 0x0, [⟨31, 31, .w1s, 0, 1⟩, ⟨5, 0, .rw, 0, 47⟩]⟩,
  ⟨0x148, 0, 1, 0x0, [⟨31, 31, .ro, 0, 1⟩, ⟨30, 30, .ro, 0, 1⟩, ⟨27, 24, .ro, 0, 15⟩]⟩,
  ⟨0x150, 0, 1, 0xf, [⟨3, 0, .ro, 0, 15⟩]⟩,
  ⟨0x160, 0, 1, 0x0, [⟨31, 0, .ro, 0, 4294967295⟩]⟩,
  ⟨0x164, 0, 1, 0x0, [⟨31, 0, .ro, 0, 4294967295⟩]⟩,
  ⟨0x168, 0, 1, 0x0, [⟨31, 0, .ro, 0, 4294967295⟩]⟩,
  ⟨0x16c, 0, 1, 0x0, [⟨31, 0, .ro, 0, 4294967295⟩]⟩,
  ⟨0x170, 0, 1, 0x0, [⟨31, 0, .ro, 0, 4294967295⟩]⟩,
  ⟨0x174, 0, 1, 0x0, [⟨31, 0, .ro, 0, 4294967295⟩]⟩,
  ⟨0x178, 0, 1, 0x0, [⟨31, 0, .ro, 0, 4294967295⟩]⟩]

/-- Every register of page group HAULAGE from offset 0x040. -/
def regsHaulage : List RegD := regsHaulage0 ++ regsHaulage1 ++ regsHaulage2

/-- Registers of page group DISPATCH, part 0 (R264, R265). -/
def regsDispatch0 : List RegD := [
  ⟨0x40, 0, 1, 0x3e81002, [⟨1, 0, .rw, 0, 2⟩, ⟨14, 8, .rw, 0, 64⟩, ⟨31, 16, .rw, 0, 65535⟩]⟩,
  ⟨0x44, 0, 1, 0x0, [⟨15, 0, .ro, 0, 65535⟩, ⟨31, 16, .ro, 0, 65535⟩]⟩,
  ⟨0x50, 0, 1, 0x0, [⟨31, 0, .ro, 0, 4294967295⟩]⟩,
  ⟨0x54, 0, 1, 0x0, [⟨31, 0, .ro, 0, 4294967295⟩]⟩,
  ⟨0x58, 0, 1, 0x0, [⟨31, 0, .ro, 0, 4294967295⟩]⟩,
  ⟨0x5c, 0, 1, 0x0, [⟨31, 0, .ro, 0, 4294967295⟩]⟩,
  ⟨0x60, 0, 1, 0x0, [⟨31, 0, .ro, 0, 4294967295⟩]⟩,
  ⟨0x64, 0, 1, 0x0, [⟨31, 0, .ro, 0, 4294967295⟩]⟩,
  ⟨0x68, 0, 1, 0x0, [⟨31, 0, .ro, 0, 4294967295⟩]⟩,
  ⟨0x6c, 0, 1, 0x0, [⟨31, 0, .ro, 0, 4294967295⟩]⟩,
  ⟨0x400, 16, 64, 0x0, [⟨31, 7, .rw, 0, 33554431⟩]⟩,
  ⟨0x404, 16, 64, 0x0, [⟨12, 0, .rw, 0, 8191⟩]⟩,
  ⟨0x408, 16, 64, 0x400, [⟨0, 0, .rw, 0, 1⟩, ⟨1, 1, .rw, 0, 1⟩, ⟨2, 2, .rw, 0, 1⟩, ⟨3, 3, .w1s, 0, 1⟩, ⟨4, 4, .ro, 0, 1⟩, ⟨12, 8, .rw, 4, 16⟩, ⟨21, 16, .rw, 0, 59⟩]⟩,
  ⟨0x40c, 16, 64, 0x0, [⟨15, 0, .ro, 0, 65535⟩, ⟨31, 16, .ro, 0, 65535⟩]⟩,
  ⟨0x800, 4, 64, 0x0, [⟨15, 0, .wo, 0, 65535⟩]⟩]

/-- Every register of page group DISPATCH from offset 0x040. -/
def regsDispatch : List RegD := regsDispatch0

/-- Registers of page group PAIR, part 0 (R332, R333). -/
def regsPair0 : List RegD := [
  ⟨0x40, 0, 1, 0x0, [⟨1, 0, .rw, 0, 3⟩, ⟨4, 4, .rw, 0, 1⟩]⟩,
  ⟨0x44, 0, 1, 0x1, [⟨15, 0, .rw, 1, 65535⟩]⟩,
  ⟨0x48, 0, 1, 0x0, [⟨0, 0, .ro, 0, 1⟩, ⟨1, 1, .ro, 0, 1⟩, ⟨2, 2, .ro, 0, 1⟩, ⟨3, 3, .ro, 0, 1⟩, ⟨4, 4, .ro, 0, 1⟩, ⟨9, 8, .ro, 0, 3⟩, ⟨31, 16, .ro, 0, 65535⟩]⟩,
  ⟨0x4c, 0, 1, 0x0, [⟨31, 31, .wo, 0, 1⟩, ⟨15, 0, .wo, 0, 65535⟩]⟩,
  ⟨0x50, 0, 1, 0xa0064, [⟨15, 0, .rw, 10, 1000⟩, ⟨23, 16, .rw, 3, 255⟩]⟩,
  ⟨0x54, 0, 1, 0x640040, [⟨6, 0, .rw, 1, 64⟩, ⟨31, 16, .rw, 10, 65535⟩]⟩,
  ⟨0x58, 0, 1, 0x0, [⟨20, 0, .ro, 0, 2097151⟩]⟩,
  ⟨0x5c, 0, 1, 0x0, [⟨15, 0, .ro, 0, 65535⟩]⟩,
  ⟨0x60, 0, 1, 0x0, [⟨16, 0, .ro, 0, 131071⟩, ⟨31, 31, .ro, 0, 1⟩]⟩,
  ⟨0x64, 0, 1, 0x0, [⟨31, 0, .ro, 0, 4294967295⟩]⟩,
  ⟨0x80, 0, 1, 0x0, [⟨31, 0, .ro, 0, 4294967295⟩]⟩,
  ⟨0x84, 0, 1, 0x0, [⟨31, 0, .ro, 0, 4294967295⟩]⟩,
  ⟨0x88, 0, 1, 0x0, [⟨31, 0, .ro, 0, 4294967295⟩]⟩,
  ⟨0x8c, 0, 1, 0x0, [⟨31, 0, .ro, 0, 4294967295⟩]⟩,
  ⟨0x400, 16, 16, 0x0, [⟨25, 0, .rw, 0, 67108863⟩]⟩,
  ⟨0x404, 16, 16, 0x1, [⟨26, 0, .rw, 1, 134217727⟩]⟩]

/-- Registers of page group PAIR, part 1 (R332, R333). -/
def regsPair1 : List RegD := [
  ⟨0x408, 16, 16, 0x0, [⟨0, 0, .rw, 0, 1⟩, ⟨1, 1, .rw, 0, 1⟩, ⟨8, 8, .ro, 0, 1⟩, ⟨9, 9, .ro, 0, 1⟩, ⟨10, 10, .ro, 0, 1⟩, ⟨11, 11, .ro, 0, 1⟩]⟩]

/-- Every register of page group PAIR from offset 0x040. -/
def regsPair : List RegD := regsPair0 ++ regsPair1

/-- Registers of page group FABRIC, part 0 (R134, R135). -/
def regsFabric0 : List RegD := [
  ⟨0x40, 0, 1, 0x20, [⟨6, 0, .rw, 8, 64⟩]⟩,
  ⟨0x44, 0, 1, 0xa, [⟨9, 0, .rw, 1, 1000⟩]⟩,
  ⟨0x48, 0, 1, 0x64, [⟨15, 0, .rw, 10, 65535⟩]⟩,
  ⟨0x4c, 0, 1, 0x0, [⟨22, 16, .ro, 0, 127⟩, ⟨14, 8, .ro, 0, 127⟩, ⟨6, 0, .ro, 0, 127⟩]⟩,
  ⟨0x50, 0, 1, 0x0, [⟨31, 0, .ro, 0, 4294967295⟩]⟩,
  ⟨0x54, 0, 1, 0x0, [⟨15, 0, .ro, 0, 65535⟩]⟩,
  ⟨0x58, 0, 1, 0x0, [⟨6, 0, .rw, 0, 127⟩, ⟨9, 8, .rw, 0, 3⟩]⟩,
  ⟨0x5c, 0, 1, 0x0, [⟨31, 16, .ro, 0, 65535⟩, ⟨15, 0, .ro, 0, 65535⟩]⟩,
  ⟨0x60, 0, 1, 0x0, [⟨31, 0, .ro, 0, 4294967295⟩]⟩,
  ⟨0x64, 0, 1, 0x0, [⟨31, 0, .ro, 0, 4294967295⟩]⟩,
  ⟨0x68, 0, 1, 0x0, [⟨31, 0, .ro, 0, 4294967295⟩]⟩,
  ⟨0x6c, 0, 1, 0x0, [⟨31, 0, .ro, 0, 4294967295⟩]⟩,
  ⟨0x70, 0, 1, 0x0, [⟨31, 0, .ro, 0, 4294967295⟩]⟩,
  ⟨0x74, 0, 1, 0x0, [⟨31, 0, .ro, 0, 4294967295⟩]⟩,
  ⟨0x78, 0, 1, 0x0, [⟨31, 0, .ro, 0, 4294967295⟩]⟩]

/-- Every register of page group FABRIC from offset 0x040. -/
def regsFabric : List RegD := regsFabric0

/-- Registers of page group POWER, part 0 (R401, R402). -/
def regsPower0 : List RegD := [
  ⟨0x40, 0, 1, 0x850ad2aa, [⟨7, 0, .rw, 40, 200⟩, ⟨15, 8, .rw, 0, 210⟩, ⟨19, 16, .rw, 1, 10⟩, ⟨27, 24, .rw, 1, 15⟩, ⟨31, 31, .rw, 0, 1⟩]⟩,
  ⟨0x44, 0, 1, 0x0, [⟨11, 0, .ro, 0, 4095⟩, ⟨27, 16, .ro, 0, 4095⟩]⟩,
  ⟨0x48, 0, 1, 0x0, [⟨7, 0, .ro, 0, 255⟩, ⟨15, 8, .ro, 0, 255⟩, ⟨23, 16, .ro, 0, 255⟩, ⟨31, 24, .ro, 0, 255⟩]⟩,
  ⟨0x4c, 0, 1, 0x0, [⟨7, 0, .ro, 0, 255⟩, ⟨15, 8, .ro, 0, 255⟩]⟩,
  ⟨0x50, 0, 1, 0x0, [⟨2, 0, .ro, 0, 7⟩, ⟨8, 8, .ro, 0, 1⟩, ⟨9, 9, .ro, 0, 1⟩, ⟨31, 16, .ro, 0, 65535⟩]⟩,
  ⟨0x54, 0, 1, 0x0, [⟨31, 0, .ro, 0, 4294967295⟩]⟩,
  ⟨0x58, 0, 1, 0x0, [⟨31, 0, .ro, 0, 4294967295⟩]⟩]

/-- Every register of page group POWER from offset 0x040. -/
def regsPower : List RegD := regsPower0

/-- Registers of page group COLLAR, part 0 (R377, R378). -/
def regsCollar0 : List RegD := [
  ⟨0x40, 0, 1, 0x0, [⟨31, 0, .ro, 0, 4294967295⟩]⟩,
  ⟨0x44, 0, 1, 0x0, [⟨31, 0, .ro, 0, 4294967295⟩]⟩,
  ⟨0x48, 0, 1, 0x0, [⟨31, 0, .ro, 0, 4294967295⟩]⟩,
  ⟨0x4c, 0, 1, 0x0, [⟨31, 0, .ro, 0, 4294967295⟩]⟩,
  ⟨0x50, 0, 1, 0x0, [⟨5, 0, .rw, 0, 47⟩, ⟨31, 31, .w1s, 0, 1⟩]⟩,
  ⟨0x54, 0, 1, 0x0, [⟨5, 0, .rw, 0, 47⟩]⟩,
  ⟨0x58, 0, 1, 0x0, [⟨4, 0, .ro, 0, 31⟩, ⟨15, 8, .ro, 0, 255⟩, ⟨16, 16, .ro, 0, 1⟩]⟩,
  ⟨0x5c, 0, 1, 0x0, [⟨31, 16, .ro, 0, 65535⟩, ⟨15, 0, .ro, 0, 65535⟩]⟩,
  ⟨0x60, 0, 1, 0x0, [⟨31, 0, .ro, 0, 4294967295⟩]⟩,
  ⟨0x64, 0, 1, 0x0, [⟨31, 0, .ro, 0, 4294967295⟩]⟩]

/-- Every register of page group COLLAR from offset 0x040. -/
def regsCollar : List RegD := regsCollar0

/-- Registers of page group HOSTPORT, part 0 (R115, R116). -/
def regsHostport0 : List RegD := [
  ⟨0x40, 0, 1, 0x0, [⟨0, 0, .ro, 0, 1⟩, ⟨1, 1, .ro, 0, 1⟩, ⟨4, 2, .ro, 0, 7⟩, ⟨11, 8, .ro, 0, 15⟩, ⟨15, 12, .ro, 0, 15⟩, ⟨23, 16, .ro, 0, 255⟩]⟩,
  ⟨0x44, 0, 1, 0x4, [⟨2, 0, .rw, 1, 4⟩, ⟨8, 8, .w1s, 0, 1⟩, ⟨9, 9, .rw, 0, 1⟩]⟩,
  ⟨0x48, 0, 1, 0x1000, [⟨12, 0, .rw, 1, 4096⟩]⟩,
  ⟨0x4c, 0, 1, 0x0, [⟨0, 0, .rw, 0, 1⟩]⟩,
  ⟨0x50, 0, 1, 0x103e8, [⟨15, 0, .rw, 10, 65535⟩, ⟨16, 16, .rw, 0, 1⟩]⟩,
  ⟨0x54, 0, 1, 0x0, [⟨15, 0, .ro, 0, 65535⟩, ⟨23, 16, .ro, 0, 255⟩, ⟨31, 24, .ro, 0, 255⟩]⟩,
  ⟨0x58, 0, 1, 0x0, [⟨12, 0, .ro, 0, 8191⟩, ⟨30, 16, .ro, 0, 32767⟩]⟩,
  ⟨0x5c, 0, 1, 0x0, [⟨5, 0, .rw, 0, 63⟩, ⟨8, 8, .rw, 0, 1⟩, ⟨12, 12, .w1s, 0, 1⟩]⟩,
  ⟨0x60, 0, 1, 0x0, [⟨0, 0, .w1c, 0, 1⟩]⟩,
  ⟨0x70, 0, 1, 0x0, [⟨31, 0, .ro, 0, 4294967295⟩]⟩,
  ⟨0x74, 0, 1, 0x0, [⟨31, 0, .ro, 0, 4294967295⟩]⟩,
  ⟨0x78, 0, 1, 0x0, [⟨31, 0, .ro, 0, 4294967295⟩]⟩,
  ⟨0x7c, 0, 1, 0x0, [⟨31, 0, .ro, 0, 4294967295⟩]⟩,
  ⟨0x80, 0, 1, 0x0, [⟨31, 0, .ro, 0, 4294967295⟩]⟩]

/-- Every register of page group HOSTPORT from offset 0x040. -/
def regsHostport : List RegD := regsHostport0

/-- Registers of page group FARPORT, part 0 (R316, R317). -/
def regsFarport0 : List RegD := [
  ⟨0x40, 0, 1, 0x500, [⟨1, 0, .rw, 0, 2⟩, ⟨4, 4, .rw, 0, 1⟩, ⟨11, 8, .rw, 0, 10⟩, ⟨16, 16, .rw, 0, 1⟩]⟩,
  ⟨0x44, 0, 1, 0x0, [⟨1, 0, .ro, 0, 3⟩, ⟨6, 4, .ro, 0, 7⟩, ⟨9, 8, .ro, 0, 3⟩, ⟨13, 12, .ro, 0, 3⟩, ⟨14, 14, .ro, 0, 1⟩, ⟨19, 16, .ro, 0, 15⟩, ⟨27, 24, .ro, 0, 15⟩]⟩,
  ⟨0x48, 0, 1, 0x64, [⟨15, 0, .rw, 10, 65535⟩]⟩,
  ⟨0x4c, 0, 1, 0x0, [⟨7, 0, .rw, 0, 255⟩]⟩,
  ⟨0x50, 0, 1, 0x100, [⟨2, 0, .rw, 0, 7⟩, ⟨14, 8, .rw, 1, 65⟩, ⟨16, 16, .rw, 0, 1⟩, ⟨31, 31, .w1s, 0, 1⟩]⟩,
  ⟨0x54, 0, 1, 0x0, [⟨2, 0, .rw, 0, 7⟩, ⟨5, 4, .rw, 0, 2⟩, ⟨13, 8, .rw, 0, 63⟩, ⟨22, 16, .rw, 0, 127⟩, ⟨27, 24, .rw, 0, 15⟩, ⟨31, 31, .w1s, 0, 1⟩]⟩,
  ⟨0x58, 0, 1, 0x0, [⟨31, 31, .ro, 0, 1⟩, ⟨27, 24, .ro, 0, 15⟩, ⟨23, 0, .ro, 0, 16777215⟩]⟩,
  ⟨0x5c, 0, 1, 0x0, [⟨1, 0, .rw, 0, 3⟩, ⟨5, 4, .rw, 0, 2⟩, ⟨15, 8, .rw, 0, 255⟩, ⟨31, 31, .w1s, 0, 1⟩]⟩,
  ⟨0x60, 0, 1, 0x0, [⟨31, 31, .ro, 0, 1⟩, ⟨23, 16, .ro, 0, 255⟩, ⟨15, 0, .ro, 0, 65535⟩]⟩,
  ⟨0x64, 0, 1, 0x0, [⟨7, 0, .ro, 0, 255⟩, ⟨15, 8, .ro, 0, 255⟩, ⟨23, 16, .ro, 0, 255⟩]⟩,
  ⟨0x68, 0, 1, 0x0, [⟨0, 0, .ro, 0, 1⟩, ⟨1, 1, .ro, 0, 1⟩, ⟨2, 2, .ro, 0, 1⟩, ⟨7, 4, .ro, 0, 15⟩, ⟨11, 8, .ro, 0, 15⟩, ⟨13, 12, .ro, 0, 3⟩]⟩,
  ⟨0x6c, 0, 1, 0x0, [⟨8, 0, .ro, 0, 511⟩, ⟨24, 16, .ro, 0, 511⟩]⟩,
  ⟨0x80, 0, 1, 0x0, [⟨31, 0, .ro, 0, 4294967295⟩]⟩,
  ⟨0x84, 0, 1, 0x0, [⟨31, 0, .ro, 0, 4294967295⟩]⟩,
  ⟨0x88, 0, 1, 0x0, [⟨31, 0, .ro, 0, 4294967295⟩]⟩,
  ⟨0x8c, 0, 1, 0x0, [⟨31, 0, .ro, 0, 4294967295⟩]⟩]

/-- Registers of page group FARPORT, part 1 (R316, R317). -/
def regsFarport1 : List RegD := [
  ⟨0x90, 0, 1, 0x0, [⟨31, 0, .ro, 0, 4294967295⟩]⟩,
  ⟨0x94, 0, 1, 0x0, [⟨31, 0, .ro, 0, 4294967295⟩]⟩,
  ⟨0x98, 0, 1, 0x0, [⟨31, 0, .ro, 0, 4294967295⟩]⟩,
  ⟨0x9c, 0, 1, 0x0, [⟨31, 0, .ro, 0, 4294967295⟩]⟩,
  ⟨0xa0, 0, 1, 0x0, [⟨31, 0, .ro, 0, 4294967295⟩]⟩,
  ⟨0xa4, 0, 1, 0x0, [⟨31, 0, .ro, 0, 4294967295⟩]⟩,
  ⟨0xa8, 0, 1, 0x0, [⟨31, 0, .ro, 0, 4294967295⟩]⟩,
  ⟨0x100, 16, 8, 0x0, [⟨22, 0, .rw, 0, 8388607⟩]⟩,
  ⟨0x104, 16, 8, 0x0, [⟨22, 0, .rw, 0, 8388607⟩]⟩,
  ⟨0x108, 16, 8, 0x0, [⟨0, 0, .rw, 0, 1⟩, ⟨1, 1, .ro, 0, 1⟩, ⟨2, 2, .ro, 0, 1⟩, ⟨6, 4, .rw, 0, 3⟩, ⟨10, 8, .rw, 0, 6⟩]⟩,
  ⟨0x10c, 16, 8, 0x0, [⟨3, 0, .rw, 0, 15⟩, ⟨7, 4, .rw, 0, 15⟩, ⟨11, 8, .rw, 0, 15⟩, ⟨15, 12, .rw, 0, 15⟩, ⟨19, 16, .rw, 0, 15⟩, ⟨23, 20, .rw, 0, 15⟩, ⟨27, 24, .rw, 0, 15⟩, ⟨31, 28, .rw, 0, 15⟩]⟩]

/-- Every register of page group FARPORT from offset 0x040. -/
def regsFarport : List RegD := regsFarport0 ++ regsFarport1

/-- Registers of page group CLASSTAB, part 0 (R158, R160). -/
def regsClasstab0 : List RegD := [
  ⟨0x40, 64, 16, 0x32ffff, [⟨15, 0, .rw, 8, 65535⟩, ⟨22, 16, .rw, 0, 95⟩]⟩,
  ⟨0x44, 64, 16, 0x3f0000, [⟨15, 0, .rw, 0, 65535⟩, ⟨21, 16, .rw, 0, 63⟩]⟩,
  ⟨0x48, 64, 16, 0x0, [⟨31, 0, .rw, 0, 4294967295⟩]⟩,
  ⟨0x4c, 64, 16, 0x0, [⟨15, 0, .rw, 0, 65535⟩]⟩,
  ⟨0x50, 64, 16, 0x0, [⟨7, 0, .rw, 0, 255⟩]⟩,
  ⟨0x54, 64, 16, 0x3e80000, [⟨1, 0, .rw, 0, 3⟩, ⟨31, 16, .rw, 1, 65535⟩]⟩,
  ⟨0x58, 64, 16, 0x10, [⟨15, 0, .rw, 1, 65535⟩]⟩,
  ⟨0x5c, 64, 16, 0x186a0, [⟨25, 0, .rw, 1, 60000000⟩]⟩,
  ⟨0x60, 64, 16, 0x0, [⟨23, 0, .ro, 0, 16777215⟩, ⟨26, 24, .ro, 0, 7⟩, ⟨27, 27, .ro, 0, 1⟩, ⟨28, 28, .ro, 0, 1⟩]⟩,
  ⟨0x64, 64, 16, 0x0, [⟨15, 0, .ro, 0, 65535⟩, ⟨31, 16, .ro, 0, 65535⟩]⟩,
  ⟨0x68, 64, 16, 0x0, [⟨31, 0, .ro, 0, 4294967295⟩]⟩,
  ⟨0x6c, 64, 16, 0x0, [⟨15, 0, .ro, 0, 65535⟩]⟩,
  ⟨0x70, 64, 16, 0x0, [⟨31, 0, .ro, 0, 4294967295⟩]⟩,
  ⟨0x74, 64, 16, 0x0, [⟨15, 0, .ro, 0, 65535⟩]⟩,
  ⟨0x78, 64, 16, 0x0, [⟨31, 0, .ro, 0, 4294967295⟩]⟩,
  ⟨0x7c, 64, 16, 0x0, [⟨15, 0, .ro, 0, 65535⟩]⟩]

/-- Every register of page group CLASSTAB from offset 0x040. -/
def regsClasstab : List RegD := regsClasstab0

/-- Registers of page group ENGINE, part 0 (R240, R267, R241, R268). -/
def regsEngine0 : List RegD := [
  ⟨0x40, 0, 1, 0x0, [⟨31, 31, .ro, 0, 1⟩, ⟨30, 30, .ro, 0, 1⟩, ⟨29, 29, .ro, 0, 1⟩, ⟨28, 28, .ro, 0, 1⟩, ⟨25, 24, .ro, 0, 3⟩, ⟨19, 16, .ro, 0, 15⟩, ⟨11, 0, .ro, 0, 4095⟩]⟩,
  ⟨0x44, 0, 1, 0x0, [⟨31, 31, .ro, 0, 1⟩, ⟨27, 24, .ro, 0, 15⟩, ⟨20, 16, .ro, 0, 31⟩, ⟨11, 0, .ro, 0, 4095⟩]⟩,
  ⟨0x48, 0, 1, 0x0, [⟨31, 0, .ro, 0, 4294967295⟩]⟩,
  ⟨0x4c, 0, 1, 0x0, [⟨12, 0, .ro, 0, 8191⟩]⟩,
  ⟨0x50, 0, 1, 0x0, [⟨1, 0, .rw, 0, 3⟩]⟩,
  ⟨0x54, 0, 1, 0x0, [⟨0, 0, .w1s, 0, 1⟩]⟩,
  ⟨0x58, 0, 1, 0x0, [⟨8, 0, .ro, 0, 511⟩, ⟨24, 16, .ro, 0, 511⟩]⟩,
  ⟨0x5c, 0, 1, 0x0, [⟨0, 0, .rw, 0, 1⟩, ⟨1, 1, .w1s, 0, 1⟩, ⟨8, 8, .rw, 0, 1⟩, ⟨27, 16, .rw, 0, 4095⟩]⟩,
  ⟨0x60, 0, 1, 0x0, [⟨5, 0, .rw, 0, 60⟩, ⟨11, 8, .rw, 0, 15⟩]⟩,
  ⟨0x64, 0, 1, 0x0, [⟨31, 0, .ro, 0, 4294967295⟩]⟩,
  ⟨0x80, 0, 1, 0x0, [⟨31, 0, .ro, 0, 4294967295⟩]⟩,
  ⟨0x84, 0, 1, 0x0, [⟨31, 0, .ro, 0, 4294967295⟩]⟩,
  ⟨0x88, 0, 1, 0x0, [⟨31, 0, .ro, 0, 4294967295⟩]⟩,
  ⟨0x8c, 0, 1, 0x0, [⟨31, 0, .ro, 0, 4294967295⟩]⟩,
  ⟨0x90, 0, 1, 0x0, [⟨31, 0, .ro, 0, 4294967295⟩]⟩,
  ⟨0x94, 0, 1, 0x0, [⟨31, 0, .ro, 0, 4294967295⟩]⟩]

/-- Registers of page group ENGINE, part 1 (R240, R267, R241, R268). -/
def regsEngine1 : List RegD := [
  ⟨0x98, 0, 1, 0x0, [⟨31, 0, .ro, 0, 4294967295⟩]⟩,
  ⟨0x9c, 0, 1, 0x0, [⟨31, 0, .ro, 0, 4294967295⟩]⟩,
  ⟨0xa0, 0, 1, 0x0, [⟨31, 0, .ro, 0, 4294967295⟩]⟩,
  ⟨0xa4, 0, 1, 0x0, [⟨31, 0, .ro, 0, 4294967295⟩]⟩,
  ⟨0x100, 0, 1, 0x0, [⟨2, 0, .ro, 0, 7⟩, ⟨21, 16, .ro, 0, 63⟩]⟩,
  ⟨0x104, 0, 1, 0x0, [⟨23, 0, .ro, 0, 16777215⟩]⟩,
  ⟨0x108, 0, 1, 0x0, [⟨25, 0, .ro, 0, 67108863⟩]⟩,
  ⟨0x10c, 0, 1, 0x0, [⟨0, 0, .w1s, 0, 1⟩, ⟨1, 1, .rw, 0, 1⟩]⟩,
  ⟨0x110, 0, 1, 0x0, [⟨15, 0, .ro, 0, 65535⟩]⟩,
  ⟨0x114, 0, 1, 0x0, [⟨15, 0, .w1s, 0, 65535⟩]⟩,
  ⟨0x118, 0, 1, 0x0, [⟨15, 0, .ro, 0, 65535⟩]⟩,
  ⟨0x120, 0, 1, 0x0, [⟨31, 0, .ro, 0, 4294967295⟩]⟩,
  ⟨0x140, 8, 16, 0x0, [⟨11, 0, .rw, 0, 4095⟩, ⟨28, 16, .rw, 0, 4096⟩, ⟨31, 31, .rw, 0, 1⟩]⟩,
  ⟨0x144, 8, 16, 0x0, [⟨11, 0, .rw, 0, 4095⟩, ⟨28, 16, .rw, 0, 4096⟩, ⟨31, 31, .rw, 0, 1⟩]⟩]

/-- Every register of page group ENGINE from offset 0x040. -/
def regsEngine : List RegD := regsEngine0 ++ regsEngine1

/-- Registers of page group SHAFT, part 0 (R187, R209, R291, R188, R189, R210, R292). -/
def regsShaft0 : List RegD := [
  ⟨0x40, 0, 1, 0x10, [⟨1, 0, .ro, 0, 3⟩, ⟨2, 2, .ro, 0, 1⟩, ⟨3, 3, .ro, 0, 1⟩, ⟨4, 4, .ro, 0, 1⟩, ⟨5, 5, .ro, 0, 1⟩, ⟨7, 6, .ro, 0, 3⟩, ⟨8, 8, .ro, 0, 1⟩, ⟨10, 9, .ro, 0, 3⟩]⟩,
  ⟨0x44, 0, 1, 0x10302810, [⟨4, 0, .rw, 1, 31⟩, ⟨15, 8, .rw, 0, 255⟩, ⟨21, 16, .rw, 8, 63⟩, ⟨29, 24, .rw, 0, 63⟩]⟩,
  ⟨0x48, 0, 1, 0x0, [⟨0, 0, .rw, 0, 1⟩, ⟨2, 1, .rw, 0, 2⟩]⟩,
  ⟨0x4c, 0, 1, 0x0, [⟨7, 0, .ro, 0, 255⟩, ⟨9, 8, .ro, 0, 3⟩, ⟨23, 16, .ro, 0, 255⟩]⟩,
  ⟨0x50, 0, 1, 0x800, [⟨14, 0, .rw, 256, 16384⟩]⟩,
  ⟨0x54, 0, 1, 0x3e80000, [⟨0, 0, .w1s, 0, 1⟩, ⟨1, 1, .w1s, 0, 1⟩, ⟨8, 8, .rw, 0, 1⟩, ⟨31, 16, .rw, 1, 65535⟩]⟩,
  ⟨0x58, 0, 1, 0x0, [⟨0, 0, .w1s, 0, 1⟩, ⟨1, 1, .rw, 0, 1⟩, ⟨5, 4, .rw, 0, 2⟩]⟩,
  ⟨0x5c, 0, 1, 0x0, [⟨31, 31, .ro, 0, 1⟩, ⟨30, 28, .ro, 0, 7⟩, ⟨27, 26, .ro, 0, 3⟩, ⟨15, 0, .ro, 0, 65535⟩]⟩,
  ⟨0x60, 0, 1, 0x0, [⟨1, 0, .ro, 0, 3⟩, ⟨5, 4, .ro, 0, 3⟩]⟩,
  ⟨0x80, 0, 1, 0x0, [⟨31, 0, .ro, 0, 4294967295⟩]⟩,
  ⟨0x84, 0, 1, 0x0, [⟨31, 0, .ro, 0, 4294967295⟩]⟩,
  ⟨0x88, 0, 1, 0x0, [⟨31, 0, .ro, 0, 4294967295⟩]⟩,
  ⟨0x8c, 0, 1, 0x0, [⟨31, 0, .ro, 0, 4294967295⟩]⟩,
  ⟨0x90, 0, 1, 0x0, [⟨31, 0, .ro, 0, 4294967295⟩]⟩,
  ⟨0x94, 0, 1, 0x0, [⟨31, 0, .ro, 0, 4294967295⟩]⟩,
  ⟨0x98, 0, 1, 0x0, [⟨31, 0, .ro, 0, 4294967295⟩]⟩]

/-- Registers of page group SHAFT, part 1 (R187, R209, R291, R188, R189, R210, R292). -/
def regsShaft1 : List RegD := [
  ⟨0x9c, 0, 1, 0x0, [⟨31, 0, .ro, 0, 4294967295⟩]⟩,
  ⟨0xa0, 0, 1, 0x0, [⟨31, 0, .ro, 0, 4294967295⟩]⟩,
  ⟨0xa4, 0, 1, 0x0, [⟨31, 0, .ro, 0, 4294967295⟩]⟩,
  ⟨0xa8, 0, 1, 0x0, [⟨31, 0, .ro, 0, 4294967295⟩]⟩,
  ⟨0xac, 0, 1, 0x0, [⟨31, 0, .ro, 0, 4294967295⟩]⟩,
  ⟨0x100, 0, 1, 0x80000000, [⟨1, 0, .rw, 0, 2⟩, ⟨31, 31, .ro, 0, 1⟩]⟩,
  ⟨0x104, 0, 1, 0x442d1717, [⟨7, 0, .rw, 0, 255⟩, ⟨15, 8, .rw, 0, 255⟩, ⟨23, 16, .rw, 0, 255⟩, ⟨31, 24, .rw, 0, 255⟩]⟩,
  ⟨0x108, 0, 1, 0xc040a20, [⟨7, 0, .rw, 0, 255⟩, ⟨15, 8, .rw, 0, 255⟩, ⟨23, 16, .rw, 0, 255⟩, ⟨31, 24, .rw, 0, 255⟩]⟩,
  ⟨0x10c, 0, 1, 0x21060d, [⟨7, 0, .rw, 0, 255⟩, ⟨15, 8, .rw, 0, 255⟩, ⟨19, 16, .rw, 0, 15⟩, ⟨23, 20, .rw, 0, 15⟩]⟩,
  ⟨0x110, 0, 1, 0x100804, [⟨7, 0, .rw, 0, 255⟩, ⟨15, 8, .rw, 0, 255⟩, ⟨23, 16, .rw, 0, 255⟩]⟩,
  ⟨0x114, 0, 1, 0x1c000c0, [⟨9, 0, .rw, 0, 1023⟩, ⟨25, 16, .rw, 0, 1023⟩]⟩,
  ⟨0x118, 0, 1, 0x1d00060, [⟨7, 0, .rw, 0, 255⟩, ⟨25, 16, .rw, 0, 1023⟩]⟩,
  ⟨0x140, 0, 1, 0x2, [⟨1, 0, .rw, 0, 2⟩, ⟨31, 31, .ro, 0, 1⟩]⟩,
  ⟨0x144, 0, 1, 0x23170c0c, [⟨7, 0, .rw, 0, 255⟩, ⟨15, 8, .rw, 0, 255⟩, ⟨23, 16, .rw, 0, 255⟩, ⟨31, 24, .rw, 0, 255⟩]⟩,
  ⟨0x148, 0, 1, 0x6020510, [⟨7, 0, .rw, 0, 255⟩, ⟨15, 8, .rw, 0, 255⟩, ⟨23, 16, .rw, 0, 255⟩, ⟨31, 24, .rw, 0, 255⟩]⟩,
  ⟨0x14c, 0, 1, 0x210507, [⟨7, 0, .rw, 0, 255⟩, ⟨15, 8, .rw, 0, 255⟩, ⟨19, 16, .rw, 0, 15⟩, ⟨23, 20, .rw, 0, 15⟩]⟩]

/-- Registers of page group SHAFT, part 2 (R187, R209, R291, R188, R189, R210, R292). -/
def regsShaft2 : List RegD := [
  ⟨0x150, 0, 1, 0x80402, [⟨7, 0, .rw, 0, 255⟩, ⟨15, 8, .rw, 0, 255⟩, ⟨23, 16, .rw, 0, 255⟩]⟩,
  ⟨0x154, 0, 1, 0xe00060, [⟨9, 0, .rw, 0, 1023⟩, ⟨25, 16, .rw, 0, 1023⟩]⟩,
  ⟨0x158, 0, 1, 0xe80030, [⟨7, 0, .rw, 0, 255⟩, ⟨25, 16, .rw, 0, 1023⟩]⟩,
  ⟨0x200, 0, 1, 0x0, [⟨0, 0, .w1s, 0, 1⟩, ⟨1, 1, .w1s, 0, 1⟩, ⟨7, 4, .rw, 0, 7⟩]⟩,
  ⟨0x204, 0, 1, 0x0, [⟨31, 31, .ro, 0, 1⟩, ⟨30, 30, .ro, 0, 1⟩, ⟨29, 28, .ro, 0, 3⟩, ⟨27, 24, .ro, 0, 15⟩, ⟨11, 8, .ro, 0, 15⟩, ⟨7, 4, .ro, 0, 15⟩]⟩,
  ⟨0x208, 0, 1, 0xa0641081, [⟨0, 0, .rw, 0, 1⟩, ⟨7, 4, .rw, 1, 15⟩, ⟨13, 8, .rw, 4, 63⟩, ⟨25, 16, .rw, 10, 1000⟩, ⟨31, 28, .rw, 1, 15⟩]⟩,
  ⟨0x20c, 0, 1, 0x0, [⟨3, 0, .ro, 0, 15⟩, ⟨6, 4, .ro, 0, 7⟩, ⟨9, 8, .ro, 0, 3⟩, ⟨15, 12, .ro, 0, 15⟩, ⟨31, 16, .ro, 0, 65535⟩]⟩,
  ⟨0x210, 0, 1, 0x0, [⟨31, 0, .ro, 0, 4294967295⟩]⟩,
  ⟨0x214, 0, 1, 0x0, [⟨31, 12, .ro, 0, 1048575⟩, ⟨11, 0, .ro, 0, 4095⟩]⟩,
  ⟨0x218, 0, 1, 0x101010, [⟨4, 0, .ro, 0, 31⟩, ⟨12, 8, .ro, 0, 31⟩, ⟨20, 16, .ro, 0, 31⟩]⟩,
  ⟨0x21c, 0, 1, 0x0, [⟨6, 0, .rw, 0, 82⟩, ⟨9, 8, .rw, 0, 2⟩]⟩,
  ⟨0x220, 0, 1, 0x4040, [⟨6, 0, .rw, 0, 127⟩, ⟨14, 8, .rw, 0, 127⟩]⟩,
  ⟨0x224, 0, 1, 0x10000, [⟨0, 0, .w1s, 0, 1⟩, ⟨6, 4, .rw, 0, 5⟩, ⟨8, 8, .rw, 0, 1⟩, ⟨31, 16, .rw, 1, 65535⟩]⟩,
  ⟨0x228, 0, 1, 0x1, [⟨22, 0, .rw, 1, 8388607⟩]⟩,
  ⟨0x22c, 0, 1, 0x0, [⟨31, 31, .ro, 0, 1⟩, ⟨27, 24, .ro, 0, 15⟩, ⟨15, 0, .ro, 0, 65535⟩]⟩,
  ⟨0x230, 4, 3, 0x0, [⟨31, 0, .ro, 0, 4294967295⟩]⟩]

/-- Registers of page group SHAFT, part 3 (R187, R209, R291, R188, R189, R210, R292). -/
def regsShaft3 : List RegD := [
  ⟨0x240, 4, 9, 0x20206060, [⟨7, 0, .rw, 0, 255⟩, ⟨15, 8, .rw, 0, 255⟩, ⟨21, 16, .rw, 0, 63⟩, ⟨29, 24, .rw, 0, 63⟩]⟩,
  ⟨0x270, 4, 9, 0x0, [⟨7, 0, .ro, 0, 255⟩, ⟨15, 8, .ro, 0, 255⟩, ⟨21, 16, .ro, 0, 63⟩, ⟨29, 24, .ro, 0, 63⟩]⟩,
  ⟨0x300, 0, 1, 0x1803, [⟨0, 0, .rw, 0, 1⟩, ⟨1, 1, .rw, 0, 1⟩, ⟨15, 8, .rw, 1, 168⟩]⟩,
  ⟨0x304, 0, 1, 0x0, [⟨15, 0, .ro, 0, 65535⟩, ⟨31, 31, .ro, 0, 1⟩]⟩,
  ⟨0x308, 0, 1, 0x0, [⟨21, 17, .ro, 0, 31⟩, ⟨16, 0, .ro, 0, 131071⟩]⟩,
  ⟨0x30c, 0, 1, 0x10823, [⟨3, 0, .rw, 1, 15⟩, ⟨7, 4, .rw, 1, 15⟩, ⟨15, 8, .rw, 2, 255⟩, ⟨16, 16, .rw, 0, 1⟩]⟩,
  ⟨0x310, 0, 1, 0x0, [⟨7, 0, .ro, 0, 255⟩, ⟨15, 8, .ro, 0, 255⟩]⟩,
  ⟨0x314, 0, 1, 0x0, [⟨6, 0, .rw, 0, 127⟩]⟩,
  ⟨0x318, 0, 1, 0x0, [⟨31, 31, .ro, 0, 1⟩, ⟨30, 29, .ro, 0, 3⟩, ⟨25, 22, .ro, 0, 15⟩, ⟨21, 17, .ro, 0, 31⟩, ⟨16, 0, .ro, 0, 131071⟩]⟩,
  ⟨0x31c, 0, 1, 0x0, [⟨8, 0, .ro, 0, 511⟩, ⟨31, 16, .ro, 0, 65535⟩]⟩,
  ⟨0x320, 0, 1, 0x0, [⟨7, 0, .rw, 0, 255⟩]⟩,
  ⟨0x324, 0, 1, 0x0, [⟨31, 31, .ro, 0, 1⟩, ⟨26, 0, .ro, 0, 134217727⟩]⟩,
  ⟨0x328, 0, 1, 0x0, [⟨16, 0, .rw, 0, 131071⟩, ⟨21, 17, .rw, 0, 31⟩, ⟨24, 24, .rw, 0, 1⟩, ⟨31, 31, .w1s, 0, 1⟩]⟩,
  ⟨0x32c, 0, 1, 0x0, [⟨31, 31, .ro, 0, 1⟩, ⟨30, 28, .ro, 0, 7⟩, ⟨27, 24, .ro, 0, 15⟩, ⟨21, 16, .ro, 0, 63⟩]⟩,
  ⟨0x330, 0, 1, 0x0, [⟨31, 31, .ro, 0, 1⟩, ⟨23, 16, .ro, 0, 255⟩, ⟨12, 8, .ro, 0, 31⟩, ⟨4, 0, .ro, 0, 31⟩]⟩,
  ⟨0x340, 0, 1, 0x0, [⟨31, 0, .ro, 0, 4294967295⟩]⟩]

/-- Registers of page group SHAFT, part 4 (R187, R209, R291, R188, R189, R210, R292). -/
def regsShaft4 : List RegD := [
  ⟨0x344, 0, 1, 0x0, [⟨31, 0, .ro, 0, 4294967295⟩]⟩,
  ⟨0x348, 0, 1, 0x0, [⟨31, 0, .ro, 0, 4294967295⟩]⟩,
  ⟨0x34c, 0, 1, 0x0, [⟨31, 0, .ro, 0, 4294967295⟩]⟩,
  ⟨0x350, 0, 1, 0x0, [⟨31, 0, .ro, 0, 4294967295⟩]⟩,
  ⟨0x354, 0, 1, 0x0, [⟨31, 0, .ro, 0, 4294967295⟩]⟩,
  ⟨0x358, 0, 1, 0x0, [⟨31, 0, .ro, 0, 4294967295⟩]⟩,
  ⟨0x35c, 0, 1, 0x0, [⟨31, 0, .ro, 0, 4294967295⟩]⟩,
  ⟨0x360, 0, 1, 0x0, [⟨31, 0, .ro, 0, 4294967295⟩]⟩,
  ⟨0x364, 0, 1, 0x0, [⟨31, 0, .ro, 0, 4294967295⟩]⟩,
  ⟨0x368, 0, 1, 0x0, [⟨31, 0, .ro, 0, 4294967295⟩]⟩,
  ⟨0x36c, 0, 1, 0x0, [⟨31, 0, .ro, 0, 4294967295⟩]⟩,
  ⟨0x370, 0, 1, 0x0, [⟨31, 0, .ro, 0, 4294967295⟩]⟩,
  ⟨0x374, 0, 1, 0x0, [⟨31, 0, .ro, 0, 4294967295⟩]⟩]

/-- Every register of page group SHAFT from offset 0x040. -/
def regsShaft : List RegD := regsShaft0 ++ regsShaft1 ++ regsShaft2 ++ regsShaft3 ++ regsShaft4

/-- Registers of page group DIE, part 0 (R293, R294). -/
def regsDie0 : List RegD := [
  ⟨0x40, 0, 1, 0x0, [⟨3, 0, .ro, 0, 15⟩, ⟨11, 8, .ro, 0, 15⟩]⟩,
  ⟨0x44, 0, 1, 0x0, [⟨12, 0, .ro, 0, 8191⟩, ⟨24, 16, .ro, 0, 511⟩]⟩,
  ⟨0x48, 0, 1, 0x0, [⟨1, 0, .rw, 0, 3⟩, ⟨12, 8, .rw, 0, 31⟩]⟩,
  ⟨0x4c, 0, 1, 0x0, [⟨6, 0, .ro, 0, 127⟩, ⟨10, 8, .ro, 0, 7⟩]⟩,
  ⟨0x50, 0, 1, 0x0, [⟨31, 0, .ro, 0, 4294967295⟩]⟩,
  ⟨0x54, 0, 1, 0x0, [⟨31, 0, .ro, 0, 4294967295⟩]⟩,
  ⟨0x58, 0, 1, 0x8, [⟨6, 0, .rw, 0, 64⟩]⟩]

/-- Every register of page group DIE from offset 0x040. -/
def regsDie : List RegD := regsDie0

/-- One group of register pages: its first page, its number of pages, its registers and the event bits it defines (R457). -/
structure GroupD where
  page : Nat
  count : Nat
  regs : List RegD
  evMask : Nat
  deriving DecidableEq, Repr

/-- The page groups of R457, in ascending page number. -/
def pageGroups : List GroupD := [
  ⟨0x0, 1, regsDevice, 0x7⟩,
  ⟨0x1, 1, regsModes, 0x7f⟩,
  ⟨0x2, 1, regsPages, 0x1⟩,
  ⟨0x3, 1, regsLeases, 0x3⟩,
  ⟨0x4, 1, regsFuses, 0x3f⟩,
  ⟨0x5, 1, regsTally, 0x1f⟩,
  ⟨0x6, 1, regsHeat, 0x1ff⟩,
  ⟨0x7, 1, regsCalref, 0x1f⟩,
  ⟨0x8, 1, regsSelftest, 0x1f⟩,
  ⟨0x9, 1, regsClasses, 0x7⟩,
  ⟨0xa, 1, regsHaulage, 0x3f⟩,
  ⟨0xb, 1, regsDispatch, 0x1f⟩,
  ⟨0xc, 1, regsPair, 0x1ff⟩,
  ⟨0xd, 1, regsFabric, 0xf⟩,
  ⟨0xe, 1, regsPower, 0x7⟩,
  ⟨0xf, 1, regsCollar, 0x3⟩,
  ⟨0x10, 12, regsHostport, 0x3ff⟩,
  ⟨0x20, 4, regsFarport, 0x1fff⟩,
  ⟨0x40, 4, regsClasstab, 0x0⟩,
  ⟨0x100, 48, regsEngine, 0xf⟩,
  ⟨0x200, 48, regsShaft, 0x3f⟩,
  ⟨0x300, 12, regsDie, 0xfffffff⟩]

end Sys2Proof.Machine
end

