-- ==== Sys2Proof/Machine/Sparse.lean ====
section
/-!
DEFINITION. Machine/Sparse.lean: reading and writing data kept as a sorted list (keys rising, no entry equal to its
default), sets of numbers kept as intervals, and the bit-field helpers that every register operation uses.
-/
namespace Sys2Proof.Machine

/-- What key `k` reads as: its entry, or the default of that key. -/
def sget {β : Type} (d : Nat → β) : Sparse β → Nat → β
  | [], k => d k
  | (j, v) :: m, k => if j = k then v else sget d m k

/-- Insert or replace key `k`, keeping the keys rising. -/
def sput {β : Type} : Sparse β → Nat → β → Sparse β
  | [], k, v => [(k, v)]
  | (j, w) :: m, k, v =>
    if k < j then (k, v) :: (j, w) :: m
    else if k = j then (k, v) :: m
    else (j, w) :: sput m k v

/-- Remove key `k`. -/
def sdel {β : Type} (m : Sparse β) (k : Nat) : Sparse β := m.filter (fun e => e.1 != k)

/-- Write key `k`; a value equal to the default removes the entry, so that equal data are equal lists. -/
def sset {β : Type} [DecidableEq β] (d : Nat → β) (m : Sparse β) (k : Nat) (v : β) : Sparse β :=
  if v = d k then sdel m k else sput m k v

/-- Change what key `k` reads as. -/
def smod {β : Type} [DecidableEq β] (d : Nat → β) (m : Sparse β) (k : Nat) (f : β → β) : Sparse β :=
  sset d m k (f (sget d m k))

/-- Change every entry; one that becomes its default is no longer listed. -/
def smapv {β : Type} [DecidableEq β] (d : Nat → β) (m : Sparse β) (f : β → β) : Sparse β :=
  (m.map (fun e => (e.1, f e.2))).filter (fun e => e.2 != d e.1)

/-- Keys strictly rising. -/
def skeys {β : Type} : Sparse β → Bool
  | [] => true
  | [_] => true
  | (j, _) :: (k, v) :: m => decide (j < k) && skeys ((k, v) :: m)

/-- The canonical form: keys strictly rising and no entry equal to its default. -/
def swf {β : Type} [DecidableEq β] (d : Nat → β) (m : Sparse β) : Bool :=
  skeys m && m.all (fun e => e.2 != d e.1)

/-! ### Interval sets -/

/-- Is `k` in the set? -/
def imem (s : ISet) (k : Nat) : Bool := s.any (fun iv => decide (iv.1 ≤ k) && decide (k ≤ iv.2))

/-- How many numbers the set holds. -/
def icount (s : ISet) : Nat := s.foldl (fun n iv => n + (iv.2 + 1 - iv.1)) 0

/-- Add lo..hi, merging what touches it. -/
def iadd : ISet → Nat → Nat → ISet
  | [], lo, hi => [(lo, hi)]
  | (a, b) :: s, lo, hi =>
    if b + 1 < lo then (a, b) :: iadd s lo hi
    else if hi + 1 < a then (lo, hi) :: (a, b) :: s
    else iadd s (min a lo) (max b hi)

/-- Remove lo..hi. -/
def idel : ISet → Nat → Nat → ISet
  | [], _, _ => []
  | (a, b) :: s, lo, hi =>
    if b < lo then (a, b) :: idel s lo hi
    else if hi < a then (a, b) :: s
    else (if a < lo then [(a, lo - 1)] else []) ++ (if hi < b then [(hi + 1, b)] else []) ++ idel s lo hi

/-- The lowest number of the set. -/
def ifirst : ISet → Option Nat
  | [] => none
  | (a, _) :: _ => some a

/-! ### Bits -/

/-- Bits hi..lo of a register word, as a number. -/
def bitsOf (v : Word32) (hi lo : Nat) : Nat := v.toNat / 2 ^ lo % 2 ^ (hi + 1 - lo)

/-- A register word with bits hi..lo replaced by `x` (modulo the field's width). -/
def withBits (v : Word32) (hi lo x : Nat) : Word32 :=
  let w := hi + 1 - lo
  BitVec.ofNat 32 (v.toNat - bitsOf v hi lo * 2 ^ lo + x % 2 ^ w * 2 ^ lo)

/-- Bit `i` of a number. -/
def bitN (n i : Nat) : Bool := n / 2 ^ i % 2 == 1

/-- Nearest legal value (R460). -/
def clampTo (lo hi x : Nat) : Nat := max lo (min hi x)

/-- A two's complement field of `w` bits as an integer. -/
def toSigned (w x : Nat) : Int := if x % 2 ^ w < 2 ^ (w - 1) then (x % 2 ^ w : Nat) else (x % 2 ^ w : Nat) - (2 ^ w : Nat)

/-- An integer as a two's complement field of `w` bits. -/
def ofSigned (w : Nat) (x : Int) : Nat := (x % (2 ^ w : Nat)).toNat

/-- Numbers 0 to n − 1 for which `p` holds, as a mask. -/
def maskOf (n : Nat) (p : Nat → Bool) : Nat := (List.range n).foldl (fun m i => if p i then m + 2 ^ i else m) 0

/-- How many of 0 to n − 1 satisfy `p`. -/
def countOf (n : Nat) (p : Nat → Bool) : Nat := ((List.range n).filter p).length

/-- 1 for true, 0 for false. -/
def b2n (b : Bool) : Nat := if b then 1 else 0

/-- Remove the first element that satisfies `p`. -/
def dropFirst {α : Type} (p : α → Bool) : List α → List α
  | [] => []
  | x :: l => if p x then l else x :: dropFirst p l

/-- Replace the element at place `i`, if there is one. -/
def setAt {α : Type} : List α → Nat → α → List α
  | [], _, _ => []
  | _ :: l, 0, v => v :: l
  | x :: l, i + 1, v => x :: setAt l i v

end Sys2Proof.Machine
end

