-- ==== Sys2Proof/Machine/Types.lean ====
section
/-!
DEFINITION. Machine/Types.lean: the records that travel through the Colax and the records its units keep: memory requests
and their answers, frame-table entries, fill and write-back buffers, shaft queues, class figures, events and records.
All of it is plain data.
-/
namespace Sys2Proof.Machine

/-! ### Requests and answers -/

/-- What a memory request asks for (R87, R163). `zfill` and `capture` are the two sector operations of haulage. -/
inductive MOp where
  | rd | rdNa | wr | wrm
  | atom (aop : Nat)
  | hint (kind count target : Nat)
  | flush (frame : Bool)
  | fence
  | unknown (opc slots : Nat)
  | zfill | capture
  deriving DecidableEq, Repr

/-- Who holds the space reserved for a request's answer (R123). `move` is a line of move `id`, `dup` the second copy of a write to a frame
that is being moved (R68); nothing waits for the answer of a `dup`, a `hint` or a `scrub`. A `scrub` read is the controller's own, under class 62: 0 of a patrol
visit, 1 of a row that is rewritten (R281), 2 of a row that is repaired (R282). -/
inductive Origin where
  | host (h tag : Nat)
  | engine (n slot : Nat)
  | fill (i : Nat)
  | wback (i : Nat)
  | move (id : Nat)
  | dup
  | zfillFor (req : Nat)
  | desc (k : Nat)
  | comp (n : Nat)
  | mirror (f seq : Nat)
  | rdata (f seq : Nat)
  | resync (line : Nat)
  | hint
  | scrub (k : Nat)
  deriving DecidableEq, Repr

/-- A memory request wherever it is in the device. `line` is the host line A[44:6]; `shaft` and `sline` are set once the
frame table has placed it; `tagErr` the DETAIL of a tag that breaks R94, 0 for none, judged when the request arrives;
`loc` that it takes the path inside an engine's tile (R12); `maskBad` that its byte mask comes with wrong parity (R270). -/
structure Req where
  id : Nat
  org : Origin
  op : MOp
  cls : Nat
  urg : Nat := 0
  line : Nat
  data : Line := 0
  par : BitVec 64 := 0
  mask : BitVec 64 := 0
  a : Word64 := 0
  b : Word64 := 0
  off : Nat := 0
  parOk : Bool := true
  shaft : Nat := 0
  sline : Nat := 0
  starved : Bool := false
  tagErr : Nat := 0
  loc : Bool := false
  maskBad : Bool := false
  deriving DecidableEq, Repr

/-- The host lines a request touches, first and last (R101): every line of its range for a HINT, RELEASE or FLUSH; none (last below first)
for a FENCE and an unknown opcode. -/
def Req.span (r : Req) : Nat × Nat :=
  match r.op with
  | .hint 0 count _ => (r.line / 64 * 64, r.line / 64 * 64 + 64 * count - 1)
  | .hint _ count _ => (r.line / 8192 * 8192, r.line / 8192 * 8192 + 8192 * count - 1)
  | .flush true => (r.line / 8192 * 8192, r.line / 8192 * 8192 + 8191)
  | .flush false => (r.line / 64 * 64, r.line / 64 * 64 + 63)
  | .fence => (1, 0)
  | .unknown _ _ => (1, 0)
  | _ => (r.line, r.line)

/-- Do two spans share a line? -/
def spansMeet (a b : Nat × Nat) : Bool :=
  decide (a.1 ≤ a.2) && decide (b.1 ≤ b.2) && decide (a.1 ≤ b.2) && decide (b.1 ≤ a.2)

/-- How a request is answered (R104). `bad` marks the bytes whose parity is wrong. -/
inductive Result where
  | data (d : Line) (bad : BitVec 64)
  | poison
  | ack
  | atomData (old : Word64) (changed poison : Bool)
  | retry (us : Nat)
  | dark (us page : Nat)
  | error (reason detail : Nat)
  | lines (ls : List (Line × BitVec 64))
  deriving DecidableEq, Repr

/-- A response waiting in a port's response buffer (R93): its opcode, CLASS, TAG, the ADDR bits [39:1], FLAG, W, data and
the slots it holds reserved. `sample` says whether a latency sample is taken (R141); `fence` that it answers a
FENCE, `owns` that sending it frees its tag. -/
structure Resp where
  id : Nat
  opc : Nat
  cls : Nat
  tag : Nat
  addr : Nat
  flag : Bool
  w : Word64
  data : Line
  slots : Nat
  urg : Nat
  sample : Bool
  miss : Bool
  fence : Bool
  owns : Bool := true
  starved : Bool := false
  deriving DecidableEq, Repr

/-- A register request of a port's VC2 (R103); requests numbered below `before` arrived earlier; `tagErr` as in a memory request; `mgmt` is MGMT_EN
as the port had it when the request was admitted (R459). -/
structure RegReq where
  tag : Nat
  addr : Nat
  write : Bool
  v : Word32
  parOk : Bool
  before : Nat
  tagErr : Nat := 0
  mgmt : Bool := false
  deriving DecidableEq, Repr

/-- An entry of a port's event queue (R109). -/
structure EvtEntry where
  page : Nat
  status : Word32
  coalesced : Bool
  deriving DecidableEq, Repr

/-- A cell waiting in a virtual output queue (R120, R124): its source and destination attachment and what it carries. -/
structure Cell where
  src : Nat
  dst : Nat
  net : Nat
  req : Req
  deriving DecidableEq, Repr

/-! ### The frame table -/

/-- A way of the frame table (R31). Bits 2s+1..2s of `vec` are the state of sector s (R33). The parity bits of its 40 bytes are kept
beside it (`SpaceSt.parBad`). -/
structure Entry where
  valid : Bool
  tag : Nat
  shaft : Nat
  slot : Nat
  pin : Bool
  stackOnly : Bool
  farValid : Bool
  busy : Bool
  age : Nat
  cls : Nat
  dcount : Nat
  vec : BitVec 256
  deriving DecidableEq, Repr

/-- The way that holds nothing. -/
def noEntry : Entry := ⟨false, 0, 0, 0, false, false, false, false, 0, 0, 0, 0⟩

/-- A part of the space being emptied (R29): its first and last frame, and the window that decides it until it is empty. The frames of a
stack-only window (below 16) are released without write-back. -/
structure Part where
  lo : Nat
  hi : Nat
  win : Nat
  deriving DecidableEq, Repr

/-- A window being emptied (R29): the parts still to empty, and whether the window is then enabled (a takeover) or disabled. -/
structure Drain where
  win : Nat
  parts : List Part
  enable : Bool
  deriving DecidableEq, Repr

/-! ### Haulage -/

/-- Why a request waits in the held-request queue (R55). -/
inductive Why where
  | buffer | victim | slot | busy | blocked | fill | fence | shaftState | lag | order
  deriving DecidableEq, Repr

/-- A held request. -/
structure Held where
  req : Req
  why : Why
  deriving DecidableEq, Repr

/-- A fill buffer (R56, R57): `got` the lines that have come, `lines` what it holds (line, data, bad-parity bytes), `ops` reads, writes and
atomics whose line has not come, in their order, `writes` those merged, waiting for the commit with the answer they get, `sent` that the
sector has gone to the shaft, `acks` line writes the shaft has acknowledged of the `need` sent (64, and one more for every write merged
after `sent`), `drop` set by a RELEASE. -/
structure Fill where
  frame : Nat
  sector : Nat
  port : Nat
  got : List Nat := []
  lines : List (Nat × Line × BitVec 64) := []
  ops : List Req := []
  writes : List (Req × Result) := []
  sent : Bool := false
  acks : Nat := 0
  need : Nat := 64
  dirty : Bool := false
  drop : Bool := false
  failed : Bool := false
  deriving DecidableEq, Repr

/-- Why a write-back is made. -/
inductive WbCause where
  | evict | flush (id : Nat) | demote | preclean
  deriving DecidableEq, Repr

/-- A write-back buffer (R59). -/
structure Wback where
  frame : Nat
  sector : Nat
  port : Nat
  lines : List (Line × BitVec 64)
  captured : Bool
  acks : Nat
  redirty : Bool
  failed : Bool
  cause : WbCause
  deriving DecidableEq, Repr

/-- An eviction or release in progress (R62, R37): `step` 2 or 3, `repeats` so far, `release` a release without write-back, `shaft` and
`slot` what is freed. -/
structure Evict where
  frame : Nat
  step : Nat
  repeats : Nat
  release : Bool
  shaft : Nat
  slot : Nat
  deriving DecidableEq, Repr

/-- A frame-cache shootdown (R63), or the write revoke of one sector (R231), in progress: the collar ports that have not
acknowledged, and the write-back buffer a revoke is for. -/
structure Shoot where
  frame : Nat
  sector : Option Nat
  wb : Nat
  waiting : List Nat
  deriving DecidableEq, Repr

/-- Why a move is made (R69). -/
inductive MvCause where
  | hint (cls : Nat) | reg | evac
  deriving DecidableEq, Repr

/-- A move in a channel (R68): `step` 3 while the frame is copied, 4 from the shootdown on. `id` is the number its line accesses carry;
`next` the first line of the frame (0 to 8,191) the copy has not reached; `out` the lines whose read is under way, `again` those
written meanwhile, to be read again; `wr` the line writes not acknowledged (R123); `failed` the REASON (R76) that ends the move,
0 for none. -/
structure Mv where
  frame : Nat
  target : Nat
  srcShaft : Nat
  srcSlot : Nat
  dstSlot : Nat
  step : Nat
  cause : MvCause
  id : Nat := 0
  next : Nat := 0
  out : List Nat := []
  again : List Nat := []
  wr : Nat := 0
  failed : Nat := 0
  deriving DecidableEq, Repr

/-- A zero-fill and merge (R34, R45): the frame and sector, the zero-fill's request, the accesses to the sector that wait, the first
write ahead, and once the zeros are in the shaft controller the number of the write that is being merged. -/
structure ZFill where
  id : Nat
  frame : Nat
  sector : Nat
  first : Req
  waiting : List Req
  merging : Option Nat := none
  deriving DecidableEq, Repr

/-- A write-back job of a frame (R59, R35): sectors still to write, sectors in a buffer, sectors written that become CLEAN when the whole
frame has been written, whether it is the whole frame's first, and whether it has given up a sector. -/
structure WbJob where
  frame : Nat
  todo : List Nat
  busy : List Nat
  clean : List Nat
  whole : Bool
  cause : WbCause
  failed : Bool := false
  deriving DecidableEq, Repr

/-- An entry of an engine's frame cache (R230); `cls` the class of the last job that wrote through it, none while none has (R231). -/
structure FcEnt where
  frame : Nat
  shaft : Nat
  slot : Nat
  readable : BitVec 128
  writable : BitVec 128
  mirror : Bool
  used : Bool
  cls : Option Nat
  deriving DecidableEq, Repr

/-- Why a far request is made (R56, R59, R58, R273); a correction names the read burst: shaft, request and number. -/
inductive FarOrg where
  | fill (i line : Nat)
  | wback (i line : Nat)
  | direct (r : Req)
  | corr (n id idx : Nat)
  deriving DecidableEq, Repr

/-- A CXL request outstanding on a far port (R302). -/
structure FarTx where
  tag : Nat
  org : FarOrg
  write : Bool
  deriving DecidableEq, Repr

/-- A CXL request that waits to be sent. -/
structure FarWait where
  org : FarOrg
  write : Bool
  line : Nat
  data : Line
  bad : BitVec 64
  starved : Bool
  deriving DecidableEq, Repr

/-! ### The pair link (R304 to R308, R326) -/

/-- A message of the pair link: the fields of R326, `body` its bytes 37 to 63, `data` the data row of LEN 1. -/
structure PairMsg where
  mtype : Nat
  flags : Nat := 0
  epoch : Nat := 0
  addr : Nat := 0
  cls : Nat := 63
  mseq : Nat := 0
  par : BitVec 64 := 0
  mask : BitVec 64 := 0
  mpar : Nat := 0
  body : List Nat := []
  data : Line := 0
  starved : Bool := false
  deriving DecidableEq, Repr

/-- A copy on its way to the partner (R322 to R324): a line with the bytes changed, or the release of a frame; `win` its
mirror window; `ans` the strict write that waits for it and its answer; `resync` that a resynchronisation sends it; `since` when its
line entered the mirror queue. -/
structure MirCopy where
  mseq : Nat
  release : Bool
  line : Nat
  cls : Nat
  mask : BitVec 64
  data : Line
  bad : BitVec 64
  win : Nat
  strict : Bool
  ans : Option (Req × Result)
  resync : Bool := false
  since : Nat := 0
  deriving DecidableEq, Repr

/-- A FLUSH that waits for its write-backs (R71). -/
structure FlushWait where
  req : Req
  frame : Nat
  sectors : List Nat
  deriving DecidableEq, Repr

/-! ### Shaft controllers -/

/-- A DRAM command (R166). -/
inductive Cmd where
  | act (bank row : Nat)
  | rd (bank row col : Nat) (ap : Bool)
  | wr (bank row col : Nat) (ap : Bool)
  | wrm (bank row col : Nat) (mask : BitVec 64) (ap : Bool)
  | pre (bank : Nat)
  | prea | refpb (bank : Nat) | refab
  | rfm (bank row : Nat)
  | sre | srx | mrw | mrr
  deriving DecidableEq, Repr

/-- A bank: its open row, and the CK at which the last ACT, PRE, RD and WR were issued and until which a refresh holds it.
`hits` counts consecutive column accesses to the open row. -/
structure Bank where
  row : Option Nat
  actAt : Nat
  preAt : Nat
  rdAt : Nat
  wrAt : Nat
  busyTill : Nat
  hits : Nat
  deriving DecidableEq, Repr

/-- A closed, idle bank. -/
def idleBank : Bank := ⟨none, 0, 0, 0, 0, 0, 0⟩

/-- An access in the read window (R168): `next` the column command it needs next is number `next` (a sector capture needs 64),
`got` the lines a capture has been given, `issued` that its last RD has been issued. `credit` is the collar credit it
holds until then (R122): 0 none, 1 general share, 2 device share. `age` numbers the accesses in the order the controller took them. -/
structure WinE where
  req : Req
  next : Nat
  got : List (Nat × Line × BitVec 64)
  issued : Bool
  credit : Nat
  age : Nat := 0
  deriving DecidableEq, Repr

/-- A line in the write buffer (R165): mask of bytes to write, data, bytes whose parity is bad, and the key of the access. -/
structure WEnt where
  sline : Nat
  host : Nat
  data : Line
  mask : BitVec 64
  bad : BitVec 64
  cls : Nat
  urg : Nat
  credit : Nat
  age : Nat := 0
  deriving DecidableEq, Repr

/-- A read burst (R269, R273): what the cells held, the bytes the write buffer holds on top of them (`ovm`, R165), `idx` its
number in a capture, and the source of R273 it is at: 0 the first read, 1 and 2 the re-reads, 3 the row re-sense, 4 the far
copy, 5 the pair partner. Its data come RL CK after its RD and a burst of one CK, at `due`. `wait` 1: its RD is still to be issued by the
scheduler, `wait` 2: by the replay (R178); `shut`: its row has been closed for the re-sense. -/
structure RdFly where
  req : Req
  idx : Nat
  sline : Nat
  data : Line
  bad : BitVec 64
  ovd : Line
  ovm : BitVec 64
  ovb : BitVec 64
  stage : Nat
  due : Nat := 0
  wait : Nat := 0
  shut : Bool := false
  age : Nat := 0
  deriving DecidableEq, Repr

/-- An entry of the repeat tracker (R280): `st` 0 TRACK, 1 REWRITTEN, 2 WEAK. -/
structure TrackE where
  bank : Nat
  row : Nat
  st : Nat
  count : Nat
  map : BitVec 32
  deriving DecidableEq, Repr

/-- A line held from a read to the write that depends on it: an atomic unit (R172), from its RD to its WR; or with `fix` a corrective or
scrub write-back, which runs as a unit runs (R274). `value`, once the read has returned: the line, the bytes to write, and the bytes whose
parity is to be wrong; the WR may go from CK `from_` on, 2 CK after each operation. -/
structure AUnit where
  id : Nat
  sline : Nat
  host : Nat
  cls : Nat
  urg : Nat
  age : Nat
  fix : Bool
  from_ : Nat
  value : Option (Line × BitVec 64 × BitVec 64)
  deriving DecidableEq, Repr

/-- The line an atomic unit works on (R172), the bytes it is to write and those whose parity is to be wrong, and the answers of its chain. -/
structure UnitLine where
  data : Line
  mask : BitVec 64
  bad : BitVec 64
  answers : List (Req × Result)
  deriving DecidableEq, Repr

/-- A sector zero-fill entering the write buffer line by line (R163). -/
structure ZIn where
  req : Req
  next : Nat
  credit : Nat
  deriving DecidableEq, Repr

/-- Write data the retry buffer holds (R178): the line, its host line, the data, the bytes written and those whose parity is wrong. -/
structure WData where
  sline : Nat
  host : Nat
  data : Line
  mask : BitVec 64
  bad : BitVec 64
  deriving DecidableEq, Repr

/-- A command of the retry buffer (R178): when it was issued, the CK by which the die raises ALERT_N for it, whether the last replay
re-issued it, whether it had completed before the last alert (R179), the banks as they stood before it, the read burst it started (request
and number), and the write data of a WR while they are held. -/
structure Issued where
  cmd : Cmd
  ck : Nat
  till : Nat
  again : Bool
  old : Bool
  was : Sparse Bank
  read : Option (Nat × Nat) := none
  wd : Option WData := none
  deriving DecidableEq, Repr

/-- What the CA lines carried last (R166): the 40 bits of each CK of the command, and the parity line. -/
structure CaBus where
  words : List (BitVec 40) := []
  par : Bool := false
  deriving DecidableEq, Repr

/-- A row repair in progress (R282): the row and its spare, how the die ends its sequence, whether firmware asked for it, the lines of the
repair buffer, whether MRW has been issued, and the columns still to be written. -/
structure RepairRun where
  bank : Nat
  row : Nat
  spare : Nat
  done : Bool
  fw : Bool
  got : List (Nat × Line × BitVec 64) := []
  mapped : Bool := false
  left : List Nat := []
  deriving DecidableEq, Repr

/-- A column repair that copies, in progress (R285): the column and its spare, how the die ends its sequence, the slots haulage has lent (none
while it still frees them), whether the column is mapped to the spare, the row and the staging line the copy is at, whether its read is out, and
the line to be written. -/
structure ColRun where
  bank : Nat
  col : Nat
  spare : Nat
  done : Bool
  slots : List Nat := []
  mapped : Bool := false
  row : Nat := 0
  stage : Nat := 0
  reading : Bool := false
  line : Option (Line × BitVec 64) := none
  deriving DecidableEq, Repr

/-- Who started a frequency change (R184). -/
inductive FreqBy where
  | firmware | power | thermal
  deriving DecidableEq, Repr

/-- A frequency change in progress (R182, R183): the step it is in (1 to 6), the point and set it started from, the point it
goes to, who started it, the result it will report, the time so far, and whether it is being reversed. -/
structure FreqCh where
  step : Nat
  old : Nat
  oldSet : Nat
  target : Nat
  starter : FreqBy
  result : Nat
  ns : Nat
  back : Bool
  deriving DecidableEq, Repr

/-! ### Taps and leases -/

/-- The taps of a byte lane (R195): read strobe, write strobe, read Vref, write Vref. -/
structure LaneTap where
  rd : Nat
  wr : Nat
  rdV : Nat
  wrV : Nat
  deriving DecidableEq, Repr

/-- A tap bank (R196): per-bit delays, receive and transmit, by index, and the nine byte lanes; what is not listed holds its reset
value. -/
structure TapBank where
  bits : Sparse (Nat × Nat)
  lanes : Sparse LaneTap
  deriving DecidableEq, Repr

/-- A full training in progress (R198): all steps or one, the step, the worst result so far. -/
structure TrainRun where
  all : Bool
  step : Nat
  worst : Nat
  deriving DecidableEq, Repr

/-- A run of the pattern and compare helper (R197, R210): the pattern, whether it uses the array rows, the bursts, and the seed. -/
structure HelperRun where
  pattern : Nat
  array : Bool
  bursts : Nat
  seed : Nat
  deriving DecidableEq, Repr

/-- Who holds a lease (R353, R360): holder code (0 none), rank, the time it was granted. -/
structure Lease where
  holder : Nat
  rank : Nat
  since : Nat
  deriving DecidableEq, Repr

/-- A self-test run (R346): its kind (0 none), the pages of the targets still under test, when it started, and whether a target's
part was abandoned. -/
structure StestSt where
  kind : Nat := 0
  left : List Nat := []
  start : Nat := 0
  abandoned : Bool := false
  deriving DecidableEq, Repr

/-! ### Fuses, start-up, modes, heat, test access -/

/-- A burn in progress (R429, R431, R433): what started it, and the words still to burn with the value each is to hold; the first
is being programmed. -/
inductive BurnBy where
  | word | lock (region : Nat) | hours
  deriving DecidableEq, Repr
structure FuseJob where
  by_ : BurnBy
  words : List (Nat × Word32)
  deriving DecidableEq, Repr

/-- The fuse array and its shadows (R420 to R438): how each word reads, the logical values sensed, the words that slots overlay,
overrides, the marginal words (address, COPY_DIFF, PASS_DIFF), REGION_STATUS by region, regions in alarm, and a burn in progress. -/
structure FuseSt where
  array : Sparse FuseWord := []
  sensed : Sparse Word32 := []
  overlay : Sparse (Option Word32) := []
  ovr : Sparse (Option Word32) := []
  marg : List (Nat × Bool × Bool) := []
  regions : Sparse Nat := []
  bad : List Nat := []
  job : Option FuseJob := none
  deriving DecidableEq, Repr

/-- A ground-die reset or logic re-kindle in progress (R370, R383): its step, whether it is a re-kindle, when it was triggered, the
entries marked LOST, and the tally time the tiles received last (R207). -/
structure Gdr where
  step : Nat
  rekindle : Bool
  start : Nat
  lost : Nat
  tally : Word32 := 0
  deriving DecidableEq, Repr

/-- Start-up and reset (R361 to R378): when step 1 began, whether it is a cold kindle, whether a warm reset is held by RESET_N, whether
start-up has halted or waits in recovery, whether TARGET is clamped by the fuse policy, the recovery image by word offset, the time
of a loss of REFCLK, when the watchdog was last restarted, a ground-die reset in progress, a FAULT_N raised by a second late
exit step, frames whose lines were left in a write buffer (R363), and each collar port's retrains and last result (R378). -/
structure KindleSt where
  start : Nat := 0
  cold : Bool := true
  held : Bool := false
  halted : Bool := false
  recovery : Bool := false
  clamp : Bool := false
  img : Sparse Word32 := []
  refLost : Option Nat := none
  wdogFrom : Nat := 0
  gdr : Option Gdr := none
  lateFault : Bool := false
  leftover : List Nat := []
  collar : Sparse (Nat × Bool) := []
  deriving DecidableEq, Repr

/-- The power sequencer (R379 to R402): shaft groups that are changing (shafts of the present group, shafts still to come), whether a
wake is held, the voltage on WAKE_SENSE, the WAKE_CTL in force for this entry, the exit step and whether
its delays are doubled, when the exit began, the unit states saved, whether a KIND 7 run has yet to be followed by a clear or walk, whether a return from LAMPROOM waits,
the updates in a row at or below CAP_W and at or below CAP_W − HYST_W, the retention-suspect banks of the last check (shaft, bank), and shafts
whose evacuation an entry stopped. -/
structure ModeSt where
  group : List Nat := []
  groups : List Nat := []
  wake : Bool := false
  wakeMv : Nat := 0
  wakeCfg : Word32 := 0
  exit : Nat := 0
  doubled : Bool := false
  exitFrom : Nat := 0
  saved : Sparse (Nat × Nat) := []
  full : Bool := false
  rekindleHeld : Bool := false
  calm : Nat := 0
  low : Nat := 0
  banks : List (Nat × Nat) := []
  noEvac : List Nat := []
  deriving DecidableEq, Repr

/-- One die (R403 to R410): its last valid reading and when it was taken, readings in a row that disagree with the model and that lie
near it, whether its diode is at fault, E (1/16 °C) and E with its time at the last round, rounds in a row at RATE.WARN and
RATE.ACT, whether a rate demand holds, the demand, and whether LOGIC_WARN is crossed. -/
structure DieSt where
  reading : Option Int := none
  at_ : Nat := 0
  differ : Nat := 0
  near : Nat := 0
  diodeBad : Bool := false
  e : Int := 0
  prior : Option (Int × Nat) := none
  warnRun : Nat := 0
  actRun : Nat := 0
  rateHold : Bool := false
  demand : Nat := 0
  warned : Bool := false
  deriving DecidableEq, Repr

/-- Thermal control (R403 to R419): the place in the round (0 none, k: conversion k is next), the raw estimates of the fourteen nodes,
the anchor, the dies, and the temperatures on their way to shaft controllers (R408). -/
structure HeatSt where
  round : Nat := 0
  raw : List Int := []
  anchor : Int := 0
  dies : Sparse DieSt := []
  due : Sparse (Option Int) := []
  deriving DecidableEq, Repr

/-- The test port (R350, R351): the instruction in force (0 BYPASS, 1 SAMPLE/PRELOAD, 2 EXTEST, 3 IDCODE, 4 the IEEE 1838
configuration), the boundary register and the wrapper register of each die. -/
structure TapSt where
  inst : Nat := 3
  boundary : List Bool := []
  wrappers : Sparse (List Bool) := []
  deriving DecidableEq, Repr

/-! ### Engines and jobs (R214 to R260) -/

/-- A bound stream (R226 to R228): its descriptor, the place of its next element, the lines that have arrived (the data and bad
bytes, or the fault code of a refusal), and on a write stream the line being gathered. -/
structure Strm where
  addr : Nat
  esize : Nat
  cols : Nat
  stride : Int
  rows : Nat
  stride2 : Int
  row : Nat
  col : Nat
  buf : List (Nat × Line × BitVec 64 × Nat)
  part : Option (Nat × Line × BitVec 64 × BitVec 64)
  deriving DecidableEq, Repr

/-- Where the answer of an engine's access goes: a stream's buffer, bytes of a vector lane, a scalar register, or nowhere. -/
inductive ADest where
  | stream (k : Nat)
  | lane (dst j w off : Nat)
  | scalar (dst : Nat)
  | none
  deriving DecidableEq, Repr

/-- An access of an engine that has not completed (R228, R234, R237): its number, the host line, what it asks, whether it is on its
way, whether it waits to be issued again after NACK_RETRY, the PC of its step, and the address it names. -/
structure Acc where
  id : Nat
  dest : ADest
  op : MOp
  line : Nat
  data : Line
  mask : BitVec 64
  bad : BitVec 64
  a : Word64
  b : Word64
  off : Nat
  sent : Bool
  again : Bool
  pc : Nat
  addr : Nat
  deriving DecidableEq, Repr

/-- A job (R248, R249): its ring, class, program slot, poison policy, and the stream descriptors of its operands (the operand number
and 112 bits). -/
structure Job where
  ring : Nat
  id : Nat
  comp : Nat
  params : List Nat
  ops : List (Nat × Nat)
  cls : Nat
  slot : Nat
  poison : Nat
  clr : Bool
  noPlace : Bool
  starved : Bool := false
  deriving DecidableEq, Repr

/-- The running job (R254 to R256): the half of its slot, its base and length, PC, how it is ending (status, detail, PC), what
its record counts, and whether its timer has expired during a trip (R413). -/
structure Run where
  job : Job
  half : Nat
  base : Nat
  len : Nat
  pc : Nat
  ending : Option (Nat × Nat × Nat)
  cycles : Nat
  steps : Nat
  rdLines : Nat
  wrLines : Nat
  poisoned : Nat
  fence : Nat
  wait : Nat
  start : Nat
  expired : Bool
  deriving DecidableEq, Repr

/-- A completion record that waits to be written (R256, R258): the engine whose buffer holds it, its address, class, 32 bytes, and
whether its write is on its way. -/
structure Rec where
  eng : Nat
  ring : Nat
  jobId : Nat
  addr : Nat
  cls : Nat
  bytes : BitVec 256
  sent : Bool
  deriving DecidableEq, Repr

/-- A descriptor being read from the HEAD of a ring (R247): the lines that have come. `stale`: the entry was withdrawn, or the
ring stopped, since the reads were sent; what they bring is dropped. -/
structure Fetch where
  lo : Option Line
  hi : Option Line
  stale : Bool
  deriving DecidableEq, Repr

/-! ### Records and outputs -/

/-- A tally record before it has a sequence number (R439). -/
structure TRec where
  code : Nat
  unit : Nat
  sev : Nat
  p0 : Nat
  p1 : Nat
  p2 : Nat
  p3 : Nat
  deriving DecidableEq, Repr

/-- How a register request is answered (R453): a read's value, a write's ACK, or a NACK. -/
inductive RegAns where
  | value (v : Word32)
  | done
  | retry (us : Nat)
  | dark (us page : Nat)
  | error (reason detail : Nat)
  deriving DecidableEq, Repr

/-- Everything the device puts on its pins and links, in the order it does (the model's own trace, newest last). -/
inductive Out where
  /-- An Ozkor flit on host port `h` (R82 to R85). -/
  | flit (h : Nat) (bits : BitVec 2048)
  /-- A far request on far port `f` in CXL role: tag, write, far line address, data and bad-parity bytes. -/
  | cxl (f tag : Nat) (write : Bool) (line : Nat) (data : Line) (bad : BitVec 64)
  /-- A row sent on the pair link of port `f`, byte 0 in bits 7..0 (R304). -/
  | row (f : Nat) (bytes : BitVec 512)
  /-- The host link of port `h` is taken down or starts training. -/
  | link (h : Nat) (up : Bool)
  /-- A bit the TAP shifts out on TDO. -/
  | tdo (b : Bool)
  /-- The management controller's answer to a register request of Nguane firmware. -/
  | fw (addr : Nat) (ans : RegAns)
  deriving DecidableEq, Repr

/-- The groups of signal bumps (R466), and what R477 says of a bump: "shut" is not driven and clamped to its rail, or unterminated; "standard"
leaves it to its standard or to the role of its port. -/
inductive Bump where
  | ucieTx | ucieRx | ucieSide | farTx (f : Nat) | farRx (f : Nat) | alarm | mflCs | mflClk | mflIo | tdo
  deriving DecidableEq, Repr
inductive BumpState where
  | undriven | low | high | idle | highZ | unterminated | terminated | latchedLow | latchedHigh | latchedIdle | driven | standard | bySource
  deriving DecidableEq, Repr

end Sys2Proof.Machine
end

