-- ==== Sys2Proof/Machine/State.lean ====
section
/-!
DEFINITION. Machine/State.lean: everything the spec gives the Colax, as plain data, and the state after reset. Every
register of R457 lives in `regs` (its read-only fields too, except those the spec defines as a count over other state,
which are computed when read); the other fields hold what no register holds: queues, buffers, tables, arrays, sequencers.
-/
namespace Sys2Proof.Machine

/-- Reasons for which the machine stops with a fault. -/
inductive Fault where
  /-- Raised by SUPPLY_RAIL_CHANGE when VDD_UCIE or VDDA_FAR is removed while PWRGOOD is high and the device is not
  SHUTTERED: R472 calls that undefined and gives no effect. Safe: the run stops. -/
  | supplyUndefined
  deriving DecidableEq, Repr

/-- Reasons for which a command is not carried out. -/
inductive Refusal where
  /-- The command has no meaning in this model yet. Raised by an arm of Dispatch only. Safe: the run stops. -/
  | notModelled (mnemonic : String)
  deriving DecidableEq, Repr

/-- A host port's own logic (R96 to R99, R109, R110). `cr0`, `cr2`: slots the host may still send on VC0, VC2;
`have1`, `have2`, `have3`: credits held toward the host; `resv1`, `resv2`: slots reserved
for responses not yet sent; `outst`: outstanding VC0 tags; `out2`: outstanding VC2 tags; `fences`: a FENCE waiting, with the
requests it waits for; `oldIds` and `oldFences`: requests and waiting FENCEs of a link that has gone down; `live` the admitted VC0 requests
not answered, `spans` the lines each of them touches (R101); `ingress2` VC2 requests not admitted, `wait2` those admitted and not yet
carried out (R103), `oldWait2` the same of a link that has gone down; `imp` the driver and termination code its last training set (R208). -/
structure PortSt where
  adapterUp : Bool := false
  initSent : Bool := false
  initRecv : Bool := false
  grant1 : Nat := 0
  grant2 : Nat := 0
  cr0 : Nat := 0
  cr2 : Nat := 0
  have1 : Nat := 0
  have2 : Nat := 0
  have3 : Nat := 0
  resv1 : Nat := 0
  resv2 : Nat := 0
  urg : Nat := 0
  outst : List Nat := []
  out2 : List Nat := []
  live : List Nat := []
  spans : List (Nat × Nat × Nat) := []
  fences : List (Req × List Nat) := []
  ingress0 : List Req := []
  ingress2 : List RegReq := []
  wait2 : List RegReq := []
  oldWait2 : List RegReq := []
  store : List Req := []
  resp1 : List Resp := []
  resp2 : List Resp := []
  evq : List EvtEntry := []
  evtCount : Nat := 0
  trainFails : Nat := 0
  oldIds : List Nat := []
  oldFences : List (Req × List Nat) := []
  replTx : List Nat := []
  replRx : List Nat := []
  imp : Nat := 16
  paid : Nat × Nat := (0, 0)
  deriving DecidableEq, Repr

/-- The spine (R119 to R136): cells waiting in virtual output queues, the source after which each destination's rotation
starts, the device share in force at each collar queue, whether it has stopped on a fault, and for CNT_CREDIT_WAIT the time
since its last unit began and whether the selection has held a cell without credit in it. -/
structure FabricSt where
  voq : List Cell := []
  rotate : Sparse Nat := []
  share : Sparse Nat := []
  faulted : Bool := false
  waitNs : Nat := 0
  waited : Bool := false
  deriving DecidableEq, Repr

/-- One class (R142, R147, R151, R152): measured latency in 1/16 ns, whether a sample came in the present microsecond,
bytes moved in it, work waiting at its end, whether the miss bit was set in this window, and the 48-bit counters. -/
structure ClassSt where
  m : Nat := 0
  sampled : Bool := false
  bytes : Nat := 0
  fired : Bool := false
  cntBytes : Nat := 0
  cntReq : Nat := 0
  cntLat : Nat := 0
  deriving DecidableEq, Repr

/-- The managed space (R26 to R47). `parBad`: for each way the bytes of its entry (bytes 0 to 31 the vector, 32 to 39 the header) whose
stored parity bit is not the odd parity of the byte (R31). -/
structure SpaceSt where
  ways : Sparse Entry := []
  parBad : Sparse (BitVec 40) := []
  born : ISet := []
  lost : List Nat := []
  suspect : ISet := []
  free : Sparse (List (Nat × Nat)) := []
  resv : List (Nat × Nat) := []
  resvPend : List Nat := []
  drains : List Drain := []
  walking : Bool := false
  walkFrom : Nat := 0
  walkDropped : Nat := 0
  walkLost : Nat := 0
  walkSuspect : Nat := 0
  walkSeen : List Nat := []
  clearing : Bool := false
  lookupQ : List Req := []
  deriving DecidableEq, Repr

/-- Haulage (R54 to R74). -/
structure HaulSt where
  fills : Sparse (Option Fill) := []
  wbacks : Sparse (Option Wback) := []
  held : List Held := []
  evicts : List Evict := []
  shoots : List Shoot := []
  moves : Sparse (Option Mv) := []
  moveQ : List (Nat × Nat × MvCause) := []
  flushes : List FlushWait := []
  zfills : List ZFill := []
  wbJobs : List WbJob := []
  marks : Nat := 0
  gePtr : Nat := 0
  geOn : Bool := false
  toldStranded : List Nat := []
  farArrived : List (Nat × Nat × Nat × Result) := []
  regMove : Bool := false
  wasBlocked : Nat := 15
  deriving DecidableEq, Repr

/-- A far port (R295 to R315): CXL requests outstanding, those that wait, and the next tag; on the pair link, messages that wait to be sent,
the replay buffer with the sequence number of each message's first row, the sequence numbers sent and expected, credits held,
lines in the receive pool, credits to return, NAKs received for a sequence number and NAKs sent for one, messages received and not yet acted on; whether the
replay state was cleared since the link was last ACTIVE; the lane whose eye is being scanned, the loop mode that runs; and for each
lane the CTLE and DFE codes since training, the position slipped to, and the driver and termination code its last training set (R208). -/
structure FarSt where
  cxl : List FarTx := []
  cxlQ : List FarWait := []
  nextTag : Nat := 0
  txQ : List PairMsg := []
  replay : List (Nat × PairMsg) := []
  txSeq : Nat := 0
  rxSeq : Nat := 0
  credit : Nat := 0
  pool : Nat := 0
  owed : Nat := 0
  naks : Nat × Nat := (0, 0)
  naksTx : Nat × Nat := (0, 0)
  capLast : BitVec 512 := 0
  capRun : Nat := 0
  capAck : Bool := false
  rxMsgs : List PairMsg := []
  fresh : Bool := true
  scan : Option Nat := none
  loop : Nat := 0
  ctle : Sparse Int := []
  dfe : Sparse Int := []
  slips : Sparse Nat := []
  imp : Sparse Nat := []
  deriving DecidableEq, Repr

/-- Pairing (R319 to R331): lines of the mirror queue with their class and the time they entered, copies that wait to be sent, copies sent and not
reported held, the next message number, whether the oldest queued line is past LAG_CTL.TIME_US, whether writes stall on the
lag, frames of the resync list, the frames a resync has still to send (first the
frames it began with as intervals), the lines a resync reads, whether it covers everything, whether a full resync is due, the standby image,
correction queries sent to the partner (shaft, line, message number), candle periods missed in a row, whether one came in
this period, and how far a handover has come. -/
structure PairSt where
  lagQ : List (Nat × Nat × Nat) := []
  copies : List MirCopy := []
  await : List MirCopy := []
  mseq : Nat := 0
  lagOld : Bool := false
  stalled : Bool := false
  resync : List Nat := []
  todo : ISet := []
  reads : List Nat := []
  whole : Bool := false
  resyncing : Bool := false
  fullDue : Bool := false
  standby : Sparse Word32 := []
  asked : List (Nat × Nat × Nat) := []
  missed : Nat := 0
  heard : Bool := false
  crcPeer : Nat := 0
  handover : Bool := false
  deriving DecidableEq, Repr

/-- An engine (R214 to R239): vector registers with their poison bits, mask, scalar registers with theirs, loop counters, the active
loops (counter, first and last step; innermost first), the summary flag, streams 0 to 3 (read) and 4 and 5 (write), scratch (and
bytes of it whose parity is wrong), program store, frame cache, job queue, running job, accesses not complete, why it is
frozen (bit 0 heat, 1 mode, 2 ground-die reset, 3 the cap ladder), the point it is to change to, whether it goes on past a breakpoint, and
whether DEBUG_CTL.STEP has asked for a step that has not issued. -/
structure EngSt where
  v : Sparse (BitVec 512) := []
  vp : Sparse (BitVec 64) := []
  m : Sparse (BitVec 64) := []
  s : Sparse Word64 := []
  sp : Sparse Bool := []
  l : Sparse Nat := []
  loops : List (Nat × Nat × Nat) := []
  sfAny : Bool := false
  sfAll : Bool := false
  streams : Sparse (Option Strm) := []
  scratch : Sparse (BitVec 8) := []
  scratchBad : Sparse Bool := []
  store : Sparse (BitVec 128) := []
  fcache : List FcEnt := []
  queue : List Job := []
  run : Option Run := none
  acc : List Acc := []
  frozen : Nat := 0
  want : Nat := 0
  passBp : Bool := false
  stepReq : Bool := false
  deriving DecidableEq, Repr

/-- The dispatcher (R244 to R258): descriptors being read, by ring, jobs given back to be placed again, completion records, frames moved
by pre-haul with the time (R253), the ring last served, rings whose next descriptor counts as LEVEL 7 (R138), and whether placing has stopped (R262). -/
structure DispSt where
  fetch : Sparse (Option Fetch) := []
  back : List Job := []
  recs : List Rec := []
  moved : List (Nat × Nat) := []
  last : Nat := 63
  starved : List Nat := []
  stopped : Bool := false
  deriving DecidableEq, Repr

/-- A shaft controller (R161 to R185) and what lies beyond it: the collar queue (true: a device-share credit), engine n's
local path, a zero-fill entering the write buffer, read window, write buffer, read bursts, atomic units, banks, the CK
counted since reset, recent ACTs (CK, bank), the last RD and WR of each bank group, the last REFpb, whether writes drain, refresh commands due, the
next bank and refresh pointer, row-disturb tables, queued RFMs, the retry buffer, the commands a replay has still to issue and the CK from
which it may, what the CA lines carried last, how many accesses have been taken, whether the write buffer goes before any new access
(R165), the controller's own reads that wait, the lines left of a scrub visit, a row repair, whether a command has completed since the
last alert, whether the shaft was fenced by R179, the temperature, the 32 ms count of a lower rate, the ceilings, the target of
the last GO, a frequency change, a held PARK, whether a change waits for the next wake; and the poison list (R276), the repeat
tracker (R280), the rows whose corrections fell in each column (R284, key 32 × bank + column), and the rows and columns mapped
onto spares (bank, row or column, spare); the tap banks (R196), the innermost known passing codes of each lane and quantity (R203,
key 4 × lane + quantity), a training or helper run, the retraining round (R202) with its next touch, whether a REFab
substitution is in force and until which CK a substituted REFab still has room for a touch, whether firmware has written the tap of the next
touch, and the temperature at its start; the DRAM die's own pull-up, pull-down and termination codes (R195). -/
structure ShaftSt where
  collar : List (Req × Bool) := []
  localq : List Req := []
  zin : Option ZIn := none
  win : List WinE := []
  wbuf : List WEnt := []
  fly : List RdFly := []
  units : List AUnit := []
  banks : Sparse Bank := []
  ck : Nat := 1000
  lastActs : List (Nat × Nat) := []
  lastRd : Sparse Nat := []
  lastWr : Sparse Nat := []
  lastRef : Nat := 0
  drainW : Bool := false
  refDue : List Nat := []
  refAll : Bool := false
  slotBank : Nat := 0
  wraps : Sparse Nat := []
  rdt : Sparse (List (Nat × Nat)) := []
  rfmQ : List (Nat × Nat) := []
  rfmDue : List (Nat × Nat) := []
  rfmForce : List (Nat × Nat) := []
  idleDue : List Nat := []
  retry : List Issued := []
  replay : List Issued := []
  replayAt : Nat := 0
  ca : CaBus := {}
  taken : Nat := 0
  first : Bool := false
  scrubQ : List Req := []
  scrubLeft : Nat := 0
  rep : Option RepairRun := none
  colRun : Option ColRun := none
  alerted : Bool := false
  alertFenced : Bool := false
  temp : Option Int := none
  rate : Nat := 0
  lowering : Option Nat := none
  ceilT : Nat := 0
  ceilP : Nat := 0
  goPoint : Nat := 0
  ceilBy : FreqBy := .firmware
  freq : Option FreqCh := none
  parkHeld : Bool := false
  parking : Bool := false
  changeOnWake : Bool := false
  poison : List Nat := []
  tracker : List TrackE := []
  cols : Sparse (List Nat) := []
  rowMap : List (Nat × Nat × Nat) := []
  colMap : List (Nat × Nat × Nat) := []
  taps : Sparse TapBank := []
  edges : Sparse (Option (Nat × Nat)) := []
  train : Option TrainRun := none
  helper : Option HelperRun := none
  roundOn : Bool := false
  touchAt : Nat := 0
  subst : Bool := false
  subAt : Option Nat := none
  tapHit : Bool := false
  roundTemp : Option Int := none
  dieImp : Nat × Nat × Nat := (0, 0, 0)
  deriving DecidableEq, Repr

/-- The tally (R439 to R449): records arriving, the writer's queue of 16, the ring, tokens used and records suppressed per
CODE, PAD records still to write and where they began and how many they are, the flash operation in progress (block, sector, whether it is
an erase, whether it is a retry), the trigger of a snapshot whose record is on its way, the block a snapshot flushes, and the power-cycle
extension. -/
structure TallySt where
  arriving : List TRec := []
  queue : List TRec := []
  ring : Sparse (BitVec 256) := []
  used : Sparse Nat := []
  supp : Sparse Nat := []
  pads : Nat := 0
  padFirst : Nat := 0
  padCount : Nat := 0
  flushOp : Option (Nat × Nat × Bool × Bool) := none
  snapping : Bool := false
  snapBlock : Option Nat := none
  ext : Nat := 0
  deriving DecidableEq, Repr

/-- Events and unit state on their way (R109, R130, R338). -/
structure NoticeSt where
  evtFlight : List (Nat × Word32) := []
  stateFlight : List (Nat × Nat × Nat) := []
  routeView : Sparse (Nat × Nat) := []
  mgmtView : Sparse (Nat × Nat) := []
  deriving DecidableEq, Repr

/-- Which islands have power besides the always-on island and the units' own (R14, R23, R385), whether REFCLK runs, and
the pins the device drives and reads (R470 to R477). -/
structure PinSt where
  pwrgood : Bool := true
  resetN : Bool := true
  refclk : Bool := true
  mgmtOn : Bool := true
  spineOn : Bool := true
  vddaFar : Bool := true
  vddUcie : Bool := true
  deriving DecidableEq, Repr

/-- The device: everything the spec gives the Colax. `arb`: at each arbitration point the source last granted, after which the rotation
among equal keys goes on (R12, R138); `impRun`: an impedance measurement has been made since reset (R192); `wlNow`: the waterline in force at the arbitration points, and `wlDue`: a trigger of R150 has come
since the last recompute. -/
structure Dev where
  regs : Sparse Word32
  hiLatch : Sparse Word32
  out : List Out
  nextId : Nat
  free : Nat
  ports : Sparse PortSt
  fabric : FabricSt
  classes : Sparse ClassSt
  space : SpaceSt
  haul : HaulSt
  pair : PairSt
  fars : Sparse FarSt
  engines : Sparse EngSt
  disp : DispSt
  shafts : Sparse ShaftSt
  dram : List Host.Cell
  dramBad : Sparse Bool
  tally : TallySt
  notice : NoticeSt
  answers : List (Origin × Result)
  time : Nat
  leases : Sparse Lease
  calBusy : Nat × Nat
  impRun : Bool := false
  stest : StestSt
  fuse : FuseSt
  flash : Sparse (BitVec 8)
  ks : KindleSt
  ms : ModeSt
  heat : HeatSt
  tap : TapSt
  pins : PinSt
  arb : Sparse Nat
  wlNow : Nat
  wlDue : Bool
  repairs : List (Word32 × Bool)
  deriving DecidableEq, Repr

/-- The reserved slots after KINDLE from OFF (R40). -/
def resvReset : List (Nat × Nat) := (List.range 48).map (fun n => (n, 12287)) ++ (List.range 16).map (fun n => (n, 12286))

/-- The device right after a cold reset (R361, R362): PWRGOOD and RESET_N are high, REFCLK runs, and KINDLE is at step 1. Every register
has its reset value, but that RESET_CAUSE.WARM names power-up (R375); every queue, buffer and table is empty; the flash is erased and
the fuses are as shipped (log 47). `free` is the model's own count of free values used; its start is a DESIGN CHOICE (log 30). -/
def Dev.reset : Dev :=
  { regs := [(0x44, 1)], hiLatch := [], out := [], nextId := 0, free := 0, ports := [], fabric := {}, classes := [],
    space := { resv := resvReset }, haul := {}, pair := {}, fars := [], engines := [], disp := {}, shafts := [], dram := [], dramBad := [],
    tally := {}, notice := {}, answers := [], time := 0, leases := [], calBusy := (0, 0), stest := {}, pins := {}, fuse := {}, flash := [],
    ks := {}, ms := {}, heat := {}, tap := {}, arb := [], wlNow := 64, wlDue := false, repairs := [] }

/-- The block as it is modelled: the device, and the commands that wait to reach it, first in first out (log 1). A command acts on the
device alone (`State.on` in Regs.lean), so that no command can touch the queue. -/
structure State where
  dev : Dev
  pending : List Instr
  deriving DecidableEq, Repr

/-- The machine right after reset: the device after a cold reset, and no command waiting. -/
def State.reset : State := { dev := Dev.reset, pending := [] }

end Sys2Proof.Machine
end

