-- ==== Sys2Proof/Machine/Regs.lean ====
section
/-!
DEFINITION. Machine/Regs.lean: the register file. What every register reads after reset, how a write is clamped and stored
(R6, R460 to R462), reading and writing fields, unit state (R336) and the state encoding (R455).
-/
namespace Sys2Proof.Machine

/-- A command acts on the device and leaves the queue as it is. -/
def State.on (s : State) (f : Dev → Host.Outcome Dev Fault Refusal) : Host.Outcome State Fault Refusal :=
  match f s.dev with
  | .next d => .next { s with dev := d }
  | .fault r => .fault r
  | .refused r => .refused r

/-! ### Unit state encodings (R455) -/

def stOFFLINE : Nat := 0
def stKINDLING : Nat := 1
def stONLINE : Nat := 2
def stFENCED : Nat := 3
def stTESTING : Nat := 4
def stDARK : Nat := 5
def stFAILED : Nat := 6
def stRESETTING : Nat := 7
def stEVACUATING : Nat := 8

/-! ### Pages (R457, R458) -/

/-- The group a page belongs to. -/
def groupOf (page : Nat) : Option GroupD :=
  pageGroups.find? (fun g => decide (g.page ≤ page) && decide (page < g.page + g.count))

/-- Is the page a register page? -/
def isRegPage (page : Nat) : Bool := (groupOf page).isSome

/-- Is the page a window page: the tally ring, or an engine's program store (R458)? -/
def isWinPage (page : Nat) : Bool :=
  (decide (0x1000 ≤ page) && decide (page < 0x1040)) || (decide (0x2000 ≤ page) && decide (page < 0x2300))

/-- Pages that carry a unit (R335): host ports, far ports, engines, shafts, haulage, dispatcher. -/
def isUnitPage (page : Nat) : Bool :=
  page == 0x0A || page == 0x0B || (decide (0x10 ≤ page) && decide (page < 0x1C)) ||
  (decide (0x20 ≤ page) && decide (page < 0x24)) || (decide (0x100 ≤ page) && decide (page < 0x130)) ||
  (decide (0x200 ≤ page) && decide (page < 0x230))

/-- The pages of the 113 units, in ascending order. -/
def unitPages : List Nat :=
  [0x0A, 0x0B] ++ (List.range 12).map (0x10 + ·) ++ (List.range 4).map (0x20 + ·) ++
  (List.range 48).map (0x100 + ·) ++ (List.range 48).map (0x200 + ·)

/-- The page index of R457, 0 to 143. -/
def pageIndex (page : Nat) : Nat :=
  if page < 0x10 then page
  else if page < 0x1C then page
  else if page < 0x24 then page - 0x20 + 28
  else if page < 0x44 then page - 0x40 + 32
  else if page < 0x130 then page - 0x100 + 36
  else if page < 0x230 then page - 0x200 + 84
  else page - 0x300 + 132

/-- The page with a page index. -/
def pageOfIndex (p : Nat) : Nat :=
  if p < 28 then p
  else if p < 32 then p - 28 + 0x20
  else if p < 36 then p - 32 + 0x40
  else if p < 84 then p - 36 + 0x100
  else if p < 132 then p - 84 + 0x200
  else p - 132 + 0x300

/-- The event bits a page defines; reserved positions clamp to 0 (R455). -/
def evMaskOf (page : Nat) : Nat :=
  match groupOf page with
  | some g => g.evMask
  | none => 0

/-- The register at an offset of a list, and its place in its array. -/
def findReg (rs : List RegD) (off : Nat) : Option RegD :=
  rs.find? (fun r => decide (r.off ≤ off) &&
    (if r.stride == 0 then off == r.off else (off - r.off) % r.stride == 0 && decide ((off - r.off) / r.stride < r.count)))

/-- The register at a register address, none where the page defines nothing there (R453 row 6). -/
def regAt (a : Nat) : Option RegD :=
  match groupOf (a / 4096) with
  | some g => if a % 4096 < 0x40 then findReg regsHeader (a % 4096) else findReg g.regs (a % 4096)
  | none => none

/-! ### Reset values -/

/-- The shipped CONFIG defaults of EXIT_D0 to EXIT_D7 (R399). -/
def exitDefaults : List Nat := [10, 50, 250, 20, 300, 100, 400, 200]

/-- What a register of a class block resets to where R159 differs from R158: LAT and FLOOR of classes 60 to 63. -/
def classReset (off : Nat) : Option Nat :=
  match off with
  | 0x340 => some 0x003200C8
  | 0x344 => some 0x00000100
  | 0x380 => some 0x00321388
  | 0x384 => some 0x00000100
  | 0x3C0 => some 0x0032FFFF
  | 0x3C4 => some 0x00000004
  | 0x400 => some 0x003203E8
  | 0x404 => some 0x00000000
  | _ => none

/-- The reset word of a register (R7): the tables' Reset column, with the per-page values of R455, R159 and the CONFIG
defaults as shipped. -/
def resetNat (a : Nat) : Nat :=
  let page := a / 4096
  let off := a % 4096
  match groupOf page with
  | none => 0
  | some g =>
    if off == 0x000 then g.page * 65536 + (page - g.page)
    else if off == 0x008 then (if isUnitPage page then 0 else stONLINE)
    else if off == 0x020 then page % 4096
    else if page == 0x10 && off == 0x04C then 1
    else if page == 0x01 && decide (0x60 ≤ off) && decide (off < 0x80) then exitDefaults.getD ((off - 0x60) / 4) 0
    else if g.page == 0x300 && off == 0x040 then page - 0x300
    else if page == 0x43 && (classReset off).isSome then (classReset off).getD 0
    else match regAt a with
      | some r => r.rst
      | none => 0

/-- The reset word of a register. -/
def resetWord (a : Nat) : Word32 := BitVec.ofNat 32 (resetNat a)

/-! ### Reading and writing the register file -/

/-- The register at an address, as it stands in the file. -/
def Dev.rdReg (s : Dev) (a : Nat) : Word32 := sget resetWord s.regs a

/-- Store a register word. -/
def Dev.wrReg (s : Dev) (a : Nat) (v : Word32) : Dev := { s with regs := sset resetWord s.regs a v }

/-- The register address of a field: instance `i` of the page group, array element `k`. -/
def Fld.addr (f : Fld) (i k : Nat) : Nat := (f.page + i) * 4096 + f.off + f.stride * k

/-- A field's value. -/
def Dev.fv (s : Dev) (f : Fld) (i : Nat := 0) (k : Nat := 0) : Nat := bitsOf (s.rdReg (f.addr i k)) f.hi f.lo

/-- A one-bit field as a Bool. -/
def Dev.fb (s : Dev) (f : Fld) (i : Nat := 0) (k : Nat := 0) : Bool := s.fv f i k == 1

/-- Set a field from inside the device. -/
def Dev.setF (s : Dev) (f : Fld) (v : Nat) (i : Nat := 0) (k : Nat := 0) : Dev :=
  s.wrReg (f.addr i k) (withBits (s.rdReg (f.addr i k)) f.hi f.lo v)

/-- The largest value of a field. -/
def Fld.top (f : Fld) : Nat := 2 ^ (f.hi + 1 - f.lo) - 1

/-- Set a field, saturating at its largest value. -/
def Dev.setSat (s : Dev) (f : Fld) (v : Nat) (i : Nat := 0) (k : Nat := 0) : Dev := s.setF f (min v f.top) i k

/-- Add 1 to a counter that wraps. -/
def Dev.bump (s : Dev) (f : Fld) (i : Nat := 0) (k : Nat := 0) : Dev := s.setF f (s.fv f i k + 1) i k

/-- Add `n` to a counter that wraps. -/
def Dev.bumpBy (s : Dev) (f : Fld) (n : Nat) (i : Nat := 0) : Dev := s.setF f (s.fv f i + n) i

/-- Add 1 to a counter that saturates. -/
def Dev.bumpSat (s : Dev) (f : Fld) (i : Nat := 0) (k : Nat := 0) : Dev := s.setSat f (s.fv f i k + 1) i k

/-- Forget every register of a page but those `keep` names: they take their reset values. -/
def Dev.resetPage (s : Dev) (page : Nat) (keep : Nat → Bool) : Dev :=
  { s with regs := s.regs.filter (fun e => e.1 / 4096 != page || keep (e.1 % 4096)) }

/-! ### Unit state (R336) -/

/-- A unit's state. Pages with no unit read ONLINE (R335). -/
def Dev.ust (s : Dev) (page : Nat) : Nat := bitsOf (s.rdReg (page * 4096 + 8)) 3 0

/-- A unit's epoch. -/
def Dev.epoch (s : Dev) (page : Nat) : Nat := bitsOf (s.rdReg (page * 4096 + 8)) 31 16

def shaftPage (n : Nat) : Nat := 0x200 + n
def enginePage (n : Nat) : Nat := 0x100 + n
def hostPage (h : Nat) : Nat := 0x10 + h
def farPage (f : Nat) : Nat := 0x20 + f
def hauPage : Nat := 0x0A
def dispPage : Nat := 0x0B

/-- State of shaft `n`, engine `n`, host port `h`, far port `f`. -/
def Dev.shaftSt (s : Dev) (n : Nat) : Nat := s.ust (shaftPage n)
def Dev.engSt (s : Dev) (n : Nat) : Nat := s.ust (enginePage n)
def Dev.portSt (s : Dev) (h : Nat) : Nat := s.ust (hostPage h)
def Dev.farSt (s : Dev) (f : Nat) : Nat := s.ust (farPage f)

/-- A shaft whose slots placement may use: ONLINE, parked or not (R65). -/
def Dev.shaftUp (s : Dev) (n : Nat) : Bool := s.shaftSt n == stONLINE

/-! ### Storing what software writes (R6, R460) -/

/-- A register word after a write: every configuration field at the nearest legal value, W1C bits cleared, everything else
unchanged. -/
def applyWrite (r : RegD) (old v : Word32) : Word32 :=
  r.fields.foldl (fun w f =>
    match f.acc with
    | .rw => withBits w f.hi f.lo (clampTo f.min f.max (bitsOf v f.hi f.lo))
    | .w1c => withBits w f.hi f.lo (Nat.land (bitsOf old f.hi f.lo) (Nat.xor (bitsOf v f.hi f.lo) (2 ^ (f.hi + 1 - f.lo) - 1)))
    | _ => w) old

/-- The attachment numbers of R119. -/
def isAtt (x : Nat) : Bool :=
  decide (x < 12) || (decide (0x10 ≤ x) && decide (x < 0x40)) || (decide (0x40 ≤ x) && decide (x < 0x44)) ||
  (decide (0x48 ≤ x) && decide (x < 0x4B))

/-- The lease indexes of R352. -/
def isLease (x : Nat) : Bool :=
  decide (x < 4) || (decide (8 ≤ x) && decide (x < 24)) || (decide (32 ≤ x) && decide (x < 64)) ||
  (decide (64 ≤ x) && decide (x < 112))

/-- The nearest number below 128 that `p` lists; the lower of two equally near ones (DESIGN CHOICE, log 12). -/
def nearest (p : Nat → Bool) (x : Nat) : Nat :=
  ((List.range 128).findSome? (fun d => if p (x - d) && decide (d ≤ x) then some (x - d)
    else if p (x + d) && decide (x + d < 128) then some (x + d) else none)).getD 0

/-- TARGET of the modes of R399. -/
def Dev.mode (s : Dev) : Nat := s.fv Reg.MODES_STATUS_MODE
def mdKINDLE : Nat := 1
def mdRUN : Nat := 2
def mdDIM : Nat := 3
def mdSHUTTERED : Nat := 4
def mdLAMPROOM : Nat := 5

/-- Background work has stopped: from the admission stop of SHUTTERED entry on (R74, R290, R384), and during a thermal trip (R412). -/
def Dev.workStops (s : Dev) : Bool :=
  decide (5 ≤ s.fv Reg.MODES_STATUS_PHASE) || s.mode == mdSHUTTERED || s.fb Reg.HEAT_STATUS_TRIPPED

/-- Is any other port ONLINE with MGMT_EN (R116)? -/
def Dev.otherMgmt (s : Dev) (h : Nat) : Bool :=
  (List.range 12).any (fun g => g != h && s.portSt g == stONLINE && s.fb Reg.HOSTPORT_MGMT_MGMT_EN g)

/-- The per-field limits of EXIT_D0 to EXIT_D7 (R399). -/
def exitLimits : List (Nat × Nat) :=
  [(10, 1000), (20, 1000), (100, 5000), (10, 1000), (150, 5000), (50, 1000), (300, 5000), (100, 2000)]

/-- Clamp the thresholds of a LIM register (R418): TRIP to its range, then T3, T2 and T1 below it, each at least 60. -/
def clampLim (lo hi : Nat) (w : Word32) : Word32 :=
  let trip := clampTo lo hi (bitsOf w 31 24)
  let t3 := clampTo 60 (trip - 1) (bitsOf w 23 16)
  let t2 := clampTo 60 (t3 - 1) (bitsOf w 15 8)
  let t1 := clampTo 60 (t2 - 1) (bitsOf w 7 0)
  BitVec.ofNat 32 (trip * 2 ^ 24 + t3 * 2 ^ 16 + t2 * 2 ^ 8 + t1)

/-- The timing fields of a set that may not fall below the TRIM minimum for its POINT (R181); in stepping A1 the minimum is
the R167 default of that point. -/
def trimRow (point : Nat) : Nat := if point == 0 then 0x442D1717 else if point == 1 then 0x33221111 else 0x23170C0C
def trimWrite (point : Nat) : Nat := if point == 0 then 0x0C040A20 else if point == 1 then 0x09030818 else 0x06020510
def trimRead (point : Nat) : Nat := if point == 0 then 0x0021060D else if point == 1 then 0x0021050A else 0x00210507
def trimAct (point : Nat) : Nat := if point == 0 then 0x00100804 else if point == 1 then 0x000C0603 else 0x00080402
def trimRef (point : Nat) : Nat := if point == 0 then 0x01C000C0 else if point == 1 then 0x01500090 else 0x00E00060
def trimMisc (point : Nat) : Nat := if point == 0 then 0x01D00060 else if point == 1 then 0x015C0048 else 0x00E80030

/-- Raise each field of `w` to at least the same field of `m`. -/
def raiseTo (fs : List (Nat × Nat)) (w : Word32) (m : Nat) : Word32 :=
  fs.foldl (fun w f => withBits w f.1 f.2 (max (bitsOf w f.1 f.2) (bitsOf (BitVec.ofNat 32 m) f.1 f.2))) w

/-- Clamp a timing-set register (R181, R189): `k` the offset within the set. -/
def clampTiming (k point : Nat) (w : Word32) : Word32 :=
  match k with
  | 0x04 =>
    let w := raiseTo [(7, 0), (15, 8), (23, 16), (31, 24)] w (trimRow point)
    withBits w 31 24 (max (bitsOf w 31 24) (min 255 (bitsOf w 23 16 + bitsOf w 15 8)))
  | 0x08 => raiseTo [(7, 0), (15, 8), (23, 16), (31, 24)] w (trimWrite point)
  | 0x0C => raiseTo [(7, 0), (15, 8), (19, 16), (23, 20)] w (trimRead point)
  | 0x10 => raiseTo [(7, 0), (15, 8), (23, 16)] w (trimAct point)
  | 0x14 => raiseTo [(9, 0), (25, 16)] w (trimRef point)
  | 0x18 => raiseTo [(7, 0), (25, 16)] w (trimMisc point)
  | _ => w

/-- Clamp the whole of a timing set (base offset 0x100 or 0x140) against its POINT. -/
def Dev.clampSet (s : Dev) (n base : Nat) : Dev :=
  let a := shaftPage n * 4096 + base
  let point := bitsOf (s.rdReg a) 1 0
  [0x04, 0x08, 0x0C, 0x10, 0x14, 0x18].foldl (fun s k => s.wrReg (a + k) (clampTiming k point (s.rdReg (a + k)))) s

/-- Clamps that depend on another field or on the machine's state (R460, R461), made after register `a` was written and
for the registers that depend on it. -/
def Dev.reclamp (s : Dev) (a : Nat) : Dev :=
  let page := a / 4096
  let off := a % 4096
  let w := s.rdReg a
  if off == 0x018 then s.wrReg a (BitVec.ofNat 32 (Nat.land w.toNat (evMaskOf page)))
  else if page == 0x0A && decide (0x400 ≤ off) && decide (off < 0x900) && off % 16 < 8 then
    let b := page * 4096 + (off / 16) * 16
    s.wrReg (b + 4) (BitVec.ofNat 32 (clampTo 1 (2 ^ 26 - bitsOf (s.rdReg b) 25 0) (bitsOf (s.rdReg (b + 4)) 26 0)))
  else if page == 0x0C && decide (0x400 ≤ off) && off % 16 < 8 then
    let b := page * 4096 + (off / 16) * 16
    s.wrReg (b + 4) (BitVec.ofNat 32 (clampTo 1 (2 ^ 26 - bitsOf (s.rdReg b) 25 0) (bitsOf (s.rdReg (b + 4)) 26 0)))
  else if page == 0x09 && off == 0x044 then
    let l1 := bitsOf w 2 0
    let l2 := max l1 (bitsOf w 6 4)
    let l3 := max l2 (bitsOf w 10 8)
    s.wrReg a (BitVec.ofNat 32 (l1 + l2 * 16 + l3 * 256))
  else if page == 0x43 && decide (0x340 ≤ off) && off % 64 == 4 then s.wrReg a (withBits w 21 16 0)
  else if page == 0x43 && decide (0x340 ≤ off) && off % 64 == 0x10 then s.wrReg a (withBits w 7 0 0)
  else if page == 0x0E && off == 0x040 then s.wrReg a (withBits w 15 8 (clampTo (bitsOf w 7 0) 210 (bitsOf w 15 8)))
  else if page == 0x06 && off == 0x048 then s.wrReg a (clampLim 85 105 w)
  else if page == 0x06 && off == 0x04C then
    let s := s.wrReg a (clampLim 90 110 w)
    s.setF Reg.HEAT_RATE_LOGIC_WARN (clampTo 60 (bitsOf (s.rdReg a) 7 0) (s.fv Reg.HEAT_RATE_LOGIC_WARN))
  else if page == 0x06 && off == 0x050 then
    let w := withBits w 15 8 (clampTo (bitsOf w 7 0) 200 (bitsOf w 15 8))
    s.wrReg a (withBits w 23 16 (clampTo 60 (s.fv Reg.HEAT_LIM_LOGIC_T1) (bitsOf w 23 16)))
  else if page == 0x01 && decide (0x60 ≤ off) && decide (off < 0x80) then
    let l := exitLimits.getD ((off - 0x60) / 4) (0, 65535)
    s.wrReg a (BitVec.ofNat 32 (clampTo l.1 l.2 w.toNat))
  else if page == 0x03 && (off == 0x040 || off == 0x048) then s.wrReg a (withBits w 6 0 (nearest isLease (bitsOf w 6 0)))
  else if page == 0x0D && off == 0x058 then s.wrReg a (withBits w 6 0 (nearest isAtt (bitsOf w 6 0)))
  else if page == 0x04 && off == 0x060 then (if s.mode == mdLAMPROOM then s else s.wrReg a 0)
  else if page == 0x08 && off == 0x068 then (if s.mode == mdLAMPROOM then s else s.wrReg a 0)
  else if decide (0x100 ≤ page) && decide (page < 0x130) && decide (0x140 ≤ off) && decide (off < 0x1C0) then
    s.wrReg a (withBits w 28 16 (clampTo 0 (4096 - bitsOf w 11 0) (bitsOf w 28 16)))
  else if decide (0x200 ≤ page) && decide (page < 0x230) then
    let n := page - 0x200
    if off == 0x044 then s.wrReg a (withBits w 29 24 (clampTo 0 (bitsOf w 21 16 - 8) (bitsOf w 29 24)))
    else if decide (0x100 ≤ off) && decide (off < 0x120) then s.clampSet n 0x100
    else if decide (0x140 ≤ off) && decide (off < 0x160) then s.clampSet n 0x140
    else if off == 0x224 then
      (if s.shaftSt n == stONLINE then
        s.wrReg a (withBits (withBits w 8 8 0) 31 16 (clampTo 1 256 (bitsOf w 31 16)))
      else s)
    else if off == 0x328 then
      (if bitN w.toNat 24 then s.wrReg a (withBits w 16 0 (bitsOf w 4 0))
       else s.wrReg a (withBits w 16 0 (clampTo 0 98303 (bitsOf w 16 0))))
    else s
  else if decide (0x20 ≤ page) && decide (page < 0x24) then
    let testing := s.ust page == stTESTING
    if off == 0x050 then (if testing then s else s.wrReg a (withBits w 16 16 0))
    else if off == 0x054 then (if testing then s else s.wrReg a (withBits w 27 24 (min 6 (bitsOf w 27 24))))
    else s
  else s

end Sys2Proof.Machine
end

