-- ==== Sys2Proof/Machine/Ops.lean ====
section
/-!
DEFINITION. Machine/Ops.lean: the operations every family uses: parity, DRAM bytes, events and their notices (R109, R130),
tally records (R439), changes of unit state (R336, R338), dark pages (R464), free values, and the answer to a memory request
(R93, R98, R104).
-/
namespace Sys2Proof.Machine

/-! ### Parity (R86) and lines -/

/-- Byte `i` of a line. -/
def lineByte (d : Line) (i : Nat) : BitVec 8 := BitVec.ofNat 8 (d.toNat / 2 ^ (8 * i))

/-- A line from its 64 bytes. -/
def lineOf (f : Nat → BitVec 8) : Line :=
  BitVec.ofNat 512 ((List.range 64).foldr (fun i n => n * 256 + (f i).toNat) 0)

/-- The odd-parity bit of a byte: 1 when the byte holds an even number of ones (R86). -/
def oddParity (b : BitVec 8) : Bool := countOf 8 (fun i => bitN b.toNat i) % 2 == 0

/-- The 64 parity bits of a line. -/
def lineParity (d : Line) : BitVec 64 := BitVec.ofNat 64 (maskOf 64 (fun i => oddParity (lineByte d i)))

/-- The bytes of a line whose parity bit is wrong. -/
def badBytes (d : Line) (par : BitVec 64) : BitVec 64 := d |> lineParity |> (· ^^^ par)

/-- The parity bits of the low `n` bytes of a number. -/
def parityOf (n x : Nat) : Nat := maskOf n (fun i => oddParity (BitVec.ofNat 8 (x / 2 ^ (8 * i))))

/-- Merge the bytes of `b` that `mask` selects into `a`. -/
def mergeLine (a b : Line) (mask : BitVec 64) : Line :=
  lineOf (fun i => if bitN mask.toNat i then lineByte b i else lineByte a i)

/-- Every byte selected. -/
def fullMask : BitVec 64 := BitVec.ofNat 64 (2 ^ 64 - 1)

/-- The poison signature (R272): data all zero, every parity bit wrong. -/
def poisonBad : BitVec 64 := fullMask
def isPoison (d : Line) (bad : BitVec 64) : Bool := d == 0 && bad == fullMask

/-! ### DRAM (R161): byte b of shaft n is key n × 6,442,450,944 + b; an unlisted byte reads 0 with good parity -/

/-- Bytes of a shaft: 6 GiB. -/
def shaftBytes : Nat := 6442450944

def zeroByte (_ : Nat) : BitVec 8 := 0
def goodByte (_ : Nat) : Bool := false

/-- Address of byte `i` of line `l` of shaft `n`. -/
def dramAddr (n l i : Nat) : Nat := n * shaftBytes + l * 64 + i

/-- The stored data of a line. -/
def Dev.dramLine (s : Dev) (n l : Nat) : Line := lineOf (fun i => sget zeroByte s.dram (dramAddr n l i))

/-- The bytes of a line whose stored parity is wrong. -/
def Dev.dramBadOf (s : Dev) (n l : Nat) : BitVec 64 :=
  BitVec.ofNat 64 (maskOf 64 (fun i => sget goodByte s.dramBad (dramAddr n l i)))

/-- Write the bytes `mask` selects of a line, with the parity they carry (`bad`: bytes whose parity is wrong). -/
def Dev.dramWrite (s : Dev) (n l : Nat) (d : Line) (mask bad : BitVec 64) : Dev :=
  (List.range 64).foldl (fun s i =>
    if bitN mask.toNat i then
      { s with dram := sset zeroByte s.dram (dramAddr n l i) (lineByte d i),
               dramBad := sset goodByte s.dramBad (dramAddr n l i) (bitN bad.toNat i) }
    else s) s

/-! ### Sub-states -/

def Dev.port (s : Dev) (h : Nat) : PortSt := sget (fun _ => {}) s.ports h
def Dev.setPort (s : Dev) (h : Nat) (p : PortSt) : Dev := { s with ports := sset (fun _ => {}) s.ports h p }
def Dev.modPort (s : Dev) (h : Nat) (f : PortSt → PortSt) : Dev := s.setPort h (f (s.port h))

def Dev.shaft (s : Dev) (n : Nat) : ShaftSt := sget (fun _ => {}) s.shafts n
def Dev.setShaft (s : Dev) (n : Nat) (p : ShaftSt) : Dev := { s with shafts := sset (fun _ => {}) s.shafts n p }
def Dev.modShaft (s : Dev) (n : Nat) (f : ShaftSt → ShaftSt) : Dev := s.setShaft n (f (s.shaft n))

def Dev.cls (s : Dev) (c : Nat) : ClassSt := sget (fun _ => {}) s.classes c
def Dev.modCls (s : Dev) (c : Nat) (f : ClassSt → ClassSt) : Dev :=
  { s with classes := smod (fun _ => {}) s.classes c f }

/-- Put something on the pins or links. -/
def Dev.emit (s : Dev) (o : Out) : Dev := { s with out := s.out ++ [o] }

/-- The number of the next free value; the counter advances (the model's own field). -/
def Dev.nextFree (s : Dev) : Dev := { s with free := s.free + 1 }

/-- A fresh request number. -/
def Dev.fresh (s : Dev) : Dev := { s with nextId := s.nextId + 1 }

/-! ### Dark pages (R464) -/

/-- Pages of the always-on island (R457). -/
def isAlwaysOn (page : Nat) : Bool := page == 0 || page == 1 || page == 2 || page == 3 || page == 5 || page == 0x0E

/-- Pages of the spine island. -/
def isSpinePage (page : Nat) : Bool := (decide (9 ≤ page) && decide (page ≤ 0x0D)) || (decide (0x40 ≤ page) && decide (page < 0x44))

/-- Islands that start-up has not yet switched on (R364): the management controller's before step 4, the shaft controllers' before
step 8, the engines' before step 9. -/
def Dev.notYetUp (s : Dev) (page : Nat) : Bool :=
  let step := s.fv Reg.DEVICE_KINDLE_STATUS_STEP
  if 0x200 ≤ page && page < 0x230 then step < 8
  else if 0x100 ≤ page && page < 0x130 then step < 9
  else if isUnitPage page || isSpinePage page then step < 2
  else step < 4

/-- Does a page answer as a dark one in this state of its unit: any unit's when DARK, an engine's also when RESETTING or OFFLINE (R239)? -/
def darkState (page st : Nat) : Bool :=
  st == stDARK || (decide (0x100 ≤ page) && decide (page < 0x130) && (st == stRESETTING || st == stOFFLINE))

/-- Is a register page dark: its island is off? -/
def Dev.isDark (s : Dev) (page : Nat) : Bool :=
  if isAlwaysOn page then false
  else if s.notYetUp page then true
  else if isUnitPage page && darkState page (s.ust page) then true
  else if isSpinePage page then !s.pins.spineOn
  else if isUnitPage page then false
  else !s.pins.mgmtOn

/-! ### Events (R109, R130, R456) -/

/-- Set event bit `bit` of a page. A bit that is already set does nothing more. A newly set and enabled bit sends a notice,
unless the page has one in flight. -/
def Dev.raise (s : Dev) (page bit : Nat) : Dev :=
  let a := page * 4096 + 0x14
  let old := s.rdReg a
  if bitN old.toNat bit then s
  else
    let v := withBits old bit bit 1
    let s := s.wrReg a v
    if bitN (s.rdReg (page * 4096 + 0x18)).toNat bit && !(s.notice.evtFlight.any (fun e => e.1 == page)) then
      { s with notice := { s.notice with evtFlight := s.notice.evtFlight ++ [(page, v)] } }
    else s

/-- The attachment behind which a page lies (R119): a port's, a tile's, haulage's, the dispatcher's; every other page answers through the
management controller. -/
def attOfPage (page : Nat) : Nat :=
  if 0x10 ≤ page && page < 0x1C then page - 0x10
  else if 0x20 ≤ page && page < 0x24 then page - 0x20 + 0x40
  else if 0x100 ≤ page && page < 0x130 then page - 0x100 + 0x10
  else if 0x200 ≤ page && page < 0x230 then page - 0x200 + 0x10
  else if page == 0x0A then 0x48
  else if page == 0x0B then 0x49
  else 0x4A

/-- The pages of single instances, by name. -/
def pgDEVICE : Nat := 0
def pgMODES : Nat := 1
def pgPAGES : Nat := 2
def pgLEASES : Nat := 3
def pgFUSES : Nat := 4
def pgTALLY : Nat := 5
def pgHEAT : Nat := 6
def pgCALREF : Nat := 7
def pgSELFTEST : Nat := 8
def pgCLASSES : Nat := 9
def pgPAIR : Nat := 0x0C
def pgFABRIC : Nat := 0x0D
def pgPOWER : Nat := 0x0E
def pgCOLLAR : Nat := 0x0F

/-- A page became dark or live (R465): LIVE_CHANGE of PAGES. -/
def Dev.liveChange (s : Dev) : Dev := s.raise pgPAGES Reg.EV_PAGES_LIVE_CHANGE

/-! ### Tally records (R439 to R442) -/

/-- The subsystem of a page in CODE[15:12] (R441). -/
def subsysOf (page : Nat) : Nat :=
  if page == 0 || page == 1 || page == 2 || page == 0x0E then 0
  else if page == 4 then 1
  else if page == 5 then 2
  else if page == 6 then 3
  else if page == 7 then 4
  else if page == 8 || page == 3 then 5
  else if page == 9 || (decide (0x40 ≤ page) && decide (page < 0x44)) then 6
  else if page == 0x0A then 7
  else if page == 0x0B || (decide (0x100 ≤ page) && decide (page < 0x130)) then 8
  else if page == 0x0C then 9
  else if page == 0x0D || page == 0x0F then 0xA
  else if decide (0x10 ≤ page) && decide (page < 0x1C) then 0xB
  else if decide (0x20 ≤ page) && decide (page < 0x24) then 0xC
  else if decide (0x200 ≤ page) && decide (page < 0x230) then 0xD
  else 0xE

/-- Severities (R442). -/
def sevINFO : Nat := 0
def sevNOTICE : Nat := 1
def sevWARNING : Nat := 2
def sevERROR : Nat := 3
def sevCRITICAL : Nat := 4

/-- Write a tally record: its CODE is the page's subsystem and `code`; the record sets out for the writer. -/
def Dev.record (s : Dev) (page code sev : Nat) (ps : List Nat) : Dev :=
  let r : TRec := ⟨subsysOf page * 4096 + code, page % 4096, sev,
    ps.getD 0 0 % 2 ^ 32, ps.getD 1 0 % 2 ^ 32, ps.getD 2 0 % 2 ^ 32, ps.getD 3 0 % 2 ^ 32⟩
  { s with tally := { s.tally with arriving := s.tally.arriving ++ [r] } }

/-- Origin codes of the records of R441: 0 host, 1 engine (its dispatcher's reads among them), 2 haulage, 3 scrub. -/
def originCode : Origin → Nat
  | .host _ _ => 0
  | .mirror _ _ => 0
  | .engine _ _ => 1
  | .desc _ => 1
  | .comp _ => 1
  | .rdata _ _ => 0
  | .scrub _ => 3
  | _ => 2

/-- Code 0x1FF: every record of no other form (R441). -/
def codeOTHER : Nat := 0x1FF

/-- Raise an event and write the record that accompanies it. -/
def Dev.raiseRec (s : Dev) (page bit sev : Nat) (ps : List Nat) : Dev := (s.raise page bit).record page bit sev ps

/-- An access to a dark page writes a DARK_ACCESS record (R464). -/
def Dev.darkRecord (s : Dev) (page addr : Nat) (write : Bool) (who : Nat) : Dev :=
  s.record page 0x100 sevNOTICE [addr, b2n write, who]

/-! ### Unit state (R336, R338) -/

/-- A collar attachment is closed while its shaft controller is DARK, RESETTING, OFFLINE or FAILED (R131). -/
def collarClosed (st : Nat) : Bool := st == stDARK || st == stRESETTING || st == stOFFLINE || st == stFAILED

/-- COLLAR_CLOSED0 and 1 follow a shaft's change of state; a newly closed attachment sets the event. -/
def Dev.noteCollar (s : Dev) (page old st : Nat) : Dev :=
  if page < 0x200 || 0x230 ≤ page then s
  else
    let n := page - 0x200
    let a := 0xD050 + 4 * (n / 32)
    let s := s.wrReg a (withBits (s.rdReg a) (n % 32) (n % 32) (b2n (collarClosed st)))
    if collarClosed st && !(collarClosed old) then s.raise pgFABRIC Reg.EV_FABRIC_COLLAR_CLOSED else s

/-- A trigger of the budget and the waterline (R150). -/
def Dev.wlTrigger (s : Dev) : Dev := { s with wlDue := true }

/-- The reserved slots of shaft `n` are to move (R40). -/
def Dev.pendResv (s : Dev) (n : Nat) : Dev :=
  { s with space := { s.space with resvPend := s.space.resvPend ++
      ((List.range 64).filter (fun i => (s.space.resv.getD i (0, 0)).1 == n && !(s.space.resvPend.contains i))) } }

/-- A shaft that enters FENCED, TESTING, EVACUATING or FAILED, from any state, loses its reserved slots (R40). -/
def Dev.noteResv (s : Dev) (page st : Nat) : Dev :=
  if 0x200 ≤ page && page < 0x230 && (st == stFENCED || st == stTESTING || st == stEVACUATING || st == stFAILED) then s.pendResv (page - 0x200)
  else s

/-- The unit of a page enters a state: its epoch rises by 1, every block that routes work is sent a notice, and LIVE_CHANGE
and UNIT_FAILED follow. Entering the state it is in changes nothing. -/
def Dev.enter (s : Dev) (page st : Nat) : Dev :=
  let old := s.ust page
  if old == st then s
  else
    let e := (s.epoch page + 1) % 65536
    let s := s.wrReg (page * 4096 + 8) (BitVec.ofNat 32 (e * 65536 + st))
    let s := { s with notice := { s.notice with stateFlight := s.notice.stateFlight ++ [(page, st, e)] } }
    let s := if darkState page old != darkState page st then s.liveChange else s
    let s := (s.noteCollar page old st).noteResv page st
    let s := if 0x200 ≤ page && page < 0x230 then s.wlTrigger else s
    if st == stFAILED then s.raise pgSELFTEST Reg.EV_SELFTEST_UNIT_FAILED else s

/-- The state of a unit as the blocks that route work know it: the last notice they received (R338). -/
def Dev.routeState (s : Dev) (page : Nat) : Nat := (sget (fun _ => (stOFFLINE, 0)) s.notice.routeView page).1

/-! ### Classes at an arbitration point (R138) -/

/-- A field of the block of class `c` (CLASSTAB of 16 classes each, R158). -/
def Dev.cv (s : Dev) (f : Fld) (c : Nat) : Nat := s.fv f (c / 16) (c % 16)
def Dev.setCv (s : Dev) (f : Fld) (c v : Nat) : Dev := s.setF f v (c / 16) (c % 16)

/-- The floor an urgency level sets (R145); level 0 sets none. -/
def Dev.urgFloor (s : Dev) (l : Nat) : Nat :=
  match l with
  | 0 => 0
  | 1 => s.fv Reg.CLASSES_URG_FLOOR_L1
  | 2 => s.fv Reg.CLASSES_URG_FLOOR_L2
  | _ => s.fv Reg.CLASSES_URG_FLOOR_L3

/-- Is a class below the waterline in force (R149, R150)? Classes 60 to 63 never are. -/
def Dev.belowNow (s : Dev) (c : Nat) : Bool := decide (c < 60) && decide (s.wlNow ≤ s.cv Reg.CLASSTAB_FLOOR_RANK c)

/-- The arbitration key of work of class `c` with flit urgency `urg` (R138): LEVEL, then DEFICIT above the waterline, then
rank; a larger number wins. Work that has starved at the point counts as LEVEL 7. -/
def Dev.key (s : Dev) (c urg : Nat) (starved : Bool) : Nat :=
  let level := if starved || c == 63 then 7 else max (s.cv Reg.CLASSTAB_STATE_LEVEL c) (s.urgFloor urg)
  let deficit := s.cv Reg.CLASSTAB_STATE_DEFICIT c == 1 && !(s.belowNow c)
  level * 128 + b2n deficit * 64 + (63 - s.cv Reg.CLASSTAB_FLOOR_RANK c)

/-- The first element with the greatest key. -/
def bestBy {α : Type} (key : α → Nat) : List α → Option α
  | [] => none
  | x :: l =>
    match bestBy key l with
    | none => some x
    | some y => if key x < key y then some y else some x

/-- Where a source stands in the rotation that starts after the last one granted; an earlier place is a larger number. -/
def turn (last src : Nat) : Nat := 127 - (src + 127 - last) % 128

/-- The arbitration points of R139 at which the grants rotate among equal keys (R12, R138), but the spine, whose rotation R124 keeps: the
lookup banks, the ports' responses, the held-request queue, the shaft controllers' two sources and the far ports; the dispatcher keeps the ring
last served (R251). -/
def arbBank (b : Nat) : Nat := b
def arbResp (h : Nat) : Nat := 32 + h
def arbHeld : Nat := 44
def arbFar (f : Nat) : Nat := 48 + f
def arbShaft (n : Nat) : Nat := 64 + n

/-- The source last granted at an arbitration point. -/
def Dev.lastAt (s : Dev) (p : Nat) : Nat := sget (fun _ => 127) s.arb p
/-- A grant at an arbitration point. -/
def Dev.granted (s : Dev) (p src : Nat) : Dev := { s with arb := sset (fun _ => 127) s.arb p src }
/-- The key of work at an arbitration point: its arbitration key, and at equal keys its source's place in the rotation. -/
def Dev.keyAt (s : Dev) (p src cls urg : Nat) (starved : Bool) : Nat := s.key cls urg starved * 128 + turn (s.lastAt p) src

/-! ### The pair link's sending side (R304 to R306, R326) -/

def Dev.far (s : Dev) (f : Nat) : FarSt := sget (fun _ => {}) s.fars f
def Dev.modFar (s : Dev) (f : Nat) (g : FarSt → FarSt) : Dev := { s with fars := smod (fun _ => {}) s.fars f g }
def Dev.modPair (s : Dev) (g : PairSt → PairSt) : Dev := { s with pair := g s.pair }

/-- Is port `f` a pair link with its rows flowing (R307)? -/
def Dev.pairActive (s : Dev) (f : Nat) : Bool :=
  s.fv Reg.FARPORT_STATUS_ACTIVE_ROLE f == 2 && s.fv Reg.FARPORT_STATUS_STAGE f == 5

/-- The port whose role in force is PAIR. -/
def Dev.pairPort (s : Dev) : Option Nat := (List.range 4).find? (fun f => s.fv Reg.FARPORT_STATUS_ACTIVE_ROLE f == 2)

/-- LEN of a message: its data rows (R326). -/
def msgLen (m : PairMsg) : Nat := if m.mtype == 1 || m.mtype == 7 then 1 else 0

/-- The control row of a message (R304, R326): byte 0 in bits 7..0. -/
def msgRow (m : PairMsg) (cr ack : Nat) : BitVec 512 :=
  let n := 0x1E + msgLen m * 2 ^ 8 + cr % 256 * 2 ^ 16 + ack % 65536 * 2 ^ 32 + m.mtype % 256 * 2 ^ 64 + m.flags % 256 * 2 ^ 72 +
    m.epoch % 65536 * 2 ^ 80 + m.addr % 2 ^ 40 * 2 ^ 96 + m.cls % 256 * 2 ^ 136 + m.mseq % 65536 * 2 ^ 144 +
    m.par.toNat * 2 ^ 160 + m.mask.toNat * 2 ^ 224 + m.mpar % 256 * 2 ^ 288
  BitVec.ofNat 512 (m.body.foldr (fun b acc => acc * 256 + b % 256) 0 * 2 ^ 296 + n)

/-- The message of a control row and its data row. -/
def msgOfRow (row : BitVec 512) (data : Line) : PairMsg :=
  let at_ (lo w : Nat) : Nat := row.toNat / 2 ^ lo % 2 ^ w
  { mtype := at_ 64 8, flags := at_ 72 8, epoch := at_ 80 16, addr := at_ 96 39, cls := at_ 136 6, mseq := at_ 144 16,
    par := BitVec.ofNat 64 (at_ 160 64), mask := BitVec.ofNat 64 (at_ 224 64), mpar := at_ 288 8,
    body := (List.range 27).map (fun i => at_ (296 + 8 * i) 8), data := data }

/-- An IDLE row with the credits returned and the sequence number expected (R304). -/
def idleRow (cr ack : Nat) : BitVec 512 := BitVec.ofNat 512 (cr % 256 * 2 ^ 16 + ack % 65536 * 2 ^ 32)
/-- A NAK row. -/
def nakRow (seq : Nat) : BitVec 512 := BitVec.ofNat 512 (0x4B + seq % 65536 * 2 ^ 32)

/-- Put a message on the link: its rows carry the credits owed and the sequence expected, and stay in the replay buffer. -/
def Dev.txMsg (s : Dev) (f : Nat) (m : PairMsg) : Dev :=
  let p := s.far f
  let cr := min 255 p.owed
  let s := s.emit (.row f (msgRow m cr p.rxSeq))
  let s := if msgLen m == 1 then s.emit (.row f m.data) else s
  let s := s.modFar f (fun p => { p with owed := p.owed - cr, replay := p.replay ++ [(p.txSeq, m)],
                                         txSeq := (p.txSeq + 1 + msgLen m) % 65536,
                                         credit := if m.mtype == 1 then p.credit - 1 else p.credit })
  s.setF Reg.FARPORT_PAIR_LINK_TX_CREDIT (s.far f).credit f

/-- May a message go now? One that carries a line into the pool needs a credit; none goes while 4,096 rows wait for an
acknowledgement (R305, R306). -/
def txReady (p : FarSt) (m : PairMsg) : Bool :=
  (m.mtype != 1 || p.credit != 0) && decide ((p.replay.foldl (fun n x => n + 1 + msgLen x.2) 0) + 1 + msgLen m ≤ 4096)

/-- The next message to send: messages that need no credit go first, then those of the greatest key (R305). Copies of one
line keep their order. -/
def Dev.txNext (s : Dev) (f : Nat) : Option PairMsg :=
  let p := s.far f
  match p.txQ.find? (fun m => m.mtype != 1 && m.mtype != 2) with
  | some m => if txReady p m then some m else none
  | none =>
    match bestBy (fun m => s.key m.cls 0 m.starved) ((p.txQ.take 256).filter (fun m => txReady p m)) with
    | some m => p.txQ.find? (fun x => x.addr / 8192 == m.addr / 8192)
    | none => none

/-- Send what may be sent. -/
def Dev.txPumpN : Nat → Dev → Nat → Dev
  | 0, s, _ => s
  | k + 1, s, f =>
    if !(s.pairActive f) then s
    else match s.txNext f with
    | some m => if txReady (s.far f) m then
        Dev.txPumpN k ((s.modFar f (fun p => { p with txQ := dropFirst (fun x => x == m) p.txQ })).txMsg f m) f else s
    | none => s

def Dev.txPump (s : Dev) (f : Nat) : Dev := Dev.txPumpN (s.far f).txQ.length s f

/-- Send a message on the pair link of port `f`. -/
def Dev.sendPair (s : Dev) (f : Nat) (m : PairMsg) : Dev :=
  (s.modFar f (fun p => { p with txQ := p.txQ ++ [{ m with epoch := s.fv Reg.PAIR_EPOCH_EPOCH }] })).txPump f

/-- The line of a received copy is held: its pool cell is free and its credit goes back with the next row (R305). -/
def Dev.poolFree (s : Dev) (f : Nat) : Dev :=
  let s := s.modFar f (fun p => if p.pool == 0 then p else { p with pool := p.pool - 1, owed := p.owed + 1 })
  s.setF Reg.FARPORT_PAIR_LINK_RX_FREE (256 - (s.far f).pool) f

/-- Answer the partner's copy (R325, R326): held, or refused with its NACK_ERROR reason. -/
def Dev.copyAnswer (s : Dev) (f mseq : Nat) (r : Req) (res : Result) : Dev :=
  let s := if r.op == .wrm || r.op == .wr then s.poolFree f else s
  match res with
  | .error reason _ => s.sendPair f { mtype := 4, mseq := mseq, addr := r.line, body := [reason] }
  | _ => s.sendPair f { mtype := 3, mseq := mseq, addr := r.line }

/-- The line the partner asked for (R326): POISON when none is good. -/
def rdataMsg (seq line : Nat) (res : Result) : PairMsg :=
  match res with
  | .data d bad => if bad == 0 then { mtype := 7, addr := line, mseq := seq, par := lineParity d, mask := fullMask, data := d }
      else { mtype := 7, flags := 2, addr := line, mseq := seq }
  | _ => { mtype := 7, flags := 2, addr := line, mseq := seq }

/-! ### Answers (R93, R98, R104) -/

/-- Response slots reserved for a request (R98). -/
def respSlots : MOp → Nat
  | .rd => 5
  | .rdNa => 5
  | .atom _ => 2
  | _ => 1

/-- Slots a message occupies (R87). -/
def msgSlots : MOp → Nat
  | .wr => 5
  | .wrm => 6
  | .atom _ => 2
  | .unknown _ n => n
  | _ => 1

/-- Is this one of the requests that R141 samples? -/
def isSampled : MOp → Bool
  | .rd | .rdNa | .wr | .wrm | .atom _ => true
  | _ => false

/-- The response that carries a result to the host (R93). `quiet` marks a NACK that R112 sends for mode or walk (R151). -/
def respOf (r : Req) (tag : Nat) (res : Result) (quiet : Bool) : Resp :=
  let base : Resp := ⟨r.id, 0x22, r.cls, tag, 0, false, 0, 0, respSlots r.op, r.urg, false, false, r.op == .fence, true, false⟩
  match res with
  | .data d bad => { base with opc := 0x20, w := lineParity d ^^^ bad, data := d, sample := isSampled r.op }
  | .poison => { base with opc := 0x21, w := fullMask, sample := isSampled r.op }
  | .ack => { base with opc := 0x22, sample := isSampled r.op }
  | .atomData old changed p =>
    { base with opc := 0x23, addr := b2n p, flag := changed && !p, sample := true,
                w := BitVec.ofNat 64 (parityOf 16 (if p then 0 else old.toNat)),
                data := BitVec.ofNat 512 (if p then 0 else old.toNat) }
  | .retry us => { base with opc := 0x24, addr := us % 65536, miss := !quiet }
  | .dark us page => { base with opc := 0x25, addr := us % 65536 + page * 65536 }
  | .error reason detail => { base with opc := 0x26, addr := reason + detail * 16 }
  | .lines _ => base

/-! ### Flits toward the host (R82 to R85, R97) -/

/-- The field FH of a flit: credits returned for VC0 to VC3, URG 0 toward the host, INIT and SMAP (R83). -/
def fhOf (cr0 cr1 cr2 cr3 : Nat) (init : Bool) (smap : Nat) : Nat :=
  cr0 % 256 * 2 ^ 72 + cr1 % 256 * 2 ^ 64 + cr2 % 256 * 2 ^ 56 + cr3 % 256 * 2 ^ 48 + b2n init * 2 ^ 45 + smap % 2 ^ 15

/-- A flit: FH in bytes 2 to 11 and the slots from slot 1 on; every other slot holds zeros. The adapter's bytes of the header are its own
and stand as 0 (R82, R84). -/
def flitOf (fh : Nat) (slots : List Nat) : BitVec 2048 :=
  BitVec.ofNat 2048 (fh * 2 ^ 16 + slots.foldr (fun x acc => x % 2 ^ 128 + acc * 2 ^ 128) 0 * 2 ^ 128)

/-- The header word H of a message (R85). -/
def headerWord (opc cls tag addr : Nat) (flag : Bool) : Word64 :=
  BitVec.ofNat 64 (opc % 64 * 2 ^ 58 + cls % 64 * 2 ^ 52 + tag % 4096 * 2 ^ 40 + addr % 2 ^ 39 * 2 + b2n flag)

/-- The slots of a message of `n` slots: its header slot, H in bytes 0 to 7 and W in bytes 8 to 15, then data slots (R85, R86). -/
def msgSlotsOf (hw w : Word64) (data : Line) (n : Nat) : List Nat :=
  (hw.toNat + w.toNat * 2 ^ 64) :: (List.range (n - 1)).map (fun j => data.toNat / 2 ^ (128 * j) % 2 ^ 128)

/-- Send a message on host port `h`: a flit of its own, the message from slot 1 on (log 153). -/
def Dev.sendMsg (s : Dev) (h : Nat) (hw w : Word64) (data : Line) (n : Nat) : Dev :=
  s.emit (.flit h (flitOf (fhOf 0 0 0 0 false 1) (msgSlotsOf hw w data n)))

/-- Return slot credits of VC0 and VC2 to the host, in the CR fields of an empty flit (R83, R96; log 153). -/
def Dev.sendCredits (s : Dev) (h vc0 vc2 : Nat) : Dev := s.emit (.flit h (flitOf (fhOf vc0 0 vc2 0 false 0) []))

/-- The INIT flits that grant `vc0` and `vc2` slots, at most 255 of a VC each, and the flit with INIT 0 (R97). -/
def initFlits (vc0 vc2 : Nat) : List Nat :=
  (List.range ((max vc0 vc2 + 254) / 255)).map (fun i => fhOf (min 255 (vc0 - 255 * i)) 0 (min 255 (vc2 - 255 * i)) 0 true 0) ++
    [fhOf 0 0 0 0 false 0]

/-- FENCEs of a port whose earlier requests have all completed are answered, in order (R102). -/
def settleFences (p : PortSt) : PortSt :=
  p.fences.foldl (fun p f =>
    if f.2.all (fun i => !(p.live.contains i)) then
      match f.1.org with
      | .host _ tag => { p with resp1 := p.resp1 ++ [respOf f.1 tag .ack false],
                                fences := p.fences.filter (fun g => g.1.id != f.1.id),
                                live := p.live.filter (· != f.1.id), spans := p.spans.filter (fun x => x.1 != f.1.id) }
      | _ => p
    else p) p

/-- FENCEs of a link that has gone down whose earlier requests have all completed have completed too, in order (R102, R110). -/
def settleOld (p : PortSt) : PortSt :=
  p.oldFences.foldl (fun p f =>
    if f.2.all (fun i => !(p.oldIds.contains i)) then
      { p with oldFences := p.oldFences.filter (fun g => g.1.id != f.1.id), oldIds := p.oldIds.filter (· != f.1.id) }
    else p) p

/-- Once the last request of the old link has completed, the port sends its initial grants and ends its side of the credit
initialisation (R97, R110). -/
def Dev.sendInit (s : Dev) (h : Nat) : Dev :=
  let p := s.port h
  if p.adapterUp && !p.initSent && p.oldIds.isEmpty && p.oldWait2.isEmpty then
    let s := s.setPort h { p with initSent := true, cr0 := 1024, cr2 := 32 }
    (initFlits 1024 32).foldl (fun s fh => s.emit (.flit h (flitOf fh []))) s
  else s

/-- Both sides have ended credit initialisation (R97): the port serves. A host grant below 5 slots of VC1 or 1 of VC2 sets
CREDIT_VIOL. A FENCED port stays FENCED (R113). -/
def Dev.endInit (s : Dev) (h : Nat) : Dev :=
  let p := s.port h
  if p.initSent && p.initRecv && !(s.fb Reg.HOSTPORT_LINK_STATUS_INIT_DONE h) then
    let s := s.setF Reg.HOSTPORT_LINK_STATUS_INIT_DONE 1 h
    let s := s.raise (hostPage h) Reg.EV_HOSTPORT_LINK_UP
    let s := if p.grant1 < 5 || p.grant2 < 1 then s.raise (hostPage h) Reg.EV_HOSTPORT_CREDIT_VIOL else s
    if s.portSt h == stKINDLING then s.enter (hostPage h) stONLINE else s
  else s

/-- Give a request its answer: the answer goes to whoever holds the space reserved for it (R123). A host request of a link
that has gone down gets none, and the last of them lets the new link end its initialisation (R110). The partner's copies are
reported held or refused (R322, R325); one that met NACK_RETRY is looked up again. -/
def Dev.answer (s : Dev) (r : Req) (res : Result) (quiet : Bool := false) : Dev :=
  match r.org with
  | .host h tag =>
    let p := s.port h
    if p.oldIds.contains r.id then
      ((s.setPort h (settleOld { p with oldIds := p.oldIds.filter (· != r.id), spans := p.spans.filter (fun x => x.1 != r.id) })).sendInit h).endInit h
    else
      s.setPort h (settleFences { p with live := p.live.filter (· != r.id), spans := p.spans.filter (fun x => x.1 != r.id),
                                         resp1 := p.resp1 ++ [respOf r tag res quiet] })
  | .hint => s
  | .scrub _ => s
  | .dup => s
  | .mirror f mseq =>
    match res with
    | .retry _ => { s with space := { s.space with lookupQ := s.space.lookupQ ++ [r] } }
    | .dark _ _ => { s with space := { s.space with lookupQ := s.space.lookupQ ++ [r] } }
    | _ => s.copyAnswer f mseq r res
  | .rdata f seq => s.sendPair f (rdataMsg seq r.line res)
  | o => { s with answers := s.answers ++ [(o, res)] }

/-- The first answer that came for an origin, and the state without it. -/
def Dev.takeAnswer (s : Dev) (o : Origin) : Option (Result × Dev) :=
  match s.answers.find? (fun x => x.1 == o) with
  | some (_, r) => some (r, { s with answers := dropFirst (fun x => x.1 == o) s.answers })
  | none => none

/-! ### Leases (R352, R353) -/

/-- Lease indexes of R352. -/
def lsCONV : Nat := 0
def lsFLASH : Nat := 1
def lsFUSE : Nat := 2
def lsWAKE : Nat := 3
def lsSampler (f l : Nat) : Nat := 32 + 8 * f + l
def lsHelper (n : Nat) : Nat := 64 + n

/-- Holder codes of SEL_STATUS.HOLDER (R360). -/
def hoTHERMAL : Nat := 1
def hoCALIB : Nat := 2
def hoTRAIN : Nat := 3
def hoSCRUB : Nat := 4
def hoSELFTEST : Nat := 5
def hoSOFT : Nat := 6
def hoTALLY : Nat := 7
def hoFWUPD : Nat := 8
def hoBURN : Nat := 9
def hoRESENSE : Nat := 10
def hoWAKE : Nat := 11
def hoADAPT : Nat := 12
def hoSCAN : Nat := 13
def hoHOSTFL : Nat := 14

/-- Ranks: safety, integrity, service, diagnostics. -/
def rkSAFETY : Nat := 0
def rkINTEGRITY : Nat := 1
def rkSERVICE : Nat := 2
def rkDIAG : Nat := 3

/-- A free lease. -/
def noLease (_ : Nat) : Lease := ⟨0, 0, 0⟩

/-- Lease `i` as it stands. -/
def Dev.lease (s : Dev) (i : Nat) : Lease := sget noLease s.leases i
def Dev.setLease (s : Dev) (i : Nat) (l : Lease) : Dev := { s with leases := sset noLease s.leases i l }

/-- Is lease `i` held? -/
def Dev.leaseHeld (s : Dev) (i : Nat) : Bool := (s.lease i).holder != 0

/-- Lease `i` is free again. -/
def Dev.freeLease (s : Dev) (i : Nat) : Dev := s.setLease i (noLease i)

/-- Lease `i` is free again if `holder` has it. -/
def Dev.dropLease (s : Dev) (i holder : Nat) : Dev :=
  if (s.lease i).holder == holder then s.freeLease i else s

/-- A requester asks for lease `i` (R353): a free lease goes to it, a held one answers BUSY. The Bool says which. -/
def Dev.askLease (s : Dev) (i holder rank : Nat) : Bool × Dev :=
  if s.leaseHeld i then (false, s.bump Reg.LEASES_CNT_BUSY_VALUE)
  else (true, s.setLease i ⟨holder, rank, s.time⟩)

/-! ### Reason codes (R205) -/

def rsIMP_PINNED : Nat := 1
def rsIMP_RANGE : Nat := 2
def rsREF_WINDOW : Nat := 3
def rsNOT_IDLE : Nat := 4
def rsSTATE : Nat := 5
def rsLEASE_BUSY : Nat := 6
def rsNO_WINDOW : Nat := 7
def rsCHANNEL : Nat := 8
def rsTEMP_MOVED : Nat := 9
def rsABANDONED : Nat := 10

end Sys2Proof.Machine
end

