-- ==== Sys2Proof/Machine/Classes.lean ====
section
/-!
DEFINITION. Machine/Classes.lean: classes, urgency and latency targets (R137 to R160): the arbitration key, samples, misses,
levels, floors, budget and waterline, and the commands of that chapter.
-/
namespace Sys2Proof.Machine

/-! ### Samples and misses (R141, R142, R151, R152) -/

/-- MON.MODE counts misses. -/
def Dev.monMiss (s : Dev) (c : Nat) : Bool := s.cv Reg.CLASSTAB_MON_MODE c % 2 == 1
/-- MON.MODE runs the counters. -/
def Dev.monCount (s : Dev) (c : Nat) : Bool := s.cv Reg.CLASSTAB_MON_MODE c / 2 == 1

/-- A miss of class `c` (R151): counted while MODE is MISS or BOTH; at MISS_THRESH, once per window, the class's
MISS_STATUS bit and EVT_STATUS.MISS. -/
def Dev.miss (s : Dev) (c : Nat) : Dev :=
  if !(s.monMiss c) then s
  else
    let n := min 65535 (s.cv Reg.CLASSTAB_MISSES_NOW c + 1)
    let s := s.setCv Reg.CLASSTAB_MISSES_NOW c n
    if s.cv Reg.CLASSTAB_MISS_THRESH_THRESH c ≤ n && !(s.cls c).fired then
      let s := s.modCls c (fun k => { k with fired := true })
      let a := 0x9060 + 4 * (c / 32)
      let s := s.wrReg a (withBits (s.rdReg a) (c % 32) (c % 32) 1)
      s.raise pgCLASSES Reg.EV_CLASSES_MISS
    else s

/-- A latency sample of `ns` nanoseconds (R142): M = M + (S − M) / 16, kept in sixteenths of a nanosecond and rounded down
(log 14); a sample above the target is a miss; in COUNT mode it is counted. -/
def Dev.sample (s : Dev) (c ns : Nat) : Dev :=
  let k := s.cls c
  let m := (15 * k.m + 16 * ns) / 16
  let k := { k with m := m, sampled := true }
  let k := if s.monCount c then { k with cntReq := (k.cntReq + 1) % 2 ^ 48, cntLat := (k.cntLat + ns) % 2 ^ 48 } else k
  let s := s.modCls c (fun _ => k)
  let s := s.setCv Reg.CLASSTAB_STATE_MEASURED c (min 16777215 (m / 16))
  if s.cv Reg.CLASSTAB_LAT_TARGET c * 10 < ns then s.miss c else s

/-- Bytes moved at a shaft controller count for their class (R147, R152). -/
def Dev.moved (s : Dev) (c bytes : Nat) : Dev :=
  s.modCls c (fun k =>
    { k with bytes := k.bytes + bytes,
             cntBytes := if s.monCount c then (k.cntBytes + bytes) % 2 ^ 48 else k.cntBytes })

/-! ### Levels (R143) -/

/-- The ramp level of a class: `m` in sixteenths of a nanosecond, target in 10 ns, ramp start in percent. -/
def rampLevel (m target pct : Nat) : Nat :=
  let t := target * 10
  if m * 100 < 16 * t * pct then 0
  else if m < 16 * t then 1 + 6 * (100 * m - 16 * t * pct) / (16 * t * (100 - pct))
  else 7

/-- The highest accepted level among the urgency inputs mapped to a class (R145). -/
def Dev.urgOf (s : Dev) (c : Nat) : Nat :=
  (List.range 8).foldl (fun l i =>
    if bitN (s.cv Reg.CLASSTAB_URG_MAP_INPUTS c) i then max l (bitsOf (s.rdReg 0x904C) (2 * i + 1) (2 * i)) else l) 0

/-- The effective level of a class without flit URG (R143). -/
def Dev.levelOf (s : Dev) (c : Nat) : Nat :=
  if c == 63 then 7
  else
    let ramp := if c == 62 then 0
      else rampLevel (s.cls c).m (s.cv Reg.CLASSTAB_LAT_TARGET c) (s.cv Reg.CLASSTAB_LAT_RAMP_START c)
    let def_ := if s.cv Reg.CLASSTAB_STATE_DEFICIT c == 1 && !(s.belowNow c)
      then s.fv Reg.CLASSES_CTL_DEFICIT_PRIO else 0
    max (max ramp (s.urgFloor (s.urgOf c))) def_

/-- LEVEL_RECOMPUTE (R143): every class's level anew. -/
def Dev.levels (s : Dev) : Dev :=
  (List.range 64).foldl (fun t c => t.setCv Reg.CLASSTAB_STATE_LEVEL c (s.levelOf c)) s

def execLevelRecompute (s : State) : Host.Outcome State Fault Refusal := s.on fun s => .next s.levels

/-- M_DECAY (R142): the end of a microsecond in which class `c` had no sample takes M / 16 from M. -/
def execMDecay (c : Fin 64) (s : State) : Host.Outcome State Fault Refusal := s.on fun s =>
  let k := s.cls c
  if k.sampled then .next (s.modCls c (fun k => { k with sampled := false }))
  else
    let m := 15 * k.m / 16
    .next ((s.modCls c (fun k => { k with m := m })).setCv Reg.CLASSTAB_STATE_MEASURED c (min 16777215 (m / 16)))

/-! ### Floors, budget, waterline (R147 to R150) -/

/-- Has class `c` work waiting at a shaft controller? -/
def Dev.waiting (s : Dev) (c : Nat) : Bool :=
  s.shafts.any (fun e => e.2.collar.any (fun x => x.1.cls == c) || e.2.localq.any (fun r => r.cls == c) ||
    e.2.win.any (fun w => w.req.cls == c) || e.2.wbuf.any (fun w => w.cls == c))

/-- DEFICIT_INTERVAL (R147, R150): the end of a microsecond decides every class's deficit for the next one, in which the waterline last
computed is in force. -/
def execDeficitInterval (s : State) : Host.Outcome State Fault Refusal := s.on fun s =>
  let s := { s with wlNow := s.fv Reg.CLASSES_WL_STATUS_WATERLINE }
  .next ((List.range 64).foldl (fun t c =>
    let fl := s.cv Reg.CLASSTAB_FLOOR_FLOOR c
    let d := 0 < fl && (s.cls c).bytes < fl * 64 && s.waiting c
    (t.setCv Reg.CLASSTAB_STATE_DEFICIT c (b2n d)).modCls c (fun k => { k with bytes := 0 })) s)

/-- Budget units of a shaft (R148), by the state its last notice gave. -/
def Dev.shaftUnits (s : Dev) (n : Nat) : Nat :=
  if s.routeState (shaftPage n) == stONLINE then
    match s.fv Reg.SHAFT_STATUS_POINT n with
    | 0 => 1600
    | 1 => 1200
    | _ => 800
  else 0

/-- Sum of FLOOR over classes `lo` to `hi` − 1 that satisfy `p`. -/
def Dev.floorSum (s : Dev) (lo hi : Nat) (p : Nat → Bool) : Nat :=
  (List.range hi).foldl (fun n c => if lo ≤ c && p c then n + s.cv Reg.CLASSTAB_FLOOR_FLOOR c else n) 0

/-- The waterline for an available bandwidth (R149). -/
def Dev.waterlineFor (s : Dev) (avail : Nat) : Nat :=
  ((List.range 64).find? (fun r => avail < s.floorSum 0 60 (fun c => s.cv Reg.CLASSTAB_FLOOR_RANK c ≤ r))).getD 64

/-- A recompute of BUDGET and the waterline (R148 to R150). -/
def Dev.recompute (s : Dev) : Dev :=
  let total := (List.range 48).foldl (fun n i => n + s.shaftUnits i) 0
  let budget := total * s.fv Reg.CLASSES_CTL_BUDGET_EFF / 100
  let devFloor := s.floorSum 60 64 (fun _ => true)
  let old := s.fv Reg.CLASSES_WL_STATUS_WATERLINE
  let wl := s.waterlineFor (budget - devFloor)
  let sum := s.floorSum 0 60 (fun _ => true)
  let s := (((s.setF Reg.CLASSES_BUDGET_UNITS budget).setF Reg.CLASSES_FLOOR_SUM_UNITS sum).setF
    Reg.CLASSES_DEV_FLOOR_UNITS devFloor).bump Reg.CLASSES_CNT_RECOMPUTE_VALUE
  let s := (s.setF Reg.CLASSES_WL_STATUS_WATERLINE wl).setF Reg.CLASSES_WL_STATUS_OVERBOOKED (b2n (wl < 64))
  let s := (List.range 60).foldl (fun t c =>
    t.setCv Reg.CLASSTAB_STATE_BELOW_WL c (b2n (wl ≤ s.cv Reg.CLASSTAB_FLOOR_RANK c))) s
  if wl == old then s else s.raiseRec pgCLASSES Reg.EV_CLASSES_WATERLINE sevWARNING [old, wl, budget, sum]

/-- WATERLINE_RECOMPUTE (R150): one recompute for all the triggers that have come since the last. -/
def execWaterlineRecompute (s : State) : Host.Outcome State Fault Refusal := s.on fun s =>
  if s.wlDue then .next { s.recompute with wlDue := false } else .next s

/-! ### Monitoring windows and urgency inputs -/

/-- MON_WINDOW_END (R151): NOW moves to LAST and restarts; only while misses are counted. -/
def execMonWindowEnd (c : Fin 64) (s : State) : Host.Outcome State Fault Refusal := s.on fun s =>
  if s.monMiss c then
    .next (((s.setCv Reg.CLASSTAB_MISSES_LAST c (s.cv Reg.CLASSTAB_MISSES_NOW c)).setCv Reg.CLASSTAB_MISSES_NOW c 0).modCls c
      (fun k => { k with fired := false }))
  else .next s

/-- A write to MON that leaves MODE at 1 or 3 starts a new window (R151). -/
def Dev.monWritten (s : Dev) (c : Nat) : Dev :=
  if s.monMiss c then (s.setCv Reg.CLASSTAB_MISSES_NOW c 0).modCls c (fun k => { k with fired := false }) else s

/-- The level a Gray-coded pair carries (R144). -/
def grayLevel (code : BitVec 2) : Nat :=
  match code.toNat with
  | 0 => 0
  | 1 => 1
  | 3 => 2
  | _ => 3

/-- The urgency inputs are sampled: from UCIe link-up on (KINDLE step 14), and not in SHUTTERED (R154, R364). -/
def Dev.urgSampled (s : Dev) : Bool :=
  if s.mode == mdKINDLE then decide (14 ≤ s.fv Reg.DEVICE_KINDLE_STATUS_STEP) else s.mode != mdSHUTTERED

/-- URGENCY_ACCEPT (R144): an enabled input's new code is accepted; a disabled input reads level 0, and so does one that is not
sampled (R154). -/
def execUrgencyAccept (i : Fin 8) (code : BitVec 2) (s : State) : Host.Outcome State Fault Refusal := s.on fun s =>
  let l := if bitN (s.fv Reg.CLASSES_URG_CTL_EN) i && s.urgSampled then grayLevel code else 0
  .next (s.wrReg 0x904C (withBits (s.rdReg 0x904C) (2 * i.val + 1) (2 * i.val) l))

/-- URG7 and the snapshot trigger would both be enabled (R146): the trigger enable reads 0, URG_CONFLICT is set. -/
def Dev.urgConflict (s : Dev) : Dev :=
  if bitN (s.fv Reg.CLASSES_URG_CTL_EN) 7 && s.fb Reg.TALLY_SNAP_CTL_EXT_EN then
    (s.setF Reg.TALLY_SNAP_CTL_EXT_EN 0).raiseRec pgCLASSES Reg.EV_CLASSES_URG_CONFLICT sevWARNING []
  else s

/-- A write to URG_CTL: inputs whose EN is 0 read level 0 (R144), and R146 is applied. -/
def Dev.urgCtlWritten (s : Dev) : Dev :=
  let s := (List.range 8).foldl (fun s i =>
    if bitN (s.fv Reg.CLASSES_URG_CTL_EN) i then s
    else s.wrReg 0x904C (withBits (s.rdReg 0x904C) (2 * i + 1) (2 * i) 0)) s
  s.urgConflict

/-- STARVE_EXPIRY (R138): the waiting work at place `i` of an arbitration point counts as LEVEL 7 there until granted. -/
def Dev.starve (s : Dev) (p : ArbPoint) (i : Nat) : Dev :=
  let mark (l : List Req) : List Req := match l[i]? with
    | some r => setAt l i { r with starved := true }
    | none => l
  match p with
  | .spine => match s.fabric.voq[i]? with
    | some c => { s with fabric := { s.fabric with voq := setAt s.fabric.voq i { c with req := { c.req with starved := true } } } }
    | none => s
  | .response h => s.modPort h (fun p => match p.resp1[i]? with
    | some r => { p with resp1 := setAt p.resp1 i { r with starved := true } }
    | none => p)
  | .collar n => s.modShaft n (fun p => match p.collar[i]? with
    | some (r, d) => { p with collar := setAt p.collar i ({ r with starved := true }, d) }
    | none => p)
  | .shaftLocal n => s.modShaft n (fun p => { p with localq := mark p.localq })
  | .window n => s.modShaft n (fun p => match p.win[i]? with
    | some w => { p with win := setAt p.win i { w with req := { w.req with starved := true } } }
    | none => p)
  | .held => match s.haul.held[i]? with
    | some x => { s with haul := { s.haul with held := setAt s.haul.held i { x with req := { x.req with starved := true } } } }
    | none => s
  | .lookup h => s.modPort h (fun p => { p with store := mark p.store })
  | .table => { s with space := { s.space with lookupQ := mark s.space.lookupQ } }
  | .far f => s.modFar f.val (fun p => match p.cxlQ[i]? with
    | some q => { p with cxlQ := setAt p.cxlQ i { q with starved := true } }
    | none => { p with txQ := match p.txQ[i - p.cxlQ.length]? with
        | some m => setAt p.txQ (i - p.cxlQ.length) { m with starved := true }
        | none => p.txQ })
  | .rings => match s.disp.back[i]? with
    | some j => { s with disp := { s.disp with back := setAt s.disp.back i { j with starved := true } } }
    | none => { s with disp := { s.disp with starved := if s.disp.starved.contains (i - s.disp.back.length) then s.disp.starved
                                                        else s.disp.starved ++ [i - s.disp.back.length] } }

def execStarveExpiry (p : ArbPoint) (i : Nat) (s : State) : Host.Outcome State Fault Refusal := s.on fun s => .next (s.starve p i)

end Sys2Proof.Machine
end

