-- ==== Sys2Proof/Config.lean ====
section
/-!
DEFINITION. Config.lean: what the spec leaves open and this model leaves free. Every constant here has no body: nothing can
evaluate it, and a statement that mentions it holds for every value of it. The assumption log says which value each is.
-/
namespace Sys2Proof.Config

/-- A value the spec leaves open, numbered by the step that meets it: nothing constrains it (log 30). -/
opaque freeNat : Nat → Nat

/-- What a measurement finds when it is started by a plain register write that names no outcome (log 31). -/
opaque freeFlag : Nat → Bool

/-- Whether UNPK to fp32 reads bf16 (otherwise fp16): R223 does not say (log 32). -/
opaque unpkBf16 : Bool

/-- How DBG_DATA shows the summary flag and the poison bits of S0 to S15 (R241 does not place them) (log 33). -/
opaque dbgFlags : Bool → Bool → Nat → Nat

/-- How bytes 2 to 3 of a CAP row hold the IDENT word's family and device codes, byte 4 the width offered, and byte 5 the lane order
seen: R308 gives their places and no encoding (log 42). -/
opaque capIdent : Nat → Nat
opaque capWidth : Nat → Nat
opaque capOrder : Bool → Nat

/-- Whether an ECDSA P-384 signature verifies (R367): key, signature and digest as bytes. No rule gives the byte order of the key's and
the signature's numbers (log 19). -/
opaque ecdsaVerifies : List Nat → List Nat → List Nat → Bool

/-- How a DRAM command fills the CA bits (R166): the command's number, bank, row or column, and AP bit. The rule places only the fields of
a WRM (log 163). -/
opaque caFields : Nat → Nat → Nat → Bool → BitVec 40
/-- The WR fields of a WRM, in CA bits 15 to 0 of its first CK (R166): bank, column, AP bit. -/
opaque caWrm : Nat → Nat → Bool → BitVec 16

end Sys2Proof.Config
end

