-- ==== Sys2Proof/Machine/HostPort.lean ====
section
/-!
DEFINITION. Machine/HostPort.lean: the host ports (R78 to R118): training and lane repair, flits, slots and credits, arrival
and admission of VC0 requests, responses, events, link loss and protocol errors.
-/
namespace Sys2Proof.Machine

/-- The repair list takes a SOFT entry (R288); with 5,120 entries in use it is not listed and a record is written. -/
def Dev.addRepair (s : Dev) (e : Nat) : Dev :=
  if s.repairs.length < 5120 then { s with repairs := s.repairs ++ [(BitVec.ofNat 32 e, false)] }
  else s.record 0x004 codeOTHER sevWARNING [e]

/-! ### Link loss, training (R110, R113, R80, R81) -/

/-- What a port keeps when its link goes down: the requests it admitted and has not completed, its FENCEs and its register requests among
them (R110), and the lanes replaced (R80). -/
def PortSt.afterLoss (p : PortSt) : PortSt :=
  { oldIds := p.oldIds ++ p.live, oldFences := p.oldFences ++ p.fences, oldWait2 := p.oldWait2 ++ p.wait2, spans := p.spans,
    store := p.store, replTx := p.replTx, replRx := p.replRx }

/-- Take the link down (R110): ingress discarded, admitted requests go on without answer, responses and events dropped, tags free, credit
counts to start again. LINK_DOWN is set when the link was up (R117). -/
def Dev.dropLink (s : Dev) (h : Nat) : Dev :=
  let p := s.port h
  let q := { p.afterLoss with evtCount := p.evtCount, trainFails := p.trainFails }
  let s := (s.setPort h q).emit (.link h false)
  let s := ((s.setF Reg.HOSTPORT_LINK_STATUS_UP 0 h).setF Reg.HOSTPORT_LINK_STATUS_INIT_DONE 0 h).setF
    Reg.HOSTPORT_LINK_STATUS_RATE 0 h
  if p.adapterUp then s.raise (hostPage h) Reg.EV_HOSTPORT_LINK_DOWN else s

/-- A port starts training: KINDLING, unless it is FENCED, which it stays (R113). LINK_CTL.DISABLE holds its link down: it is OFFLINE, or
FENCED as it was (R116; log 154). -/
def Dev.startTraining (s : Dev) (h : Nat) : Dev :=
  if s.fb Reg.HOSTPORT_LINK_CTL_DISABLE h then (if s.portSt h == stFENCED then s else s.enter (hostPage h) stOFFLINE)
  else if s.fb Reg.MODES_STATUS_PADS_LATCHED then s
  else
    let s := s.emit (.link h true)
    if s.portSt h == stFENCED then s else s.enter (hostPage h) stKINDLING

/-- Retrain under R110 and count it (R97, R111). -/
def Dev.retrainLink (s : Dev) (h : Nat) : Dev :=
  ((s.dropLink h).bumpSat Reg.HOSTPORT_LINK_STATUS_RETRAINS h).startTraining h

/-- Redundant lanes left for data lane `l`: UCIe gives an x64 module two for lanes 0 to 31 and two for lanes 32 to 63
(PRESUMED, log 15). -/
def laneRoom (used : List Nat) (l : Nat) : Bool := (used.filter (fun u => u / 32 == l / 32)).length < 2

/-- Replace lanes one after another; none when a redundant lane is missing. -/
def addLanes : List Nat → List Nat → Option (List Nat)
  | used, [] => some used
  | used, l :: ls =>
    if used.contains l then addLanes used ls
    else if laneRoom used l then addLanes (used ++ [l]) ls
    else none

/-- The TYPE 4 entries of a port and direction, in entry order (R287). -/
def Dev.laneEntries (s : Dev) (h dir : Nat) : List Nat :=
  (s.repairs.filter (fun e => bitsOf e.1 31 28 == 4 && bitsOf e.1 27 24 == h && bitsOf e.1 23 23 == dir)).map
    (fun e => bitsOf e.1 22 17)

/-- The port cannot train for want of redundant lanes (R80). -/
def Dev.repairFail (s : Dev) (h : Nat) : Dev :=
  (s.raiseRec (hostPage h) Reg.EV_HOSTPORT_REPAIR_FAIL sevCRITICAL []).enter (hostPage h) stFAILED

/-- HOST_PORT_TRAINING_END: a training attempt of a port ends (R78 to R81, R113). While the pads are latched no port can train (R393), and
one that trains without its rail fails (R473). -/
def Dev.trainingEnd (s : Dev) (h : Nat) (o : PortTrainObs) : Dev :=
  if (s.portSt h != stKINDLING && s.portSt h != stFENCED) || (s.port h).adapterUp || s.fb Reg.MODES_STATUS_PADS_LATCHED ||
      s.fb Reg.HOSTPORT_LINK_CTL_DISABLE h || !s.pins.refclk then s
  else match (if s.pins.vddUcie then o else .failed) with
  | .noPartner => if s.portSt h == stKINDLING then s.enter (hostPage h) stOFFLINE else s
  | .failed =>
    let p := s.port h
    let s := s.setPort h { p with trainFails := p.trainFails + 1 }
    if 8 ≤ p.trainFails + 1 then (s.enter (hostPage h) stFAILED).record (hostPage h) codeOTHER sevCRITICAL [p.trainFails + 1]
    else s
  | .trained rate tx rx =>
    let p := s.port h
    match addLanes p.replTx (s.laneEntries h 1 ++ tx.map (·.val)), addLanes p.replRx (s.laneEntries h 0 ++ rx.map (·.val)) with
    | some t, some r =>
      let maxRate := s.fv Reg.HOSTPORT_LINK_CTL_MAX_RATE h
      let got := min (rate.val + 1) maxRate
      let new := p.replTx.length < t.length || p.replRx.length < r.length
      let s := s.setPort h { p with trainFails := 0, replTx := t, replRx := r, imp := s.fv Reg.CALREF_IMP_MASTER }
      let s := ((s.setF Reg.HOSTPORT_LINK_STATUS_RATE got h).setF Reg.HOSTPORT_LINK_STATUS_REPAIRED_TX t.length h).setF
        Reg.HOSTPORT_LINK_STATUS_REPAIRED_RX r.length h
      let s := if new then s.raise (hostPage h) Reg.EV_HOSTPORT_LANE_REPAIRED else s
      if got < maxRate then s.raise (hostPage h) Reg.EV_HOSTPORT_RATE_LOW else s
    | _, _ => s.repairFail h

def execHostPortTrainingEnd (h : Fin 12) (o : PortTrainObs) (s : State) : Host.Outcome State Fault Refusal := s.on fun s =>
  .next (s.trainingEnd h o)

/-- ADAPTER_LINK_UP (R97): the link is up; the port sends its INIT flits once the old link's requests have completed. -/
def Dev.linkUp (s : Dev) (h : Nat) : Dev :=
  if s.fv Reg.HOSTPORT_LINK_STATUS_RATE h == 0 || (s.port h).adapterUp then s
  else
    let p := s.port h
    let s := s.setPort h { p with adapterUp := true, initSent := false, initRecv := false, grant1 := 0, grant2 := 0,
                                  have1 := 0, have2 := 0, have3 := 0 }
    (s.setF Reg.HOSTPORT_LINK_STATUS_UP 1 h).sendInit h

def execAdapterLinkUp (h : Fin 12) (s : State) : Host.Outcome State Fault Refusal := s.on fun s => .next (s.linkUp h)

/-- Bits of the flit header field FH (R83). -/
def fhBits (fh : Nat) (hi lo : Nat) : Nat := fh / 2 ^ lo % 2 ^ (hi + 1 - lo)

/-- The credits a flit returns, each count saturating at 65,535 (R96). -/
def takeCredits (p : PortSt) (fh : Nat) : PortSt :=
  { p with have1 := min 65535 (p.have1 + fhBits fh 71 64), have2 := min 65535 (p.have2 + fhBits fh 63 56),
           have3 := min 65535 (p.have3 + fhBits fh 55 48) }

/-- A protocol error (R111): PROTOCOL_ERR, a record naming slot and OPC, and a counted retrain. -/
def Dev.protocolError (s : Dev) (h slot opc : Nat) : Dev :=
  (s.raiseRec (hostPage h) Reg.EV_HOSTPORT_PROTOCOL_ERR sevWARNING [slot, opc]).retrainLink h

/-- The first header slot that SMAP names. -/
def firstSlot (smap : Nat) : Nat := ((List.range 15).find? (fun i => bitN smap i)).elim 0 (· + 1)

/-- INIT_FLIT (R97): an INIT flit adds its grants; the flit with INIT 0 ends the host's side. A message in an INIT flit is a protocol error
that names its slot and its OPC `opc`. -/
def Dev.initFlit (s : Dev) (h : Nat) (fh : Nat) (opc : Nat := 0) : Dev :=
  let p := s.port h
  if !p.adapterUp || p.initRecv then s
  else
    let q := takeCredits p fh
    let q := { q with grant1 := q.have1, grant2 := q.have2 }
    if fhBits fh 45 45 == 1 then (if fhBits fh 14 0 == 0 then s.setPort h q else s.protocolError h (firstSlot (fhBits fh 14 0)) opc)
    else (s.setPort h { q with initRecv := true }).endInit h

def execInitFlit (h : Fin 12) (fh : BitVec 80) (s : State) : Host.Outcome State Fault Refusal := s.on fun s => .next (s.initFlit h fh.toNat)

/-- CREDIT_INIT_TIMEOUT (R97): initialisation has not ended 100 µs after link up. -/
def execCreditInitTimeout (h : Fin 12) (s : State) : Host.Outcome State Fault Refusal := s.on fun s =>
  let p := s.port h
  if p.adapterUp && !(s.fb Reg.HOSTPORT_LINK_STATUS_INIT_DONE h) then .next (s.retrainLink h) else .next s

/-! ### Received flits (R82 to R87, R111) -/

/-- Slots of a known request opcode from the host (R87); `none` for a response or event opcode. -/
def opcSlots (opc : Nat) : Option (Option Nat) :=
  match opc with
  | 0x01 | 0x02 | 0x06 | 0x07 | 0x08 | 0x10 | 0x11 => some (some 1)
  | 0x03 => some (some 5)
  | 0x04 => some (some 6)
  | 0x05 => some (some 2)
  | 0x20 | 0x21 | 0x22 | 0x23 | 0x24 | 0x25 | 0x26 | 0x30 => none
  | _ => some none

/-- The opcode in the header slot `i` (1 to 15) of a flit. -/
def flitOpc (flit : Nat) (i : Nat) : Nat := flit / 2 ^ (128 * i + 58) % 64

/-- Do the opcode lengths agree with SMAP (R84)? Walks slots `i` to 15; answers the header slot and opcode of the first message that
disagrees. `left` counts the slots of the present message `m` still to come. -/
def checkSlots (flit smap : Nat) (m : Nat × Nat) : Nat → Nat → Nat → Option (Nat × Nat)
  | 0, _, left => if left == 0 then none else some m
  | k + 1, i, left =>
    if bitN smap (i - 1) then
      let n := (i, flitOpc flit i)
      if left == 0 then
        match opcSlots n.2 with
        | none => some n
        | some (some len) => checkSlots flit smap n k (i + 1) (len - 1)
        | some none => checkSlots flit smap n k (i + 1) 0
      else some m
    else checkSlots flit smap m k (i + 1) (left - 1)

/-- The header of a flit: its CR fields add credits, those of an INIT flit that comes late too; a flit that breaks R84 or R97 is a protocol
error that names the slot and the OPC (R111). -/
def Dev.flitIn (s : Dev) (h : Nat) (flit : Nat) : Dev :=
  let p := s.port h
  let fh := flit / 2 ^ 16 % 2 ^ 80
  let smap := fhBits fh 14 0
  let first := firstSlot smap
  if !p.adapterUp then s
  else if fhBits fh 45 45 == 1 then
    if smap != 0 then s.protocolError h first (flitOpc flit first)
    else if p.initRecv then s.setPort h (takeCredits p fh)
    else s.initFlit h fh
  else if !p.initRecv && smap == 0 then s.initFlit h fh
  else
    let s := if p.initRecv then s else s.initFlit h fh
    if !(s.fb Reg.HOSTPORT_LINK_STATUS_INIT_DONE h) && smap != 0 then s.protocolError h first (flitOpc flit first)
    else match checkSlots flit smap (0, 0) 15 1 0 with
    | some (slot, opc) => s.protocolError h slot opc
    | none =>
      if p.initRecv then s.modPort h (fun p => { takeCredits p fh with urg := fhBits fh 47 46 })
      else s.modPort h (fun p => { p with urg := fhBits fh 47 46 })

/-! ### Arrival of VC0 requests -/

/-- What is wrong with a request's tag when it arrives (R94, R105): 2 at or above TAG_LIMIT, 3 outstanding already, 0 nothing. -/
def Dev.tagErr (s : Dev) (h tag : Nat) : Nat :=
  if s.fv Reg.HOSTPORT_TAG_LIMIT_LIMIT h ≤ tag then 2 else if (s.port h).outst.contains tag then 3 else 0

/-- A VC0 request arrives at its port (R96, R111): it waits in the ingress buffer, holding the host's credits; its tag is judged and becomes
outstanding (R94). A request that arrives before initialisation has ended, or overruns the credits held, is a protocol error that names its
header slot, 1 for a message whose flit is not given (log 16); a link that is down carries none. Class 60 to 63 becomes 59 (R95). -/
def Dev.arrive (s : Dev) (m : MemReq) (op : MOp) (opc : Nat) (f : Req → Req) (slot : Nat := 1) : Dev :=
  let h := m.port.val
  let p := s.port h
  if !p.adapterUp then s
  else if !(s.fb Reg.HOSTPORT_LINK_STATUS_INIT_DONE h) then s.protocolError h slot opc
  else if p.cr0 < msgSlots op then s.protocolError h slot opc
  else
    let e := s.tagErr h m.tag.toNat
    let r : Req := { id := s.nextId, org := .host h m.tag.toNat, op := op, cls := min 59 m.cls.toNat,
                     urg := m.urg.toNat, line := m.line.toNat, tagErr := e }
    (s.setPort h { p with cr0 := p.cr0 - msgSlots op, ingress0 := p.ingress0 ++ [f r],
                          outst := if e == 0 then p.outst ++ [m.tag.toNat] else p.outst }).fresh

def execRd64 (m : MemReq) (s : State) : Host.Outcome State Fault Refusal := s.on fun s => .next (s.arrive m .rd 0x01 id)
def execRd64Na (m : MemReq) (s : State) : Host.Outcome State Fault Refusal := s.on fun s => .next (s.arrive m .rdNa 0x02 id)

/-- The data of a WR64 and its parity as received (R86, R88); the parity is judged at admission (R104). -/
def writeReq (data : Line) (par : BitVec 64) (r : Req) : Req :=
  { r with data := data, par := par, mask := fullMask, parOk := badBytes data par == 0 }

def execWr64 (m : MemReq) (data : BitVec 512) (par : BitVec 64) (s : State) : Host.Outcome State Fault Refusal := s.on fun s =>
  .next (s.arrive m .wr 0x03 (writeReq data par))

/-- Does a mask's parity byte fit it (R89)? -/
def maskOk (mask : BitVec 64) (mpar : BitVec 8) : Bool := parityOf 8 mask.toNat == mpar.toNat

/-- The data and mask of a WRM64 with their parity (R89). -/
def maskedReq (data : Line) (par mask : BitVec 64) (mpar : BitVec 8) (r : Req) : Req :=
  { r with data := data, par := par, mask := mask, parOk := badBytes data par == 0 && maskOk mask mpar }

def execWrm64 (m : MemReq) (data : BitVec 512) (par mask : BitVec 64) (mpar : BitVec 8) (s : State) :
    Host.Outcome State Fault Refusal := s.on fun s =>
  .next (s.arrive m .wrm 0x04 (maskedReq data par mask mpar))

/-- The operands of an atomic (R90). -/
def atomReq (q : AtomArg) (r : Req) : Req :=
  { r with a := q.a, b := q.b, off := q.off.toNat,
           parOk := parityOf 8 q.a.toNat + parityOf 8 q.b.toNat * 256 == q.par.toNat }

def execAtomFetchAdd (m : MemReq) (q : AtomArg) (s : State) : Host.Outcome State Fault Refusal := s.on fun s =>
  .next (s.arrive m (.atom 0) 0x05 (atomReq q))
def execAtomSwap (m : MemReq) (q : AtomArg) (s : State) : Host.Outcome State Fault Refusal := s.on fun s =>
  .next (s.arrive m (.atom 1) 0x05 (atomReq q))
def execAtomCompareSwap (m : MemReq) (q : AtomArg) (s : State) : Host.Outcome State Fault Refusal := s.on fun s =>
  .next (s.arrive m (.atom 2) 0x05 (atomReq q))
def execAtomSignedMinimum (m : MemReq) (q : AtomArg) (s : State) : Host.Outcome State Fault Refusal := s.on fun s =>
  .next (s.arrive m (.atom 3) 0x05 (atomReq q))
def execAtomSignedMaximum (m : MemReq) (q : AtomArg) (s : State) : Host.Outcome State Fault Refusal := s.on fun s =>
  .next (s.arrive m (.atom 4) 0x05 (atomReq q))
def execAtomUnsignedMinimum (m : MemReq) (q : AtomArg) (s : State) : Host.Outcome State Fault Refusal := s.on fun s =>
  .next (s.arrive m (.atom 5) 0x05 (atomReq q))
def execAtomUnsignedMaximum (m : MemReq) (q : AtomArg) (s : State) : Host.Outcome State Fault Refusal := s.on fun s =>
  .next (s.arrive m (.atom 6) 0x05 (atomReq q))

def execHintPrefetch (m : MemReq) (countM1 : BitVec 6) (s : State) : Host.Outcome State Fault Refusal := s.on fun s =>
  .next (s.arrive m (.hint 0 (countM1.toNat + 1) 0) 0x06 id)
def execHintPin (m : MemReq) (countM1 : BitVec 6) (s : State) : Host.Outcome State Fault Refusal := s.on fun s =>
  .next (s.arrive m (.hint 1 (countM1.toNat + 1) 0) 0x06 id)
def execHintUnpin (m : MemReq) (countM1 : BitVec 6) (s : State) : Host.Outcome State Fault Refusal := s.on fun s =>
  .next (s.arrive m (.hint 2 (countM1.toNat + 1) 0) 0x06 id)
def execHintDemote (m : MemReq) (countM1 : BitVec 6) (s : State) : Host.Outcome State Fault Refusal := s.on fun s =>
  .next (s.arrive m (.hint 3 (countM1.toNat + 1) 0) 0x06 id)
def execHintRelease (m : MemReq) (countM1 : BitVec 6) (s : State) : Host.Outcome State Fault Refusal := s.on fun s =>
  .next (s.arrive m (.hint 4 (countM1.toNat + 1) 0) 0x06 id)
def execHintMigrate (m : MemReq) (countM1 : BitVec 6) (target : BitVec 6) (s : State) : Host.Outcome State Fault Refusal := s.on fun s =>
  .next (s.arrive m (.hint 5 (countM1.toNat + 1) target.toNat) 0x06 id)
def execFlushSector (m : MemReq) (s : State) : Host.Outcome State Fault Refusal := s.on fun s => .next (s.arrive m (.flush false) 0x07 id)
def execFlushFrame (m : MemReq) (s : State) : Host.Outcome State Fault Refusal := s.on fun s => .next (s.arrive m (.flush true) 0x07 id)
def execFence (m : MemReq) (s : State) : Host.Outcome State Fault Refusal := s.on fun s => .next (s.arrive m .fence 0x08 id)

/-- A request of an opcode the table does not list, an ATOM with AOP 7 or a HINT with KIND 6 or 7 (R87, R90, R91): AOP, KIND and the
parity of the operands stand in W; `arg` is an ATOM's operand slot, A in its low half. A response or EVENT opcode from the host is a
protocol error (R111). -/
def Dev.arriveOther (s : Dev) (m : MemReq) (opc slots w2 arg : Nat) (slot : Nat := 1) : Dev :=
  match opcSlots opc with
  | none => if (s.port m.port).adapterUp then s.protocolError m.port slot opc else s
  | some _ =>
    if opc == 5 then s.arrive m (.atom (w2 / 2 ^ 20 % 8)) 0x05 (fun r =>
      { r with a := BitVec.ofNat 64 arg, b := BitVec.ofNat 64 (arg / 2 ^ 64), off := w2 / 2 ^ 16 % 8,
               parOk := parityOf 16 (arg % 2 ^ 128) == w2 % 65536 }) slot
    else if opc == 6 then s.arrive m (.hint (w2 % 8) (w2 / 256 % 64 + 1) (w2 / 65536 % 64)) 0x06 id slot
    else s.arrive m (.unknown opc (max 1 slots)) opc id slot

/-- UNKNOWN_OPC. -/
def execUnknownOpc (m : MemReq) (opc : BitVec 6) (slots : Fin 16) (rest : AfterHeader) (s : State) :
    Host.Outcome State Fault Refusal := s.on fun s => .next (s.arriveOther m opc.toNat slots.val rest.w2.toNat rest.arg.toNat)

/-! ### Admission (R94, R98, R99, R104, R112) -/

/-- Haulage works (R74): its unit is in service, no clear and no walk runs, and start-up has ended them (R39, R46). -/
def Dev.haulServes (s : Dev) : Bool :=
  let st := s.ust hauPage
  !(st == stOFFLINE || st == stKINDLING || st == stDARK || st == stFAILED || st == stRESETTING) && !s.space.walking && !s.space.clearing

/-- How every memory request is answered while haulage does not serve (R46, R74), with RETRY_US and whether the walk is why (R151). -/
def Dev.haulRefusal (s : Dev) : Option (Nat × Bool) :=
  if s.haulServes then none
  else if s.ust hauPage == stFAILED then some (1000, false)
  else some (100, s.space.walking || s.space.clearing || s.ust hauPage == stKINDLING)

/-- Why mode, walk or state refuses memory requests, with RETRY_US (R107, R112, R113): the Bool says that mode or walk does
(R151). -/
def Dev.memRefusal (s : Dev) (h : Nat) : Option (Nat × Bool) :=
  let phase := s.fv Reg.MODES_STATUS_PHASE
  if s.mode == mdLAMPROOM || s.ks.halted || phase == 3 || phase == 4 then some (10000, true)
  else if (s.haulRefusal).isSome then s.haulRefusal
  else if s.mode == mdKINDLE && s.fv Reg.DEVICE_KINDLE_STATUS_STEP < 14 then some (100, true)
  else if s.mode == mdSHUTTERED || 5 ≤ s.fv Reg.MODES_STATUS_PHASE then some (1000, true)
  else if s.portSt h == stFENCED then some (1000, false)
  else none

/-- What admission itself answers a VC0 request (R104, first rows): tag, parity, unsupported, mode; the Bool is `quiet` (R151). The table has
no row for an unknown OPC, AOP 7, KIND 6 or KIND 7; they are refused before the mode is looked at (DESIGN CHOICE, log 155). -/
def Dev.admitJudge (s : Dev) (h : Nat) (r : Req) : Option (Result × Bool) :=
  if r.tagErr != 0 then some (.error 3 r.tagErr, false)
  else if !r.parOk then some (.error 3 6, false)
  else match r.op with
  | .unknown _ _ => some (.error 3 1, false)
  | .atom 7 => some (.error 3 4, false)
  | .hint 6 _ _ => some (.error 3 5, false)
  | .hint 7 _ _ => some (.error 3 5, false)
  | _ => match s.memRefusal h with
    | some (us, quiet) => some (.retry us, quiet)
    | none => none

/-- The R99 check at an admission that reserves `need` more slots: a breach is counted, raised and recorded. -/
def Dev.creditCheck (s : Dev) (h have_ reserved : Nat) : Dev :=
  if s.fb Reg.HOSTPORT_CREDIT_CTL_CHECK_EN h && have_ < reserved then
    (s.bump Reg.HOSTPORT_CNT_CREDIT_VIOL_VALUE h).raiseRec (hostPage h) Reg.EV_HOSTPORT_CREDIT_VIOL sevWARNING [have_, reserved]
  else s

/-- The bytes of memory payload a request brings or asks for (log 174). -/
def payload (op : MOp) : Nat := match op with
  | .rd | .rdNa | .wr | .wrm => 64
  | .atom _ => 16
  | _ => 0

/-- The bytes of payload a host port admits at most in 10 ns, the lower of the limits in force: HOST_LIMIT at T3, 96 GB/s at P4 (R397, R411,
R414). -/
def Dev.hostPace (s : Dev) : Option Nat :=
  let t := s.fv Reg.HEAT_STATUS_STEP == 3
  let p := s.fv Reg.POWER_LADDER_STEP == 4
  let l := 10 * s.fv Reg.HEAT_HOST_LIMIT_GBPS
  if t && p then some (min l 960) else if t then some l else if p then some 960 else none

/-- The payload a port has admitted in this 10 ns. -/
def Dev.paidNow (s : Dev) (h : Nat) : Nat := let x := (s.port h).paid; if x.1 == s.time then x.2 else 0

/-- Does a limit keep a request in the ingress buffer for now? -/
def Dev.paced (s : Dev) (h : Nat) (r : Req) : Bool := match s.hostPace with
  | some l => decide (l < s.paidNow h + payload r.op)
  | none => false

/-- REQUEST_ADMIT on VC0: the oldest request in the ingress buffer is admitted once its response space can be reserved and a
request-store cell is free (R98, R122), not during a thermal trip (R412) and
within the rate that T3 and P4 leave the port (R397, R411); its credits return; then the first rows of R104 judge it. A FENCE waits for the
earlier requests of its port (R102); every other request waits for its lookup. -/
def Dev.admit0 (s : Dev) (h : Nat) : Dev :=
  let p := s.port h
  match p.ingress0, p.grant1 < 5 || p.grant2 < 1 with
  | [], _ => s
  | _, true => s
  | r :: rest, false =>
    let need := respSlots r.op
    let cells := p.store.length + (s.fabric.voq.filter (fun c => c.src == h && c.net == 0)).length
    if 20480 < p.resv1 + need || 1024 ≤ cells || s.fb Reg.HEAT_STATUS_TRIPPED || s.paced h r then s
    else
      let slots := msgSlots r.op
      let paid := (s.time, s.paidNow h + payload r.op)
      let s := s.setPort h { p with ingress0 := rest, cr0 := p.cr0 + slots, resv1 := p.resv1 + need, paid := paid }
      let s := ((s.sendCredits h slots 0).bump Reg.HOSTPORT_CNT_REQ_VALUE h).creditCheck h p.have1 (p.resv1 + need)
      let s := if r.parOk then s
        else (s.bump Reg.HOSTPORT_CNT_PARITY_VALUE h).raise (hostPage h) Reg.EV_HOSTPORT_PARITY_IN
      let tag := match r.org with
        | .host _ t => t
        | _ => 0
      match s.admitJudge h r with
      | some (res, quiet) =>
        s.modPort h (fun p => { p with resp1 := p.resp1 ++ [{ respOf r tag res quiet with owns := r.tagErr == 0 }] })
      | none =>
        let p := s.port h
        if r.op == .fence then
          s.setPort h (settleFences { p with live := p.live ++ [r.id], fences := p.fences ++ [(r, p.live)] })
        else s.setPort h { p with live := p.live ++ [r.id], spans := p.spans ++ [(r.id, r.span)], store := p.store ++ [r] }

/-! ### Responses (R93, R96, R141) -/

/-- Slots of a response message (R87). -/
def respLen (opc : Nat) : Nat := if opc == 0x20 || opc == 0x21 then 5 else if opc == 0x23 then 2 else 1

/-- May a response be sent now? The ACK of a FENCE follows the responses of every earlier request (R102). -/
def respReady (l : List Resp) (r : Resp) : Bool := !r.fence || !(l.any (fun q => q.id < r.id))

/-- Is the message a NACK? -/
def isNack (opc : Nat) : Bool := opc == 0x24 || opc == 0x25 || opc == 0x26

/-- The link term of a latency sample, by trained rate (R141). -/
def linkTerm (rate : Nat) : Nat := if rate == 4 then 18 else if rate == 3 then 20 else if rate == 2 then 24 else 32

/-- RESPONSE_SEND on VC1: the ready response with the greatest key leaves once enough credits are held (R96, R139); at equal keys the classes
rotate, and the oldest of a class goes (R138). Its reservation and tag are free; `ns` after the request's arrival it gives a latency sample,
to which the link term is added (R141), or a miss (R151). -/
def Dev.respSend1 (s : Dev) (h : Nat) (ns : Nat) : Dev :=
  let p := s.port h
  match bestBy (fun r => s.keyAt (arbResp h) r.cls r.cls r.urg r.starved) (p.resp1.filter (respReady p.resp1)) with
  | none => s
  | some r =>
    if p.have1 < respLen r.opc || !(s.fb Reg.HOSTPORT_LINK_STATUS_INIT_DONE h) then s
    else
      let s := s.setPort h { p with have1 := p.have1 - respLen r.opc, resv1 := p.resv1 - r.slots,
                                    resp1 := dropFirst (fun q => q.id == r.id) p.resp1,
                                    outst := if r.owns then p.outst.filter (· != r.tag) else p.outst }
      let s := (s.granted (arbResp h) r.cls).sendMsg h (headerWord r.opc r.cls r.tag r.addr r.flag) r.w r.data (respLen r.opc)
      let s := if isNack r.opc then s.bump Reg.HOSTPORT_CNT_NACK_VALUE h else s
      let s := if r.sample && !(isNack r.opc) then s.sample r.cls (ns + linkTerm (s.fv Reg.HOSTPORT_LINK_STATUS_RATE h)) else s
      if r.opc == 0x24 && r.miss then s.miss r.cls else s

/-- RESPONSE_SEND on VC2: register answers leave in order (R103); a NACK_RETRY is a miss of class 63, under which they are served (R92,
R151). -/
def Dev.respSend2 (s : Dev) (h : Nat) : Dev :=
  let p := s.port h
  match p.resp2 with
  | [] => s
  | r :: rest =>
    if p.have2 < 1 || !(s.fb Reg.HOSTPORT_LINK_STATUS_INIT_DONE h) then s
    else
      let s := s.setPort h { p with have2 := p.have2 - 1, resv2 := p.resv2 - 1, resp2 := rest,
                                    out2 := if r.owns then p.out2.filter (· != r.tag) else p.out2 }
      let s := s.sendMsg h (headerWord r.opc r.cls r.tag r.addr r.flag) r.w 0 1
      let s := if isNack r.opc then s.bump Reg.HOSTPORT_CNT_NACK_VALUE h else s
      if r.opc == 0x24 then s.miss 63 else s

def execResponseSend (h : Fin 12) (vc2 : Bool) (ns : Nat) (s : State) : Host.Outcome State Fault Refusal := s.on fun s =>
  if vc2 then .next (s.respSend2 h) else .next (s.respSend1 h ns)

/-- CREDIT_TIMEOUT (R99): a response has waited longer than CREDIT_CTL.TIMEOUT; the link goes down under R110. -/
def execCreditTimeout (h : Fin 12) (s : State) : Host.Outcome State Fault Refusal := s.on fun s =>
  let p := s.port h
  if (p.resp1.isEmpty && p.resp2.isEmpty) || !p.adapterUp then .next s
  else .next (((s.raise (hostPage h) Reg.EV_HOSTPORT_CREDIT_TIMEOUT).dropLink h).startTraining h)

/-- LINK_DOWN: a port's link goes down from outside (R110); the port trains again (R113). -/
def execLinkDown (h : Fin 12) (s : State) : Host.Outcome State Fault Refusal := s.on fun s =>
  if (s.port h).adapterUp then .next ((s.dropLink h).startTraining h) else .next s

/-! ### Events (R109, R130) -/

/-- The port an event goes to: the routed one if ONLINE, else the lowest ONLINE port with MGMT_EN (R109). -/
def Dev.evtPort (s : Dev) (page : Nat) : Option Nat :=
  let p := bitsOf (s.rdReg (page * 4096 + 0x20)) 19 16
  if s.portSt p == stONLINE then some p
  else (List.range 12).find? (fun h => s.portSt h == stONLINE && s.fb Reg.HOSTPORT_MGMT_MGMT_EN h)

/-! ### The selected counters of the spine (R134, R135) -/

/-- Cells in the input buffer of the selected attachment and network (R121, R122): requests in a collar queue, a far transmit pool or before
haulage's lookups; answers in a port's response buffer, or come in for a fill; register answers; event notices. -/
def Dev.poolNow (s : Dev) : Nat :=
  let att := s.fv Reg.FABRIC_SEL_ATT
  match s.fv Reg.FABRIC_SEL_NET with
  | 0 =>
    if 0x10 ≤ att && att < 0x40 then (s.shaft (att - 0x10)).collar.length
    else if 0x40 ≤ att && att < 0x44 then min 256 ((s.far (att - 0x40)).cxlQ.length + (s.far (att - 0x40)).txQ.length)
    else if att == 0x48 then s.space.lookupQ.length
    else 0
  | 1 => if att < 12 then (s.port att).resp1.length
    else if att == 0x48 then s.haul.farArrived.length
    else (s.answers.filter (fun a => match a.1 with
      | .engine n _ => att == 0x10 + n
      | .desc _ => att == 0x49
      | .comp _ => att == 0x49
      | _ => false)).length
  | 2 => if att < 12 then (s.port att).resp2.length else 0
  | _ => if att < 12 then countOf s.notice.evtFlight.length (fun i =>
      s.evtPort ((s.notice.evtFlight.getD i (0, 0)).1) == some att) else 0

/-- Count a cell of network `net` from `src` to `dst` for the selection. -/
def Dev.countCell (s : Dev) (src dst net : Nat) : Dev :=
  if s.fv Reg.FABRIC_SEL_NET != net then s
  else
    let att := s.fv Reg.FABRIC_SEL_ATT
    let s := if src == att then s.bump Reg.FABRIC_CNT_CELLS_IN_VALUE else s
    let s := if dst == att then s.bump Reg.FABRIC_CNT_CELLS_OUT_VALUE else s
    s.setF Reg.FABRIC_POOL_LEVEL_PEAK (max (s.fv Reg.FABRIC_POOL_LEVEL_PEAK) s.poolNow)

/-- EVENT_NOTICE: the notice of a page reaches its host port, which queues it, coalesces it, or overflows (R109, R130). -/
def Dev.evtNotice (s : Dev) (page : Nat) : Dev :=
  match s.notice.evtFlight.find? (fun e => e.1 == page) with
  | none => s
  | some (_, status) =>
    let s := { s with notice := { s.notice with evtFlight := s.notice.evtFlight.filter (fun e => e.1 != page) } }
    let s := s.bump Reg.FABRIC_CNT_EVT_NOTICE_VALUE
    match s.evtPort page with
    | none => s
    | some h =>
      let s := s.countCell (attOfPage page) h 3
      let p := s.port h
      if p.evq.any (fun e => e.page == page) then
        s.setPort h { p with evq := p.evq.map (fun e => if e.page == page then ⟨page, status, true⟩ else e) }
      else if p.evq.length < 64 then s.setPort h { p with evq := p.evq ++ [⟨page, status, false⟩] }
      else (s.setF Reg.HOSTPORT_EVT_OVF_OVF 1 h).raise (hostPage h) Reg.EV_HOSTPORT_EVT_OVF

def execEventNotice (page : BitVec 14) (s : State) : Host.Outcome State Fault Refusal := s.on fun s => .next (s.evtNotice page.toNat)

/-- EVENT_SEND: the oldest queued event leaves for a VC3 credit (R93, R109). -/
def Dev.evtSend (s : Dev) (h : Nat) : Dev :=
  let p := s.port h
  match p.evq with
  | [] => s
  | e :: rest =>
    if p.have3 < 1 || !(s.fb Reg.HOSTPORT_LINK_STATUS_INIT_DONE h) then s
    else
      let vec := bitsOf (s.rdReg (e.page * 4096 + 0x20)) 11 0
      let addr := e.page * 2 ^ 25 + vec * 2 ^ 13
      let s := s.setPort h { p with have3 := p.have3 - 1, evq := rest, evtCount := p.evtCount + 1 }
      s.sendMsg h (headerWord 0x30 63 (p.evtCount % 4096) addr e.coalesced)
        (BitVec.ofNat 64 (s.time % 2 ^ 32 * 2 ^ 32 + e.status.toNat)) 0 1

def execEventSend (h : Fin 12) (s : State) : Host.Outcome State Fault Refusal := s.on fun s => .next (s.evtSend h)

/-! ### Effects of the port's registers (R116) -/

/-- A write to LINK_CTL: DISABLE takes the link down and holds it, or lets the port train; RETRAIN retrains. `old` is the
DISABLE bit before the write. -/
def Dev.linkCtlWritten (s : Dev) (h : Nat) (old : Nat) (v : Word32) : Dev :=
  let s := if s.fb Reg.HOSTPORT_LINK_CTL_DISABLE h && !(s.otherMgmt h) then s.setF Reg.HOSTPORT_LINK_CTL_DISABLE 0 h else s
  if s.portSt h == stDARK || s.portSt h == stFAILED || s.portSt h == stRESETTING || s.portSt h == stTESTING then s
  else if old == 0 && s.fb Reg.HOSTPORT_LINK_CTL_DISABLE h then (s.dropLink h).startTraining h
  else if old == 1 && !(s.fb Reg.HOSTPORT_LINK_CTL_DISABLE h) then s.startTraining h
  else if bitN v.toNat 8 && !(s.fb Reg.HOSTPORT_LINK_CTL_DISABLE h) then s.retrainLink h
  else s

/-- A write to MGMT: a write that would leave no ONLINE port with MGMT_EN is clamped to 1. -/
def Dev.mgmtWritten (s : Dev) (h : Nat) : Dev :=
  if s.otherMgmt h then s else s.setF Reg.HOSTPORT_MGMT_MGMT_EN 1 h

/-- LANE_REPAIR.APPLY (R80, R116, R287): a lane not yet replaced takes a redundant lane, a SOFT entry is listed and the link
retrains; with no redundant lane left, REPAIR_FAIL. -/
def Dev.laneApply (s : Dev) (h : Nat) : Dev :=
  let l := s.fv Reg.HOSTPORT_LANE_REPAIR_LANE h
  let tx := s.fb Reg.HOSTPORT_LANE_REPAIR_DIR h
  let p := s.port h
  let used := if tx then p.replTx else p.replRx
  if used.contains l then s
  else if !(laneRoom used l) then s.raise (hostPage h) Reg.EV_HOSTPORT_REPAIR_FAIL
  else
    let s := s.setPort h (if tx then { p with replTx := used ++ [l] } else { p with replRx := used ++ [l] })
    let s := s.addRepair (4 * 2 ^ 28 + h * 2 ^ 24 + b2n tx * 2 ^ 23 + l * 2 ^ 17)
    let s := s.raise (hostPage h) Reg.EV_HOSTPORT_LANE_REPAIRED
    if s.portSt h == stONLINE || s.portSt h == stKINDLING || s.portSt h == stFENCED then s.retrainLink h else s

end Sys2Proof.Machine
end

