-- ==== Sys2Proof/Machine/Space.lean ====
section
/-!
DEFINITION. Machine/Space.lean: the managed space (R25 to R47): windows, the frame table, sectors, birth, lost frames, free
lists and reserved slots, placement and victim choice (R60, R65), the table clear and the table walk (R39, R46).
-/
namespace Sys2Proof.Machine

/-! ### Frames, sets, entries (R25, R30, R31) -/

def frameOfLine (line : Nat) : Nat := line / 8192
def sectorOfLine (line : Nat) : Nat := line / 64 % 128

/-- SET of a host frame (R30). -/
def setOf (f : Nat) : Nat := Nat.xor (f % 32768) (f / 32768 % 2048)
/-- TAG of a host frame. -/
def tagOf (f : Nat) : Nat := f / 32768
/-- The host frame of an entry: F = (TAG << 15) | (S XOR TAG). -/
def frameFrom (set tag : Nat) : Nat := tag * 32768 + Nat.xor set tag

def wayKey (set w : Nat) : Nat := set * 18 + w

def Dev.way (s : Dev) (k : Nat) : Entry := sget (fun _ => noEntry) s.space.ways k
def Dev.modSpace (s : Dev) (f : SpaceSt → SpaceSt) : Dev := { s with space := f s.space }
def Dev.modHaul (s : Dev) (f : HaulSt → HaulSt) : Dev := { s with haul := f s.haul }
/-- Write way `k` of the table: one table write of the 40 bytes, each with its odd-parity bit (R31, R45). -/
def Dev.setWay (s : Dev) (k : Nat) (e : Entry) : Dev :=
  s.modSpace (fun p => { p with ways := sset (fun _ => noEntry) p.ways k e, parBad := sset (fun _ => 0) p.parBad k 0 })

/-- The way key of a resident frame. -/
def Dev.findWay (s : Dev) (f : Nat) : Option Nat :=
  ((List.range 18).map (wayKey (setOf f))).find? (fun k => (s.way k).valid && (s.way k).tag == tagOf f)

/-- The entry of a resident frame. -/
def Dev.entry (s : Dev) (f : Nat) : Option Entry := (s.findWay f).map s.way

/-- Change the entry of a resident frame. -/
def Dev.modEntry (s : Dev) (f : Nat) (g : Entry → Entry) : Dev :=
  match s.findWay f with
  | some k => s.setWay k (g (s.way k))
  | none => s

/-- Host frame of way `k`. -/
def Dev.frameOfWay (s : Dev) (k : Nat) : Nat := frameFrom (k / 18) (s.way k).tag

def secINVALID : Nat := 0
def secZERO : Nat := 1
def secCLEAN : Nat := 2
def secDIRTY : Nat := 3

/-- State of sector `i` of an entry (R33). -/
def Entry.sec (e : Entry) (i : Nat) : Nat := e.vec.toNat / 4 ^ i % 4

/-- The number of DIRTY sectors. -/
def dirtyCount (e : Entry) : Nat := countOf 128 (fun i => e.sec i == secDIRTY)

/-- Set the state of a sector, keeping DCOUNT the number of DIRTY sectors. -/
def Entry.setSec (e : Entry) (i st : Nat) : Entry :=
  let v := BitVec.ofNat 256 (e.vec.toNat - e.sec i * 4 ^ i + st * 4 ^ i)
  let e := { e with vec := v }
  { e with dcount := dirtyCount e }

/-- The 64-bit header of an entry (R31). -/
def Entry.header (e : Entry) : BitVec 64 :=
  BitVec.ofNat 64 (b2n e.valid * 2 ^ 63 + e.tag % 2048 * 2 ^ 52 + e.shaft % 64 * 2 ^ 46 + e.slot % 16384 * 2 ^ 32 + b2n e.pin * 2 ^ 31 +
    b2n e.stackOnly * 2 ^ 30 + b2n e.farValid * 2 ^ 29 + b2n e.busy * 2 ^ 28 + e.age % 256 * 2 ^ 20 + e.cls % 64 * 2 ^ 14 + e.dcount % 256 * 2 ^ 6)

/-- The 40 bytes of an entry: the vector in bytes 0 to 31, the header in bytes 32 to 39. -/
def Entry.bytes (e : Entry) : Nat := e.vec.toNat + e.header.toNat * 2 ^ 256

/-- The stored parity bits of way `k`, one a byte (R31): odd parity, but for the bytes that `parBad` names. -/
def Dev.wayParity (s : Dev) (k : Nat) : BitVec 40 :=
  BitVec.ofNat 40 (parityOf 40 (s.way k).bytes) ^^^ sget (fun _ => 0) s.space.parBad k

/-- The bytes of way `k` that fail their parity. -/
def Dev.wayBad (s : Dev) (k : Nat) : BitVec 40 := BitVec.ofNat 40 (parityOf 40 (s.way k).bytes) ^^^ s.wayParity k

/-- The header bytes that hold VALID and TAG: bytes 6 and 7 of the header. -/
def tagBytes : BitVec 40 := 0xC000000000

/-- A stored error in way `k`: the bytes of `m` fail their parity from now on. -/
def Dev.upset (s : Dev) (k : Nat) (m : BitVec 40) : Dev :=
  s.modSpace (fun p => { p with parBad := sset (fun _ => 0) p.parBad k (sget (fun _ => 0) p.parBad k ||| m) })

/-- A vector with every sector in one state. -/
def allSectors (st : Nat) : BitVec 256 := BitVec.ofNat 256 ((List.range 128).foldl (fun n i => n + st * 4 ^ i) 0)

/-- Every sector ZERO? -/
def Entry.allZero (e : Entry) : Bool := e.vec == allSectors secZERO

/-- Does evicting the frame need a write-back (R62)? -/
def Entry.needsWb (e : Entry) : Bool := e.dcount != 0

/-! ### Windows (R26 to R29). Windows are numbered as they outrank one another: 0 to 15 stack-only window j, 16 to 79 far
window w − 16. -/

def winEn (s : Dev) (w : Nat) : Bool :=
  if w < 16 then s.fb Reg.HAULAGE_SWj_CTL_EN 0 w else s.fb Reg.HAULAGE_FWk_CTL_EN 0 (w - 16)
def winBase (s : Dev) (w : Nat) : Nat :=
  if w < 16 then bitsOf (s.rdReg (0xA800 + 16 * w)) 25 0 else s.fv Reg.HAULAGE_FWk_BASE_FRAME 0 (w - 16)
def winSize (s : Dev) (w : Nat) : Nat :=
  if w < 16 then bitsOf (s.rdReg (0xA804 + 16 * w)) 26 0 else s.fv Reg.HAULAGE_FWk_SIZE_FRAMES 0 (w - 16)

/-- Does window `w` cover frame `f`? -/
def winCovers (s : Dev) (w f : Nat) : Bool := winBase s w ≤ f && f < winBase s w + winSize s w

/-- The window that still decides a frame in a part being emptied (R29): the first drain that covers the frame says which. -/
def Dev.drainWin (s : Dev) (f : Nat) : Option Nat :=
  s.space.drains.findSome? (fun d => (d.parts.find? (fun p => p.lo ≤ f && f ≤ p.hi)).map (·.win))

/-- The window that decides a frame, none for a hole (R25, R26): while a part is emptied, the window it is taken from; else the enabled
window that outranks the others there. -/
def Dev.winOf (s : Dev) (f : Nat) : Option Nat :=
  match s.drainWin f with
  | some w => some w
  | none => (List.range 80).find? (fun w => winEn s w && winCovers s w f)

/-- Is the frame in a hole (R28)? -/
def Dev.isHole (s : Dev) (f : Nat) : Bool := (s.winOf f).isNone

/-- Is the frame in a part being emptied (R29)? -/
def Dev.isDraining (s : Dev) (f : Nat) : Bool := (s.drainWin f).isSome

/-- The far port of a far window's frame. -/
def Dev.farPortOf (s : Dev) (f : Nat) : Option Nat :=
  match s.winOf f with
  | some w => if 16 ≤ w then some (s.fv Reg.HAULAGE_FWk_CTL_PORT 0 (w - 16)) else none
  | none => none

/-- The far line (far byte address divided by 64) of a host line (R27). -/
def Dev.farLineOf (s : Dev) (line : Nat) : Nat :=
  match s.winOf (frameOfLine line) with
  | some w =>
    (s.fv Reg.HAULAGE_FWk_FADDR_FFRAME 0 (w - 16) + frameOfLine line - winBase s w) * 8192 + line % 8192
  | none => 0

/-- The part of a window's range that R26 gives to it: its range less every enabled window that outranks it. -/
def Dev.ownPart (s : Dev) (w : Nat) : ISet :=
  (List.range w).foldl (fun p v => if winEn s v then idel p (winBase s v) (winBase s v + winSize s v - 1) else p)
    [(winBase s w, winBase s w + winSize s w - 1)]

/-- Set every window's OVERLAP bit (R26). A stack-only window loses part of its range only to a lower-numbered one. -/
def Dev.setOverlaps (s : Dev) : Dev :=
  (List.range 80).foldl (fun t w =>
    let o := b2n (winEn s w && icount (s.ownPart w) < winSize s w)
    if w < 16 then t.setF Reg.HAULAGE_SWj_CTL_OVERLAP o 0 w else t.setF Reg.HAULAGE_FWk_CTL_OVERLAP o 0 (w - 16)) s

/-! ### Birth, lost frames (R36, R47) -/

def Dev.isBorn (s : Dev) (f : Nat) : Bool := imem s.space.born f
def Dev.setBorn (s : Dev) (f : Nat) (b : Bool) : Dev :=
  s.modSpace (fun p => { p with born := if b then iadd p.born f f else idel p.born f f })

/-- Lost, or born and missing in a suspect set (R47). -/
def Dev.isLost (s : Dev) (f : Nat) : Bool :=
  s.space.lost.contains f || (imem s.space.suspect (setOf f) && s.isBorn f && (s.findWay f).isNone)

/-- Enter a frame in the lost list; with the list full its set becomes suspect. Sets LOST_ADDED. -/
def Dev.addLost (s : Dev) (f : Nat) : Dev :=
  let s := if s.space.lost.contains f then s
    else if s.space.lost.length < 256 then s.modSpace (fun p => { p with lost := p.lost ++ [f] })
    else s.modSpace (fun p => { p with suspect := iadd p.suspect (setOf f) (setOf f) })
  s.raise hauPage Reg.EV_HAULAGE_LOST_ADDED

/-! ### Slots (R40, R50, R65) -/

def slotsPerShaft : Nat := 12288

/-- The free runs of a shaft: the head is taken first, freed slots join at the tail (log 20). -/
def Dev.freeRuns (s : Dev) (n : Nat) : List (Nat × Nat) := sget (fun _ => []) s.space.free n
def Dev.freeCount (s : Dev) (n : Nat) : Nat := (s.freeRuns n).foldl (fun k r => k + (r.2 + 1 - r.1)) 0
def Dev.setRuns (s : Dev) (n : Nat) (l : List (Nat × Nat)) : Dev :=
  s.modSpace (fun p => { p with free := sset (fun _ => []) p.free n l })

/-- Take the slot at the head of a shaft's free list (R65). -/
def Dev.takeSlot (s : Dev) (n : Nat) : Option (Nat × Dev) :=
  match s.freeRuns n with
  | [] => none
  | (a, b) :: l => some (a, s.setRuns n (if a == b then l else (a + 1, b) :: l))

def Dev.showPoison (s : Dev) (n : Nat) : Dev := s.setF Reg.SHAFT_POISON_STATUS_ENTRIES (s.shaft n).poison.length n

/-! ### Address map (R161, R162) -/

def bankOf (l : Nat) : Nat := 4 * (l % 8) + l / 256 % 4
def colOf (l : Nat) : Nat := l / 8 % 32
def rowOf (l : Nat) : Nat := l / 1024
/-- The line at a bank, row and column. -/
def lineAt (bank row col : Nat) : Nat := row * 1024 + bank % 4 * 256 + col * 8 + bank / 4
def rowsPerBank : Nat := 98304

/-! ### Events of the die pages (R294) -/

/-- Set bit `bit` of the die page of shaft `n`; bits come in groups of four, one for each of the die's shafts. -/
def Dev.raiseDie (s : Dev) (n bit : Nat) : Dev := s.raise (0x300 + n / 4) (bit + n % 4)

/-! ### The poison list (R276) -/

/-- The device writes a poison signature (R272): it is counted, and the die page's POISON bit is set (R291, R294). -/
def Dev.signed (s : Dev) (n : Nat) : Dev := (s.bump Reg.SHAFT_CNT_POISONED_VALUE n).raiseDie n Reg.EV_DIE_POISON

/-- Enter a line in the poison list; with 256 entries in use it is not listed. -/
def Dev.listPoison (s : Dev) (n l : Nat) : Dev :=
  let p := s.shaft n
  if p.poison.contains l then s
  else if p.poison.length < 256 then (s.modShaft n (fun p => { p with poison := p.poison ++ [l] })).showPoison n
  else
    ((s.bumpSat Reg.SHAFT_POISON_STATUS_UNLISTED n).raiseDie n Reg.EV_DIE_POISON_OVF).record (shaftPage n) codeOTHER sevWARNING [l]

def Dev.unlistPoison (s : Dev) (n l : Nat) : Dev :=
  (s.modShaft n (fun p => { p with poison := p.poison.filter (· != l) })).showPoison n

/-- Any write to a line clears its column in the repeat tracker (R280). -/
def Dev.trackWrite (s : Dev) (n l : Nat) : Dev :=
  s.modShaft n (fun p => { p with tracker := p.tracker.map (fun t =>
    if t.bank == bankOf l && t.row == rowOf l then { t with map := t.map &&& (BitVec.allOnes 32 ^^^ BitVec.ofNat 32 (2 ^ colOf l)) } else t) })

/-- Freeing a slot takes its lines off the shaft's poison list (R276). -/
def Dev.unlistSlot (s : Dev) (n k : Nat) : Dev :=
  if (s.shaft n).poison.isEmpty then s
  else (s.modShaft n (fun p => { p with poison := p.poison.filter (fun l => l / 8192 != k) })).showPoison n

/-- Return a slot to its shaft's free list. -/
def Dev.giveSlot (s : Dev) (n k : Nat) : Dev := (s.setRuns n (s.freeRuns n ++ [(k, k)])).unlistSlot n k

/-- Usable slots of a shaft: those not reserved. -/
def Dev.usableOf (s : Dev) (n : Nat) : Nat := slotsPerShaft - (s.space.resv.filter (fun r => r.1 == n)).length

/-- USABLE_SLOTS.COUNT: usable slots of ONLINE or parked shafts (R50). -/
def Dev.usableSlots (s : Dev) : Nat :=
  (List.range 48).foldl (fun k n => if s.shaftUp n then k + s.usableOf n else k) 0

/-- FREE_SLOTS.COUNT (R50). -/
def Dev.freeSlots (s : Dev) : Nat :=
  (List.range 48).foldl (fun k n => if s.shaftUp n then k + s.freeCount n else k) 0

/-- RESIDENT and PIN_COUNT (R50). -/
def Dev.resident (s : Dev) : Nat := (s.space.ways.filter (fun e => e.2.valid)).length
def Dev.pinCount (s : Dev) : Nat := (s.space.ways.filter (fun e => e.2.valid && e.2.pin)).length

/-- The effective pin limit (R41). -/
def Dev.pinLimit (s : Dev) : Nat := min (s.fv Reg.HAULAGE_PIN_LIMIT_LIMIT) (3 * s.usableSlots / 4)

/-- Pinned ways of a set. -/
def Dev.pinsInSet (s : Dev) (set : Nat) : Nat :=
  countOf 18 (fun w => (s.way (wayKey set w)).valid && (s.way (wayKey set w)).pin)

/-- May another frame of this set be pinned (R41, R42)? -/
def Dev.mayPin (s : Dev) (set : Nat) : Bool := s.pinsInSet set < 14 && s.pinCount < s.pinLimit

/-- The sum of the sizes of enabled stack-only windows (SO_TOTAL). -/
def Dev.soTotal (s : Dev) : Nat := (List.range 16).foldl (fun k w => if winEn s w then k + winSize s w else k) 0

/-- The shaft among `ok` with the most free slots, the lowest number winning ties. -/
def Dev.mostFree (s : Dev) (ok : Nat → Bool) : Option Nat :=
  bestBy (fun n => s.freeCount n) ((List.range 48).filter (fun n =>
    ok n && s.routeState (shaftPage n) == stONLINE && s.shaftUp n && 0 < s.freeCount n))

/-- The class's affinity mask; an empty one counts as every shaft (R65). -/
def Dev.affinity (s : Dev) (c : Nat) : Nat :=
  let m := s.cv Reg.CLASSTAB_AFF_LO_SHAFTS c + s.cv Reg.CLASSTAB_AFF_HI_SHAFTS c * 2 ^ 32
  if m == 0 then 2 ^ 48 - 1 else m

/-- The shaft in which a frame of class `c` is placed, and the state with CNT_FALLBACK counted (R65). -/
def Dev.place (s : Dev) (c : Nat) (ok : Nat → Bool) : Option (Nat × Dev) :=
  match s.mostFree (fun n => ok n && bitN (s.affinity c) n) with
  | some n => some (n, s)
  | none => match s.mostFree ok with
    | some n => some (n, s.bump Reg.HAULAGE_CNT_FALLBACK_VALUE)
    | none => none

/-- Far ports that cannot serve (R67): not in CXL role, link not active, unit not ONLINE, or within the 1 ms mark. -/
def Dev.farBlocked (s : Dev) (f : Nat) : Bool :=
  s.fv Reg.FARPORT_STATUS_ACTIVE_ROLE f != 1 || s.fv Reg.FARPORT_STATUS_STAGE f != 5 || s.fv Reg.FARPORT_CXL_STATUS_MEM_EN f != 1 ||
  s.farSt f != stONLINE || bitN s.haul.marks f

/-- FAR_STATUS.BLOCKED. -/
def Dev.blockedMask (s : Dev) : Nat := maskOf 4 s.farBlocked

/-- FAR_BLOCKED is raised when a port enters the blocked set (R67). -/
def Dev.noteBlocked (s : Dev) : Dev :=
  let m := s.blockedMask
  let new := (List.range 4).any (fun f => bitN m f && !(bitN s.haul.wasBlocked f))
  let s := s.modHaul (fun p => { p with wasBlocked := m })
  if new then s.raise hauPage Reg.EV_HAULAGE_FAR_BLOCKED else s

/-- Shaft states in which its DRAM cannot be read (R60 order 1). -/
def unreadable (st : Nat) : Bool :=
  st == stFAILED || st == stDARK || st == stRESETTING || st == stKINDLING || st == stOFFLINE

/-- May R60 choose this way (order 1)? -/
def Dev.evictable (s : Dev) (k : Nat) : Bool :=
  let e := s.way k
  e.valid && !e.pin && !e.busy &&
  (!e.needsWb ||
    (match s.farPortOf (s.frameOfWay k) with
     | some f => !(s.farBlocked f)
     | none => false) && !(unreadable (s.shaftSt e.shaft)))

/-- Keep-weight of a class (R60 order 4). -/
def Dev.keepW (s : Dev) (c : Nat) : Nat :=
  bitsOf (s.rdReg (0xA114 + 4 * (c / 8))) (4 * (c % 8) + 3) (4 * (c % 8))

/-- Victim choice among the ways of a set that `ok` allows (R60): DCOUNT 0 first, then the highest AGE, then the lowest
keep-weight, then the lowest way. -/
def Dev.victim (s : Dev) (set : Nat) (ok : Nat → Bool) : Option Nat :=
  bestBy (fun k => let e := s.way k
                   b2n (e.dcount == 0) * 65536 + e.age * 256 + (15 - s.keepW e.cls))
    (((List.range 18).map (wayKey set)).filter (fun k => s.evictable k && ok k))

/-- A way of the set that holds nothing. -/
def Dev.freeWay (s : Dev) (set : Nat) : Option Nat :=
  ((List.range 18).map (wayKey set)).find? (fun k => !((s.way k).valid))

/-! ### Table clear and walk (R39, R46) -/

/-- The slots of shaft `n` that are neither reserved nor named by a valid entry, as runs. -/
def Dev.freeFrom (s : Dev) (n : Nat) : List (Nat × Nat) :=
  let used := (s.space.resv.filter (fun r => r.1 == n)).map (·.2) ++
    (s.space.ways.filter (fun e => e.2.valid && e.2.shaft == n)).map (fun e => e.2.slot)
  used.foldl (fun l k => idel l k k) [(0, slotsPerShaft - 1)]

/-- Rebuild every free list (R46). -/
def Dev.rebuildFree (s : Dev) : Dev := (List.range 48).foldl (fun t n => t.setRuns n (s.freeFrom n)) s

/-- The table clear (R39): every way invalid, every frame unborn, no lost frame, no suspect set, every usable slot free,
the window registers at their reset values. -/
def Dev.tableClear (s : Dev) : Dev :=
  let s := s.modSpace (fun p => { p with ways := [], parBad := [], born := [], lost := [], suspect := [], drains := [] })
  let s := { s with regs := s.regs.filter (fun e => e.1 / 4096 != 0x0A || e.1 % 4096 < 0x400) }
  s.rebuildFree

/-- Start a walk (R46): no memory request is served until it ends. -/
def Dev.startWalk (s : Dev) : Dev :=
  s.modSpace (fun p => { p with walking := true, walkFrom := 0, walkDropped := 0, walkLost := 0, walkSuspect := 0, walkSeen := [] })

/-- Drop an entry during the walk; its frame is entered in the lost list. What the walk has newly listed, and the sets it has newly marked
suspect, are counted (R51). -/
def Dev.walkDrop (s : Dev) (k : Nat) : Dev :=
  let f := s.frameOfWay k
  let p := s.space
  let t := (s.setWay k noEntry).addLost f
  t.modSpace (fun q => { q with walkDropped := q.walkDropped + 1,
                                walkLost := q.walkLost + (q.lost.length - p.lost.length),
                                walkSuspect := q.walkSuspect + (icount q.suspect - icount p.suspect) })

/-- The R35 invariants of an entry. -/
def Entry.invOk (e : Entry) : Bool :=
  (e.farValid || (List.range 128).all (fun i => e.sec i == secZERO || e.sec i == secDIRTY)) && !(e.stackOnly && e.farValid)

/-- Two entries name the slot of way `k`, or it is reserved or out of range (R46). -/
def Dev.slotBad (s : Dev) (k : Nat) : Bool :=
  let e := s.way k
  48 ≤ e.shaft || slotsPerShaft ≤ e.slot || s.space.resv.contains (e.shaft, e.slot) ||
  s.space.ways.any (fun x => x.1 != k && x.2.valid && x.2.shaft == e.shaft && x.2.slot == e.slot)

/-- Does the frame lie in an enabled window of the kind STACK_ONLY says? -/
def Dev.kindOk (s : Dev) (k : Nat) : Bool :=
  match s.winOf (s.frameOfWay k) with
  | some w => decide (w < 16) == (s.way k).stackOnly
  | none => false

/-- The walk's checks of one way (R46), in order: parity of every byte, then the others. A second entry that names a dropped entry's slot is
dropped in its turn, so that every entry involved is dropped. -/
def Dev.walkWay (s : Dev) (k : Nat) : Dev :=
  let e := s.way k
  let bad := s.wayBad k
  if !e.valid then s
  else if bad &&& tagBytes != 0 then
    let set := k / 18
    let s := (s.setWay k noEntry).raise hauPage Reg.EV_HAULAGE_LOST_ADDED
    s.modSpace (fun p => { p with suspect := iadd p.suspect set set, walkDropped := p.walkDropped + 1,
                                  walkSuspect := p.walkSuspect + b2n (!(imem p.suspect set)) })
  else if bad != 0 then s.walkDrop k
  else if s.space.walkSeen.contains k || s.slotBad k || !e.invOk || !(s.kindOk k) then
    let twins := (s.space.ways.filter (fun x => x.1 != k && x.2.valid && x.2.shaft == e.shaft && x.2.slot == e.slot)).map (·.1)
    (s.modSpace (fun p => { p with walkSeen := p.walkSeen ++ twins })).walkDrop k
  else
    let s := s.setWay k { e with pin := e.pin || e.stackOnly, dcount := dirtyCount e, busy := false }
    s.setBorn (s.frameOfWay k) true

/-- The bytes that fail their parity in a way that the walk finds bad: a vector byte, or where the header does not pass its highest byte. -/
def upsetOf (headerOk : Bool) : BitVec 40 := if headerOk then 1 else 0x8000000000

/-- TABLE_WALK: the walk checks one set; sets are checked in ascending order. `bad` names the ways in which stored errors have come up since
they were written, and whether the header bytes that hold VALID and TAG are free of them. -/
def Dev.walkSet (s : Dev) (set : Nat) (bad : List (Fin 18 × Bool)) : Dev :=
  if !s.space.walking || set != s.space.walkFrom then s
  else
    let s := bad.foldl (fun s b => s.upset (wayKey set b.1.val) (upsetOf b.2)) s
    let s := (List.range 18).foldl (fun s w => s.walkWay (wayKey set w)) s
    s.modSpace (fun p => { p with walkFrom := p.walkFrom + 1 })

def execTableWalk (set : BitVec 15) (bad : List (Fin 18 × Bool)) (s : State) : Host.Outcome State Fault Refusal := s.on fun s =>
  .next (s.walkSet set.toNat bad)

/-- Every birth bit of a frame in a hole is cleared (R46). -/
def Dev.clearHoles (s : Dev) : Dev :=
  let cover : ISet := (List.range 80).foldl (fun c w =>
    if winEn s w then iadd c (winBase s w) (winBase s w + winSize s w - 1) else c) []
  let holes := cover.foldl (fun h p => idel h p.1 p.2) [(0, 2 ^ 26 - 1)]
  s.modSpace (fun p => { p with born := holes.foldl (fun b h => idel b h.1 h.2) p.born })

/-- The end of the walk (R46): holes' birth bits, free lists, the record and WALK_RESULT. -/
def Dev.walkEnd (s : Dev) : Dev :=
  if !s.space.walking || s.space.walkFrom < 32768 then s
  else
    let p := s.space
    let s := s.clearHoles.rebuildFree
    let s := s.modSpace (fun p => { p with walking := false, walkSeen := [] })
    let s := ((s.setSat Reg.HAULAGE_WALK_RESULT_DROPPED p.walkDropped).setSat Reg.HAULAGE_WALK_RESULT_LOST p.walkLost).setSat
      Reg.HAULAGE_WALK_RESULT_SUSPECT p.walkSuspect
    let sev := if p.walkDropped + p.walkLost + p.walkSuspect == 0 then sevINFO
      else if p.walkLost != 0 then sevCRITICAL else sevWARNING
    let s := s.record hauPage 0x101 sev [p.walkDropped, p.walkLost, p.walkSuspect]
    if s.mode == mdKINDLE then
      (List.range 48).foldl (fun s n => if s.shaftUp n then s else s.pendResv n) s
    else s

/-! ### Registers of the space (R49 to R53) -/

/-- LOOKUP_FRAME: an ordinary lookup with no effect on AGE (R52). -/
def Dev.lookupFrame (s : Dev) : Dev :=
  let f := s.fv Reg.HAULAGE_LOOKUP_FRAME_FRAME
  let base := b2n (s.isBorn f) * 2 ^ 29 + b2n (s.isLost f) * 2 ^ 28 + 2 ^ 31
  let sus := b2n (imem s.space.suspect (setOf f))
  match s.findWay f with
  | none => (s.wrReg 0xA080 (BitVec.ofNat 32 base)).wrReg 0xA084 (BitVec.ofNat 32 (setOf f))
  | some k =>
    let e := s.way k
    let v := base + 2 ^ 30 + b2n e.pin * 2 ^ 27 + b2n e.farValid * 2 ^ 26 + b2n e.stackOnly * 2 ^ 25 + e.shaft * 2 ^ 19 +
      e.slot * 2 ^ 5 + k % 18
    (s.wrReg 0xA080 (BitVec.ofNat 32 v)).wrReg 0xA084
      (BitVec.ofNat 32 (e.dcount * 2 ^ 24 + e.age * 2 ^ 16 + sus * 2 ^ 15 + setOf f))

/-- SUSPECT_CLEAR (R51). -/
def Dev.suspectClear (s : Dev) (v : Word32) : Dev :=
  s.modSpace (fun p => { p with suspect := if bitN v.toNat 31 then [] else idel p.suspect (bitsOf v 14 0) (bitsOf v 14 0) })

end Sys2Proof.Machine
end

