-- ==== Sys2Proof/Machine/Mirror.lean ====
section
/-!
DEFINITION. Machine/Mirror.lean: what the pair role means for a request (R319, R324, R325, R327), and the copies a PRIMARY makes
of the lines its writes, atomics and releases change (R322 to R325).
-/
namespace Sys2Proof.Machine

/-- The enabled mirror window that decides a frame: the lowest-numbered one (R321). -/
def Dev.mirrorWin (s : Dev) (f : Nat) : Option Nat :=
  (List.range 16).find? (fun j => s.fb Reg.PAIR_MWj_CTL_EN 0 j && !(s.fb Reg.PAIR_MWj_CTL_ENABLING 0 j) && s.fv Reg.PAIR_MWj_BASE_FRAME 0 j ≤ f &&
    f < s.fv Reg.PAIR_MWj_BASE_FRAME 0 j + s.fv Reg.PAIR_MWj_SIZE_FRAMES 0 j)

def roleNONE : Nat := 0
def rolePRIMARY : Nat := 1
def roleSECONDARY : Nat := 2
def roleSTALE : Nat := 3
def Dev.role (s : Dev) : Nat := s.fv Reg.PAIR_CTL_ROLE

/-- The partner is dark, or counts as dark: the members' windows differ (R320) or both are PRIMARY (R328). -/
def Dev.pairMuted (s : Dev) : Bool :=
  s.fb Reg.PAIR_STATUS_PARTNER_DARK || s.fb Reg.PAIR_STATUS_MISMATCH || s.fb Reg.PAIR_STATUS_CONFLICT

def Dev.isLagged (s : Dev) (j : Nat) : Bool := s.fb Reg.PAIR_MWj_CTL_MODE 0 j
def Dev.isBroken (s : Dev) (j : Nat) : Bool := s.fb Reg.PAIR_MWj_CTL_BROKEN 0 j
/-- Is window `j` served unmirrored because it is broken? While a resync runs its writes are copied as usual (R329). -/
def Dev.brokenNow (s : Dev) (j : Nat) : Bool := s.isBroken j && !s.pair.resyncing

/-- The lag: queued lines of lagged windows not yet reported held (R324). -/
def Dev.lag (s : Dev) : Nat :=
  s.pair.lagQ.length + ((s.pair.copies ++ s.pair.await).filter (fun c => !c.strict && !c.resync && !c.release)).length

/-- Is the lag past its bounds, or the mirror queue full (R324)? -/
def Dev.lagOver (s : Dev) : Bool := s.fv Reg.PAIR_LAG_CTL_LIMIT_MIB * 16384 < s.lag || s.pair.lagOld || 1048576 ≤ s.lag

/-- Show the lag and note a change into the stalled state (R324). -/
def Dev.noteLag (s : Dev) : Dev :=
  let s := s.setF Reg.PAIR_LAG_STATUS_LINES s.lag
  let s := if s.lag == 0 then s.modPair (fun p => { p with lagOld := false }) else s
  let late := s.lagOver
  let s := if late && !s.pair.stalled then s.raise pgPAIR Reg.EV_PAIR_LAG_STALL else s
  s.modPair (fun p => { p with stalled := late })

/-- How the pair judges an access. -/
inductive PairJudge where
  | serve
  | refuse (r : Result)
  | stall

/-- A write on a SECONDARY or any access on a STALE member is refused (R319); on a PRIMARY a write may meet a handover, a
partner that counts as dark, or the lag's bounds (R324, R327). -/
def Dev.pairJudge (s : Dev) (r : Req) (write : Bool) : PairJudge :=
  match r.org with
  | .mirror _ _ => .serve
  | _ =>
    match s.mirrorWin (frameOfLine r.line) with
    | none => .serve
    | some j =>
      if s.role == roleSTALE then .refuse (.error 4 3)
      else if s.role == roleSECONDARY then (if write then .refuse (.error 4 3) else .serve)
      else if s.role != rolePRIMARY || !write then .serve
      else if s.fb Reg.PAIR_STATUS_HANDOVER then .refuse (.retry 100)
      else if s.brokenNow j then .serve
      else if s.pairMuted then
        (if s.fb Reg.PAIR_CTL_SOLO then .serve
         else if !(s.isLagged j) || s.lagOver then .refuse (.retry 1000)
         else .serve)
      else if s.isLagged j && s.lagOver then .stall
      else .serve

/-- Enter a frame in the resync list (R329). -/
def Dev.noteResync (s : Dev) (f : Nat) : Dev :=
  if s.pair.resync.contains f then s
  else if s.pair.resync.length < 65536 then
    let s := s.modPair (fun p => { p with resync := p.resync ++ [f] })
    s.setF Reg.PAIR_RESYNC_STATUS_FRAMES s.pair.resync.length
  else (s.setF Reg.PAIR_RESYNC_STATUS_FULL 1).raise pgPAIR Reg.EV_PAIR_RESYNC_OVF

/-- The message that carries a copy (R322, R326). -/
def copyMsg (c : MirCopy) : PairMsg :=
  if c.release then { mtype := 2, flags := b2n c.strict, addr := c.line, cls := c.cls, mseq := c.mseq }
  else { mtype := 1, flags := b2n c.strict + (if isPoison c.data c.bad then 2 else 0), addr := c.line, cls := c.cls, mseq := c.mseq,
         par := lineParity c.data ^^^ c.bad, mask := c.mask, mpar := parityOf 8 c.mask.toNat, data := c.data }

/-- Cells of a far port's transmit pool of 256 that copies may take (R122): the messages that wait to be sent hold theirs, and every line in
the receive pool has one reserved for its acknowledgement (R123). -/
def Dev.txRoom (s : Dev) (f : Nat) : Nat := 256 - (s.far f).txQ.length - (s.far f).pool

/-- Send the copies that wait, as far as the transmit pool has room, while the pair link is active and in service, the partner is not muted,
and roles and epochs are in order (R314, R328). -/
def Dev.pumpCopies (s : Dev) : Dev :=
  match s.pairPort with
  | none => s
  | some f =>
    if !(s.pairActive f) || s.farSt f == stFENCED || s.pairMuted || s.role != rolePRIMARY ||
        s.fv Reg.PAIR_STATUS_PARTNER_ROLE != roleSECONDARY || s.fv Reg.PAIR_STATUS_PARTNER_EPOCH != s.fv Reg.PAIR_EPOCH_EPOCH then s
    else
      let l := s.pair.copies.take (s.txRoom f)
      let s := s.modPair (fun p => { p with copies := p.copies.drop l.length, await := p.await ++ l })
      l.foldl (fun s c => s.sendPair f (copyMsg c)) s

/-- Queue a copy; it takes the next message number. -/
def Dev.addCopy (s : Dev) (c : MirCopy) : Dev :=
  (s.modPair (fun p => { p with copies := p.copies ++ [{ c with mseq := p.mseq }], mseq := (p.mseq + 1) % 65536 })).pumpCopies

/-- New value of an atomic's word (R90), 64 bits, little-endian. -/
def atomResult (aop : Nat) (old a b : Word64) : Word64 :=
  match aop with
  | 0 => old + a
  | 1 => a
  | 2 => if old == a then b else old
  | 3 => if old.slt a then old else a
  | 4 => if old.slt a then a else old
  | 5 => if old.ult a then old else a
  | _ => if old.ult a then a else old

/-- The 8-byte word at `off` of a line, and the line with it replaced. -/
def wordAt (d : Line) (off : Nat) : Word64 := BitVec.ofNat 64 (d.toNat / 2 ^ (64 * off))
def setWord (d : Line) (off : Nat) (w : Word64) : Line :=
  BitVec.ofNat 512 (d.toNat - (wordAt d off).toNat * 2 ^ (64 * off) + w.toNat * 2 ^ (64 * off))
/-- The bytes of a word of a line. -/
def wordMask (off : Nat) : BitVec 64 := BitVec.ofNat 64 (255 * 2 ^ (8 * off))

/-- The bytes a completed request has changed: mask, data, bytes whose parity is bad (R322). An atomic whose operands' parity failed has
poisoned the whole line, which is copied as the signature (R106, R322). -/
def changedBytes (r : Req) (res : Result) : Option (BitVec 64 × Line × BitVec 64) :=
  match r.op, res with
  | .wr, .ack => some (fullMask, r.data, badBytes r.data r.par)
  | .wrm, .ack => if r.mask == 0 then none else some (r.mask, r.data, badBytes r.data r.par)
  | .atom k, .atomData old _ false =>
    if r.parOk then some (wordMask r.off, setWord 0 r.off (atomResult k old r.a r.b), 0) else some (fullMask, 0, poisonBad)
  | _, _ => none

/-- A write has reached its completion point at the shaft or with its fill (R100): on a PRIMARY its changed bytes are copied; in
a strict window the answer waits for the partner's report (R323), in a lagged one the line enters the mirror queue (R324). -/
def Dev.finish (s : Dev) (r : Req) (res : Result) : Dev :=
  match r.org with
  | .mirror _ _ => s.answer r res
  | _ =>
  match changedBytes r res, s.mirrorWin (frameOfLine r.line) with
  | some (m, d, bad), some j =>
    if s.role != rolePRIMARY then s.answer r res
    else if s.brokenNow j || (s.pairMuted && s.fb Reg.PAIR_CTL_SOLO) then (s.noteResync (frameOfLine r.line)).answer r res
    else if s.isLagged j then
      let s := if s.pair.lagQ.any (fun x => x.1 == r.line) then s
        else s.modPair (fun p => { p with lagQ := p.lagQ ++ [(r.line, r.cls, s.time)] })
      (s.noteLag).answer r res
    else s.addCopy ⟨0, false, r.line, r.cls, m, d, bad, j, true, some (r, res), false, s.time⟩
  | _, _ => s.answer r res

/-- A frame of a mirror window has been released on a PRIMARY: one message for the frame (R322). -/
def Dev.copyRelease (s : Dev) (r : Req) (f : Nat) : Dev :=
  match r.org with
  | .mirror _ _ => s
  | _ =>
  match s.mirrorWin f with
  | none => s
  | some j =>
    if s.role != rolePRIMARY then s
    else if s.brokenNow j || (s.pairMuted && s.fb Reg.PAIR_CTL_SOLO) then s.noteResync f
    else
      let s := s.modPair (fun p => { p with lagQ := p.lagQ.filter (fun x => frameOfLine x.1 != f) })
      (s.addCopy ⟨0, true, f * 8192, r.cls, 0, 0, 0, j, !(s.isLagged j), none, false, s.time⟩).noteLag

/-- Attach an answer to the last strict release that waits for the partner. -/
def lastRelease (r : Req) : List MirCopy → Option (List MirCopy)
  | [] => none
  | c :: l => match lastRelease r l with
    | some l => some (c :: l)
    | none => if c.release && c.strict && c.ans.isNone then some ({ c with ans := some (r, .ack) } :: l) else none

/-- The end of a HINT: a RELEASE of frames in strict windows is acknowledged when the partner has reported its last frame
released. -/
def Dev.hintDone (s : Dev) (r : Req) (kind : Nat) : Dev :=
  if kind != 4 || s.role != rolePRIMARY then s.answer r .ack
  else match lastRelease r s.pair.copies with
  | some l => s.modPair (fun p => { p with copies := l })
  | none => match lastRelease r s.pair.await with
    | some l => s.modPair (fun p => { p with await := l })
    | none => s.answer r .ack

/-- Lines of a frame that the partner does not yet hold (R324). -/
def Dev.mirrorPending (s : Dev) (f : Nat) : Bool :=
  s.pair.lagQ.any (fun x => frameOfLine x.1 == f) ||
  (s.pair.copies ++ s.pair.await).any (fun c => !c.strict && frameOfLine c.line == f)

end Sys2Proof.Machine
end

