-- ==== Sys2Proof/Machine/Haulage.lean ====
section
/-!
DEFINITION. Machine/Haulage.lean: what haulage does (R54 to R74): the answer of the frame table to every request (R34, R36,
R104), fills, write-backs, evictions, shootdowns, moves, drains, hints and flushes.
-/
namespace Sys2Proof.Machine

def Dev.fill (s : Dev) (i : Nat) : Option Fill := sget (fun _ => none) s.haul.fills i
def Dev.setFill (s : Dev) (i : Nat) (f : Option Fill) : Dev :=
  s.modHaul (fun p => { p with fills := sset (fun _ => none) p.fills i f })
def Dev.wback (s : Dev) (i : Nat) : Option Wback := sget (fun _ => none) s.haul.wbacks i
def Dev.setWback (s : Dev) (i : Nat) (f : Option Wback) : Dev :=
  s.modHaul (fun p => { p with wbacks := sset (fun _ => none) p.wbacks i f })
def Dev.mv (s : Dev) (i : Nat) : Option Mv := sget (fun _ => none) s.haul.moves i
def Dev.setMv (s : Dev) (i : Nat) (f : Option Mv) : Dev :=
  s.modHaul (fun p => { p with moves := sset (fun _ => none) p.moves i f })

def Dev.eng (s : Dev) (n : Nat) : EngSt := sget (fun _ => {}) s.engines n
def Dev.modEng (s : Dev) (n : Nat) (g : EngSt → EngSt) : Dev := { s with engines := smod (fun _ => {}) s.engines n g }

/-! ### Where requests wait -/

/-- Entries of the held-request queue in use (R54): the held requests, and the FLUSHes some of whose sectors still wait for a write-back
buffer. -/
def Dev.heldUsed (s : Dev) : Nat :=
  s.haul.held.length + (s.haul.flushes.filter (fun w => s.haul.wbJobs.any (fun j => j.frame == w.frame && w.sectors.any j.todo.contains))).length

/-- Hold a request under R55; with the queue full it is answered at once. -/
def Dev.hold (s : Dev) (r : Req) (w : Why) : Dev :=
  if s.heldUsed < 1024 then s.modHaul (fun p => { p with held := p.held ++ [⟨r, w⟩] })
  else s.answer r (.retry 20)

/-- The attachment a request enters the spine from (R119). -/
def srcAtt (r : Req) : Nat :=
  match r.org with
  | .host h _ => h
  | .engine n _ => 0x10 + n
  | .desc _ => 0x49
  | .comp _ => 0x49
  | .mirror f _ => 0x40 + f
  | .rdata f _ => 0x40 + f
  | _ => 0x48

/-- How a shaft that takes no work turns a request away (R341); none while it takes it. -/
def Dev.shaftShut (s : Dev) (n : Nat) : Option Result :=
  let st := s.shaftSt n
  if st == stDARK then some (.dark 0 (shaftPage n))
  else if st == stFAILED || st == stRESETTING || st == stKINDLING || st == stOFFLINE then some (.retry 100)
  else none

/-- A request is turned away before it reaches its shaft: a line of a move ends the move with its REASON (R68, R76). -/
def Dev.turnAway (s : Dev) (r : Req) (res : Result) : Dev :=
  match r.org with
  | .move id => s.modHaul (fun p => { p with moves := p.moves.map (fun x => (x.1, x.2.map (fun m =>
      if m.id == id then { m with failed := if r.op == .rd then 6 else 5 } else m))) })
  | _ => s.answer r res

/-- Put a request's cell into the queue for its shaft (R123, R124), or answer it as the shaft's state says (R341). -/
def Dev.sendShaft (s : Dev) (r : Req) : Dev :=
  match s.shaftShut r.shaft with
  | some res => s.turnAway r res
  | none =>
    { s with fabric := { s.fabric with
        voq := s.fabric.voq ++ [⟨srcAtt r, 0x10 + r.shaft, 0, { r with starved := false }⟩] } }

/-- A request placed at the slot of an entry. -/
def placed (r : Req) (e : Entry) : Req := { r with shaft := e.shaft, sline := e.slot * 8192 + r.line % 8192 }

/-- Does committed decoder `k` of port `f` cover the far line (R301)? -/
def Dev.hdmCovers (s : Dev) (f k line : Nat) : Bool :=
  let u := line / 2 ^ 22
  s.fb Reg.FARPORT_HDMk_CTL_COMMITTED f k && s.fv Reg.FARPORT_HDMk_BASE_ADDR f k ≤ u &&
    u < s.fv Reg.FARPORT_HDMk_BASE_ADDR f k + s.fv Reg.FARPORT_HDMk_SIZE_UNITS f k

/-- A far request ends in a completion error: a fill is failed, a write-back keeps its sector DIRTY, a direct read answers poison
(R58, R59), a correction goes on to its next source. -/
def Dev.farFailed (s : Dev) (org : FarOrg) : Dev :=
  match org with
  | .fill i _ => s.setFill i ((s.fill i).map (fun b => { b with failed := true }))
  | .wback i _ => s.setWback i ((s.wback i).map (fun b => { b with failed := true }))
  | .direct r => (s.answer r .poison).record 0x00A 0x102 sevERROR
      [r.line / 8192, r.line / 64 % 128, (s.farPortOf (r.line / 8192)).getD 0, 0]
  | .corr _ _ _ => s

/-- The class of a far request (R72): fills and the reads of stranded frames under 60 (R342), write-backs under 61, an RD64_NA under its own
class and urgency. -/
def farKey (s : Dev) (f : Nat) (q : FarWait) : Nat :=
  match q.org with
  | .wback _ _ => s.keyAt (arbFar f) 1 61 0 q.starved
  | .direct r => s.keyAt (arbFar f) 2 (if r.op == .rdNa then r.cls else 60) (if r.op == .rdNa then r.urg else 0) q.starved
  | _ => s.keyAt (arbFar f) 0 60 0 q.starved

/-- The kind of far traffic that rotates at a far port's transmit (R138): reads of fills and corrections, write-backs, reads without a fill. -/
def farKind : FarOrg → Nat
  | .wback _ _ => 1
  | .direct _ => 2
  | _ => 0

/-- Send the far requests that wait while fewer than 4,096 are outstanding (R302), in order of their key (R138): those in the port's transmit
pool of 256 cells; the later ones wait for it in haulage's queue (R122). -/
def Dev.farPumpN : Nat → Dev → Nat → Dev
  | 0, s, _ => s
  | k + 1, s, f =>
    let p := s.far f
    if 4096 ≤ p.cxl.length then s
    else match bestBy (farKey s f) (p.cxlQ.take 256) with
    | none => s
    | some q =>
      let s := (s.granted (arbFar f) (farKind q.org)).modFar f (fun p =>
        { p with cxlQ := dropFirst (fun x => x == q) p.cxlQ,
                 cxl := p.cxl ++ [⟨p.nextTag, q.org, q.write⟩], nextTag := p.nextTag + 1 })
      Dev.farPumpN k (s.emit (.cxl f p.nextTag q.write q.line q.data q.bad)) f

def Dev.farPump (s : Dev) (f : Nat) : Dev := Dev.farPumpN (s.far f).cxlQ.length s f

/-- Send a request to far memory (R56, R59, R302); one that no committed decoder covers is not sent and fails (R301). A line whose parity fails
goes out with CXL poison, and a record is written (R269). -/
def Dev.farIssue (s : Dev) (f : Nat) (org : FarOrg) (write : Bool) (line : Nat) (d : Line) (bad : BitVec 64) : Dev :=
  if (List.range 8).any (fun k => s.hdmCovers f k line) then
    let s := if write && bad != 0 then s.record (farPage f) codeOTHER sevWARNING [line] else s
    ((s.modFar f (fun p => { p with cxlQ := p.cxlQ ++ [⟨org, write, line, d, bad, false⟩] })).countCell 0x48 (0x40 + f) 0).farPump f
  else
    ((s.bump Reg.FARPORT_CNT_DECODE_MISS_VALUE f).raiseRec (farPage f) Reg.EV_FARPORT_DECODE_MISS sevWARNING [line]).farFailed org

/-- BUSY is 1 while a fill, write-back, eviction or move of the frame is in flight (R31). -/
def Dev.settleBusy (s : Dev) (f : Nat) : Dev :=
  let busy := s.haul.fills.any (fun x => match x.2 with
      | some y => y.frame == f
      | none => false) ||
    s.haul.wbacks.any (fun x => match x.2 with
      | some y => y.frame == f
      | none => false) ||
    s.haul.moves.any (fun x => match x.2 with
      | some y => y.frame == f
      | none => false) ||
    s.haul.evicts.any (fun x => x.frame == f && !x.release)
  s.modEntry f (fun e => { e with busy := busy })

/-- Is the frame being evicted, or moved? -/
def Dev.evicting (s : Dev) (f : Nat) : Bool := s.haul.evicts.any (fun x => x.frame == f && !x.release)
def Dev.moving (s : Dev) (f : Nat) : Option Mv := s.haul.moves.findSome? (fun x => match x.2 with
  | some y => if y.frame == f then some y else none
  | none => none)

/-- No request for this slot is on its way to the shaft or waiting in it. -/
def Dev.slotQuiet (s : Dev) (n slot : Nat) : Bool :=
  let at_ (r : Req) : Bool := r.shaft == n && r.sline / 8192 == slot
  !(s.fabric.voq.any (fun c => at_ c.req)) && !((s.shaft n).collar.any (fun x => at_ x.1)) &&
  !((s.shaft n).localq.any at_) && !((s.shaft n).win.any (fun w => at_ w.req)) && !((s.shaft n).fly.any (fun w => at_ w.req)) &&
  !((s.shaft n).units.any (fun u => u.sline / 8192 == slot))

/-! ### The copy of a move (R68) -/

/-- No write to this line is on its way to the shaft or waiting to enter it. -/
def Dev.lineQuiet (s : Dev) (n l : Nat) : Bool :=
  let at_ (r : Req) : Bool := r.shaft == n && r.sline == l && r.op != .rd
  !(s.fabric.voq.any (fun c => at_ c.req)) && !((s.shaft n).collar.any (fun x => at_ x.1)) && !((s.shaft n).localq.any at_)

/-- The first line from line `o` of a frame on that a copy takes: INVALID and ZERO sectors are passed over; 8,192 when none is left. -/
def copySeek (e : Entry) : Nat → Nat → Nat
  | 0, o => o
  | k + 1, o =>
    if 8192 ≤ o then 8192
    else if e.sec (o / 64) == secCLEAN || e.sec (o / 64) == secDIRTY then o
    else copySeek e k ((o / 64 + 1) * 64)

/-- The next line the copy of a move reads: the first one written while its read was under way, else the next in ascending order. -/
def Mv.nextLine (m : Mv) (e : Entry) : Option Nat :=
  match m.again.find? (fun o => !(m.out.contains o)) with
  | some o => some o
  | none => let o := copySeek e 128 m.next; if o < 8192 then some o else none

/-- A line access of a move, under class 61. -/
def Mv.req (m : Mv) (op : MOp) (n slot o : Nat) (id : Nat) : Req :=
  { id := id, org := .move m.id, op := op, cls := 61, line := m.frame * 8192 + o, shaft := n, sline := slot * 8192 + o }

/-- Read lines of a move's source slot, at most 64 at a time (log 156); a line waits for the writes on their way to it. -/
def Dev.moveReadN : Nat → Dev → Nat → Dev
  | 0, s, _ => s
  | k + 1, s, ch =>
    match s.mv ch with
    | none => s
    | some m => match s.entry m.frame with
      | none => s
      | some e => match m.nextLine e with
        | none => s.setMv ch (some { m with next := 8192 })
        | some o =>
          if 64 ≤ m.out.length || !(s.lineQuiet m.srcShaft (m.srcSlot * 8192 + o)) then s
          else
            let m' : Mv := if m.again.contains o then { m with again := m.again.filter (· != o), out := m.out ++ [o] }
              else { m with next := o + 1, out := m.out ++ [o] }
            Dev.moveReadN k (((s.setMv ch (some m')).sendShaft (m.req .rd m.srcShaft m.srcSlot o s.nextId)).fresh) ch

def Dev.moveRead (s : Dev) (ch : Nat) : Dev := if ((s.mv ch).map (·.step)).getD 0 == 3 then s.moveReadN 64 ch else s

/-- The channel of move `id`. -/
def Dev.mvOf (s : Dev) (id : Nat) : Option (Nat × Mv) := s.haul.moves.findSome? (fun x => match x.2 with
  | some m => if m.id == id then some (x.1, m) else none
  | none => none)

/-- A line access of a move is answered (R68, R123): a line read goes to its place in the destination slot with the parity it has, a poisoned
one as the signature; an acknowledged write is counted; a shaft that turns an access away ends the move. -/
def Dev.moveLine (s : Dev) (id : Nat) (r : Req) (res : Result) : Dev :=
  match s.mvOf id with
  | none => s
  | some (ch, m) =>
    let o := r.sline % 8192
    let put (d : Line) (bad : BitVec 64) : Dev :=
      let s := s.setMv ch (some { m with out := m.out.filter (· != o), wr := m.wr + 1 })
      ((s.sendShaft { m.req .wr m.target m.dstSlot o s.nextId with data := d, par := lineParity d ^^^ bad, mask := fullMask }).fresh).moveRead ch
    match r.op == .rd, res with
    | true, .data d bad => put d bad
    | true, .poison => put 0 poisonBad
    | true, _ => s.setMv ch (some { m with failed := 6 })
    | false, .ack => (s.setMv ch (some { m with wr := m.wr - 1 })).moveRead ch
    | false, _ => s.setMv ch (some { m with failed := 5 })

/-- A write reaches the slot of a frame that is being moved (R68): to a line the copy has passed it is carried out in both slots; a line whose
read is under way is read again; one the copy has not reached is copied later. A host write that the source shaft refuses for its parity
(R270) changes neither slot. -/
def Dev.moveWrite (s : Dev) (q : Req) : Dev :=
  match s.haul.moves.find? (fun x => match x.2 with
    | some m => m.frame == frameOfLine q.line
    | none => false) with
  | some (ch, some m) =>
    let o := q.line % 8192
    let refused := (match q.org with
      | .host _ _ => true
      | _ => false) && badBytes q.data q.par &&& q.mask != 0 && (q.op == .wr || q.op == .wrm)
    if refused || m.next ≤ o && m.step == 3 then s
    else if m.out.contains o then s.setMv ch (some { m with again := if m.again.contains o then m.again else m.again ++ [o] })
    else if m.again.contains o then s
    else s.sendShaft { q with org := .dup, shaft := m.target, sline := m.dstSlot * 8192 + o }
  | _ => s

/-! ### Shootdowns (R63, R231) -/

/-- Collar ports that must acknowledge: every engine but those that hold no entries. -/
def Dev.shootTargets (s : Dev) : List Nat :=
  (List.range 48).filter (fun n => let st := s.engSt n
    !(st == stDARK || st == stRESETTING || st == stOFFLINE || st == stFAILED))

def Dev.sendShoot (s : Dev) (f : Nat) (sector : Option Nat) (wb : Nat) : Dev :=
  let s := s.shootTargets.foldl (fun s n => s.countCell 0x48 (0x10 + n) 0) s
  s.modHaul (fun p => { p with shoots := p.shoots ++ [⟨f, sector, wb, s.shootTargets⟩] })

/-! ### Fills (R56 to R58) -/

def Dev.fillsUsed (s : Dev) : Nat := s.haul.fills.length
def Dev.fillsOfPort (s : Dev) (f : Nat) : Nat := (s.haul.fills.filter (fun x => match x.2 with
  | some y => y.port == f
  | none => false)).length

/-- The fill in flight for a sector. -/
def Dev.findFill (s : Dev) (f sec : Nat) : Option (Nat × Fill) := s.haul.fills.findSome? (fun x => match x.2 with
  | some y => if y.frame == f && y.sector == sec then some (x.1, y) else none
  | none => none)

def Fill.line (b : Fill) (l : Nat) : Option (Line × BitVec 64) := (b.lines.find? (fun x => x.1 == l)).map (·.2)
def Fill.setLine (b : Fill) (l : Nat) (d : Line) (bad : BitVec 64) : Fill :=
  { b with lines := (b.lines.filter (fun x => x.1 != l)) ++ [(l, d, bad)] }
/-- Is every bit of a mask's selection poisoned? A line with the signature is poison (R272). -/
def linePoison (x : Line × BitVec 64) : Bool := isPoison x.1 x.2

/-- Give a read its line from a buffer or from DRAM: poison answers DATA_POISON (R104). -/
def lineResult (x : Line × BitVec 64) : Result := if linePoison x then .poison else .data x.1 x.2

/-- Carry out an atomic on a fill buffer's line (R57): the word in the buffer and the answer it gets after the commit. An operand that is
poisoned makes the line poison (R235, log 165). -/
def Fill.doAtom (b : Fill) (r : Req) (aop : Nat) : Fill :=
  let l := r.line % 64
  match b.line l with
  | none => b
  | some x =>
    let old := wordAt x.1 r.off
    if linePoison x then { b with writes := b.writes ++ [(r, .atomData 0 false true)] }
    else if !r.parOk then { b.setLine l 0 poisonBad with writes := b.writes ++ [(r, .atomData old true false)] }
    else
      let new := atomResult aop old r.a r.b
      let bad := x.2 &&& (fullMask ^^^ wordMask r.off)
      { b.setLine l (setWord x.1 r.off new) bad with writes := b.writes ++ [(r, .atomData old (old != new) false)] }

/-- Carry out a write on a fill buffer's line (R57): a poisoned line is cleared by a full write only (R104). -/
def Fill.doWrite (b : Fill) (r : Req) : Fill :=
  let l := r.line % 64
  let x := (b.line l).getD (0, 0)
  let bad := badBytes r.data r.par
  let y := if r.maskBad then (0, poisonBad)
    else if linePoison x && r.mask != fullMask then x
    else (mergeLine x.1 r.data r.mask, (x.2 &&& (fullMask ^^^ r.mask)) ||| (bad &&& r.mask))
  { b.setLine l y.1 y.2 with writes := b.writes ++ [(r, .ack)] }

/-- Carry out an access on a line that fill buffer `i` holds: a read is answered from it, a write or atomic is answered after the commit. -/
def Dev.fillOp (s : Dev) (i : Nat) (r : Req) : Dev :=
  match s.fill i with
  | none => s
  | some b => match r.op with
    | .atom aop => s.setFill i (some (b.doAtom r aop))
    | .wr => s.setFill i (some (b.doWrite r))
    | .wrm => s.setFill i (some (b.doWrite r))
    | _ => s.answer r (lineResult ((b.line (r.line % 64)).getD (0, 0)))

def isWrite : MOp → Bool
  | .wr => true
  | .wrm => true
  | .atom _ => true
  | _ => false

/-- A masked write that selects no byte (R89). -/
def emptyMask (r : Req) : Bool := r.op == .wrm && r.mask == 0

/-- Line `j` of fill buffer `i` goes to its slot, as the buffer holds it (R56). -/
def Dev.fillPut (s : Dev) (i j : Nat) : Dev :=
  match s.fill i with
  | none => s
  | some b => match s.entry b.frame with
    | none => s
    | some e =>
      let z := (b.line j).getD (0, 0)
      (s.sendShaft { id := s.nextId, org := .fill i, op := .wr, cls := 60, line := b.frame * 8192 + b.sector * 64 + j,
                     data := z.1, par := lineParity z.1 ^^^ z.2, mask := fullMask, shaft := e.shaft,
                     sline := e.slot * 8192 + b.sector * 64 + j }).fresh

/-- An access joins a fill (R57): carried out on the buffer, at once or in order when its line comes (R101). A write that comes when the
sector is already on its way to the shaft is merged all the same, and its line goes to the shaft once more. -/
def Dev.joinFill (s : Dev) (i : Nat) (b : Fill) (r : Req) : Dev :=
  let b := { b with dirty := b.dirty || isWrite r.op }
  if b.got.contains (r.line % 64) then
    let again := b.sent && isWrite r.op
    let s := (s.setFill i (some { b with need := b.need + b2n again })).fillOp i r
    if again then s.fillPut i (r.line % 64) else s
  else s.setFill i (some { b with ops := b.ops ++ [r] })

/-- The 64 lines of a sector in the order in which a fill asks for them (R56). -/
def fillOrder (first : Nat) : List Nat := (List.range 64).map (fun i => (first + i) % 64)

/-- Start a fill of the sector of line `line` (R55, R56); none when no buffer is free. -/
def Dev.startFill (s : Dev) (line : Nat) : Option (Nat × Dev) :=
  let f := frameOfLine line
  match s.farPortOf f, (List.range 512).find? (fun i => (s.fill i).isNone) with
  | some port, some i =>
    if 256 ≤ s.fillsOfPort port then none
    else
      let b : Fill := { frame := f, sector := sectorOfLine line, port := port }
      let s := s.setFill i (some b)
      let base := s.farLineOf (line / 64 * 64)
      let s := (fillOrder (line % 64)).foldl (fun s l => s.farIssue port (.fill i l) false (base + l) 0 0) s
      some (i, s.modEntry f (fun e => { e with busy := true }))
  | _, _ => none

/-- An access to an INVALID sector (R34, R57): joins the sector's fill, or starts one, or waits. One that would start a fill in a frame that is
being evicted waits for the end of the eviction, as a PREFETCH does: R62 says only that requests are served from the slot as usual (DESIGN
CHOICE, log 157). -/
def Dev.fillAccess (s : Dev) (r : Req) : Dev :=
  let f := frameOfLine r.line
  match s.findFill f (sectorOfLine r.line) with
  | some (i, b) => if b.drop || b.failed then s.hold r .fill else s.joinFill i b r
  | none =>
    if s.evicting f || (s.moving f).isSome then s.hold r .busy
    else if (match s.farPortOf f with
      | some p => s.farBlocked p
      | none => true) then s.hold r .blocked
    else match s.startFill r.line with
      | some (i, s) => match s.fill i with
        | some b => s.joinFill i b r
        | none => s
      | none => s.hold r .buffer

/-- A far read without a fill (R34, R58): a blocked port answers NACK_RETRY, retry hint 1,000 µs (R67). -/
def Dev.farDirect (s : Dev) (r : Req) : Dev :=
  match s.farPortOf (frameOfLine r.line) with
  | some p => if s.farBlocked p then s.answer r (.retry 1000) else s.farIssue p (.direct r) false (s.farLineOf r.line) 0 0
  | none => s.answer r (.error 1 0)

/-! ### Write-backs (R59) -/

def Dev.jobOf (s : Dev) (f : Nat) : Option WbJob := s.haul.wbJobs.find? (fun j => j.frame == f)
def Dev.setJob (s : Dev) (j : WbJob) : Dev :=
  s.modHaul (fun p => { p with wbJobs := p.wbJobs.map (fun k => if k.frame == j.frame then j else k) })

/-- The DIRTY sectors of an entry. -/
def Entry.dirties (e : Entry) : List Nat := (List.range 128).filter (fun i => e.sec i == secDIRTY)

/-- Is a write-back buffer free for one more frame (R54, R55)? -/
def Dev.wbFree (s : Dev) : Bool := (List.range 128).any (fun i => (s.wback i).isNone)

/-- Start the next write-backs of the jobs while buffers are free and the port is not blocked: a ZERO sector of a first
write-back is written as zeros without a capture; any other sector is revoked from the engines first (R231). -/
def Dev.pumpOne (s : Dev) : Option Dev :=
  match (List.range 128).find? (fun i => (s.wback i).isNone) with
  | none => none
  | some i =>
    s.haul.wbJobs.findSome? (fun j =>
      match j.todo.find? (fun x => !(j.busy.contains x)), s.farPortOf j.frame, s.entry j.frame with
      | some sec, some port, some e =>
        if s.farBlocked port || (j.cause == .preclean && 96 < s.haul.wbacks.length) then none
        else
          let zero := e.sec sec == secZERO
          let w : Wback := ⟨j.frame, sec, port, if zero then List.replicate 64 (0, 0) else [], zero, 0, false, false, j.cause⟩
          let s := (s.setWback i (some w)).setJob { j with todo := j.todo.filter (· != sec), busy := j.busy ++ [sec] }
          let s := s.modEntry j.frame (fun e => { e with busy := true })
          if zero then
            let base := s.farLineOf (j.frame * 8192 + sec * 64)
            some ((List.range 64).foldl (fun s l => s.farIssue port (.wback i l) true (base + l) 0 0) s)
          else some (s.sendShoot j.frame (some sec) i)
      | _, _, _ => none)

def Dev.pumpN : Nat → Dev → Dev
  | 0, s => s
  | k + 1, s => match s.pumpOne with
    | some t => t.pumpN k
    | none => s

def Dev.pump (s : Dev) : Dev := s.pumpN 128

/-- Has a sector whose write-back is in a buffer been written since its capture? -/
def Dev.isRedirty (s : Dev) (f sec : Nat) : Bool :=
  s.haul.wbacks.any (fun x => match x.2 with
    | some w => w.frame == f && w.sector == sec && w.redirty
    | none => false)

/-- Make a write-back job for sectors of a frame, or add them to the one it has, those too whose write-back under way misses a later write;
the first write-back of a frame with FAR_VALID 0 takes the whole frame (R35). -/
def Dev.addJob (s : Dev) (f : Nat) (secs : List Nat) (cause : WbCause) : Dev :=
  match s.entry f with
  | none => s
  | some e =>
    let whole := !e.farValid
    let secs := if whole then List.range 128 else secs
    match s.jobOf f with
    | some j =>
      let more := (if j.whole then e.dirties else secs).filter (fun x =>
        !(j.todo.contains x) && !(j.clean.contains x) && (!(j.busy.contains x) || s.isRedirty f x))
      let why := match cause with
        | .preclean => j.cause
        | .demote => j.cause
        | c => c
      (s.setJob { j with todo := j.todo ++ more, cause := why }).pump
    | none => (s.modHaul (fun p => { p with wbJobs := p.wbJobs ++ [⟨f, secs, [], [], whole, cause, false⟩] })).pump

/-- A write between capture and commit sets the redirty mark; one after a sector of a first write-back has been written
keeps it from becoming CLEAN (R59). -/
def Dev.redirty (s : Dev) (f sec : Nat) : Dev :=
  s.modHaul (fun p => { p with
    wbacks := p.wbacks.map (fun x => match x.2 with
      | some w => if w.frame == f && w.sector == sec then (x.1, some { w with redirty := true }) else x
      | none => x),
    wbJobs := p.wbJobs.map (fun j => if j.frame == f then { j with clean := j.clean.filter (· != sec) } else j) })

/-! ### Evictions and releases (R62, R37) -/

/-- Start an eviction (step 1): BUSY, and the write-back of its DIRTY sectors. -/
def Dev.startEvict (s : Dev) (f : Nat) : Dev :=
  match s.entry f with
  | none => s
  | some e =>
    if s.evicting f then s
    else
      let s := s.modHaul (fun p => { p with evicts := p.evicts ++ [⟨f, 2, 0, false, e.shaft, e.slot⟩] })
      let s := s.modEntry f (fun e => { e with busy := true })
      if e.needsWb then s.addJob f e.dirties .evict else s

/-- The FLUSHes of a frame that has nothing more to write answer ACK (R71). -/
def Dev.settleFlushes (s : Dev) (f : Nat) : Dev :=
  let l := s.haul.flushes.filter (fun w => w.frame == f)
  let s := s.modHaul (fun p => { p with flushes := p.flushes.filter (fun w => w.frame != f) })
  l.foldl (fun s w => s.answer w.req .ack) s

/-- Release a frame (R37): unborn, off the lost list, its entry freed without write-back; a fill in flight will be discarded;
the slot returns to its free list after the shootdown (R63). -/
def Dev.releaseFrame (s : Dev) (f : Nat) : Dev :=
  let s := (s.setBorn f false).modSpace (fun p => { p with lost := p.lost.filter (· != f) })
  match s.findWay f with
  | none => s
  | some k =>
    let e := s.way k
    let s := s.setWay k noEntry
    let s := s.modHaul (fun p => { p with
      evicts := p.evicts.filter (fun x => x.frame != f || x.release) ++ [⟨f, 3, 0, true, e.shaft, e.slot⟩],
      wbJobs := p.wbJobs.filter (fun j => j.frame != f),
      fills := p.fills.map (fun x => match x.2 with
        | some b => if b.frame == f then (x.1, some { b with drop := true }) else x
        | none => x) })
    (s.sendShoot f none 0).settleFlushes f

/-- A held request of the frames freed may go on; it is served by HELD_REQUEST_SERVE. Free the entry of an evicted frame
(R62 step 4): an empty frame returns to unborn (R37). -/
def Dev.freeEvicted (s : Dev) (x : Evict) : Dev :=
  let s := s.modHaul (fun p => { p with evicts := p.evicts.filter (fun y => y != x) })
  if x.release then s.giveSlot x.shaft x.slot
  else match s.findWay x.frame with
  | none => s
  | some k =>
    let e := s.way k
    let s := if e.allZero && !e.farValid then s.setBorn x.frame false else s
    ((s.setWay k noEntry).giveSlot e.shaft e.slot).bump Reg.HAULAGE_CNT_EVICT_VALUE

/-- An eviction of a frame is given up after three repeats: BUSY clears and another victim of its set is chosen (R62). A frame that a drain or an
evacuation is emptying is itself tried again instead (R29, R339). -/
def Dev.evictGiveUp (s : Dev) (x : Evict) : Dev :=
  let t := (s.modHaul (fun p => { p with evicts := p.evicts.filter (fun z => z != x) })).settleBusy x.frame
  if s.isDraining x.frame || s.shaftSt x.shaft == stEVACUATING then t
  else match t.victim (setOf x.frame) (fun k => t.frameOfWay k != x.frame) with
  | some k => t.startEvict (t.frameOfWay k)
  | none => t

/-- EVICTION_STEP: the eviction (or release) of a frame takes its next step (R62). -/
def Dev.evictStep (s : Dev) (f : Nat) : Dev :=
  match s.haul.evicts.find? (fun x => x.frame == f) with
  | none => s
  | some x =>
    let set (s : Dev) (y : Evict) : Dev :=
      s.modHaul (fun p => { p with evicts := p.evicts.map (fun z => if z == x then y else z) })
    let shooting := s.haul.shoots.any (fun h => h.frame == f && h.sector.isNone)
    if x.release then
      if shooting || !(s.slotQuiet x.shaft x.slot) then s else s.freeEvicted x
    else match s.entry f with
    | none => s.freeEvicted x
    | some e =>
      if x.step == 2 then
        if (s.jobOf f).isSome || s.mirrorPending f then s
        else if e.needsWb then s.addJob f e.dirties .evict
        else (set s { x with step := 3 }).sendShoot f none 0
      else if shooting then s
      else if e.needsWb then
        if 3 ≤ x.repeats then s.evictGiveUp x
        else (set s { x with step := 2, repeats := x.repeats + 1 }).addJob f e.dirties .evict
      else if s.slotQuiet e.shaft e.slot then s.freeEvicted x
      else s

def execEvictionStep (frame : BitVec 26) (s : State) : Host.Outcome State Fault Refusal := s.on fun s => .next (s.evictStep frame.toNat)

/-! ### The frame table's answer (R28, R34, R36, R47, R104, R341, R342) -/

/-- Zeros with good parity. -/
def zeroData : Result := .data 0 0

/-- The class an entry takes from a request that allocates or writes the frame (R31). -/
def touchEntry (e : Entry) (r : Req) (w : Bool) : Entry := { e with age := 0, cls := if w then r.cls else e.cls }

/-- A sector between the capture of its write-back and the commit, not yet written again: engines may not write it directly
(R231). -/
def Dev.wbGoing (s : Dev) (f i : Nat) : Bool :=
  s.haul.wbacks.any (fun x => match x.2 with
    | some w => w.frame == f && w.sector == i && !w.redirty
    | none => false) || s.haul.wbJobs.any (fun j => j.frame == f && j.clean.contains i)

/-- An engine keeps what the lookup of its request showed (R230): the entry is made or updated, the least recently used one
of 256 making room. A frame being moved or evicted, which has been shot down, is not entered. -/
def Dev.fcacheNote (s : Dev) (r : Req) : Dev :=
  match r.org with
  | .engine n _ =>
    let f := frameOfLine r.line
    match s.entry f with
    | none => s
    | some e =>
      let x : FcEnt := ⟨f, e.shaft, e.slot,
        BitVec.ofNat 128 (maskOf 128 (fun i => e.sec i == secCLEAN || e.sec i == secDIRTY)),
        BitVec.ofNat 128 (maskOf 128 (fun i => e.sec i == secDIRTY && !(s.wbGoing f i))), (s.mirrorWin f).isSome, true,
        if isWrite r.op then some r.cls else ((s.eng n).fcache.find? (fun y => y.frame == f)).bind (·.cls)⟩
      if (s.moving f).isSome || s.evicting f then s
      else s.modEng n (fun g =>
        let l := g.fcache.filter (fun y => y.frame != f)
        { g with fcache := (if 256 ≤ l.length then l.drop 1 else l) ++ [x] })
  | _ => s

/-- A stranded frame's first refusal is recorded (R342). -/
def Dev.strandedRefuse (s : Dev) (r : Req) : Dev :=
  let f := frameOfLine r.line
  let s := s.answer r (.error 4 4)
  if s.haul.toldStranded.contains f then s
  else
    let n := ((s.entry f).map (·.shaft)).getD 0
    (s.modHaul (fun p => { p with toldStranded := p.toldStranded ++ [f] })).record hauPage 0x103 sevERROR [f, n]

/-- A frame whose shaft is FAILED and which cannot be re-homed (R342). -/
def Dev.stranded (s : Dev) (f : Nat) : Bool :=
  match s.entry f with
  | some e => s.shaftSt e.shaft == stFAILED && (e.dcount != 0 || e.stackOnly || !(e.farValid || e.allZero))
  | none => false

/-- Serve an access to the sector of a resident frame by its state (R34, R68). -/
def Dev.entryAccess (s : Dev) (r : Req) (k : Nat) : Dev :=
  let f := frameOfLine r.line
  let sec := sectorOfLine r.line
  let w := isWrite r.op
  let s := s.setWay k (touchEntry (s.way k) r w)
  let e := s.way k
  let q := placed r e
  match s.haul.zfills.find? (fun z => z.frame == f && z.sector == sec) with
  | some z => s.modHaul (fun p => { p with zfills := p.zfills.map (fun y => if y == z then { z with waiting := z.waiting ++ [q] } else y) })
  | none =>
    if !w then
      if e.sec sec == secZERO then s.answer r zeroData
      else if e.sec sec == secINVALID then
        (if r.op == .rdNa && (s.findFill f sec).isNone then s.farDirect r else s.fillAccess r)
      else s.sendShaft q
    else if e.sec sec == secINVALID then s.fillAccess r
    else if e.sec sec == secZERO then
      if (s.moving f).isSome then s.hold r .busy
      else match s.shaftShut e.shaft with
      | some res => s.answer r res
      | none =>
        let z : Req := { q with id := s.nextId, org := .zfillFor s.nextId, op := .zfill, sline := q.sline / 64 * 64, cls := r.cls }
        let s := (s.modHaul (fun p => { p with zfills := p.zfills ++ [⟨s.nextId, f, sec, z, [q], none⟩] })).fresh
        s.sendShaft z
    else (((s.setWay k (e.setSec sec secDIRTY)).redirty f sec).sendShaft q).moveWrite q

/-- Take a way and a slot for a frame (R60, R65): answers none and what the request then waits for. -/
def Dev.allocate (s : Dev) (f c : Nat) (e : Entry) (ok : Nat → Bool) : Sum Why (Nat × Dev) :=
  match s.freeWay (setOf f) with
  | none => .inl .victim
  | some k => match s.place c ok with
    | none => .inl .slot
    | some (n, s) => match s.takeSlot n with
      | none => .inl .slot
      | some (slot, s) =>
        .inr (k, s.setWay k { e with valid := true, tag := tagOf f, shaft := n, slot := slot, cls := c })

/-- The frames of a set that wait for a way, `f` among them (R55). -/
def Dev.wayWaiters (s : Dev) (f : Nat) : List Nat :=
  (f :: (s.haul.held.filter (fun x => x.why == .victim && setOf (frameOfLine x.req.line) == setOf f)).map (fun x => frameOfLine x.req.line)).eraseDups

/-- A request that must wait for a way starts the eviction of a victim of the set (R60), unless as many evictions of the set are under way as
frames wait: a second birth chooses among the ways left (R73). -/
def Dev.holdAlloc (s : Dev) (r : Req) (why : Why) : Dev :=
  let f := frameOfLine r.line
  let going := (s.haul.evicts.filter (fun x => setOf x.frame == setOf f && !x.release)).length
  let s := if why == .victim && decide (going < (s.wayWaiters f).length) then
      (match s.victim (setOf f) (fun _ => true) with
        | some k => s.startEvict (s.frameOfWay k)
        | none => s)
    else s
  s.hold r why

/-- Entry of a born frame about to be filled, and of a frame being born. -/
def bornEntry : Entry := ⟨true, 0, 0, 0, false, false, true, false, 0, 0, 0, allSectors secINVALID⟩
def birthEntry (so : Bool) : Entry := ⟨true, 0, 0, 0, so, so, false, false, 0, 0, 0, allSectors secZERO⟩

/-- Re-home a frame of a FAILED shaft whose contents are far or zero (R342): CLEAN sectors become INVALID. -/
def Dev.rehome (s : Dev) (k c : Nat) : Option Dev :=
  let e := s.way k
  match s.place c (fun n => n != e.shaft) with
  | none => none
  | some (n, s) => match s.takeSlot n with
    | none => none
    | some (slot, s) =>
      let v := BitVec.ofNat 256 ((List.range 128).foldl (fun v i =>
        v + (if e.sec i == secCLEAN then secINVALID else e.sec i) * 4 ^ i) 0)
      some (s.setWay k { e with shaft := n, slot := slot, vec := v })

/-- An earlier VC0 request of the same port that touches a line of `r` has not reached its completion point (R89, R101). -/
def Dev.earlierLive (s : Dev) (r : Req) : Bool :=
  match r.org with
  | .host h _ => (s.port h).spans.any (fun x => decide (x.1 < r.id) && spansMeet x.2 r.span)
  | _ => false

/-- The answer to a write that passed the judgement of the table but selects no byte (R89): nothing is written, and the ACK follows the
earlier requests of its port to the line. -/
def Dev.emptyWrite (s : Dev) (r : Req) : Dev :=
  let s := s.modEntry (frameOfLine r.line) (fun e => { e with age := 0 })
  if s.earlierLive r then s.hold r .order else s.answer r .ack

/-- An access to a resident frame of a FAILED shaft (R341, R342): zeros of a ZERO sector at once; a stranded frame's other sectors are read
from far memory; any other frame is re-homed first. -/
def Dev.failedAccess (s : Dev) (r : Req) (k : Nat) : Dev :=
  let f := frameOfLine r.line
  let w := isWrite r.op
  let sec := (s.way k).sec (sectorOfLine r.line)
  let t := s.setWay k (touchEntry (s.way k) r false)
  if s.stranded f && (w || sec == secDIRTY) then t.strandedRefuse r
  else if emptyMask r then s.emptyWrite r
  else if !w && sec == secZERO then t.answer r zeroData
  else if s.stranded f then t.farDirect r
  else match s.rehome k r.cls with
    | some s => (s.entryAccess r k).fcacheNote r
    | none => s.holdAlloc r .slot

/-- The frame table's answer to a read, write or atomic (R104). -/
def Dev.lookupRW (s : Dev) (r : Req) : Dev :=
  let f := frameOfLine r.line
  let w := isWrite r.op
  if s.isHole f then s.answer r (.error 1 0)
  else if s.isDraining f then s.answer r (.retry 100)
  else if s.isLost f then s.answer r (if w then .error 4 1 else .poison)
  else match s.pairJudge r w with
  | .refuse res => s.answer r res
  | .stall => s.hold r .lag
  | .serve =>
  match s.findWay f with
  | some k =>
    if s.shaftSt (s.way k).shaft == stFAILED then s.failedAccess r k
    else if emptyMask r then (s.emptyWrite r).fcacheNote r
    else (s.entryAccess r k).fcacheNote r
  | none =>
    if emptyMask r then s.emptyWrite r
    else if !(s.isBorn f) then
      if !w then s.answer r zeroData
      else
        let so := match s.winOf f with
          | some x => decide (x < 16)
          | none => false
        if so && !(s.mayPin (setOf f)) then s.answer r (.error 2 1)
        else match s.allocate f r.cls (birthEntry so) (fun _ => true) with
          | .inl why => s.holdAlloc r why
          | .inr (k, s) => ((s.setBorn f true).entryAccess r k).fcacheNote r
    else if r.op == .rdNa then s.farDirect r
    else if (match s.farPortOf f with
      | some p => s.farBlocked p
      | none => false) then s.hold r .blocked
    else match s.allocate f r.cls bornEntry (fun _ => true) with
      | .inl why => s.holdAlloc r why
      | .inr (k, s) => (s.entryAccess r k).fcacheNote r

/-! ### Hints (R70) -/

def Dev.dropUnit (s : Dev) : Dev := s.bump Reg.HAULAGE_CNT_HINT_DROP_VALUE

/-- What one unit of a hint does: the state after it, or none and why it must wait (R55). -/
inductive UnitR where
  | done (s : Dev)
  | wait (w : Why)

/-- Request a move of a frame to a shaft (R69). -/
def Dev.wantMove (s : Dev) (f n : Nat) (c : MvCause) : Dev := s.modHaul (fun p => { p with moveQ := p.moveQ ++ [(f, n, c)] })

/-- Does a write-back or fill of the frame meet a blocked port, or none? -/
def Dev.noFar (s : Dev) (f : Nat) : Bool :=
  match s.farPortOf f with
  | some p => s.farBlocked p
  | none => true

/-- Start the fill a PREFETCH asks for. -/
def Dev.prefetchFill (s : Dev) (line : Nat) : UnitR :=
  if s.noFar (frameOfLine line) then .wait .blocked
  else match s.startFill (line / 64 * 64) with
    | some (_, s) => .done s
    | none => .wait .buffer

/-- PREFETCH of a sector; one whose fill is under way has what it asks for. -/
def Dev.prefetchUnit (s : Dev) (cls line : Nat) : UnitR :=
  let f := frameOfLine line
  let sec := sectorOfLine line
  if s.isLost f || s.stranded f || !(s.isBorn f) ||
      s.fv Reg.HAULAGE_FILL_CTL_PREFETCH_PCT * 512 ≤ s.fillsUsed * 100 then .done s.dropUnit
  else match s.entry f with
    | some e =>
      if e.sec sec != secINVALID then .done s.dropUnit
      else if (s.findFill f sec).isSome then .done s
      else if s.evicting f || (s.moving f).isSome then .wait .busy
      else s.prefetchFill line
    | none =>
      if s.noFar f then .wait .blocked
      else match s.allocate f cls bornEntry (fun _ => true) with
      | .inl .victim => .done s.dropUnit
      | .inl w => .wait w
      | .inr (_, s) => s.prefetchFill line

/-- The other hints, on a frame. -/
def Dev.hintUnit (s : Dev) (kind target cls f : Nat) : UnitR :=
  match kind with
  | 1 =>
    if !(s.isBorn f) then .done s.dropUnit
    else if s.evicting f || (s.moving f).isSome then .wait .busy
    else match s.findWay f with
    | some k => if (s.way k).pin then .done s
      else if s.mayPin (setOf f) then .done (s.setWay k { s.way k with pin := true }) else .done s.dropUnit
    | none =>
      if !(s.mayPin (setOf f)) then .done s.dropUnit
      else match s.allocate f cls { bornEntry with pin := true } (fun _ => true) with
        | .inl .victim => .done s.dropUnit
        | .inl w => .wait w
        | .inr (_, s) => .done s
  | 2 => match s.findWay f with
    | some k => if (s.way k).stackOnly then .done s.dropUnit
      else if (s.moving f).isSome then .wait .busy
      else .done (s.setWay k { s.way k with pin := false })
    | none => .done s.dropUnit
  | 3 => match s.findWay f with
    | some k =>
      if (s.way k).stackOnly then .done s.dropUnit
      else if (s.moving f).isSome then .wait .busy
      else if (s.way k).needsWb && s.noFar f then .wait .blocked
      else if (s.way k).needsWb && (s.jobOf f).isNone && !(s.wbFree) then .wait .buffer
      else
        let s := s.setWay k { s.way k with age := 255 }
        .done (if (s.way k).needsWb then s.addJob f (s.way k).dirties .demote else s)
    | none => .done s.dropUnit
  | 4 =>
    if !(s.isBorn f) && !(s.space.lost.contains f) then .done s.dropUnit
    else if (s.moving f).isSome then .wait .busy
    else .done (s.releaseFrame f)
  | _ =>
    if !(s.isBorn f) || 48 ≤ target then .done s.dropUnit
    else match s.findWay f with
    | some _ => .done (s.wantMove f target (.hint cls))
    | none =>
      if !(s.shaftUp target) then .done s.dropUnit
      else match s.allocate f cls bornEntry (fun n => n == target) with
        | .inl .victim => .done s.dropUnit
        | .inl w => .wait w
        | .inr (_, s) => .done s

/-- A lookup that hits the entry sets its AGE to 0 (R61). -/
def Dev.touchAge (s : Dev) (f : Nat) : Dev := s.modEntry f (fun e => { e with age := 0 })

/-- Carry out units `i` of a hint in order; the first that must wait holds the rest under R55. The hint is accepted once its last unit has
been taken up (R70). -/
def Dev.hintUnits (s : Dev) (r : Req) (kind target : Nat) : Nat → Dev
  | 0 => s.hintDone r kind
  | k + 1 =>
    let next : Nat := if kind == 0 then (r.line / 64 + 1) * 64 else (frameOfLine r.line + 1) * 8192
    let s := s.touchAge (frameOfLine r.line)
    match (if kind == 0 then s.prefetchUnit r.cls r.line else s.hintUnit kind target r.cls (frameOfLine r.line)) with
    | .done s => (if kind == 4 then s.copyRelease r (frameOfLine r.line) else s).hintUnits { r with line := next } kind target k
    | .wait w => s.hold { r with op := .hint kind (k + 1) target } w

/-- The frames a hint's range touches. -/
def hintFrames (r : Req) (kind count : Nat) : List Nat :=
  if kind == 0 then
    let a := r.line / 64
    (List.range ((a + count - 1) / 128 - a / 128 + 1)).map (fun i => a / 128 + i)
  else (List.range count).map (fun i => frameOfLine r.line + i)

/-- The frame table's answer to a HINT. -/
def Dev.lookupHint (s : Dev) (r : Req) (kind count target : Nat) : Dev :=
  let fs := hintFrames r kind count
  if fs.any (fun f => s.isHole f || 2 ^ 26 ≤ f) then s.answer r (.error 1 0)
  else if fs.any s.isDraining then s.answer r (.retry 100)
  else if (kind == 1 || kind == 3 || kind == 5) && fs.any s.isLost then s.answer r (.error 4 1)
  else if (kind == 1 || kind == 3 || kind == 5) && fs.any s.stranded then s.answer r (.error 4 4)
  else match fs.findSome? (fun f => match s.pairJudge { r with line := f * 8192 } (kind == 4) with
    | .serve => none
    | j => some j) with
  | some (.refuse res) => s.answer r res
  | some _ => s.hold r .lag
  | none => s.hintUnits r kind target count

/-! ### Flushes (R71) -/

/-- The frame table's answer to a FLUSH. -/
def Dev.lookupFlush (s : Dev) (r : Req) (whole : Bool) : Dev :=
  let f := frameOfLine r.line
  if s.isHole f then s.answer r (.error 1 0)
  else if s.isDraining f then s.answer r (.retry 100)
  else if s.isLost f then s.answer r (.error 4 1)
  else match s.pairJudge r false with
  | .refuse res => s.answer r res
  | _ =>
  match s.entry f with
  | none => s.answer r .ack
  | some e =>
    let s := s.touchAge f
    let secs := e.dirties.filter (fun i => whole || i == sectorOfLine r.line)
    if e.stackOnly || secs.isEmpty then s.answer r .ack
    else if s.shaftSt e.shaft == stFAILED then s.strandedRefuse r
    else if s.evicting f || (s.moving f).isSome then s.hold r .busy
    else if s.noFar f then s.hold r .blocked
    else if (s.jobOf f).isNone && !(s.wbFree) then s.hold r .buffer
    else
      let s := s.modHaul (fun p => { p with flushes := p.flushes ++ [⟨r, f, secs⟩] })
      s.addJob f secs (.flush r.id)

/-- A FLUSH whose write-backs have all committed answers ACK. -/
def Dev.settleFlush (s : Dev) (f sec : Nat) : Dev :=
  let l := s.haul.flushes.map (fun w => if w.frame == f then { w with sectors := w.sectors.filter (· != sec) } else w)
  let s := s.modHaul (fun p => { p with flushes := l.filter (fun w => !w.sectors.isEmpty) })
  (l.filter (fun w => w.sectors.isEmpty)).foldl (fun s w => s.answer w.req .ack) s

/-- The frame table's answer to any request. -/
def Dev.lookup (s : Dev) (r : Req) : Dev :=
  match r.op with
  | .hint kind count target => s.lookupHint r kind count target
  | .flush whole => s.lookupFlush r whole
  | _ => s.lookupRW r

/-! ### FRAME_TABLE_LOOKUP (R32, R139) -/

/-- May a stored request be looked up: no unanswered FENCE of its port came before it (R102), and no earlier request of the port that touches
one of its lines is held or waits for its own lookup (R101)? -/
def Dev.mayLookup (s : Dev) (h : Nat) (r : Req) : Bool :=
  !((s.port h).fences.any (fun f => f.1.id < r.id)) && !((s.port h).oldFences.any (fun f => f.1.id < r.id)) &&
  !((s.port h).store.any (fun q => decide (q.id < r.id) && spansMeet q.span r.span)) &&
  !(s.haul.held.any (fun x => spansMeet x.req.span r.span && decide (x.req.id < r.id) && srcAtt x.req == h))

/-- The first stored request of a port that a bank may serve. -/
def Dev.bankHead (s : Dev) (h bank : Nat) : Option Req :=
  match (s.port h).store.find? (fun r => setOf (frameOfLine r.line) % 32 == bank) with
  | some r => if s.mayLookup h r then some r else none
  | none => none

/-- Is no earlier copy of the partner's for the same frame still waiting (R322)? -/
def Dev.copyNext (s : Dev) (r : Req) : Bool :=
  let earlier (q : Req) : Bool := match q.org with
    | .mirror _ _ => q.id < r.id && frameOfLine q.line == frameOfLine r.line
    | _ => false
  match r.org with
  | .mirror _ _ => !(s.space.lookupQ.any earlier) && !(s.haul.held.any (fun x => earlier x.req))
  | _ => true

/-- One cell of the RSP network when haulage itself has answered a request: `s` is the state before its lookup (R134). -/
def Dev.countAns (t s : Dev) (r : Req) : Dev :=
  let sent := match r.org with
    | .host h _ => (s.port h).live.contains r.id && !((t.port h).live.contains r.id)
    | _ => decide (s.answers.length < t.answers.length)
  if sent then t.countCell 0x48 (srcAtt r) 1 else t

/-- FRAME_TABLE_LOOKUP: a bank serves one operation: the one with the greatest key among the ports' and engines' next ones, the sources
rotating at equal keys (R138). While haulage does not serve, every request gets NACK_RETRY (R46, R74); while REFCLK is lost nothing is
served (R16). -/
def Dev.bankServe (s : Dev) (bank : Nat) : Dev :=
  let hosts := (List.range 12).filterMap (fun h => s.bankHead h bank)
  let others := s.space.lookupQ.filter (fun r => setOf (frameOfLine r.line) % 32 == bank && s.copyNext r)
  if !s.pins.refclk then s
  else match bestBy (fun r => s.keyAt (arbBank bank) (srcAtt r) r.cls r.urg r.starved) (hosts ++ others) with
  | none => s
  | some r =>
    let s := (s.granted (arbBank bank) (srcAtt r)).countCell (srcAtt r) 0x48 0
    let s := match r.org with
      | .host h _ => s.modPort h (fun p => { p with store := p.store.filter (fun q => q.id != r.id) })
      | _ => s.modSpace (fun p => { p with lookupQ := p.lookupQ.filter (fun q => q.id != r.id) })
    match s.haulRefusal with
    | some (us, quiet) => (s.answer r (.retry us) quiet).countAns s r
    | none => (s.lookup { r with starved := false }).countAns s r

def execFrameTableLookup (bank : Fin 32) (s : State) : Host.Outcome State Fault Refusal := s.on fun s => .next (s.bankServe bank)

/-! ### Held requests (R55, R58) -/

/-- A held request is looked up again; none where it would wait as before. Where it waits again, but the eviction of a way it may take has
been started (R60, R73), it keeps its place. -/
def Dev.tryHeld (s : Dev) (x : Held) : Option Dev :=
  let t := (s.modHaul (fun p => { p with held := dropFirst (fun y => y == x) p.held })).lookup x.req
  if !(t.haul.held.any (fun y => y.req == x.req)) then some t
  else if s.haul.evicts.length < t.haul.evicts.length then some (t.modHaul (fun p => { p with held := s.haul.held }))
  else none

/-- HELD_REQUEST_SERVE: of the held requests that can go on, the one with the greatest key is looked up again, the sources rotating at equal
keys (R138); those of one attachment that share a line go in their order (R101). -/
def Dev.serveHeld (s : Dev) : Dev :=
  let first (x : Held) : Bool :=
    !(s.haul.held.any (fun y => spansMeet y.req.span x.req.span && srcAtt y.req == srcAtt x.req && decide (y.req.id < x.req.id)))
  if !s.haulServes || !s.pins.refclk then s
  else match bestBy (fun x => s.keyAt arbHeld (srcAtt x.req) x.req.cls x.req.urg x.req.starved)
      (s.haul.held.filter (fun x => first x && (s.tryHeld x).isSome)) with
  | none => s
  | some x => ((s.granted arbHeld (srcAtt x.req)).tryHeld x).getD s

def execHeldRequestServe (s : State) : Host.Outcome State Fault Refusal := s.on fun s => .next s.serveHeld

/-- Requests waiting on fills in flight, with the fill: accesses whose line has not come, and merged writes (R57, R58). -/
def Dev.fillWaiters (s : Dev) : List (Nat × Req) :=
  s.haul.fills.foldl (fun l x => match x.2 with
    | some b => l ++ b.ops.map (fun r => (x.1, r)) ++ b.writes.map (fun w => (x.1, w.1))
    | none => l) []

/-- HOLD_TIMEOUT: the request at place `i` has been held for 64 µs: places run over the held-request queue, then the requests
waiting on fills, then the waiting FLUSHes (log 21). What a fill has merged stays merged (R58). -/
def Dev.holdTimeout (s : Dev) (i : Nat) : Dev :=
  match s.haul.held[i]? with
  | some x =>
    let s := s.modHaul (fun p => { p with held := dropFirst (fun y => y == x) p.held })
    (s.answer x.req (.retry (if x.why == .fill then 100 else 20))).bump Reg.HAULAGE_CNT_HOLD_NACK_VALUE
  | none =>
    let j := i - s.haul.held.length
    match s.fillWaiters[j]? with
    | some (k, r) =>
      let s := match s.fill k with
        | some b => s.setFill k (some { b with
            ops := (b.ops.filter (fun q => q.id != r.id || isWrite q.op)).map (fun q => if q.id == r.id then { q with org := .hint } else q),
            writes := b.writes.map (fun w => if w.1.id == r.id then ({ w.1 with org := .hint }, w.2) else w) })
        | none => s
      if r.org == .hint then s else (s.answer r (.retry 100)).bump Reg.HAULAGE_CNT_HOLD_NACK_VALUE
    | none =>
      match s.haul.flushes[j - s.fillWaiters.length]? with
      | some w =>
        let s := s.modHaul (fun p => { p with flushes := dropFirst (fun y => y == w) p.flushes })
        (s.answer w.req (.retry 20)).bump Reg.HAULAGE_CNT_HOLD_NACK_VALUE
      | none => s

def execHoldTimeout (i : Fin 1024) (s : State) : Host.Outcome State Fault Refusal := s.on fun s => .next (s.holdTimeout i)

/-! ### Fill lines, commit, abandon -/

/-- The sector of a full fill buffer goes to its slot (R56). -/
def Dev.fillSend (s : Dev) (i : Nat) : Dev :=
  (List.range 64).foldl (fun s j => s.fillPut i j) (s.setFill i ((s.fill i).map (fun b => { b with sent := true })))

/-- A far line arrives in a fill buffer (R56, R57): the accesses that wait for it are carried out in order. -/
def Dev.fillLine (s : Dev) (i l : Nat) (res : Result) : Dev :=
  match s.fill i with
  | none => s
  | some b =>
    let take (d : Line) (bad : BitVec 64) : Dev :=
      let b := { b.setLine l d bad with got := b.got ++ [l], ops := b.ops.filter (fun r => r.line % 64 != l) }
      let now := (s.fill i).elim [] (fun b => b.ops.filter (fun r => r.line % 64 == l))
      let s := now.foldl (fun s r => s.fillOp i r) (s.setFill i (some b))
      if b.got.length == 64 && !b.drop then s.fillSend i else s
    match res with
    | .data d bad => take d bad
    | .poison => take 0 poisonBad
    | _ => s.setFill i (some { b with failed := true })

/-- FILL_LINE_ARRIVAL: the oldest line that has come in on far port `f` enters its fill buffer. -/
def execFillLineArrival (f : Fin 4) (s : State) : Host.Outcome State Fault Refusal := s.on fun s =>
  match s.haul.farArrived.find? (fun x => x.1 == f.val) with
  | none => .next s
  | some x => .next ((s.modHaul (fun p => { p with farArrived := dropFirst (fun y => y == x) p.farArrived })).fillLine x.2.1 x.2.2.1 x.2.2.2)

/-- Count the acknowledgements that have come for an origin. -/
def Dev.takeAcks (s : Dev) (o : Origin) : Nat × Dev :=
  ((s.answers.filter (fun x => x.1 == o && x.2 == .ack)).length,
   { s with answers := s.answers.filter (fun x => !(x.1 == o && x.2 == .ack)) })

/-- Answers other than an acknowledgement that have come for an origin. -/
def Dev.nacked (s : Dev) (o : Origin) : Bool := s.answers.any (fun x => x.1 == o && x.2 != .ack)

/-- FILL_COMMIT (R45, R56): when the shaft holds every line sent the sector becomes CLEAN, or DIRTY if a write was merged; the
merged writes are answered; a dropped fill only frees its buffer. -/
def Dev.fillCommit (s : Dev) (i ns : Nat) : Dev :=
  match s.fill i with
  | none => s
  | some b =>
    if b.drop then
      if b.got.length == 64 then
        b.writes.foldl (fun s w => s.answer w.1 (.retry 100)) (s.setFill i none)
      else s
    else
      let (n, s) := s.takeAcks (.fill i)
      let b := { b with acks := b.acks + n }
      if b.acks < b.need then s.setFill i (some b)
      else
        let s := (s.modEntry b.frame (fun e => e.setSec b.sector (if b.dirty then secDIRTY else secCLEAN))).setFill i none
        let s := (s.settleBusy b.frame).bump Reg.HAULAGE_CNT_FILL_VALUE
        (b.writes.foldl (fun s w => s.finish w.1 w.2) s).sample 60 ns

def execFillCommit (i : Fin 512) (ns : Nat) (s : State) : Host.Outcome State Fault Refusal := s.on fun s => .next (s.fillCommit i ns)

/-- Far requests of a buffer that is let go: their completions are discarded (R302). -/
def Dev.forgetFar (s : Dev) (p : FarOrg → Bool) : Dev :=
  let s := (List.range 4).foldl (fun s f => if (s.far f).cxl.any (fun x => p x.org) || (s.far f).cxlQ.any (fun x => p x.org) then
    s.modFar f (fun q => { q with cxl := q.cxl.filter (fun x => !(p x.org)), cxlQ := q.cxlQ.filter (fun x => !(p x.org)) }) else s) s
  s

/-- Work whose owner has let it go: what waits in the spine or for a lookup is withdrawn, what a shaft holds is carried to completion, and
the answers reach nobody. -/
def Dev.disownBy (s : Dev) (p : Origin → Bool) : Dev :=
  let off (r : Req) : Req := if p r.org then { r with org := .dup } else r
  { s with answers := s.answers.filter (fun x => !(p x.1)),
           space := { s.space with lookupQ := s.space.lookupQ.filter (fun r => !(p r.org)) },
           fabric := { s.fabric with voq := s.fabric.voq.filter (fun c => !(p c.req.org)) },
           shafts := smapv (fun _ => {}) s.shafts (fun q =>
             { q with collar := q.collar.map (fun x => (off x.1, x.2)), localq := q.localq.map off,
                      zin := q.zin.map (fun z => { z with req := off z.req }),
                      win := q.win.map (fun w => { w with req := off w.req }), fly := q.fly.map (fun w => { w with req := off w.req }) }) }

def Dev.disown (s : Dev) (o : Origin) : Dev := s.disownBy (· == o)

/-- Is the far request one of fill buffer `i`, or of write-back buffer `i`? -/
def isFillOrg (i : Nat) : FarOrg → Bool
  | .fill j _ => i == j
  | _ => false
def isWbackOrg (i : Nat) : FarOrg → Bool
  | .wback j _ => i == j
  | _ => false

/-- FILL_ABANDON (R58): a far read of the fill ended in a completion error or timeout, or its shaft no longer takes it: the
sector stays INVALID, waiting reads get DATA_POISON, merged writes and atomics NACK_RETRY, and one record is written. -/
def Dev.fillAbandon (s : Dev) (i : Nat) : Dev :=
  match s.fill i with
  | none => s
  | some b =>
    if !b.failed && !(s.nacked (.fill i)) then s
    else
      let s := (s.setFill i none).disown (.fill i)
      let s := (s.forgetFar (isFillOrg i)).modHaul (fun p => { p with farArrived := p.farArrived.filter (fun x => x.2.1 != i) })
      let s := (b.writes.map (·.1) ++ b.ops).foldl (fun s r => s.answer r (if isWrite r.op then .retry 100 else .poison)) s
      (s.settleBusy b.frame).record hauPage 0x102 sevERROR [b.frame, b.sector, b.port, 0]

def execFillAbandon (i : Fin 512) (s : State) : Host.Outcome State Fault Refusal := s.on fun s => .next (s.fillAbandon i)

/-! ### Write-back buffers -/

/-- WRITEBACK_CAPTURE (R59): the shaft's 64 lines are in the buffer; the line writes go to far memory. -/
def Dev.wbCapture (s : Dev) (i : Nat) : Dev :=
  match s.wback i with
  | none => s
  | some w =>
    if w.captured then s
    else match s.takeAnswer (.wback i) with
    | some (.lines ls, s) =>
      let s := s.setWback i (some { w with lines := ls, captured := true })
      let base := s.farLineOf (w.frame * 8192 + w.sector * 64)
      (List.range 64).foldl (fun s l => let x := ls.getD l (0, 0)
        s.farIssue w.port (.wback i l) true (base + l) x.1 x.2) s
    | some (_, s) => s.setWback i (some { w with failed := true })
    | none => s

def execWritebackCapture (i : Fin 128) (s : State) : Host.Outcome State Fault Refusal := s.on fun s => .next (s.wbCapture i)

/-- The job of a frame when one of its sectors has left its buffer: `ok` it was written. A write-back that no request or eviction waits for
is given up when it fails. When the last sector of a first write-back is written, FAR_VALID becomes 1 and the sectors not written since
become CLEAN (R35). -/
def Dev.jobDone (s : Dev) (w : Wback) (ok : Bool) : Dev :=
  match s.jobOf w.frame with
  | none => s
  | some j =>
    let giveUp := !ok && (j.cause == .preclean || j.cause == .demote)
    let j := { j with busy := j.busy.filter (· != w.sector), failed := j.failed || giveUp,
                      clean := if ok && j.whole && !w.redirty then j.clean ++ [w.sector] else j.clean,
                      todo := if giveUp then [] else if ok || j.todo.contains w.sector then j.todo else j.todo ++ [w.sector] }
    if j.todo.isEmpty && j.busy.isEmpty then
      let s := s.modHaul (fun p => { p with wbJobs := p.wbJobs.filter (fun k => k.frame != j.frame) })
      if j.whole && !j.failed then
        (s.modEntry j.frame (fun e =>
          j.clean.foldl (fun e i => if e.sec i == secDIRTY then e.setSec i secCLEAN else e) { e with farValid := true })).settleFlushes j.frame
      else s
    else s.setJob j

/-- WRITEBACK_COMMIT (R45, R59): far memory has acknowledged all 64 lines: the sector becomes CLEAN unless it was written
again; of a frame's first write-back it becomes CLEAN with the whole frame (R35). -/
def Dev.wbCommit (s : Dev) (i ns : Nat) : Dev :=
  match s.wback i with
  | none => s
  | some w =>
    if w.acks < 64 || w.failed then s
    else
      let whole := match s.jobOf w.frame with
        | some j => j.whole
        | none => false
      let s := s.setWback i none
      let s := if whole || w.redirty then s
        else s.modEntry w.frame (fun e => if e.sec w.sector == secDIRTY then e.setSec w.sector secCLEAN else e)
      let s := (s.jobDone w true).settleBusy w.frame
      let again := match s.jobOf w.frame with
        | some j => j.todo.contains w.sector
        | none => false
      let s := if whole || again then s else s.settleFlush w.frame w.sector
      ((s.bump Reg.HAULAGE_CNT_WBACK_VALUE).sample 61 ns).pump

def execWritebackCommit (i : Fin 128) (ns : Nat) (s : State) : Host.Outcome State Fault Refusal := s.on fun s => .next (s.wbCommit i ns)

/-- WRITEBACK_CPL_ERROR (R59, R67): the sector stays DIRTY, the buffer is released, and a record is written; the port is blocked for 1 ms when
a line write ended in an error, and not when only the capture was turned away. -/
def Dev.wbError (s : Dev) (i : Nat) : Dev :=
  match s.wback i with
  | none => s
  | some w =>
    if !w.failed then s
    else
      let s := (s.setWback i none).modHaul (fun p => { p with marks := if w.captured then Nat.lor p.marks (2 ^ w.port) else p.marks,
                                                              shoots := p.shoots.filter (fun h => !(h.sector.isSome && h.wb == i)) })
      ((((s.disown (.wback i)).forgetFar (isWbackOrg i)).jobDone w false).settleBusy w.frame).noteBlocked.record hauPage 0x102 sevERROR
        [w.frame, w.sector, w.port, 1]

def execWritebackCplError (i : Fin 128) (s : State) : Host.Outcome State Fault Refusal := s.on fun s => .next (s.wbError i)

/-- BLOCK_MARK_EXPIRY (R67): the 1 ms mark of a port ends; its write-backs are made again. -/
def execBlockMarkExpiry (f : Fin 4) (s : State) : Host.Outcome State Fault Refusal := s.on fun s =>
  .next ((s.modHaul (fun p => { p with marks := if bitN p.marks f.val then p.marks - 2 ^ f.val else p.marks })).noteBlocked.pump)

/-! ### Shootdowns at the engines (R63, R231) -/

/-- Has the engine accesses of its own under way to a frame's slot? -/
def Dev.engBusyOn (s : Dev) (n f : Nat) (sector : Option Nat) : Bool :=
  let mine (r : Req) : Bool := (match r.org with
      | .engine m _ => m == n
      | _ => false) && frameOfLine r.line == f &&
    (match sector with
     | some i => isWrite r.op && sectorOfLine r.line == i
     | none => true)
  s.fabric.voq.any (fun c => mine c.req) ||
  s.shafts.any (fun e => e.2.collar.any (fun x => mine x.1) || e.2.localq.any mine || e.2.win.any (fun w => mine w.req) ||
    e.2.fly.any (fun w => mine w.req))

/-- Engine `n` acts on the oldest shootdown (or revoke) that waits for it: it drops the entry (or its WRITABLE bit), and
acknowledges once its accesses to the old slot are complete. -/
def Dev.engShoot (s : Dev) (n : Nat) (revoke : Bool) : Dev :=
  match s.haul.shoots.find? (fun h => h.waiting.contains n && h.sector.isSome == revoke) with
  | none => s
  | some h =>
    let s := s.modEng n (fun g => { g with fcache := match h.sector with
      | none => g.fcache.filter (fun x => x.frame != h.frame)
      | some i => g.fcache.map (fun x => if x.frame == h.frame then
          { x with writable := x.writable &&& (BitVec.allOnes 128 ^^^ BitVec.ofNat 128 (2 ^ i)) } else x) })
    if s.engBusyOn n h.frame h.sector then s
    else
      let s := (s.bump Reg.ENGINE_CNT_SHOOTDOWN_VALUE n).countCell (0x10 + n) 0x48 1
      s.modHaul (fun p => { p with shoots := p.shoots.map (fun k => if k == h then { k with waiting := k.waiting.filter (· != n) } else k) })

def execShootdown (n : Fin 48) (s : State) : Host.Outcome State Fault Refusal := s.on fun s => .next (s.engShoot n false)
def execWriteRevoke (n : Fin 48) (s : State) : Host.Outcome State Fault Refusal := s.on fun s => .next (s.engShoot n true)

/-- A completed revoke lets the capture be read from the shaft (R59). -/
def Dev.startCapture (s : Dev) (i : Nat) : Dev :=
  match s.wback i with
  | none => s
  | some w => match s.entry w.frame with
    | none => s.setWback i (some { w with failed := true })
    | some e =>
      (s.sendShaft { id := s.nextId, org := .wback i, op := .capture, cls := 61, line := w.frame * 8192 + w.sector * 64,
                     shaft := e.shaft, sline := e.slot * 8192 + w.sector * 64 }).fresh

/-- SHOOTDOWN_ACK: the shootdowns and revokes of a frame that every collar port has acknowledged complete (R63). -/
def Dev.shootDone (s : Dev) (f : Nat) : Dev :=
  let done := s.haul.shoots.filter (fun h => h.frame == f && h.waiting.isEmpty)
  let s := s.modHaul (fun p => { p with shoots := p.shoots.filter (fun h => !(h.frame == f && h.waiting.isEmpty)) })
  done.foldl (fun s h => if h.sector.isSome then s.startCapture h.wb else s) s

def execShootdownAck (frame : BitVec 26) (s : State) : Host.Outcome State Fault Refusal := s.on fun s => .next (s.shootDone frame.toNat)

/-! ### Ages, preclean, global eviction, reserved slots -/

/-- AGE_PERIOD (R61): the AGE of every valid entry rises by 1, saturating at 255. -/
def execAgePeriod (s : State) : Host.Outcome State Fault Refusal := s.on fun s =>
  .next (s.modSpace (fun p => { p with ways := p.ways.map (fun x => (x.1, { x.2 with age := if x.2.valid then min 255 (x.2.age + 1) else x.2.age })) }))

/-- USED_FRAME_REPORT (R61, R231): the frames an engine's cache used get AGE 0 and the class of the last job that wrote. -/
def execUsedFrameReport (n : Fin 48) (s : State) : Host.Outcome State Fault Refusal := s.on fun s =>
  let used := (s.eng n).fcache.filter (fun x => x.used)
  let s := used.foldl (fun s x => s.modEntry x.frame (fun e => { e with age := 0, cls := x.cls.getD e.cls })) s
  .next (s.modEng n (fun g => { g with fcache := g.fcache.map (fun x => { x with used := false }) }))

/-- PRECLEAN (R64): a full set with fewer than 2 evictable ways of DCOUNT 0 has one way written back. -/
def Dev.preclean (s : Dev) (set : Nat) : Dev :=
  let ways := (List.range 18).map (wayKey set)
  let clean := (ways.filter (fun k => s.evictable k && (s.way k).dcount == 0)).length
  if !(s.fb Reg.HAULAGE_FREE_CTL_PRECLEAN) || !(ways.all (fun k => (s.way k).valid)) || 2 ≤ clean ||
      96 < s.haul.wbacks.length then s
  else match s.victim set (fun k => (s.way k).dcount != 0) with
    | some k => s.addJob (s.frameOfWay k) (s.way k).dirties .preclean
    | none => s

def execPreclean (set : BitVec 15) (s : State) : Host.Outcome State Fault Refusal := s.on fun s =>
  if s.workStops || !s.haulServes then .next s else .next (s.preclean set.toNat)

/-- GLOBAL_EVICTION (R66): while on, the next set is visited and one frame of it evicted. -/
def Dev.globalEvict (s : Dev) : Dev :=
  let low := s.fv Reg.HAULAGE_FREE_CTL_LOW
  let free := s.freeSlots
  let start := !s.haul.geOn && free < low
  let s := if start then (s.modHaul (fun p => { p with geOn := true })).raise hauPage Reg.EV_HAULAGE_FREE_LOW else s
  if !s.haul.geOn then s
  else if low + 256 ≤ free then s.modHaul (fun p => { p with geOn := false })
  else
    let set := s.haul.gePtr
    let s := s.modHaul (fun p => { p with gePtr := (p.gePtr + 1) % 32768 })
    match s.victim set (fun _ => true) with
    | some k => s.startEvict (s.frameOfWay k)
    | none => s

def execGlobalEviction (s : State) : Host.Outcome State Fault Refusal := s.on fun s => if s.workStops || !s.haulServes then .next s else .next s.globalEvict

/-- The next set, from where global eviction stopped, with a victim in another ONLINE shaft than `n` (R40). -/
def Dev.resvVictim (s : Dev) (n : Nat) : Option Nat :=
  let sets := (s.space.ways.map (fun x => (x.1 / 18 + 32768 - s.haul.gePtr) % 32768)).mergeSort
  sets.findSome? (fun d => s.victim ((d + s.haul.gePtr) % 32768) (fun k => (s.way k).shaft != n && s.shaftUp (s.way k).shaft))

/-- RESERVED_SLOT_MOVE (R40): a pending reserved slot takes a free slot in the shaft with the most; with none free, one
frame is evicted and the move stays pending. -/
def Dev.resvMove (s : Dev) (i : Nat) : Dev :=
  if !(s.space.resvPend.contains i) || !s.haulServes then s
  else
    let (n, k) := s.space.resv.getD i (0, 0)
    match s.mostFree (fun m => m != n) with
    | some m => match s.takeSlot m with
      | some (slot, s) =>
        let s := s.modSpace (fun p => { p with resv := setAt p.resv i (m, slot), resvPend := p.resvPend.filter (· != i) })
        s.giveSlot n k
      | none => s
    | none =>
      if s.haul.evicts.any (fun x => !x.release) then s
      else match s.resvVictim n with
        | some w => s.startEvict (s.frameOfWay w)
        | none => s

def execReservedSlotMove (i : Fin 64) (s : State) : Host.Outcome State Fault Refusal := s.on fun s => .next (s.resvMove i)

/-! ### Moves (R68, R69) -/

/-- The end of a move started by MIG_CTL: MIG_STATUS and MOVE_DONE. -/
def Dev.regMoveEnd (s : Dev) (done : Bool) (reason : Nat) : Dev :=
  let s := ((s.setF Reg.HAULAGE_MIG_STATUS_BUSY 0).setF Reg.HAULAGE_MIG_STATUS_DONE (b2n done)).setF Reg.HAULAGE_MIG_STATUS_REASON reason
  s.raise hauPage Reg.EV_HAULAGE_MOVE_DONE

def Dev.moveEnd (s : Dev) (c : MvCause) (done : Bool) (reason : Nat) : Dev :=
  match c with
  | .reg => s.regMoveEnd done reason
  | .hint _ => if done then s else s.dropUnit
  | _ => s

/-- MIG_CTL.GO (R69, R76): a move of MIG_FRAME is asked for; it is judged when it takes its channel. -/
def Dev.migGo (s : Dev) : Dev :=
  if s.fb Reg.HAULAGE_MIG_STATUS_BUSY then s
  else
    let f := s.fv Reg.HAULAGE_MIG_FRAME_FRAME
    let n := s.fv Reg.HAULAGE_MIG_CTL_SHAFT
    (((s.setF Reg.HAULAGE_MIG_STATUS_BUSY 1).setF Reg.HAULAGE_MIG_STATUS_DONE 0).setF Reg.HAULAGE_MIG_STATUS_REASON 0).wantMove f n .reg

/-- Why a frame cannot be moved (R76): unborn or in a hole, lost, stranded. -/
def Dev.moveBar (s : Dev) (f : Nat) : Option Nat :=
  if s.isHole f || !(s.isBorn f) then some 1
  else if s.isLost f then some 2
  else if s.stranded f then some 8
  else none

/-- A move whose frame is not resident allocates it in the target shaft with all sectors INVALID, and never evicts for it (R70, R76). -/
def Dev.moveAlloc (s : Dev) (f n : Nat) (c : MvCause) : Dev :=
  let cls := match c with
    | .hint k => k
    | _ => 61
  if c == .evac then s
  else if !(s.shaftUp n) then s.moveEnd c false 3
  else match s.allocate f cls bornEntry (fun m => m == n) with
    | .inl .victim => s.moveEnd c false 7
    | .inl _ => s.moveEnd c false 4
    | .inr (_, s) => s.moveEnd c true 0

/-- A move of a resident frame takes channel `ch` and a destination slot (R68 steps 1 and 2), and its copy begins. -/
def Dev.moveTake (s : Dev) (f n : Nat) (c : MvCause) (ch : Nat) (e : Entry) : Dev :=
  if e.shaft == n then s.moveEnd c true 0
  else if !(s.shaftUp n) then s.moveEnd c false 3
  else if unreadable (s.shaftSt e.shaft) then s.moveEnd c false 6
  else match s.takeSlot n with
    | none => s.moveEnd c false 4
    | some (slot, s) =>
      let m : Mv := { frame := f, target := n, srcShaft := e.shaft, srcSlot := e.slot, dstSlot := slot, step := 3, cause := c, id := s.nextId }
      (((s.setMv ch (some m)).fresh).modEntry f (fun e => { e with busy := true, age := 0 })).moveRead ch

/-- The next frame of an evacuating shaft that no move or eviction has yet taken (R339). -/
def Dev.evacNext (s : Dev) (n : Nat) : Option Nat :=
  if s.ms.noEvac.contains n then none
  else (s.space.ways.find? (fun x => x.2.valid && x.2.shaft == n && !x.2.busy &&
    !(s.haul.moveQ.any (fun q => q.1 == frameFrom (x.1 / 18) x.2.tag)))).map (fun x => frameFrom (x.1 / 18) x.2.tag)

/-- Give an evacuating shaft's next frame a place (R69): moved to the shaft R65 chooses, or evicted; a pinned frame that can be neither sets
EVAC_STALL and waits. R65 names the class of a request or a job; an evacuated frame is placed under the CLASS of its entry (DESIGN CHOICE,
log 158). -/
def Dev.evacStep (s : Dev) (n : Nat) : Dev :=
  match s.evacNext n with
  | none => s
  | some f =>
    let c := ((s.entry f).map (·.cls)).getD 61
    match s.place c (fun m => m != n) with
    | some (m, s) => s.wantMove f m .evac
    | none =>
      if ((s.entry f).map (·.pin)).getD false then s.raise hauPage Reg.EV_HAULAGE_EVAC_STALL
      else s.startEvict f

/-- MOVE_START (R68 steps 1 and 2): the first waiting move whose frame is not BUSY and has no zero-fill under way takes a channel and a
destination slot;
with none waiting, an evacuating shaft's next frame is taken up. None starts from the admission stop of SHUTTERED entry on (R74), or during a trip (R412). -/
def Dev.moveStart (s : Dev) : Dev :=
  if s.workStops || !s.haulServes then s else
  let s := match (List.range 48).find? (fun n => s.shaftSt n == stEVACUATING && (s.evacNext n).isSome) with
    | some n => if s.haul.moveQ.isEmpty then s.evacStep n else s
    | none => s
  match s.haul.moveQ.find? (fun q => !(((s.entry q.1).map (·.busy)).getD false) && !(s.mirrorPending q.1) &&
          !(s.haul.zfills.any (fun z => z.frame == q.1))),
        (List.range (s.fv Reg.HAULAGE_MOVE_CTL_MAX_MOVES)).find? (fun c => (s.mv c).isNone) with
  | some (f, n, c), some ch =>
    let s := s.modHaul (fun p => { p with moveQ := dropFirst (fun y => y == (f, n, c)) p.moveQ })
    match s.moveBar f, s.entry f with
    | some why, _ => s.moveEnd c false why
    | none, none => s.moveAlloc f n c
    | none, some e => s.moveTake f n c ch e
  | _, _ => s

def execMoveStart (s : State) : Host.Outcome State Fault Refusal := s.on fun s => .next s.moveStart

/-- What a read of a shaft's line would give: DRAM with the write buffer's bytes on top (R165). -/
def Dev.lineView (s : Dev) (n l : Nat) : Line × BitVec 64 :=
  (s.shaft n).wbuf.foldl (fun x w =>
    if w.sline == l then (mergeLine x.1 w.data w.mask, (x.2 &&& (fullMask ^^^ w.mask)) ||| (w.bad &&& w.mask)) else x)
    (s.dramLine n l, s.dramBadOf n l)

/-- MOVE_COPY_END (R68 steps 3 and 4): once every CLEAN and DIRTY line has been read and its write acknowledged, the shootdown goes out; until
then the copy goes on. -/
def Dev.moveCopyEnd (s : Dev) (ch : Nat) : Dev :=
  let s := s.moveRead ch
  match s.mv ch with
  | none => s
  | some m =>
    if m.step != 3 || m.failed != 0 || m.next < 8192 || !m.out.isEmpty || !m.again.isEmpty || m.wr != 0 then s
    else (s.setMv ch (some { m with step := 4 })).sendShoot m.frame none 0

def execMoveCopyEnd (ch : Fin 4) (s : State) : Host.Outcome State Fault Refusal := s.on fun s => .next (s.moveCopyEnd ch)

/-- MOVE_COMMIT (R68 steps 5, 6): after the shootdown, with no access to either slot under way and the source not lost, the entry names the
new slot and the source slot is free. -/
def Dev.moveCommit (s : Dev) (ch : Nat) : Dev :=
  match s.mv ch with
  | none => s
  | some m =>
    if m.step != 4 || m.failed != 0 || s.haul.shoots.any (fun h => h.frame == m.frame) || !(s.slotQuiet m.srcShaft m.srcSlot) ||
        !(s.slotQuiet m.target m.dstSlot) || unreadable (s.shaftSt m.srcShaft) then s
    else
      let s := (s.setMv ch none).modEntry m.frame (fun e => { e with shaft := m.target, slot := m.dstSlot })
      let s := ((s.giveSlot m.srcShaft m.srcSlot).settleBusy m.frame).bump Reg.HAULAGE_CNT_MOVE_VALUE
      s.moveEnd m.cause true 0

def execMoveCommit (ch : Fin 4) (s : State) : Host.Outcome State Fault Refusal := s.on fun s => .next (s.moveCommit ch)

/-- Why a move under way must be abandoned (R68), a shaft that turned one of its lines away among the reasons. -/
def Dev.moveFail (s : Dev) (m : Mv) : Option Nat :=
  if unreadable (s.shaftSt m.srcShaft) then some 6
  else if m.step == 3 && !(s.shaftUp m.target) then some 5
  else if m.failed != 0 then some m.failed
  else none

/-- The slot a move gives up: its cells that have not left the spine are withdrawn; it is free at once, or by EVICTION_STEP of its frame once no
line write to it is under way. -/
def Dev.dropDest (s : Dev) (m : Mv) : Dev :=
  let s := { s with fabric := { s.fabric with voq := s.fabric.voq.filter (fun c => c.req.org != Origin.move m.id) } }
  if s.slotQuiet m.target m.dstSlot then s.giveSlot m.target m.dstSlot
  else s.modHaul (fun p => { p with evicts := p.evicts ++ [⟨m.frame, 3, 0, true, m.target, m.dstSlot⟩] })

/-- MOVE_ABANDON (R68): the frame stays in its source slot; the destination slot is free again. -/
def Dev.moveAbandon (s : Dev) (ch : Nat) : Dev :=
  match s.mv ch with
  | none => s
  | some m => match s.moveFail m with
    | none => s
    | some reason =>
      let s := ((s.setMv ch none).dropDest m).settleBusy m.frame
      s.moveEnd m.cause false reason

def execMoveAbandon (ch : Fin 4) (s : State) : Host.Outcome State Fault Refusal := s.on fun s => .next (s.moveAbandon ch)

/-! ### Windows (R29, R43) -/

/-- Resident frames of an interval. -/
def Dev.framesIn (s : Dev) (lo hi : Nat) : List Nat :=
  (s.space.ways.filter (fun x => x.2.valid && lo ≤ frameFrom (x.1 / 18) x.2.tag && frameFrom (x.1 / 18) x.2.tag ≤ hi)).map
    (fun x => frameFrom (x.1 / 18) x.2.tag)

/-- Empty the frames of a drain that nothing is yet emptying. -/
def Dev.drainKick (s : Dev) (d : Drain) : Dev :=
  if !s.haulServes then s else
  d.parts.foldl (fun s p => (s.framesIn p.lo p.hi).foldl (fun s f =>
    if p.win < 16 then (if (s.moving f).isSome then s else s.releaseFrame f)
    else if s.evicting f || (s.moving f).isSome then s else s.startEvict f) s) s

/-- The parts of a window's own part that each window it outranks still decides: what must be emptied before window `w` takes them over. -/
def Dev.takeovers (s : Dev) (w : Nat) : List Part :=
  let outranked := ((List.range 80).filter (fun v => w < v && winEn s v))
  let mine := s.ownPart w
  (outranked.foldl (fun (acc : ISet × List Part) v =>
    let cut := acc.1.filterMap (fun p =>
      let lo := max p.1 (winBase s v)
      let hi := min p.2 (winBase s v + winSize s v - 1)
      if lo ≤ hi then some (lo, hi) else none)
    (cut.foldl (fun r c => idel r c.1 c.2) acc.1, acc.2 ++ cut.map (fun c => ⟨c.1, c.2, v⟩))) (mine, [])).2

def winSetEn (s : Dev) (w v : Nat) : Dev :=
  if w < 16 then s.setF Reg.HAULAGE_SWj_CTL_EN v 0 w else s.setF Reg.HAULAGE_FWk_CTL_EN v 0 (w - 16)
def winSetDraining (s : Dev) (w v : Nat) : Dev :=
  if w < 16 then s.setF Reg.HAULAGE_SWj_CTL_DRAINING v 0 w else s.setF Reg.HAULAGE_FWk_CTL_DRAINING v 0 (w - 16)

def Dev.setSoTotal (s : Dev) : Dev := s.setF Reg.HAULAGE_SO_TOTAL_COUNT s.soTotal

/-- The enabling row of R29: the own part's frames unborn, or with ADOPT born. -/
def Dev.enableRow (s : Dev) (w : Nat) : Dev :=
  if 16 ≤ w && s.fb Reg.HAULAGE_FWk_CTL_ADOPT 0 (w - 16) then
    s.modSpace (fun p => { p with born := (s.ownPart w).foldl (fun b i => iadd b i.1 i.2) p.born })
  else s

/-- Enable window `w` (EN already reads 1): parts taken from an outranked window are emptied first, and until then those windows decide them.
How the rest of the own part is served meanwhile R29 does not say: at once, as enabled and unborn, before ADOPT applies (DESIGN CHOICE,
log 159). -/
def Dev.winEnable (s : Dev) (w : Nat) : Dev :=
  let parts := s.takeovers w
  let s := s.setOverlaps.setSoTotal
  if parts.isEmpty then s.enableRow w
  else
    let d : Drain := ⟨w, parts, true⟩
    ((winSetDraining s w 1).modSpace (fun p => { p with drains := p.drains ++ [d] })).drainKick d

/-- Disable window `w`: EN reads 1 and DRAINING 1 until its own part is empty. -/
def Dev.winDisable (s : Dev) (w : Nat) : Dev :=
  let s := winSetEn s w 1
  let d : Drain := ⟨w, (s.ownPart w).map (fun p => ⟨p.1, p.2, w⟩), false⟩
  ((winSetDraining s w 1).modSpace (fun p => { p with drains := p.drains ++ [d] })).drainKick d

/-- Take intervals out of the parts of a drain. -/
def Drain.less (d : Drain) (cut : List Part) : Drain :=
  { d with parts := d.parts.flatMap (fun p =>
      (cut.foldl (fun r c => idel r c.lo c.hi) [(p.lo, p.hi)]).map (fun x => ⟨x.1, x.2, p.win⟩)) }

/-- DRAIN_END: the drain of a window ends when no frame of its parts is resident; until then what remains is tried again. A window that takes
its parts over decides them from then on, and another drain of the same frames has nothing left to do there. -/
def Dev.drainEnd (s : Dev) (w : Nat) : Dev :=
  match s.space.drains.find? (fun d => d.win == w) with
  | none => s
  | some d =>
    if d.parts.any (fun p => !(s.framesIn p.lo p.hi).isEmpty) then s.drainKick d
    else
      let s := s.modSpace (fun p => { p with
        drains := (p.drains.filter (fun x => x.win != w)).map (fun x => if d.enable then x.less d.parts else x),
        born := d.parts.foldl (fun b q => idel b q.lo q.hi) p.born,
        lost := p.lost.filter (fun f => !(d.parts.any (fun q => q.lo ≤ f && f ≤ q.hi))) })
      let s := winSetDraining s w 0
      let s := if d.enable then s.enableRow w else winSetEn s w 0
      s.setOverlaps.setSoTotal.raise hauPage Reg.EV_HAULAGE_DRAIN_DONE

def execDrainEnd (win : Fin 80) (s : State) : Host.Outcome State Fault Refusal := s.on fun s => .next (s.drainEnd win)

/-- A write to the CTL register of far window `k`; `old` is the register before it. While EN is 1 only EN changes; a port not
in CXL role clamps EN to 0 (R29). -/
def Dev.fwCtlWritten (s : Dev) (k : Nat) (old v : Word32) : Dev :=
  let a := 0xA40C + 16 * k
  let s := s.wrReg a old
  if bitN old.toNat 8 then s
  else if bitN old.toNat 0 then (if bitN v.toNat 0 then s else s.winDisable (16 + k))
  else
    let s := (s.setF Reg.HAULAGE_FWk_CTL_ADOPT (bitsOf v 1 1) 0 k).setF Reg.HAULAGE_FWk_CTL_PORT (bitsOf v 5 4) 0 k
    if bitN v.toNat 0 && s.fv Reg.FARPORT_STATUS_ACTIVE_ROLE (bitsOf v 5 4) == 1 then (winSetEn s (16 + k) 1).winEnable (16 + k)
    else s

/-- A write to the CTL register of stack-only window `j`: the allowance of R43 clamps SIZE, or EN. -/
def Dev.swCtlWritten (s : Dev) (j : Nat) (old v : Word32) : Dev :=
  let a := 0xA808 + 16 * j
  let s := s.wrReg a old
  if bitN old.toNat 8 then s
  else if bitN old.toNat 0 then (if bitN v.toNat 0 then s else s.winDisable j)
  else if !(bitN v.toNat 0) then s
  else
    let room := s.usableSlots / 2 - s.soTotal
    if room == 0 then s
    else
      let s := s.setF Reg.HAULAGE_SWj_SIZE_FRAMES (min (winSize s j) room) 0 j
      (winSetEn s j 1).winEnable j

end Sys2Proof.Machine
end

