-- ==== Sys2Proof/Machine/Fabric.lean ====
section
/-!
DEFINITION. Machine/Fabric.lean: the spine (R119 to R136): cells granted by class at a collar queue, its two credit shares,
closed attachments and the answers their waiting cells get, stall reports.
-/
namespace Sys2Proof.Machine

/-! ### Credits of a collar queue (R122, R125) -/

/-- Credits in use of a collar queue: `share` 1 general, 2 device. -/
def ShaftSt.creditsUsed (p : ShaftSt) (share : Nat) : Nat :=
  (p.collar.filter (fun x => x.2 == (share == 2))).length + (p.win.filter (fun w => w.credit == share)).length +
  (p.wbuf.filter (fun w => w.credit == share)).length + (match p.zin with
    | some z => b2n (z.credit == share)
    | none => 0)

/-- The device share in force at a collar queue. -/
def Dev.shareOf (s : Dev) (n : Nat) : Nat := sget (fun _ => 32) s.fabric.share n

/-- DEV_SHARE takes effect as the device-share cells of the queue fall idle (R135). -/
def Dev.takeShare (s : Dev) (n : Nat) : Dev :=
  if (s.shaft n).creditsUsed 2 == 0 then
    { s with fabric := { s.fabric with share := sset (fun _ => 32) s.fabric.share n (s.fv Reg.FABRIC_DEV_SHARE_CELLS) } }
  else s

/-- May a cell use the device share (R125)? -/
def mayDevice (r : Req) : Bool :=
  r.cls == 60 || r.cls == 61 || r.cls == 63 || (match r.org with
    | .mirror _ _ => true
    | _ => false)

/-- The credit a cell would take: general first; none when neither is free. -/
def Dev.creditFor (s : Dev) (n : Nat) (r : Req) : Option Nat :=
  let p := s.shaft n
  if p.creditsUsed 1 < 128 - s.shareOf n then some 1
  else if mayDevice r && p.creditsUsed 2 < s.shareOf n then some 2
  else none

/-! ### The selected counters (R134, R135) -/

/-- SEL was written: the selected counters restart. -/
def Dev.selWritten (s : Dev) : Dev :=
  let s := (s.setF Reg.FABRIC_CNT_CELLS_IN_VALUE 0).setF Reg.FABRIC_CNT_CELLS_OUT_VALUE 0
  let s := s.setF Reg.FABRIC_CNT_CREDIT_WAIT_VALUE 0
  let s := { s with fabric := { s.fabric with waitNs := 0, waited := false } }
  s.setF Reg.FABRIC_POOL_LEVEL_PEAK s.poolNow

/-- Does the selection hold a cell that waits for credit: the head of one of its virtual output queues, for a collar queue with no free credit
or a full far transmit pool? -/
def Dev.selWaits (s : Dev) : Bool :=
  let att := s.fv Reg.FABRIC_SEL_ATT
  s.fv Reg.FABRIC_SEL_NET == 0 &&
    (s.fabric.voq.any (fun c => c.src == att && decide (0x10 ≤ c.dst) && decide (c.dst < 0x40) && (s.creditFor (c.dst - 0x10) c.req).isNone) ||
     att == 0x48 && (List.range 4).any (fun f => decide (256 < (s.far f).cxlQ.length)))

/-- 10 ns pass for CNT_CREDIT_WAIT: every 128 ns, 256 spine cycles, a unit ends, and counts when the selection held a cell without credit in it
(log 160). -/
def Dev.creditTick (s : Dev) : Dev :=
  let w := s.fabric.waited || s.selWaits
  let ns := s.fabric.waitNs + 10
  if ns < 128 then { s with fabric := { s.fabric with waitNs := ns, waited := w } }
  else
    let s := { s with fabric := { s.fabric with waitNs := ns - 128, waited := false } }
    if w then s.bump Reg.FABRIC_CNT_CREDIT_WAIT_VALUE else s

/-! ### Grants (R124) -/

/-- The head cell of every source for a destination: earlier cells of one source hold back its later ones. -/
def heads (net dst : Nat) : List Nat → List Cell → List Cell
  | _, [] => []
  | seen, c :: l =>
    if c.dst == dst && c.net == net && !(seen.contains c.src) then c :: heads net dst (c.src :: seen) l
    else heads net dst seen l

/-- A control word with a single wrong bit is corrected and counted (R132). -/
def Dev.ctrlCorr (s : Dev) (oneBit : Bool) : Dev :=
  if oneBit then (s.bump Reg.FABRIC_CNT_CTRL_CORR_VALUE).raise pgFABRIC Reg.EV_FABRIC_CTRL_CORR else s

/-- A cell is granted credit by class priority at its collar queue and delivered; among equal keys the sources rotate. A cell that arrives while
a park is being entered cancels it (R180). Cells for any other attachment or network never wait for credit here: they are delivered with the
command that brings their answer, notice or request, and of their delivery only the correction of a control word shows. -/
def Dev.deliver (s : Dev) (dst net : Nat) (oneBit : Bool) : Dev :=
  if s.fabric.faulted || !s.pins.spineOn || !s.pins.refclk then s
  else if net != 0 || dst < 0x10 || 0x40 ≤ dst then s.ctrlCorr (oneBit && isAtt dst)
  else
    let n := dst - 0x10
    let s := s.takeShare n
    let last := sget (fun _ => 127) s.fabric.rotate dst
    let ready := (heads 0 dst [] s.fabric.voq).filter (fun c => (s.creditFor n c.req).isSome)
    match bestBy (fun c => s.key c.req.cls c.req.urg c.req.starved * 128 + turn last c.src) ready with
    | none => s
    | some c =>
      match s.creditFor n c.req with
      | none => s
      | some k =>
        let s := { s with fabric := { s.fabric with voq := dropFirst (fun x => x == c) s.fabric.voq,
                                                    rotate := sset (fun _ => 127) s.fabric.rotate dst c.src } }
        let s := s.ctrlCorr oneBit
        let s := s.modShaft n (fun p => { p with collar := p.collar ++ [({ c.req with starved := false }, k == 2)], parking := false })
        s.countCell c.src dst 0

def execCellDelivery (dst : BitVec 7) (net : BitVec 2) (oneBit : Bool) (s : State) : Host.Outcome State Fault Refusal := s.on fun s =>
  .next (s.deliver dst.toNat net.toNat oneBit)

/-- STALL_DETECT (R135): a virtual output queue whose head cell has not moved for STALL_CTL.LIMIT. It only observes. -/
def Dev.stall (s : Dev) (src dst : Nat) (mgt : Bool) : Dev :=
  let waits := if mgt then decide (src < 12) && ((s.port src).wait2 ++ (s.port src).ingress2).any (fun q => attOfPage (q.addr / 4096) == dst)
    else s.fabric.voq.any (fun c => c.src == src && c.dst == dst)
  if !waits then s
  else
    let s := ((s.setF Reg.FABRIC_STALL_STATUS_SRC src).setF Reg.FABRIC_STALL_STATUS_DST dst).setF Reg.FABRIC_STALL_STATUS_NET (if mgt then 2 else 0)
    (s.bump Reg.FABRIC_CNT_STALL_VALUE).raise pgFABRIC Reg.EV_FABRIC_STALL

def execStallDetect (src dst : BitVec 7) (mgt : Bool) (s : State) : Host.Outcome State Fault Refusal := s.on fun s =>
  .next (s.stall src.toNat dst.toNat mgt)

/-! ### Answers from a shaft, and closed attachments (R131, R341) -/

/-- Drop a zero-fill's record. -/
def Dev.zfillDrop (s : Dev) (id : Nat) : Dev := s.modHaul (fun p => { p with zfills := p.zfills.filter (fun y => y.id != id) })

/-- The zeros of a sector are in the shaft controller: the first write that waits is merged; a read ahead of it, left by a write that was
refused, is answered zeros, since the sector is still ZERO (R45). -/
def Dev.zfillGo : List Req → Dev → Nat → Dev
  | [], s, id => s.zfillDrop id
  | r :: l, s, id =>
    if !(isWrite r.op) then Dev.zfillGo l (s.answer r zeroData) id
    else match s.shaftShut r.shaft with
    | some res => (r :: l).foldl (fun s q => s.answer q res) (s.zfillDrop id)
    | none => (s.modHaul (fun p => { p with zfills := p.zfills.map (fun y =>
        if y.id == id then { y with waiting := l, merging := some r.id } else y) })).sendShaft r

/-- A zero-fill has ended: its first write is merged; or it was turned away, and the accesses that waited for it get its answer. -/
def Dev.zfillEnd (s : Dev) (id : Nat) (res : Result) : Dev :=
  match s.haul.zfills.find? (fun z => z.id == id) with
  | none => s
  | some z =>
    match res with
    | .ack => Dev.zfillGo z.waiting s z.id
    | _ => z.waiting.foldl (fun s r => s.answer r res) (s.zfillDrop id)

/-- A write that is merged into a zero-filled sector has an answer: once the shaft controller holds it the sector is DIRTY (R45) and the
accesses that waited go to the shaft in order; if it was refused the next one is taken. -/
def Dev.zfillMerged (s : Dev) (r : Req) (res : Result) : Dev :=
  match s.haul.zfills.find? (fun z => z.merging == some r.id) with
  | none => s
  | some z => match res with
    | .ack | .atomData _ _ _ =>
      let s := ((s.zfillDrop z.id).modEntry z.frame (fun e => e.setSec z.sector secDIRTY)).redirty z.frame z.sector
      z.waiting.foldl (fun s q => s.sendShaft q) s
    | .error _ _ => Dev.zfillGo z.waiting s z.id
    | _ => z.waiting.foldl (fun s q => s.answer q res) (s.zfillDrop z.id)

/-- A shaft answers a request: one cell of the RSP network, but on the path inside a tile, and the completion of R100. -/
def Dev.shaftAnswer (s : Dev) (n : Nat) (r : Req) (res : Result) : Dev :=
  let s := if r.loc then s else s.countCell (0x10 + n) (srcAtt r) 1
  match r.org with
  | .zfillFor id => s.zfillEnd id res
  | .move id => s.moveLine id r res
  | _ => (s.zfillMerged r res).finish r res

/-! ### The write buffer (R165) -/

/-- Put a line into the write buffer, over what it already holds for that line. A later write to a buffered line joins its entry, which takes
the later write's class and urgency and keeps the earlier one's age and credit (DESIGN CHOICE, log 164: the spec names no such rule). -/
def ShaftSt.bufPut (p : ShaftSt) (e : WEnt) : ShaftSt :=
  match p.wbuf.find? (fun w => w.sline == e.sline) with
  | some w =>
    let keep := fullMask ^^^ e.mask
    let m : WEnt := { w with data := mergeLine w.data e.data e.mask, mask := w.mask ||| e.mask, bad := (w.bad &&& keep) ||| (e.bad &&& e.mask),
                             cls := e.cls, urg := e.urg }
    { p with wbuf := p.wbuf.map (fun x => if x.sline == e.sline then m else x) }
  | none => { p with wbuf := p.wbuf ++ [{ e with age := p.taken }], taken := p.taken + 1 }

/-- Give write data back to the write buffer, beneath what it holds for the line: they are older. -/
def ShaftSt.bufUnder (p : ShaftSt) (w : WData) : ShaftSt :=
  match p.wbuf.find? (fun e => e.sline == w.sline) with
  | some e =>
    let under := w.mask &&& (fullMask ^^^ e.mask)
    let m : WEnt := { e with data := mergeLine e.data w.data under, mask := e.mask ||| w.mask, bad := e.bad ||| (w.bad &&& under) }
    { p with wbuf := p.wbuf.map (fun x => if x.sline == w.sline then m else x) }
  | none => p.bufPut ⟨w.sline, w.host, w.data, w.mask, w.bad, 62, 0, 0, 0⟩

/-- The word of an atomic unit goes to the write buffer: its atomics have been answered. -/
def ShaftSt.keepUnit (p : ShaftSt) (u : AUnit) : ShaftSt :=
  match u.value with
  | some v => p.bufPut ⟨u.sline, u.host, v.1, v.2.1, v.2.2, u.cls, u.urg, 0, 0⟩
  | none => p

/-- REPAIR_STATUS at the end of a repair. -/
def Dev.repairEnd (s : Dev) (n result reason spare : Nat) : Dev :=
  let s := (s.setF Reg.SHAFT_REPAIR_STATUS_BUSY 0 n).setF Reg.SHAFT_REPAIR_STATUS_RESULT result n
  (s.setF Reg.SHAFT_REPAIR_STATUS_REASON reason n).setF Reg.SHAFT_REPAIR_STATUS_SPARE spare n

/-- A column copy ends: its slots go back to haulage, those that a rebuilt free list does not hold already (R285). -/
def Dev.endColumn (s : Dev) (n result reason : Nat) : Dev :=
  match (s.shaft n).colRun with
  | none => s
  | some x =>
    let s := s.modShaft n (fun p => { p with colRun := none })
    let s := x.slots.foldl (fun s k => if (s.freeRuns n).any (fun r => decide (r.1 ≤ k ∧ k ≤ r.2)) then s else s.giveSlot n k) s
    s.repairEnd n result reason (if result == 1 then x.spare else 0)

/-- Everything that waits for or in shaft `n` gets an answer: cells on the spine, the collar queue, the local path, the read
window and the bursts in flight. The write buffer stays (R165), with what atomic units still had to write; a repair is undone (R289). -/
def Dev.flushShaft (s : Dev) (n : Nat) (res : Result) : Dev :=
  let p := s.shaft n
  let cells := s.fabric.voq.filter (fun c => c.dst == 0x10 + n)
  let s := { s with fabric := { s.fabric with voq := s.fabric.voq.filter (fun c => c.dst != 0x10 + n) } }
  let s := s.modShaft n (fun p =>
    { p.units.foldl ShaftSt.keepUnit p with
      collar := [], localq := [], zin := none, win := [], fly := [], units := [], refDue := [], idleDue := [], replay := [], scrubQ := [],
      scrubLeft := 0, rep := none })
  let s := s.endColumn n 2 4
  let s := s.dropLease (lsHelper n) hoSCRUB
  let s := if p.rep.isNone then s else s.repairEnd n 2 4 0
  let rs := cells.map (·.req) ++ p.collar.map (·.1) ++ p.localq ++ (match p.zin with
    | some z => [z.req]
    | none => []) ++ p.win.map (·.req)
  rs.foldl (fun s r => s.shaftAnswer n r res) s

/-- A shaft stops serving: what waits is answered as R341 gives for the state it enters. -/
def Dev.closeShaft (s : Dev) (n st : Nat) : Dev :=
  if st == stDARK then s.flushShaft n (.dark 0 (shaftPage n))
  else if st == stFAILED || st == stRESETTING || st == stKINDLING || st == stOFFLINE then s.flushShaft n (.retry 100)
  else s

end Sys2Proof.Machine
end

