-- ==== Sys2Proof/Machine/Dram.lean ====
section
/-!
DEFINITION. Machine/Dram.lean: what lies beneath the scheduler of a shaft controller: the address map (R162), the active timing
set (R167, R181), the poison list (R276), the write buffer's way to the cells (R165), row-disturb counts (R176, R177),
self-refresh (R175, R180) and refresh rates (R174).
-/
namespace Sys2Proof.Machine

/-! ### Timing (R167, R181) -/

/-- A timing field of the active set of shaft `n`; `f` names it in set A, and set B lies 0x40 further. -/
def Dev.tm (s : Dev) (f : Fld) (n : Nat) : Nat :=
  bitsOf (s.rdReg (f.addr n 0 + 0x40 * s.fv Reg.SHAFT_STATUS_ACTIVE_SET n)) f.hi f.lo

def Dev.bank (s : Dev) (n b : Nat) : Bank := sget (fun _ => idleBank) (s.shaft n).banks b
def Dev.modBank (s : Dev) (n b : Nat) (f : Bank → Bank) : Dev :=
  s.modShaft n (fun p => { p with banks := smod (fun _ => idleBank) p.banks b f })

/-! ### Writing the cells -/

/-- Write a line to the cells: its poison entry follows what stands there afterwards (R272, R276). -/
def Dev.cellWrite (s : Dev) (n l : Nat) (d : Line) (mask bad : BitVec 64) : Dev :=
  let s := (s.dramWrite n l d mask bad).trackWrite n l
  if mask != fullMask then s
  else if isPoison d bad then s.listPoison n l
  else if bad == 0 then s.unlistPoison n l
  else s

/-- Write the poison signature (R272, R273 source 5). -/
def Dev.writePoison (s : Dev) (n l : Nat) : Dev :=
  ((s.dramWrite n l 0 fullMask poisonBad).trackWrite n l).listPoison n l

/-- Count a WR or WRM and the bytes it moves. -/
def Dev.countWr (s : Dev) (n cls : Nat) : Dev := (s.bump Reg.SHAFT_CNT_WR_VALUE n).moved cls 64

/-! ### Commands (R166, R178) -/

/-- A command's number on the CA lines (the rule gives no code: log 163). -/
def Cmd.code : Cmd → Nat
  | .act _ _ => 0
  | .rd _ _ _ _ => 1
  | .wr _ _ _ _ => 2
  | .wrm _ _ _ _ _ => 3
  | .pre _ => 4
  | .prea => 5
  | .refpb _ => 6
  | .refab => 7
  | .rfm _ _ => 8
  | .sre => 9
  | .srx => 10
  | .mrw => 11
  | .mrr => 12

/-- The CA bits of a command, 40 for each CK: a WRM carries the WR fields in bits 15 to 0 and mask bits 23 to 0 in bits 39 to 16 of its first
CK, and mask bits 63 to 24 in its second (R166). -/
def Cmd.ca (c : Cmd) : List (BitVec 40) :=
  match c with
  | .act b row => [Config.caFields c.code b row false]
  | .rd b _ col ap => [Config.caFields c.code b col ap]
  | .wr b _ col ap => [Config.caFields c.code b col ap]
  | .wrm b _ col mask ap => [mask.extractLsb' 0 24 ++ Config.caWrm b col ap, mask.extractLsb' 24 40]
  | .pre b => [Config.caFields c.code b 0 false]
  | .refpb b => [Config.caFields c.code b 0 false]
  | .rfm b row => [Config.caFields c.code b row false]
  | _ => [Config.caFields c.code 0 0 false]

/-- The CA lines with a command on them: one odd-parity bit over all its CA bits (R166). -/
def Cmd.bus (c : Cmd) : CaBus :=
  let w := c.ca
  ⟨w, (w.foldl (fun k x => k + countOf 40 (fun i => bitN x.toNat i)) 0) % 2 == 0⟩

def Cmd.isWrite : Cmd → Bool
  | .wr _ _ _ _ => true
  | .wrm _ _ _ _ _ => true
  | _ => false

/-- The CK in 20 ns at a frequency point (R167: tWR): as long the retry buffer holds write data (R178). -/
def cks20 (point : Nat) : Nat := [32, 24].getD point 16

/-- The last group of a command with a bank: an RD or a WR, by bank group. -/
def noCol (_ : Nat) : Nat := 0

/-- A column command has gone: the row's hits, the bank group's last RD or WR, and with AP the closing of the row (R169). -/
def Dev.afterCol (s : Dev) (n b : Nat) (w ap : Bool) : Dev :=
  let ck := (s.shaft n).ck
  let s := s.modBank n b (fun k => { k with hits := k.hits + 1, rdAt := if w then k.rdAt else ck, wrAt := if w then ck else k.wrAt })
  let s := s.modShaft n (fun p => if w then { p with lastWr := sset noCol p.lastWr (b / 4) ck } else { p with lastRd := sset noCol p.lastRd (b / 4) ck })
  if ap then s.modBank n b (fun k => { k with row := none, hits := 0, preAt := (if w then
      ck + s.tm Reg.SHAFT_SETA_WRITE_WL n + 1 + s.tm Reg.SHAFT_SETA_WRITE_TWR n else max ck (k.actAt + s.tm Reg.SHAFT_SETA_ROW_TRAS n)) })
  else s

/-- What a command does to the banks: the row it opens or closes, and until when a refresh holds them. -/
def Dev.cmdBank (s : Dev) (n : Nat) (c : Cmd) : Dev :=
  let ck := (s.shaft n).ck
  let hold (s : Dev) (b t : Nat) : Dev := s.modBank n b (fun k => { k with busyTill := ck + t })
  match c with
  | .act b row =>
    (s.modBank n b (fun k => { k with row := some row, actAt := ck, hits := 0 })).modShaft n (fun p =>
      let l := p.lastActs ++ [(ck, b)]
      { p with lastActs := l.drop (l.length - 4) })
  | .rd b _ _ ap => s.afterCol n b false ap
  | .wr b _ _ ap => s.afterCol n b true ap
  | .wrm b _ _ _ ap => (s.afterCol n b true ap).modShaft n (fun p => { p with ck := p.ck + 1 })
  | .pre b => s.modBank n b (fun k => { k with row := none, preAt := ck, hits := 0 })
  | .prea => (List.range 32).foldl (fun s b => s.modBank n b (fun k => if k.row.isSome then { k with row := none, preAt := ck, hits := 0 } else k)) s
  | .refpb b => (hold s b (s.tm Reg.SHAFT_SETA_REF_TRFCPB n)).modShaft n (fun p => { p with lastRef := ck })
  | .refab => let t := s.tm Reg.SHAFT_SETA_REF_TRFCAB n; (List.range 32).foldl (fun s b => hold s b t) s
  | .rfm b _ => hold s b (s.tm Reg.SHAFT_SETA_MISC_TRFM n)
  | .sre => s.modShaft n (fun p => { p with banks := [] })
  | .srx => s.modShaft n (fun p => { p with banks := [] })
  | _ => s

/-- The command sequencer issues a command: it stands on the CA lines, in the retry buffer, which holds the last 32 and the write data of the
last 20 ns (R178), and the banks follow it. The die raises ALERT_N 12 CK (tALERT) after its last CA cycle, or after the last beat of its
write data. -/
def Dev.issue (s : Dev) (n : Nat) (c : Cmd) (read : Option (Nat × Nat) := none) (wd : Option WData := none) (again : Bool := false) : Dev :=
  let data := if c.isWrite then s.tm Reg.SHAFT_SETA_WRITE_WL n + 1 else c.ca.length - 1
  let held := cks20 (s.fv Reg.SHAFT_STATUS_POINT n)
  let s := s.modShaft n (fun p =>
    let l := p.retry ++ [⟨c, p.ck, p.ck + data + 12, again, c == .mrr, p.banks, read, wd⟩]
    { p with ca := c.bus, retry := (l.drop (l.length - 32)).map (fun x => if x.ck + held < p.ck then { x with wd := none } else x) })
  s.cmdBank n c

/-! ### Row-disturb tracking (R176, R177) -/

def Dev.showRfm (s : Dev) (n : Nat) : Dev := s.setF Reg.SHAFT_REF_STATUS_RFM_PENDING (s.shaft n).rfmQ.length n

/-- The smallest count of a table. -/
def minCount (t : List (Nat × Nat)) : Nat := (t.map (·.2)).foldl min 1000000

/-- Add an activation of a row to its bank's table. -/
def rdtAdd (t : List (Nat × Nat)) (row : Nat) : List (Nat × Nat) :=
  if t.any (fun x => x.1 == row) then t.map (fun x => if x.1 == row then (x.1, x.2 + 1) else x)
  else if t.length < 64 then t ++ [(row, 1)]
  else
    let m := minCount t
    dropFirst (fun x => x.2 == m) t ++ [(row, m + 1)]

/-- Count an ACT; at RDT_CTL.THRESH a targeted refresh of the row is queued, or forced when four are queued already. -/
def Dev.countAct (s : Dev) (n b row : Nat) : Dev :=
  let t := rdtAdd (sget (fun _ => []) (s.shaft n).rdt b) row
  let hit := t.any (fun x => x.1 == row && s.fv Reg.SHAFT_RDT_CTL_THRESH n ≤ x.2)
  let t := if hit then t.map (fun x => if x.1 == row then (x.1, 0) else x) else t
  let s := s.modShaft n (fun p => { p with rdt := sset (fun _ => []) p.rdt b t })
  if !hit then s
  else if ((s.shaft n).rfmQ.filter (fun x => x.1 == b)).length < 4 then
    (s.modShaft n (fun p => { p with rfmQ := p.rfmQ ++ [(b, row)] })).showRfm n
  else
    ((s.modShaft n (fun p => { p with rfmForce := p.rfmForce ++ [(b, row)] })).bump Reg.SHAFT_CNT_RFM_FORCED_VALUE n).raise
      (shaftPage n) Reg.EV_SHAFT_RFM_FORCED

/-- Issue every queued RFM (R177: before SRE). -/
def Dev.issueRfms (s : Dev) (n : Nat) : Dev :=
  let p := s.shaft n
  let s := (p.rfmForce ++ p.rfmDue ++ p.rfmQ).foldl (fun s x => (s.issue n (.rfm x.1 x.2)).bump Reg.SHAFT_CNT_RFM_VALUE n) s
  (s.modShaft n (fun p => { p with rfmQ := [], rfmDue := [], rfmForce := [] })).showRfm n

/-! ### Refresh rate (R174, R175) -/

/-- The rate a temperature calls for, and the one it allows when falling (2 °C below the boundary). -/
def rateFor (t : Int) : Nat := if t ≤ 85 then 0 else if t ≤ 95 then 1 else 2
def rateBelow (t : Int) : Nat := if t ≤ 83 then 0 else if t ≤ 93 then 1 else 2

/-- Show the rate in force: the temperature's rate, at least MIN_RATE, 4× while no reading comes. -/
def Dev.showRate (s : Dev) (n : Nat) : Dev :=
  let r := if s.fb Reg.SHAFT_STATUS_TEMP_STALE n then 2 else max (s.shaft n).rate (s.fv Reg.SHAFT_REF_CTL_MIN_RATE n)
  if r == s.fv Reg.SHAFT_STATUS_REF_RATE n then s
  else ((s.setF Reg.SHAFT_STATUS_REF_RATE r n).setF Reg.SHAFT_REF_STATUS_RATE r n).raise (shaftPage n) Reg.EV_SHAFT_REF_RATE

/-- At SRX the rate is the one the latest reading calls for (R175, R185); the lowering rule applies from there on. -/
def Dev.freshRate (s : Dev) (n : Nat) : Dev :=
  match (s.shaft n).temp with
  | some t =>
    (s.modShaft n (fun p => { p with rate := rateFor t, lowering := if rateBelow t < rateFor t then some (rateBelow t) else none })).showRate n
  | none => s.showRate n

/-! ### Self-refresh (R175, R180, R182) -/

/-- A refresh of a bank: its refresh pointer moves, and its row-disturb table is emptied when the pointer wraps (R173, R176). -/
def Dev.refreshed (s : Dev) (n b : Nat) : Dev :=
  s.modShaft n (fun p =>
    let k := sget (fun _ => 0) p.wraps b + 1
    if k < 8192 then { p with wraps := sset (fun _ => 0) p.wraps b k }
    else { p with wraps := sset (fun _ => 0) p.wraps b 0, rdt := sset (fun _ => []) p.rdt b [] })

/-- A REFab (R173, R175); one that stands for a refresh round has room for one touch in its tRFCab (R202). -/
def Dev.doRefab (s : Dev) (n : Nat) : Dev :=
  let till := (s.shaft n).ck + s.tm Reg.SHAFT_SETA_REF_TRFCAB n
  let s := (List.range 32).foldl (fun s b => s.refreshed n b) (s.issue n .refab)
  (s.modShaft n (fun p => { p with subAt := if p.subst then some till else none })).bump Reg.SHAFT_CNT_REF_VALUE n

/-- Entry into self-refresh: queued RFMs, PREA, SRE (R177, R180, R182). The retry buffer ends with it. -/
def Dev.enterSR (s : Dev) (n : Nat) : Dev :=
  let s := ((s.issueRfms n).issue n .prea).issue n .sre
  (s.modShaft n (fun p => { p with refDue := [], refAll := false, idleDue := [], retry := [], replay := [] })).setF Reg.SHAFT_STATUS_SELF_REFRESH 1 n

/-- Leaving self-refresh, while the clocks run (R16): SRX, tXS and one REFab; the per-bank schedule resumes at bank 0, at the rate the
latest reading calls for (R175). -/
def Dev.exitSR (s : Dev) (n : Nat) : Dev :=
  if !s.pins.refclk then s
  else
    let s := s.issue n .srx
    let s := s.modShaft n (fun p => { p with slotBank := 0, ck := p.ck + s.tm Reg.SHAFT_SETA_MISC_TXS n })
    ((s.doRefab n).setF Reg.SHAFT_STATUS_SELF_REFRESH 0 n).freshRate n

def Dev.inSR (s : Dev) (n : Nat) : Bool := s.fb Reg.SHAFT_STATUS_SELF_REFRESH n
def Dev.isParked (s : Dev) (n : Nat) : Bool := s.fb Reg.SHAFT_STATUS_PARKED n
def Dev.freqBusy (s : Dev) (n : Nat) : Bool := (s.shaft n).freq.isSome

/-! ### Margin and reject flags (R200, R204, R212, R213) -/

def Dev.setMargin (s : Dev) (n : Nat) : Dev :=
  let a := 0x7060 + 4 * (n / 32)
  (s.wrReg a (withBits (s.rdReg a) (n % 32) (n % 32) 1)).raise pgCALREF Reg.EV_CALREF_SHAFT_MARGIN

def Dev.setReject (s : Dev) (n why : Nat) : Dev :=
  let a := 0x7068 + 4 * (n / 32)
  (s.wrReg a (withBits (s.rdReg a) (n % 32) (n % 32) 1)).raiseRec pgCALREF Reg.EV_CALREF_SHAFT_REJECT sevWARNING [n, why]

/-! ### Taps (R195, R196) and the short retrain (R201) -/

def tapReset : TapBank := ⟨[], []⟩
def bitReset (_ : Nat) : Nat × Nat := (64, 64)
def laneReset (_ : Nat) : LaneTap := ⟨96, 96, 32, 32⟩

def Dev.taps (s : Dev) (n point : Nat) : TapBank := sget (fun _ => tapReset) (s.shaft n).taps point
def Dev.setTaps (s : Dev) (n point : Nat) (t : TapBank) : Dev :=
  s.modShaft n (fun p => { p with taps := sset (fun _ => tapReset) p.taps point t })
def TapBank.bit (t : TapBank) (i : Nat) : Nat × Nat := sget bitReset t.bits i
def TapBank.lane (t : TapBank) (b : Nat) : LaneTap := sget laneReset t.lanes b
/-- The canonical sparse list of a function on the first `k` keys. -/
def stab {β : Type} [DecidableEq β] (d : Nat → β) (k : Nat) (f : Nat → β) : Sparse β :=
  (List.range k).filterMap (fun i => if f i = d i then none else some (i, f i))

def TapBank.setBit (t : TapBank) (i : Nat) (v : Nat × Nat) : TapBank := { t with bits := sset bitReset t.bits i v }
def TapBank.setLane (t : TapBank) (b : Nat) (v : LaneTap) : TapBank := { t with lanes := sset laneReset t.lanes b v }

/-- A tap of a lane by its quantity: 0 read strobe, 1 write strobe, 2 read Vref, 3 write Vref. -/
def LaneTap.qty (t : LaneTap) (q : Nat) : Nat := if q == 0 then t.rd else if q == 1 then t.wr else if q == 2 then t.rdV else t.wrV
def LaneTap.setQty (t : LaneTap) (q v : Nat) : LaneTap :=
  if q == 0 then { t with rd := v % 256 } else if q == 1 then { t with wr := v % 256 }
  else if q == 2 then { t with rdV := v % 64 } else { t with wrV := v % 64 }

/-- A calibration of shaft `n` is complete: it is counted and stamped with the tally time (R200, R201, R204); during a ground-die reset with
the last one the tile received (R207). -/
def Dev.calStamp (s : Dev) (n : Nat) : Dev :=
  let t := match s.ks.gdr with
    | some g => g.tally
    | none => s.rdReg 0x5058
  (s.bump Reg.SHAFT_CAL_COUNT_COUNT n).wrReg (shaftPage n * 4096 + 0x214) t

/-- A short retrain (R201) takes the helper lease for its length, unless the change it belongs to holds it, and recentres the strobes of the
lanes it names at the active point: the midpoint of the passing run. One that is refused or finds no window is recorded (R205). -/
def Dev.shortRetrain (s : Dev) (n : Nat) (o : ShortObs) : Dev :=
  let mine := (s.lease (lsHelper n)).holder == hoTRAIN
  let (ok, s) := if mine then (true, s) else s.askLease (lsHelper n) hoTRAIN rkINTEGRITY
  let s := if ok && !mine then s.dropLease (lsHelper n) hoTRAIN else s
  let why := if !ok then rsLEASE_BUSY else if !o.ok then rsNO_WINDOW else 0
  if why != 0 then (s.setF Reg.SHAFT_RETRAIN_STATUS_REASON why n).record (shaftPage n) codeOTHER sevWARNING [why]
  else
    let pt := s.fv Reg.SHAFT_STATUS_POINT n
    let t := o.runs.foldl (fun (t : TapBank) r =>
      let q := b2n r.2.1
      let v := (t.lane r.1.val).qty q + 2 * (r.2.2.1.val + r.2.2.2.val)
      t.setLane r.1.val ((t.lane r.1.val).setQty q (clampTo 16 271 v - 16))) (s.taps n pt)
    (s.setTaps n pt t).calStamp n

/-- May retraining rounds run on the shaft (R202, R207)? -/
def Dev.roundsOn (s : Dev) (n : Nat) : Bool :=
  let st := s.shaftSt n
  s.fb Reg.SHAFT_RETRAIN_CTL_EN n && (st == stONLINE || st == stEVACUATING || st == stFENCED || st == stTESTING) && !(s.isParked n) &&
    !(s.fb Reg.HEAT_STATUS_TRIPPED)

/-- A round of 37 touches starts (R202). -/
def Dev.startRound (s : Dev) (n : Nat) : Dev :=
  s.modShaft n (fun p => { p with roundOn := true, touchAt := 0, subst := false, subAt := none, tapHit := false, roundTemp := p.temp })

/-- Has the temperature moved by 8 °C since the last round began (R204)? -/
def ShaftSt.drifted (p : ShaftSt) (t : Int) : Bool :=
  match p.roundTemp with
  | some x => decide (8 ≤ t - x) || decide (8 ≤ x - t)
  | none => false

/-- Does the DRAM refresh itself, so that a reading's rate applies only from SRX on: it is in self-refresh, or a frequency change is in its
steps 2 to 5 (R175, R185)? -/
def Dev.refreshesItself (s : Dev) (n : Nat) : Bool :=
  s.inSR n || (match (s.shaft n).freq with
    | some c => decide (2 ≤ c.step) && decide (c.step ≤ 5)
    | none => false)

/-- A temperature in °C reaches the controller (R174, R175, R204): a reading raises the rate at once; a lower rate needs 32 ms of readings 2 °C below the
boundary; the first reading after TEMP_STALE sets the rate it calls for. While the DRAM refreshes itself the reading is only kept. -/
def Dev.tempIn (s : Dev) (n : Nat) (t : Int) : Dev :=
  let s := s.setF Reg.SHAFT_REF_STATUS_TEMP (if t < 0 then 0 else min 255 t.toNat) n
  let p := s.shaft n
  let stale := s.fb Reg.SHAFT_STATUS_TEMP_STALE n
  let rate := if stale then rateFor t else max p.rate (rateFor t)
  let low := if rateBelow t < rate then some (match p.lowering with
      | some x => max x (rateBelow t)
      | none => rateBelow t) else none
  let low := if stale && rateBelow t < rate then some (rateBelow t) else low
  let drift := p.drifted t
  let s := s.setF Reg.SHAFT_STATUS_TEMP_STALE 0 n
  let s := if s.refreshesItself n then s.modShaft n (fun p => { p with temp := some t })
    else (s.modShaft n (fun p => { p with temp := some t, rate := rate, lowering := low })).showRate n
  if drift && s.roundsOn n then s.startRound n else s

/-- REFRESH_RATE_LOWER (R174): the 32 ms are over. -/
def Dev.rateLower (s : Dev) (n : Nat) : Dev :=
  match (s.shaft n).lowering, (s.shaft n).temp with
  | some r, some t =>
    (s.modShaft n (fun p => { p with rate := r, lowering := if rateBelow t < r then some (rateBelow t) else none })).showRate n
  | _, _ => s

def execRefreshRateLower (n : Fin 48) (s : State) : Host.Outcome State Fault Refusal := s.on fun s => .next (s.rateLower n)

/-- TEMP_STALE (R175): no reading has come for 10 ms. -/
def Dev.tempStale (s : Dev) (n : Nat) : Dev :=
  if s.fb Reg.SHAFT_STATUS_TEMP_STALE n then s
  else
    let s := (s.setF Reg.SHAFT_STATUS_TEMP_STALE 1 n).raise (shaftPage n) Reg.EV_SHAFT_TEMP_STALE
    (s.modShaft n (fun p => { p with lowering := none })).showRate n

def execTempStale (n : Fin 48) (s : State) : Host.Outcome State Fault Refusal := s.on fun s => .next (s.tempStale n)

end Sys2Proof.Machine
end

