-- ==== Sys2Proof/Machine/Shaft.lean ====
section
/-!
DEFINITION. Machine/Shaft.lean: the shaft controller (R163 to R186): work taken from the collar queue and the local path, the command
issued in each CK, atomics, refresh slots, row-disturb refresh, alerts and replay, parking and frequency change.
-/
namespace Sys2Proof.Machine

/-- The frame whose slot a row of the shaft belongs to. -/
def Dev.frameAt (s : Dev) (n slot : Nat) : Option Nat :=
  (s.space.ways.find? (fun x => x.2.valid && x.2.shaft == n && x.2.slot == slot)).map (fun x => frameFrom (x.1 / 18) x.2.tag)

/-- The host line that line `l` of the shaft holds; of a slot that no frame has, only the place in it. -/
def Dev.hostLine (s : Dev) (n l : Nat) : Nat :=
  (match s.frameAt n (l / 8192) with
   | some f => f * 8192
   | none => 0) + l % 8192

/-- The controller's own read of line `l`, under class 62: of a visit (`k` 0), a rewrite (1), a row repair (2) or a column copy (3). It waits at
its own source. -/
def Dev.readOwn (s : Dev) (n k l : Nat) : Dev :=
  let q : Req := { id := s.nextId, org := .scrub k, op := .rd, cls := 62, line := s.hostLine n l, shaft := n, sline := l, loc := true }
  s.fresh.modShaft n (fun p => { p with scrubQ := p.scrubQ ++ [q] })

/-! ### The tracker's status and repairs (R281, R282, R286) -/

def Dev.showTrack (s : Dev) (n : Nat) : Dev :=
  let t := (s.shaft n).tracker
  (s.setF Reg.SHAFT_TRACK_STATUS_ENTRIES t.length n).setSat Reg.SHAFT_TRACK_STATUS_WEAK (t.filter (fun e => e.st == 2)).length n

/-- The repair entries of R286. -/
def rowEntry (n bank row : Nat) : Nat := 2 ^ 28 + n * 2 ^ 22 + bank * 2 ^ 17 + row
def colEntry (n bank col : Nat) : Nat := 2 * 2 ^ 28 + n * 2 ^ 22 + bank * 2 ^ 17 + col

def Dev.usedRows (s : Dev) (n b : Nat) : Nat := ((s.shaft n).rowMap.filter (fun x => x.1 == b)).length
def Dev.usedCols (s : Dev) (n b : Nat) : Nat := ((s.shaft n).colMap.filter (fun x => x.1 == b)).length

/-! ### Taking work (R163 to R165, R168, R270, R341) -/

/-- The lines of the shaft an access concerns, first and last: a sector operation has 64. -/
def shaftSpan (r : Req) : Nat × Nat :=
  match r.op with
  | .capture => (r.sline / 64 * 64, r.sline / 64 * 64 + 63)
  | .zfill => (r.sline / 64 * 64, r.sline / 64 * 64 + 63)
  | _ => (r.sline, r.sline)

def reqOn (r : Req) (l : Nat) : Bool := spansMeet (shaftSpan r) (l, l)

/-- Does a window entry concern line `l`? -/
def WinE.on (w : WinE) (l : Nat) : Bool := reqOn w.req l

/-- A zero-fill has still to put zeros on line `l`. -/
def ShaftSt.zeroing (p : ShaftSt) (l : Nat) : Bool :=
  match p.zin with
  | some z => reqOn z.req l && decide (z.req.sline / 64 * 64 + z.next ≤ l)
  | none => false

/-! ### The lines of a column copy (R285) -/

/-- The first index from `i` on, of the next `k`, that is not to be skipped. -/
def skipped (p : Nat → Bool) : Nat → Nat → Nat
  | 0, i => i
  | k + 1, i => if p i then skipped p k (i + 1) else i

/-- Is line `l` of the column? -/
def ColRun.on (x : ColRun) (l : Nat) : Bool := bankOf l == x.bank && colOf l == x.col
/-- Line `i` of the staging. -/
def ColRun.stageLine (x : ColRun) (i : Nat) : Nat := x.slots.getD (i / 8192) 0 * 8192 + i % 8192
/-- The row the copy is at: the rows of the lent slots hold nothing to copy. -/
def ColRun.atRow (x : ColRun) : Nat := skipped (fun r => x.slots.contains (r / 8)) 96 x.row
/-- The staging line the copy is at: those of the column itself are not used. -/
def ColRun.atStage (x : ColRun) : Nat := skipped (fun i => x.on (x.stageLine i)) 96 x.stage
/-- The line to be read next and the line it is written to: column to staging, and back once the column is mapped. -/
def ColRun.src (x : ColRun) : Nat := if x.mapped then x.stageLine x.atStage else lineAt x.bank x.atRow x.col
def ColRun.dest (x : ColRun) : Nat := if x.mapped then lineAt x.bank x.atRow x.col else x.stageLine x.atStage
/-- Have all rows been copied, this way? -/
def ColRun.past (x : ColRun) : Bool := decide (rowsPerBank ≤ x.atRow)
/-- The line has been written. -/
def ColRun.advance (x : ColRun) : ColRun := { x with row := x.atRow + 1, stage := x.atStage + 1, reading := false, line := none }

/-- Is a read one of a repair's own (R282, R285)? -/
def ofRepair (r : Req) : Bool := r.org == .scrub 2 || r.org == .scrub 3

/-- Line `l` is of the row or the column being repaired, to which accesses hold (R282, R285). -/
def ShaftSt.repairing (p : ShaftSt) (l : Nat) : Bool :=
  match p.rep with
  | some x => bankOf l == x.bank && rowOf l == x.row
  | none => match p.colRun with
    | some x => !x.slots.isEmpty && x.on l
    | none => false

/-- An access to line `l` that entered the window is not complete, or a unit or a zero-fill holds the line. -/
def ShaftSt.lineBusy (p : ShaftSt) (l : Nat) : Bool :=
  p.win.any (fun w => w.on l) || p.units.any (fun u => u.sline == l) || p.zeroing l

/-- The key of work on the lines of `span`, raised to that of any later access to one of them (R164): those that wait outside and those of
the window in `win`. -/
def Dev.raisedKey (s : Dev) (n k : Nat) (span : Nat × Nat) (win : List WinE) : Nat :=
  let p := s.shaft n
  let same := (p.collar.map (·.1) ++ p.localq ++ win.map (·.req)).filter (fun q => spansMeet (shaftSpan q) span)
  same.foldl (fun k q => max k (s.key q.cls q.urg q.starved)) k

/-- The key of an access, raised to that of any later access to its lines (R164); `win` are the window entries that came after it. -/
def Dev.lineKey (s : Dev) (n : Nat) (r : Req) (win : List WinE := []) : Nat :=
  s.raisedKey n (s.key r.cls r.urg r.starved) (shaftSpan r) win

/-- May an access enter the window or the write buffer now? -/
def ShaftSt.mayEnter (p : ShaftSt) (r : Req) : Bool :=
  let room := !(p.lineBusy r.sline) && (p.wbuf.any (fun w => w.sline == r.sline) || decide (p.wbuf.length < 64))
  match r.op with
  | .wr => room
  | .wrm => room
  | .zfill => p.zin.isNone && !(p.win.any (fun w => spansMeet (shaftSpan w.req) (shaftSpan r))) &&
      !(p.units.any (fun u => reqOn r u.sline))
  | _ => decide (p.win.length < 64)

def isScrub (r : Req) : Bool := match r.org with
  | .scrub _ => true
  | _ => false

/-- Work a FENCED or TESTING shaft serves: haulage's captures, the reads of moves out of it (R341), and the controller's own (R340). -/
def fencedWork (r : Req) : Bool := match r.org with
  | .wback _ => true
  | .move _ => r.op == .rd
  | .scrub _ => true
  | _ => false

/-- Does the shaft's state let this access be served now? -/
def served (st : Nat) (r : Req) : Bool :=
  st == stONLINE || st == stEVACUATING || ((st == stFENCED || st == stTESTING) && fencedWork r)

/-- The accesses that wait at one source, the first one for its lines only. -/
def firstOf (seen : List (Nat × Nat)) : List (Req × Nat) → List (Req × Nat)
  | [] => []
  | x :: l => if seen.any (fun y => spansMeet y (shaftSpan x.1)) then firstOf seen l else x :: firstOf (shaftSpan x.1 :: seen) l

/-- The accesses that wait, each with its source and the collar credit it holds: 2 the collar queue with a device-share credit, 1 the collar
queue with a general one, 0 the local path, 3 the controller's own reads. -/
def ShaftSt.queued (p : ShaftSt) : List (Req × Nat) :=
  firstOf [] (p.collar.map (fun x => (x.1, if x.2 then 2 else 1))) ++ firstOf [] (p.localq.map (fun r => (r, 0))) ++
    p.scrubQ.map (fun r => (r, 3))

/-- The place of a source in the rotation at the controller's intake (R12, R138): the collar, the local path, the controller itself. -/
def intakeSrc (x : Nat) : Nat := if x == 0 then 1 else if x == 3 then 2 else 0

/-- A write enters the write buffer (R165, R270): a host write with bad parity of data or mask is refused, any other one is written poisoned;
the poison signature itself is written as it stands (R272). -/
def Dev.takeWrite (s : Dev) (n : Nat) (r : Req) (credit : Nat) : Dev :=
  let mask := if r.op == .wr then fullMask else r.mask
  let bad := badBytes r.data r.par &&& mask
  let host := match r.org with
    | .host _ _ => true
    | _ => false
  let move := match r.org with
    | .move _ => true
    | _ => false
  let sig := isPoison r.data (badBytes r.data r.par) && mask == fullMask && !host
  let put (s : Dev) (d : Line) (m b : BitVec 64) : Dev :=
    s.modShaft n (fun p => p.bufPut ⟨r.sline, r.line, d, m, b, r.cls, r.urg, credit, 0⟩)
  if bad == 0 && !r.maskBad then (put s r.data mask bad).shaftAnswer n r .ack
  else if sig && !r.maskBad then (put (if move then s else s.signed n) r.data mask bad).shaftAnswer n r .ack
  else
    let s := if host then s else s.signed n
    let s := (s.bump Reg.SHAFT_CNT_PARITY_IN_VALUE n).record (shaftPage n) 0x102 sevERROR [r.sline, originCode r.org]
    match r.org with
    | .host _ _ => s.shaftAnswer n r (.error 3 6)
    | .engine m _ => ((put s 0 fullMask poisonBad).bump Reg.ENGINE_CNT_POISON_VALUE m).shaftAnswer n r .ack
    | _ => (put s 0 fullMask poisonBad).shaftAnswer n r .ack

/-- Take one access. -/
def Dev.takeOne (s : Dev) (n : Nat) (x : Req × Nat) : Dev :=
  let s := (s.granted (arbShaft n) (intakeSrc x.2)).modShaft n (fun p =>
    { p with collar := if x.2 == 1 || x.2 == 2 then dropFirst (fun y => y.1 == x.1) p.collar else p.collar,
             localq := if x.2 == 0 then dropFirst (fun y => y == x.1) p.localq else p.localq,
             scrubQ := if x.2 == 3 then dropFirst (fun y => y == x.1) p.scrubQ else p.scrubQ })
  let r := x.1
  let credit := if x.2 == 3 then 0 else x.2
  match r.op with
  | .wr => s.takeWrite n r credit
  | .wrm => if r.mask == 0 then s.shaftAnswer n r .ack else s.takeWrite n r credit
  | .zfill => s.modShaft n (fun p => { p with zin := some ⟨r, 0, credit⟩ })
  | _ => s.modShaft n (fun p =>
      { p with win := p.win ++ [⟨{ r with starved := false }, 0, [], false, credit, p.taken⟩], taken := p.taken + 1 })

/-- Take accesses by key while there is space; among equal keys the sources rotate (R12, R138). -/
def Dev.intakeN : Nat → Dev → Nat → Dev
  | 0, s, _ => s
  | k + 1, s, n =>
    let p := s.shaft n
    let st := s.shaftSt n
    match bestBy (fun x => s.lineKey n x.1 * 128 + turn (s.lastAt (arbShaft n)) (intakeSrc x.2))
        (p.queued.filter (fun x => served st x.1 && p.mayEnter x.1)) with
    | none => s
    | some x => Dev.intakeN k (s.takeOne n x) n

/-- The lines of a zero-fill enter the write buffer as space frees; the fill is complete when all 64 are held (R163). -/
def Dev.zinStep (s : Dev) (n : Nat) : Dev :=
  let p := s.shaft n
  match p.zin with
  | none => s
  | some z =>
    let room := min (64 - p.wbuf.length) (64 - z.next)
    let p := (List.range room).foldl (fun (p : ShaftSt) i =>
      p.bufPut ⟨z.req.sline + z.next + i, z.req.line / 64 * 64 + z.next + i, 0, fullMask, 0, z.req.cls, z.req.urg, 0, 0⟩) p
    if z.next + room < 64 then s.setShaft n { p with zin := some { z with next := z.next + room } }
    else (s.setShaft n { p with zin := none }).shaftAnswer n z.req .ack

def Dev.intake (s : Dev) (n : Nat) : Dev :=
  let s := s.zinStep n
  (s.intakeN ((s.shaft n).collar.length + (s.shaft n).localq.length + (s.shaft n).scrubQ.length) n).zinStep n

/-! ### A line for its requester -/

/-- The last line of a scrub visit has been treated (R277, R278): the helper lease it took for its comparison is free; in the first row of a
slot that holds DIRTY sectors of a far window haulage writes them back; the visit moves on. -/
def Dev.visitEnd (s : Dev) (n : Nat) : Dev :=
  let s := s.dropLease (lsHelper n) hoSCRUB
  let b := s.fv Reg.SHAFT_SCRUB_POS_BANK n
  let r := s.fv Reg.SHAFT_SCRUB_POS_ROW n
  let s := if s.fb Reg.SHAFT_SCRUB_CTL_WB_DIRTY n && r % 8 == 0 then
      match s.frameAt n (r / 8) with
      | some f => (match s.farPortOf f, s.entry f with
        | some _, some e => if e.dcount == 0 then s else s.addJob f e.dirties .demote
        | _, _ => s)
      | none => s
    else s
  if r + 1 < rowsPerBank then s.setF Reg.SHAFT_SCRUB_POS_ROW (r + 1) n
  else
    let s := s.setF Reg.SHAFT_SCRUB_POS_ROW 0 n
    if b < 31 then s.setF Reg.SHAFT_SCRUB_POS_BANK (b + 1) n
    else ((s.setF Reg.SHAFT_SCRUB_POS_BANK 0 n).bump Reg.SHAFT_SCRUB_STATUS_PASSES n).modShaft n (fun p => { p with cols := [] })

/-- One of the controller's own reads has ended: a visit counts its lines, a repair keeps the line. -/
def Dev.scrubGot (s : Dev) (n k l : Nat) (y : Line × BitVec 64) : Dev :=
  if k == 0 then
    let s := s.modShaft n (fun p => { p with scrubLeft := p.scrubLeft - 1 })
    if (s.shaft n).scrubLeft == 0 then s.visitEnd n else s
  else if k == 2 then s.modShaft n (fun p => { p with rep := p.rep.map (fun x => { x with got := x.got ++ [(l, y.1, y.2)] }) })
  else if k == 3 then s.modShaft n (fun p => { p with colRun := p.colRun.map (fun x => { x with line := some y }) })
  else s

/-- A line has come for the access of window entry `r`, number `idx` of a capture, which collects its 64. -/
def Dev.giveLine (s : Dev) (n : Nat) (r : Req) (idx l : Nat) (y : Line × BitVec 64) : Dev :=
  let done (s : Dev) : Dev := s.modShaft n (fun p => { p with win := p.win.filter (fun w => w.req.id != r.id) })
  match r.op, r.org with
  | .capture, _ =>
    (match (s.shaft n).win.find? (fun w => w.req.id == r.id) with
     | none => s
     | some w =>
       let got := w.got ++ [(idx, y)]
       if got.length < 64 then
         s.modShaft n (fun p => { p with win := p.win.map (fun x => if x.req.id == r.id then { x with got := got } else x) })
       else
         (done s).shaftAnswer n r (.lines ((List.range 64).map (fun i => ((got.find? (fun x => x.1 == i)).map (·.2)).getD (0, 0)))))
  | _, .scrub k => (done s).scrubGot n k l y
  | _, _ => (done s).shaftAnswer n r (lineResult y)

/-! ### The command of one CK (R166 to R169, R172, R173, R177) -/

/-- Work that wants the cells: a window entry, a burst to be read again, a line of the write buffer, a unit's write, or a line of the repair
buffer (R282). -/
inductive Want where
  | rd (i : Nat) (w : WinE)
  | again (f : RdFly)
  | wr (w : WEnt)
  | unit (u : AUnit) (v : Line × BitVec 64 × BitVec 64)
  | copy (l : Nat) (d : Line) (bad : BitVec 64)
  deriving DecidableEq, Repr

def Want.line : Want → Nat
  | .rd _ w => w.req.sline + w.next
  | .again f => f.sline
  | .wr w => w.sline
  | .unit u _ => u.sline
  | .copy l _ _ => l
def Want.isW : Want → Bool
  | .rd _ _ => false
  | .again _ => false
  | _ => true
def Want.age : Want → Nat
  | .rd _ w => w.age
  | .again f => f.age
  | .wr w => w.age
  | .unit u _ => u.age
  | .copy _ _ _ => 0

/-- Is work of the correction order: a re-read or a re-sense (R170)? -/
def Want.isAgain : Want → Bool
  | .again _ => true
  | _ => false

/-- A window entry may go on: no earlier access to its line is unfinished or in the correction order, no unit or zero-fill holds the line,
its row is not under repair, and an atomic has a free unit (R164, R172, R274, R282). -/
def ShaftSt.ready (p : ShaftSt) (i : Nat) (w : WinE) : Bool :=
  let l := w.req.sline + w.next
  !w.issued && !(p.units.any (fun u => u.sline == l)) && !(p.zeroing l) && (!(p.repairing l) || ofRepair w.req) &&
  !(p.fly.any (fun f => f.sline == l && (f.stage != 0 || f.wait != 0))) &&
  (ofRepair w.req || !((p.win.take i).any (fun v => v.on l && (!v.issued || (match v.req.op with
    | .atom _ => true
    | _ => false))))) &&
  (match w.req.op with
   | .atom _ => decide ((p.units.filter (fun u => !u.fix)).length < 16)
   | _ => true)

/-- A burst may be read again: no unit holds its line, and no earlier burst of the line is unfinished. -/
def ShaftSt.mayAgain (p : ShaftSt) (f : RdFly) : Bool :=
  f.wait == 1 && !(p.units.any (fun u => u.sline == f.sline && u.id != f.req.id)) &&
    !(p.fly.any (fun g => g.sline == f.sline && decide (g.age < f.age)))

def enumFrom (i : Nat) : List WinE → List (Nat × WinE)
  | [] => []
  | w :: l => (i, w) :: enumFrom (i + 1) l

/-- The lines of the repair buffer still to be written (R282 step 4), or the line of a column copy (R285). -/
def ShaftSt.copies (p : ShaftSt) : List Want :=
  (match p.rep with
   | some x => if x.mapped then (x.got.filter (fun y => x.left.contains (colOf y.1))).map (fun y => .copy y.1 y.2.1 y.2.2) else []
   | none => []) ++
  (match p.colRun with
   | some x => (match x.line with
     | some y => [.copy x.dest y.1 y.2]
     | none => [])
   | none => [])

/-- Everything that wants the cells. -/
def ShaftSt.wants (p : ShaftSt) : List Want :=
  (p.fly.filter p.mayAgain).map .again ++
  (p.units.filter (fun u => decide (u.from_ ≤ p.ck))).filterMap (fun u => u.value.map (fun v => .unit u v)) ++
  ((enumFrom 0 p.win).filter (fun x => p.ready x.1 x.2)).map (fun x => .rd x.1 x.2) ++
  (p.wbuf.filter (fun w => !(p.units.any (fun u => u.sline == w.sline)) && !(p.repairing w.sline))).map .wr ++ p.copies

/-- The key of work that wants the cells, raised to that of later accesses to its line (R164). -/
def Dev.wantKey (s : Dev) (n : Nat) : Want → Nat
  | .rd i w => s.lineKey n w.req ((s.shaft n).win.drop (i + 1))
  | .again f => s.lineKey n f.req (s.shaft n).win
  | .wr w => s.raisedKey n (s.key w.cls w.urg false) (w.sline, w.sline) (s.shaft n).win
  | .unit u _ => s.raisedKey n (s.key u.cls u.urg false) (u.sline, u.sline) (s.shaft n).win
  | .copy l _ _ => s.raisedKey n (s.key 62 0 false) (l, l) (s.shaft n).win

/-- Is a bank kept from accesses by a refresh or an RFM that is due (R168 rule 1, R173, R177)? -/
def ShaftSt.bankHeld (p : ShaftSt) (b : Nat) : Bool :=
  p.refAll || p.refDue.contains b || (p.rfmDue ++ p.rfmForce).any (fun x => x.1 == b)

/-- May the open row of a bank be closed in this CK: tRAS since ACT, tWR since the last write data? -/
def Dev.preLegal (s : Dev) (n b : Nat) : Bool :=
  let k := s.bank n b
  let ck := (s.shaft n).ck
  k.actAt + s.tm Reg.SHAFT_SETA_ROW_TRAS n ≤ ck &&
  (k.wrAt == 0 || k.wrAt + s.tm Reg.SHAFT_SETA_WRITE_WL n + 1 + s.tm Reg.SHAFT_SETA_WRITE_TWR n ≤ ck)

/-- May a closed bank take an ACT, or a refresh: tRP since PRE and no refresh still running? -/
def Dev.idleLegal (s : Dev) (n b : Nat) : Bool :=
  let k := s.bank n b
  let ck := (s.shaft n).ck
  (k.preAt == 0 || k.preAt + s.tm Reg.SHAFT_SETA_ROW_TRP n ≤ ck) && k.busyTill ≤ ck

/-- May a row be opened in this CK: tRC, tRRD and tFAW? -/
def Dev.actLegal (s : Dev) (n b : Nat) : Bool :=
  let p := s.shaft n
  let k := s.bank n b
  s.idleLegal n b && (k.actAt == 0 || k.actAt + s.tm Reg.SHAFT_SETA_ROW_TRC n ≤ p.ck) &&
  p.lastActs.all (fun x => x.1 + (if x.2 / 4 == b / 4 then s.tm Reg.SHAFT_SETA_ACT_TRRD_L n else s.tm Reg.SHAFT_SETA_ACT_TRRD_S n) ≤ p.ck) &&
  (match p.lastActs with
   | x :: _ :: _ :: _ :: [] => decide (x.1 + s.tm Reg.SHAFT_SETA_ACT_TFAW n ≤ p.ck)
   | _ => true)

/-- May a column command go in this CK: tRCD, and from the last RD and WR of every bank group tCCD, tWTR after the write data, and tRTW
(R167)? -/
def Dev.colLegal (s : Dev) (n b : Nat) (w : Bool) : Bool :=
  let p := s.shaft n
  let k := s.bank n b
  let past (m : Sparse Nat) (gap : Bool → Nat) : Bool := m.all (fun x => decide (x.2 + gap (x.1 == b / 4) ≤ p.ck))
  let ccd (same : Bool) : Nat := if same then s.tm Reg.SHAFT_SETA_READ_TCCD_L n else s.tm Reg.SHAFT_SETA_READ_TCCD_S n
  let wtr (same : Bool) : Nat :=
    s.tm Reg.SHAFT_SETA_WRITE_WL n + 1 + (if same then s.tm Reg.SHAFT_SETA_WRITE_TWTR_L n else s.tm Reg.SHAFT_SETA_WRITE_TWTR_S n)
  k.actAt + s.tm Reg.SHAFT_SETA_ROW_TRCD n ≤ p.ck &&
  (if w then past p.lastWr ccd && past p.lastRd (fun _ => s.tm Reg.SHAFT_SETA_READ_TRTW n) else past p.lastRd ccd && past p.lastWr wtr)

/-- The command a piece of work needs next, if it is legal now: a column command, an ACT, or the PRE of a row that has had its
ROW_HIT_MAX hits while an access to another row of the bank, of no lower key, waits (R168, R169). A re-sense closes the row first (R273). -/
inductive NextC where
  | col | act | pre
  deriving DecidableEq, Repr

def Dev.nextOf (s : Dev) (n : Nat) (ws : List (Want × Nat)) (w : Want) (key : Nat) : Option NextC :=
  let b := bankOf w.line
  let k := s.bank n b
  let p := s.shaft n
  let full := s.fv Reg.SHAFT_SCHED_CTL_ROW_HIT_MAX n ≤ k.hits &&
    ws.any (fun v => bankOf v.1.line == b && some (rowOf v.1.line) != k.row && decide (key ≤ v.2))
  let opens := match w with
    | .again f => f.stage == 3 && !f.shut
    | _ => false
  if p.bankHeld b then none
  else match k.row with
  | some r =>
    if opens then (if s.preLegal n b then some .pre else none)
    else if r == rowOf w.line then (if full || !(s.colLegal n b w.isW) then none else some .col)
    else if full && s.preLegal n b then some .pre
    else none
  | none => if s.actLegal n b then some .act else none

/-- Close a bank (R169). -/
def Dev.doPre (s : Dev) (n b : Nat) : Dev :=
  (s.issue n (.pre b)).modShaft n (fun p => { p with idleDue := p.idleDue.filter (· != b) })

/-- An ACT, counted for its row (R176). -/
def Dev.doAct (s : Dev) (n b row : Nat) : Dev := ((s.issue n (.act b row)).bump Reg.SHAFT_CNT_ACT_VALUE n).countAct n b row

/-- Column commands carry the AP bit: ROW_IDLE is 0 (R169). -/
def Dev.closesRow (s : Dev) (n : Nat) : Bool := s.fv Reg.SHAFT_SCHED_CTL_ROW_IDLE n == 0

/-- No write waits for a line. -/
def noWEnt (l : Nat) : WEnt := ⟨l, 0, 0, 0, 0, 0, 0, 0, 0⟩

/-- The CK at which the data of an RD issued now are in (R167: RL, and one CK of burst). -/
def Dev.dataAt (s : Dev) (n : Nat) : Nat := (s.shaft n).ck + s.tm Reg.SHAFT_SETA_READ_RL n + 1

/-- The RD of a line: one command and 64 bytes of a class (R168, R187). -/
def Dev.sendRd (s : Dev) (n : Nat) (f : RdFly) : Dev :=
  ((s.issue n (.rd (bankOf f.sline) (rowOf f.sline) (colOf f.sline) (s.closesRow n)) (some (f.req.id, f.idx))).bump
    Reg.SHAFT_CNT_RD_VALUE n).moved f.req.cls 64

/-- The first RD of a window entry: what the cells hold now, with the write buffer's bytes on top; an atomic takes a unit. -/
def Dev.doRd (s : Dev) (n i : Nat) (w : WinE) : Dev :=
  let l := w.req.sline + w.next
  let ov := ((s.shaft n).wbuf.find? (fun e => e.sline == l)).getD (noWEnt l)
  let f : RdFly := ⟨w.req, w.next, l, s.dramLine n l, s.dramBadOf n l, ov.data, ov.mask, ov.bad, 0, s.dataAt n, 0, false, w.age⟩
  let last := w.req.op != .capture || w.next + 1 == 64
  let w' : WinE := { w with next := if w.req.op == .capture && !last then w.next + 1 else w.next, issued := last,
                            credit := if last then 0 else w.credit }
  let unit : List AUnit := match w.req.op with
    | .atom _ => [⟨w.req.id, l, w.req.line, w.req.cls, w.req.urg, w.age, false, 0, none⟩]
    | _ => []
  (s.modShaft n (fun p => { p with fly := p.fly ++ [f], win := setAt p.win i w', units := p.units ++ unit })).sendRd n f

/-- A burst is read again (R170, R273). -/
def Dev.doAgain (s : Dev) (n : Nat) (f : RdFly) : Dev :=
  (s.modShaft n (fun p => { p with fly := p.fly.map (fun x =>
    if x == f then { f with data := s.dramLine n f.sline, bad := s.dramBadOf n f.sline, wait := 0, due := s.dataAt n } else x) })).sendRd n f

/-- A WR or WRM; a masked write takes a second CK of CA (R166). -/
def Dev.doWr (s : Dev) (n l host : Nat) (d : Line) (mask bad : BitVec 64) (cls : Nat) : Dev :=
  let ap := s.closesRow n
  let c : Cmd := if mask == fullMask then .wr (bankOf l) (rowOf l) (colOf l) ap else .wrm (bankOf l) (rowOf l) (colOf l) mask ap
  ((s.cellWrite n l d mask bad).countWr n cls).issue n c none (some ⟨l, host, d, mask, bad⟩)

/-- A write the buffer has held since before a read of its line carries what the read's unit writes from then on (R164). -/
def WEnt.laterWord (u : AUnit) (v : Line × BitVec 64 × BitVec 64) (e : WEnt) : WEnt :=
  if e.sline == u.sline then
    { e with data := mergeLine e.data v.1 v.2.1, bad := (e.bad &&& (fullMask ^^^ v.2.1)) ||| (v.2.2 &&& v.2.1 &&& e.mask) }
  else e

/-- The end of a row repair (R282 step 5, R283): the spare is in use, and the entry joins the shadow repair list. -/
def Dev.rowMapped (s : Dev) (n b r spare : Nat) : Dev :=
  let s := s.modShaft n (fun p => { p with rowMap := p.rowMap ++ [(b, r, spare)],
                                           tracker := p.tracker.filter (fun t => !(t.bank == b && t.row == r)) })
  let s := ((s.showTrack n).addRepair (rowEntry n b r)).bump Reg.SHAFT_CNT_ROW_REPAIR_VALUE n
  let s := s.raiseDie n Reg.EV_DIE_ROW_REPAIRED
  if 64 - (spare + 1) < s.fv Reg.DIE_SPARE_LOW_THRESH (n / 4) then s.raiseDie n Reg.EV_DIE_SPARE_LOW else s

/-- A row repair ends: carried out, or undone at the die; one firmware asked for sets REPAIR_DONE (R294). -/
def Dev.rowRepairEnd (s : Dev) (n : Nat) (x : RepairRun) : Dev :=
  let s := s.modShaft n (fun p => { p with rep := none })
  let s := if x.done then (s.rowMapped n x.bank x.row x.spare).repairEnd n 1 0 x.spare else s.repairEnd n 2 4 0
  if x.fw then s.raiseDie n Reg.EV_DIE_REPAIR_DONE else s

/-- A column repair is complete (R285): it is counted, listed and shown, and the column's own count of rows is cleared. -/
def Dev.colMapped (s : Dev) (n b c spare : Nat) : Dev :=
  let s := s.modShaft n (fun p => { p with colMap := p.colMap ++ [(b, c, spare)], cols := sset (fun _ => []) p.cols (32 * b + c) [] })
  ((s.addRepair (colEntry n b c)).bump Reg.SHAFT_CNT_COL_REPAIR_VALUE n).raiseDie n Reg.EV_DIE_REPAIR_DONE

/-- A line of the repair buffer, or of a column copy, is written; after the last the repair is over. -/
def Dev.doCopy (s : Dev) (n l : Nat) (d : Line) (bad : BitVec 64) : Dev :=
  match (s.shaft n).colRun with
  | some x =>
    let y := x.advance
    let s := (s.modShaft n (fun p => { p with colRun := some y })).doWr n l (s.hostLine n l) d fullMask bad 62
    if y.mapped && y.past then (s.endColumn n 1 0).colMapped n x.bank x.col x.spare else s
  | none =>
    let s := s.modShaft n (fun p => { p with rep := p.rep.map (fun x => { x with left := x.left.filter (· != colOf l) }) })
    let s := s.doWr n l (s.hostLine n l) d fullMask bad 62
    match (s.shaft n).rep with
    | some x => if x.left.isEmpty then s.rowRepairEnd n x else s
    | none => s

def Dev.doCol (s : Dev) (n : Nat) : Want → Dev
  | .rd i w => s.doRd n i w
  | .again f => s.doAgain n f
  | .wr w => (s.modShaft n (fun p => { p with wbuf := p.wbuf.filter (fun x => x.sline != w.sline) })).doWr n w.sline w.host w.data w.mask w.bad w.cls
  | .unit u v => (s.modShaft n (fun p =>
      { p with units := p.units.filter (fun x => x != u), wbuf := p.wbuf.map (WEnt.laterWord u v) })).doWr n u.sline u.host v.1 v.2.1 v.2.2 u.cls
  | .copy l d bad => s.doCopy n l d bad

/-- Note that the row of a burst to be re-sensed has been closed (R273). -/
def Dev.markShut (s : Dev) (n : Nat) (w : Want) : Dev :=
  match w with
  | .again f => s.modShaft n (fun p => { p with fly := p.fly.map (fun x => if x == f then { f with shut := true } else x) })
  | _ => s

/-- The first refresh, RFM or mode-register command that is due and legal in this CK (R168 rule 1, R282 step 3); none when there is none. -/
def Dev.dueCmd (s : Dev) (n : Nat) : Option Dev :=
  let p := s.shaft n
  let openB (b : Nat) : Bool := (s.bank n b).row.isSome
  let rfm (x : Nat × Nat) (drop : Dev → Dev) : Option Dev :=
    if openB x.1 then (if s.preLegal n x.1 then some (s.doPre n x.1) else none)
    else if s.idleLegal n x.1 then some (((drop s).bump Reg.SHAFT_CNT_RFM_VALUE n).issue n (.rfm x.1 x.2))
    else none
  let forced := p.rfmForce.findSome? (fun x => rfm x (fun s => s.modShaft n (fun p => { p with rfmForce := dropFirst (fun y => y == x) p.rfmForce })))
  let all : Option Dev :=
    if !p.refAll then none
    else if (List.range 32).any openB then
      (if (List.range 32).all (fun b => !(openB b) || s.preLegal n b) then
        some ((s.issue n .prea).modShaft n (fun p => { p with idleDue := [] })) else none)
    else if (List.range 32).all (fun b => s.idleLegal n b) then some ((s.modShaft n (fun p => { p with refAll := false })).doRefab n)
    else none
  let pb := p.refDue.findSome? (fun b =>
    if openB b then (if s.preLegal n b then some (s.doPre n b) else none)
    else if s.idleLegal n b && p.lastRef + s.tm Reg.SHAFT_SETA_ACT_TRRD_S n ≤ p.ck then
      let s := s.modShaft n (fun p => { p with refDue := p.refDue.filter (· != b) })
      some (((s.bump Reg.SHAFT_CNT_REF_VALUE n).issue n (.refpb b)).refreshed n b)
    else none)
  let due := p.rfmDue.findSome? (fun x => rfm x (fun s => s.modShaft n (fun p => { p with rfmDue := dropFirst (fun y => y == x) p.rfmDue })))
  let map := match p.rep with
    | some x =>
      if x.mapped || x.got.length < 32 then none
      else if openB x.bank then (if s.preLegal n x.bank then some (s.doPre n x.bank) else none)
      else
        let s := s.issue n .mrw
        some (if x.done then s.modShaft n (fun p => { p with rep := some { x with mapped := true, left := List.range 32 } }) else s.rowRepairEnd n x)
    | none => match p.colRun with
      | some x =>
        if x.mapped || x.slots.isEmpty || !x.past then none
        else if openB x.bank then (if s.preLegal n x.bank then some (s.doPre n x.bank) else none)
        else
          let s := s.issue n .mrw
          some (if x.done then s.modShaft n (fun p => { p with colRun := some { x with mapped := true, row := 0, stage := 0 } }) else s.endColumn n 2 4)
      | none => none
  forced.orElse (fun _ => all.orElse (fun _ => pb.orElse (fun _ => due.orElse (fun _ => map))))

/-- Does an access wait for the open row of a bank? -/
def Dev.rowWanted (s : Dev) (n b : Nat) : Bool :=
  (s.shaft n).wants.any (fun w => bankOf w.line == b && some (rowOf w.line) == (s.bank n b).row)

/-- A row that has been idle ROW_IDLE ns is closed when no access has a command (R169). -/
def Dev.idleCmd (s : Dev) (n : Nat) : Option Dev :=
  (s.shaft n).idleDue.findSome? (fun b =>
    if (s.bank n b).row.isSome && s.preLegal n b && !(s.rowWanted n b) then some (s.doPre n b) else none)

/-- Writes win at equal keys from WR_HIGH lines until the buffer falls to WR_LOW (R168 rule 4). -/
def Dev.noteDrain (s : Dev) (n : Nat) : Dev :=
  let k := (s.shaft n).wbuf.length
  let d := if s.fv Reg.SHAFT_SCHED_CTL_WR_HIGH n ≤ k then true
    else if k ≤ s.fv Reg.SHAFT_SCHED_CTL_WR_LOW n then false else (s.shaft n).drainW
  s.modShaft n (fun p => { p with drainW := d })

/-- Work that goes on while a frequency change quiesces (R182 step 1, R289): writes, bursts to be read again, and a row repair. -/
def Want.quiesces (w : Want) : Bool := match w with
  | .rd _ e => e.req.org == .scrub 2
  | _ => true

/-- The oldest among the elements with the greatest key. -/
def bestOldest {α : Type} (key age : α → Nat) (l : List α) : Option α :=
  match bestBy key l with
  | none => none
  | some x => let same := l.filter (fun y => key y == key x)
    let first := same.foldl (fun k y => min k (age y)) (age x)
    same.find? (fun y => age y == first)

/-- The highest-priority legal command of the CK (R168 rules 2 to 5). The re-reads of a bank go ahead of its other column commands (R170). -/
def Dev.accessCmd (s : Dev) (n : Nat) : Option Dev :=
  let p := s.shaft n
  let ws := if p.freq.isSome then p.wants.filter Want.quiesces else p.wants
  let kd := ws.map (fun w => (w, s.wantKey n w))
  let keyed := kd.map (fun w => (w.1, w.2, s.nextOf n kd w.1 w.2))
  let ok := keyed.filter (fun x => match x.2.2 with
    | some .col => x.1.isAgain || !(keyed.any (fun y => y.1.isAgain && bankOf y.1.line == bankOf x.1.line))
    | some _ => !(keyed.any (fun y => bankOf y.1.line == bankOf x.1.line && x.2.1 < y.2.1))
    | none => false)
  match bestOldest (fun x => x.2.1 * 4 + b2n (x.2.2 == some .col) * 2 + b2n (x.1.isW == p.drainW)) (fun x => x.1.age) ok with
  | none => none
  | some (w, _, c) =>
    let b := bankOf w.line
    match c with
    | some .col => some (s.doCol n w)
    | some .act => some ((s.markShut n w).doAct n b (rowOf w.line))
    | some .pre => some ((s.markShut n w).doPre n b)
    | none => none

/-! ### Reads answered from the write buffer (R165) -/

/-- A read of a line that has a full write in the buffer takes its data from there and makes no DRAM access; so does each line of a capture. -/
def Dev.serveBufferedN : Nat → Dev → Nat → Dev
  | 0, s, _ => s
  | k + 1, s, n =>
    let p := s.shaft n
    let full (l : Nat) : Option WEnt := p.wbuf.find? (fun e => e.sline == l && e.mask == fullMask)
    let plain (w : WinE) : Bool := match w.req.op with
      | .atom _ => false
      | _ => true
    match (enumFrom 0 p.win).find? (fun x => plain x.2 && p.ready x.1 x.2 && (full (x.2.req.sline + x.2.next)).isSome) with
    | none => s
    | some (i, w) =>
      let l := w.req.sline + w.next
      match full l with
      | none => s
      | some e =>
        let last := w.req.op != .capture || w.next + 1 == 64
        let w' : WinE := { w with next := if last then w.next else w.next + 1, issued := last, credit := if last then 0 else w.credit }
        Dev.serveBufferedN k ((s.modShaft n (fun p => { p with win := setAt p.win i w' })).giveLine n w.req w.next l (e.data, e.bad)) n

def Dev.serveBuffered (s : Dev) (n : Nat) : Dev := Dev.serveBufferedN (64 * (s.shaft n).win.length) s n

/-! ### Replay (R178) -/

/-- May a command of the replay go in this CK, timed anew? -/
def Dev.replayLegal (s : Dev) (n : Nat) : Cmd → Bool
  | .act b _ => s.actLegal n b
  | .rd b _ _ _ => s.colLegal n b false
  | .wr b _ _ _ => s.colLegal n b true
  | .wrm b _ _ _ _ => s.colLegal n b true
  | .pre b => s.preLegal n b
  | .prea => (List.range 32).all (fun b => (s.bank n b).row.isNone || s.preLegal n b)
  | .refpb b => s.idleLegal n b
  | .refab => (List.range 32).all (fun b => s.idleLegal n b)
  | .rfm b _ => s.idleLegal n b
  | _ => true

/-- Count a command that is issued again. -/
def Dev.countAgain (s : Dev) (n : Nat) : Cmd → Dev
  | .act b row => (s.bump Reg.SHAFT_CNT_ACT_VALUE n).countAct n b row
  | .rd _ _ _ _ => s.bump Reg.SHAFT_CNT_RD_VALUE n
  | .wr _ _ _ _ => s.bump Reg.SHAFT_CNT_WR_VALUE n
  | .wrm _ _ _ _ _ => s.bump Reg.SHAFT_CNT_WR_VALUE n
  | .refpb _ => s.bump Reg.SHAFT_CNT_REF_VALUE n
  | .refab => s.bump Reg.SHAFT_CNT_REF_VALUE n
  | .rfm _ _ => s.bump Reg.SHAFT_CNT_RFM_VALUE n
  | _ => s

/-- One command of a replay is issued again: a WR with the write data the retry buffer holds, an RD whose data come as at first. -/
def Dev.reissue (s : Dev) (n : Nat) (x : Issued) : Dev :=
  let s := match x.wd with
    | some w => s.cellWrite n w.sline w.data w.mask w.bad
    | none => s
  let s := s.modShaft n (fun p => { p with fly := p.fly.map (fun f =>
    if f.wait == 2 && x.read == some (f.req.id, f.idx) then { f with wait := 0, due := s.dataAt n } else f) })
  (s.issue n x.cmd x.read x.wd (x.cmd != .mrr)).countAgain n x.cmd

/-- While a replay runs the controller issues nothing else: it waits until ALERT_N is high again, and for the next command to be legal. -/
def Dev.replayCmd (s : Dev) (n : Nat) : Option Dev :=
  match (s.shaft n).replay with
  | [] => none
  | x :: l =>
    if (s.shaft n).ck < (s.shaft n).replayAt || !(s.replayLegal n x.cmd) then some s
    else some ((s.modShaft n (fun p => { p with replay := l })).reissue n x)

/-! ### Emptying the write buffer at once -/

/-- A line of the write buffer goes to the cells with whatever its bank needs: PRE, ACT, WR. -/
def Dev.drainLine (s : Dev) (n : Nat) (w : WData) (cls : Nat) : Dev :=
  let b := bankOf w.sline
  let s := if (s.bank n b).row.isSome && (s.bank n b).row != some (rowOf w.sline) then s.doPre n b else s
  let s := if (s.bank n b).row.isNone then s.doAct n b (rowOf w.sline) else s
  (s.doWr n w.sline w.host w.data w.mask w.bad cls).modShaft n (fun p => { p with ck := p.ck + 1 })

/-- What units still have to write and the write buffer, in order, go to the cells. -/
def Dev.drainWbuf (s : Dev) (n : Nat) : Dev :=
  let s := s.modShaft n (fun p => { p.units.foldl ShaftSt.keepUnit p with units := p.units.filter (fun u => u.value.isNone) })
  let l := (s.shaft n).wbuf
  let s := s.modShaft n (fun p => { p with wbuf := [], drainW := false })
  l.foldl (fun s w => s.drainLine n ⟨w.sline, w.host, w.data, w.mask, w.bad⟩ w.cls) s

/-! ### Parking (R180, R185, R340) -/

/-- Nothing is left in the window, the write buffer, the units or in flight. -/
def ShaftSt.empty (p : ShaftSt) : Bool :=
  p.win.isEmpty && p.wbuf.isEmpty && p.fly.isEmpty && p.units.isEmpty && p.zin.isNone && p.rep.isNone && p.colRun.isNone &&
    p.replay.isEmpty

/-- Entry into the parked state, once the window and the write buffer are empty; an access that waits cancels it. -/
def Dev.parkTry (s : Dev) (n : Nat) : Dev :=
  let p := s.shaft n
  if !p.parking then s
  else if s.shaftSt n != stONLINE || !p.collar.isEmpty || !p.localq.isEmpty then s.modShaft n (fun p => { p with parking := false })
  else if p.empty then
    let s := (s.enterSR n).modShaft n (fun p => { p with parking := false })
    ((s.setF Reg.SHAFT_STATUS_PARKED 1 n).bump Reg.SHAFT_CNT_PARK_VALUE n).wlTrigger
  else s

/-- Is a full training or a helper run in progress on the shaft? It needs the DRAM out of self-refresh. -/
def ShaftSt.inTraining (p : ShaftSt) : Bool := p.train.isSome || p.helper.isSome

/-- A FENCED shaft leaves self-refresh for haulage's work and its own and returns to it when none waits (R340); one fenced by R179 stays in
it. -/
def Dev.fencedSR (s : Dev) (n : Nat) : Dev :=
  let p := s.shaft n
  let st := s.shaftSt n
  if (st != stFENCED && st != stTESTING) || p.alertFenced then s
  else
    let work := p.queued.any (fun x => fencedWork x.1) || p.rep.isSome || p.colRun.isSome || p.inTraining
    if s.inSR n then (if work then s.exitSR n else s)
    else if !work && p.empty then s.enterSR n
    else s

/-- A command issued since the last alert has completed without one: the consecutive-alert count restarts (R179). -/
def Dev.cleanCmd (s : Dev) (n : Nat) : Dev :=
  let p := s.shaft n
  if p.alerted && p.retry.any (fun i => !i.old && decide (i.till < p.ck)) then
    (s.modShaft n (fun p => { p with alerted := false })).setF Reg.SHAFT_ALERT_STATUS_CONSEC 0 n
  else s

/-- Every admitted memory request and every operation of haulage has reached its completion point (R412 step 3). -/
def Dev.memQuiet (s : Dev) : Bool :=
  let h := s.haul
  s.ports.all (fun e => e.2.live.isEmpty && e.2.oldIds.isEmpty) && h.fills.isEmpty && h.wbacks.isEmpty && h.moves.isEmpty &&
    h.held.isEmpty && h.evicts.isEmpty && h.flushes.isEmpty && h.zfills.isEmpty

/-- Step 4 of a trip (R412): the shaft quiesces, issues PREA and enters self-refresh. -/
def Dev.tripSR (s : Dev) (n : Nat) : Dev :=
  let p := s.shaft n
  if s.fb Reg.HEAT_STATUS_TRIPPED && s.memQuiet && p.collar.isEmpty && p.localq.isEmpty && p.empty then s.enterSR n
  else s

/-- Does the controller's clock run: the DRAM is out of self-refresh, in a state that is refreshed, and no frequency change past its step 1
holds it? -/
def Dev.ckRuns (s : Dev) (n : Nat) : Bool :=
  let st := s.shaftSt n
  (st == stONLINE || st == stEVACUATING || st == stFENCED || st == stTESTING || st == stKINDLING) && !(s.inSR n) &&
    (match (s.shaft n).freq with
     | some c => c.step == 1
     | none => true)

/-- May the controller take accesses: no park or change is under way, and after a fence, a test or a reset the write buffer has gone first
(R165)? -/
def Dev.mayTake (s : Dev) (n : Nat) : Bool :=
  let p := s.shaft n
  !p.parking && p.freq.isNone && s.shaftSt n != stKINDLING && (!p.first || p.wbuf.isEmpty)

/-- During the quiesce of a change the reads of a row repair still enter the window (R289). -/
def Dev.takeRepair (s : Dev) (n : Nat) : Dev :=
  (s.shaft n).scrubQ.foldl (fun s r => if r.org == .scrub 2 && (s.shaft n).mayEnter r then s.takeOne n (r, 3) else s) s

/-- Frames of the shaft that may be evicted to lend their slots (R285). -/
def Dev.unpinnedIn (s : Dev) (n : Nat) : List Nat :=
  (s.space.ways.filter (fun x => x.2.valid && x.2.shaft == n && !x.2.pin && !x.2.busy)).map (fun x => frameFrom (x.1 / 18) x.2.tag)

/-- Take `k` free slots of the shaft. -/
def Dev.takeSlots (s : Dev) (n k : Nat) : List Nat × Dev :=
  (List.range k).foldl (fun x _ => match x.2.takeSlot n with
    | some (i, s) => (x.1 ++ [i], s)
    | none => x) ([], s)

/-- Haulage frees 12 slots of the shaft for a column copy, evicting unpinned frames as needed, and lends them (R285). -/
def Dev.lendSlots (s : Dev) (n : Nat) (x : ColRun) : Dev :=
  let free := s.freeCount n
  let going := (s.haul.evicts.filter (fun e => e.shaft == n)).length
  if 12 ≤ free then
    let (l, s) := s.takeSlots n 12
    s.modShaft n (fun p => { p with colRun := some { x with slots := l } })
  else
    let more := (s.unpinnedIn n).take (12 - free - going)
    if more.isEmpty && going == 0 then s.endColumn n 2 3
    else more.foldl (fun s f => s.startEvict f) s

/-- What a column copy does beside the commands it issues: it has slots lent, and then reads one line after the other (R285). -/
def Dev.colStep (s : Dev) (n : Nat) : Dev :=
  match (s.shaft n).colRun with
  | none => s
  | some x =>
    if x.slots.isEmpty then s.lendSlots n x
    else if x.reading || x.past then s
    else (s.modShaft n (fun p => { p with colRun := some { x with reading := true } })).readOwn n 3 x.src

/-- COMMAND_ISSUE: one CK of shaft controller `n`: it takes work as space frees and issues the highest-priority legal command. -/
def Dev.commandIssue (s : Dev) (n : Nat) : Dev :=
  if !s.pins.refclk then s
  else
    let s := s.fencedSR n
    if !(s.ckRuns n) then s
    else
      let s := ((s.modShaft n (fun p => { p with ck := p.ck + 1 })).cleanCmd n).colStep n
      let s := if s.mayTake n then (s.modShaft n (fun p => { p with first := false })).intake n
        else if s.freqBusy n then s.takeRepair n else s
      let s := (s.serveBuffered n).noteDrain n
      let s := match s.replayCmd n with
        | some t => t
        | none => match s.dueCmd n with
          | some t => t
          | none => match s.accessCmd n with
            | some t => t
            | none => (s.idleCmd n).getD s
      (s.parkTry n).tripSR n

/-- ROW_IDLE_EXPIRY (R169): the row of a bank has been open ROW_IDLE ns with no access waiting for it; it is closed in this CK when no other
command goes, or in the next one that no other command takes. -/
def Dev.rowIdle (s : Dev) (n b : Nat) : Dev :=
  if (s.bank n b).row.isNone || s.rowWanted n b then s
  else if s.preLegal n b && (s.shaft n).replay.isEmpty && (s.dueCmd n).isNone && (s.accessCmd n).isNone then s.doPre n b
  else s.modShaft n (fun p => { p with idleDue := p.idleDue.filter (· != b) ++ [b] })

def execRowIdleExpiry (n : Fin 48) (bank : Fin 32) (s : State) : Host.Outcome State Fault Refusal := s.on fun s => .next (s.rowIdle n bank)

/-- Is the DRAM refreshed by its controller: it is out of self-refresh, in service or still being trained (R173, R198), and the clocks run? -/
def Dev.refreshes (s : Dev) (n : Nat) : Bool :=
  let st := s.shaftSt n
  s.pins.refclk && !(s.inSR n) && (st == stONLINE || st == stEVACUATING || st == stFENCED || st == stTESTING || st == stKINDLING)

/-- REFRESH_SLOT (R173, R177): the next bank's REFpb falls due, or with ALL_BANK the REFab once in 32 slots, and the oldest queued
RFM goes with it. -/
def Dev.refreshSlot (s : Dev) (n : Nat) : Dev :=
  if !(s.refreshes n) then s
  else
    let all := s.fb Reg.SHAFT_REF_CTL_ALL_BANK n || (s.shaft n).subst
    (s.modShaft n (fun p =>
      let p := match p.rfmQ with
        | x :: l => { p with rfmQ := l, rfmDue := p.rfmDue ++ [x] }
        | [] => p
      let p := if all then { p with refAll := p.refAll || p.slotBank == 0 } else { p with refDue := p.refDue ++ [p.slotBank] }
      { p with slotBank := (p.slotBank + 1) % 32 })).showRfm n

def execRefreshSlot (n : Fin 48) (s : State) : Host.Outcome State Fault Refusal := s.on fun s => .next (s.refreshSlot n)

/-! ### Failure of a shaft (R165, R342) -/

/-- Does a run of the helper use the array training rows now (R197, R198): steps 4 to 6 of a training, or TARGET 1? -/
def Dev.rowsLent (s : Dev) (n : Nat) : Bool :=
  let p := s.shaft n
  (match p.train with
   | some t => decide (4 ≤ t.step)
   | none => false) || p.helper.any (·.array)

/-- A helper run or a training is cut short (R197, R206): its status reads ABANDONED, and it is recorded (R205). -/
def Dev.cutHelper (s : Dev) (n : Nat) : Dev :=
  let p := s.shaft n
  let s := if p.train.isNone then s else
    let s := (s.setF Reg.SHAFT_TRAIN_STATUS_BUSY 0 n).setF Reg.SHAFT_TRAIN_STATUS_DONE 1 n
    let s := (s.setF Reg.SHAFT_TRAIN_STATUS_RESULT 3 n).setF Reg.SHAFT_TRAIN_STATUS_REASON rsABANDONED n
    (s.setF Reg.SHAFT_TRAIN_STATUS_LANE 15 n).setReject n rsABANDONED
  let s := if p.helper.isNone then s else
    ((s.setF Reg.SHAFT_HELPER_STATUS_DONE 1 n).setF Reg.SHAFT_HELPER_STATUS_REASON rsABANDONED n).record (shaftPage n) codeOTHER sevWARNING
      [rsABANDONED]
  (s.modShaft n (fun p => { p with train := none, helper := none, roundOn := false })).freeLease (lsHelper n)

/-- A shaft becomes FAILED: what waits gets NACK_RETRY, the frames of lines still in the write buffer are lost, and so is the frame of training
rows the helper had in its save buffer (R165, R197). -/
def Dev.failShaft (s : Dev) (n : Nat) : Dev :=
  let rows := if s.rowsLent n then (s.frameAt n 12287).toList else []
  let s := (s.enter (shaftPage n) stFAILED).closeShaft n stFAILED
  let fs := ((s.shaft n).wbuf.map (fun w => frameOfLine w.host)).filter (fun f => (s.entry f).any (fun e => e.shaft == n)) ++ rows
  let s := (s.cutHelper n).modShaft n (fun p => { p with wbuf := [], freq := none, parking := false, parkHeld := false, retry := [] })
  let s := (s.setF Reg.SHAFT_STATUS_FREQ_BUSY 0 n).setF Reg.SHAFT_FREQ_STATUS_BUSY 0 n
  fs.foldl (fun s f => s.addLost f) s

/-- SHAFT_FAILED: an unrecoverable fault of a shaft that is powered. -/
def Dev.shaftFault (s : Dev) (n : Nat) : Dev :=
  let st := s.shaftSt n
  if st == stDARK || st == stFAILED || st == stOFFLINE || st == stRESETTING then s
  else (s.failShaft n).record (shaftPage n) codeOTHER sevCRITICAL []

def execShaftFailed (n : Fin 48) (s : State) : Host.Outcome State Fault Refusal := s.on fun s => .next (s.shaftFault n)

/-! ### Alerts (R178, R179) -/

/-- What a replay has still to write goes back to the write buffer, which survives a fence (R165); the reads it has still to make wait for
the scheduler. -/
def ShaftSt.endReplay (p : ShaftSt) (l : List Issued) : ShaftSt :=
  let p := (l.filterMap (·.wd)).reverse.foldl ShaftSt.bufUnder p
  { p with retry := [], replay := [], fly := p.fly.map (fun f => if f.wait == 2 then { f with wait := 1 } else f) }

/-- The third alert in a row (R179): the replay stops, the shaft is fenced and goes into self-refresh, or fails when SRE is not accepted. `l` are
the commands the die discarded. A frequency change in its steps 1 and 2 ends with it. -/
def Dev.alertFence (s : Dev) (n : Nat) (l : List Issued) (sreFails : Nat) : Dev :=
  let s := (s.enter (shaftPage n) stFENCED).raiseRec (shaftPage n) Reg.EV_SHAFT_ALERT_FENCE sevWARNING []
  let s := s.modShaft n (fun p => { p.endReplay l with alertFenced := true, first := true, freq := none, parking := false, parkHeld := false })
  let s := (s.setF Reg.SHAFT_STATUS_FREQ_BUSY 0 n).setF Reg.SHAFT_FREQ_STATUS_BUSY 0 n
  if sreFails < 3 then s.enterSR n else s.failShaft n

/-- Does training step 2, whose probes provoke alerts, run (R198)? -/
def ShaftSt.probesCa (p : ShaftSt) : Bool :=
  match p.train with
  | some t => t.step == 2
  | none => false

/-- ALERT_N: the die discards the failing command and what follows it, and its banks are as before it; the controller reads and counts the
cause, and will issue them again once ALERT_N has been low for 4 CK. -/
def Dev.alert (s : Dev) (n : Nat) (o : AlertObs) : Dev :=
  let p := s.shaft n
  if p.retry.length ≤ o.pos.val || s.inSR n then s
  else
    let i := p.retry.length - 1 - o.pos.val
    match p.retry[i]? with
    | none => s
    | some c =>
      let clean := !p.alerted || (p.retry.take i).any (fun x => x.again)
      let old := s.fv Reg.SHAFT_ALERT_STATUS_CONSEC n
      let count := if p.probesCa then old else (if clean then 0 else old) + b2n c.again
      let s := s.setF Reg.SHAFT_ALERT_STATUS_LAST_CAUSE (if o.data then 2 else 1) n
      let s := s.bump (if o.data then Reg.SHAFT_CNT_ALERT_WD_VALUE else Reg.SHAFT_CNT_ALERT_CA_VALUE) n
      let s := s.setF Reg.SHAFT_ALERT_STATUS_CONSEC (min 3 count) n
      let lost := (p.retry.drop i).filter (fun x => x.cmd != .mrr) ++ p.replay.filter (fun x => x.cmd != .mrr)
      let s := s.modShaft n (fun p => { p with alerted := true, banks := c.was })
      if 3 ≤ count then s.alertFence n lost o.sreFails.val
      else
        let reads := lost.filterMap (·.read)
        let mrr : Issued := { c with cmd := .mrr, read := none, wd := none }
        (s.bump Reg.SHAFT_CNT_REPLAY_VALUE n).modShaft n (fun p =>
          { p with retry := (p.retry.take i).map (fun x => { x with again := false, old := true }), replay := mrr :: lost,
                   replayAt := p.ck + 4,
                   fly := p.fly.map (fun f => if reads.contains (f.req.id, f.idx) && f.wait == 0 && f.stage ≤ 3 then { f with wait := 2 } else f) })

def execAlertN (n : Fin 48) (o : AlertObs) (s : State) : Host.Outcome State Fault Refusal := s.on fun s => .next (s.alert n o)

/-! ### Frequency change (R181 to R185) -/

/-- Offset of the set that is not active: 0 for A, 0x40 for B. -/
def Dev.idleSet (s : Dev) (n : Nat) : Nat := if s.fb Reg.SHAFT_STATUS_ACTIVE_SET n then 0 else 0x40
def Dev.idlePoint (s : Dev) (n : Nat) : Nat := bitsOf (s.rdReg (shaftPage n * 4096 + 0x100 + s.idleSet n)) 1 0

/-- Load the TRIM defaults of a point into the inactive set. The layout of the TRIM words is not given, so the defaults, which stepping A1 also
takes as the minimums, are R167's figures and not read from the shadow words (DESIGN CHOICE, log 166). -/
def Dev.loadSet (s : Dev) (n point : Nat) : Dev :=
  let a := shaftPage n * 4096 + 0x100 + s.idleSet n
  let w (k v : Nat) (s : Dev) : Dev := s.wrReg (a + k) (BitVec.ofNat 32 v)
  (w 0 point s) |> w 4 (trimRow point) |> w 8 (trimWrite point) |> w 12 (trimRead point) |> w 16 (trimAct point) |>
    w 20 (trimRef point) |> w 24 (trimMisc point)

def byCode : FreqBy → Nat
  | .firmware => 0
  | .power => 1
  | .thermal => 2

def Dev.point (s : Dev) (n : Nat) : Nat := s.fv Reg.SHAFT_STATUS_POINT n

/-- A change starts: the window takes no more work (R182 step 1), scrub pauses, and the change asks for the helper lease (R201). -/
def Dev.startChange (s : Dev) (n target : Nat) (c : FreqBy) : Dev :=
  let s := ((s.dropLease (lsHelper n) hoSCRUB).askLease (lsHelper n) hoTRAIN rkINTEGRITY).2
  let ch : FreqCh := ⟨1, s.point n, s.fv Reg.SHAFT_STATUS_ACTIVE_SET n, target, c, 1, 0, false⟩
  (s.modShaft n (fun p => { p with freq := some ch, parking := false })).setF Reg.SHAFT_FREQ_STATUS_BY (byCode c) n

/-- The point the ceilings and the last GO call for (R184). -/
def Dev.wantPoint (s : Dev) (n : Nat) : Nat := let p := s.shaft n; max (max p.ceilT p.ceilP) p.goPoint

/-- The controller's own change to the point it should run at: a fall loads the defaults; a rise keeps an inactive set that
already names the target. -/
def Dev.autoChange (s : Dev) (n : Nat) : Dev :=
  let t := s.wantPoint n
  if t == s.point n then s
  else
    let s := if s.point n < t || s.idlePoint n != t then s.loadSet n t else s
    s.startChange n t (s.shaft n).ceilBy

/-- A wake (R180): SRX, tXS, REFab; a change that waits for the wake runs first, from step 3 (R185). Without REFCLK nothing leaves
self-refresh (R16). -/
def Dev.wakeShaft (s : Dev) (n : Nat) : Dev :=
  if !(s.isParked n) || !s.pins.refclk then s
  else
    let s := (s.setF Reg.SHAFT_STATUS_PARKED 0 n).wlTrigger
    if (s.shaft n).changeOnWake && s.wantPoint n != s.point n then
      let s := (s.modShaft n (fun p => { p with changeOnWake := false })).autoChange n
      let s := (s.setF Reg.SHAFT_STATUS_FREQ_BUSY 1 n).setF Reg.SHAFT_FREQ_STATUS_BUSY 1 n
      s.modShaft n (fun p => { p with freq := p.freq.map (fun c => { c with step := 3 }) })
    else (s.modShaft n (fun p => { p with changeOnWake := false })).exitSR n

/-- PARK_CTL.PARK, the power sequencer, or the idle time (R180, R185). -/
def Dev.park (s : Dev) (n : Nat) : Dev :=
  if s.shaftSt n != stONLINE || s.isParked n then s
  else if s.freqBusy n then s.modShaft n (fun p => { p with parkHeld := true })
  else (s.modShaft n (fun p => { p with parking := true })).parkTry n

/-- AUTO_PARK_EXPIRY: no access has arrived for IDLE_US. -/
def execAutoParkExpiry (n : Fin 48) (s : State) : Host.Outcome State Fault Refusal := s.on fun s =>
  if s.fb Reg.SHAFT_PARK_CTL_AUTO n && (s.shaft n).collar.isEmpty && (s.shaft n).localq.isEmpty then .next (s.park n) else .next s

/-- PARKED_ACCESS_WAKE: an access has come for a parked shaft. -/
def execParkedAccessWake (n : Fin 48) (s : State) : Host.Outcome State Fault Refusal := s.on fun s =>
  if (!(s.shaft n).collar.isEmpty || !(s.shaft n).localq.isEmpty) && !(s.fb Reg.HEAT_STATUS_TRIPPED) then .next (s.wakeShaft n) else .next s

/-- FREQ_CTL.GO (R184). -/
def Dev.freqGo (s : Dev) (n : Nat) : Dev :=
  let dflt := s.fb Reg.SHAFT_FREQ_CTL_USE_DEFAULT n
  let t := if dflt then s.fv Reg.SHAFT_FREQ_CTL_POINT n else s.idlePoint n
  if s.freqBusy n then s
  else if s.shaftSt n != stONLINE || t < max (s.shaft n).ceilT (s.shaft n).ceilP then s.setF Reg.SHAFT_FREQ_STATUS_RESULT 5 n
  else
    let s := s.modShaft n (fun p => { p with goPoint := t, changeOnWake := false })
    let s := s.wakeShaft n
    let s := if dflt then s.loadSet n t else s
    s.startChange n t .firmware

/-- Set a ceiling; STATUS.CEILING shows the slower of the two. -/
def Dev.setCeiling (s : Dev) (n : Nat) (c : FreqBy) (v : Nat) : Dev :=
  let s := s.modShaft n (fun p => match c with
    | .thermal => if p.ceilT == v then p else { p with ceilT := v, ceilBy := .thermal }
    | .power => if p.ceilP == v then p else { p with ceilP := v, ceilBy := .power }
    | .firmware => p)
  s.setF Reg.SHAFT_STATUS_CEILING (max (s.shaft n).ceilT (s.shaft n).ceilP) n

/-- CEILING_CHANGE (R184, R185): the shaft starts a change to the point its ceilings now call for; a parked shaft does so at its
wake, a changing one when the change has ended. -/
def Dev.ceilingChange (s : Dev) (n : Nat) : Dev :=
  let st := s.shaftSt n
  if s.wantPoint n == s.point n || s.freqBusy n then s
  else if s.isParked n then s.modShaft n (fun p => { p with changeOnWake := true })
  else if (st == stONLINE || st == stEVACUATING) && !(s.inSR n) then s.autoChange n
  else s

def execCeilingChange (n : Fin 48) (s : State) : Host.Outcome State Fault Refusal := s.on fun s => .next (s.ceilingChange n)

/-- The inactive set becomes active (R182 step 4). -/
def Dev.flipSet (s : Dev) (n point : Nat) : Dev :=
  let old := s.fv Reg.SHAFT_STATUS_ACTIVE_SET n
  let a := shaftPage n * 4096 + 0x100
  let s := s.wrReg (a + 0x40 * old) (withBits (s.rdReg (a + 0x40 * old)) 31 31 0)
  let s := s.wrReg (a + 0x40 * (1 - old)) (withBits (s.rdReg (a + 0x40 * (1 - old))) 31 31 1)
  (s.setF Reg.SHAFT_STATUS_ACTIVE_SET (1 - old) n).setF Reg.SHAFT_STATUS_POINT point n

/-- The end of a change: its result, its time, its event (the waterline follows by WATERLINE_RECOMPUTE, R150); then the next change, when
the ceilings call for a point this change did not go to, or a held PARK (R185). After a reversed change the controller does not try the same
target again by itself: the next change of a ceiling or GO does (DESIGN CHOICE, log 167: R183 is silent). -/
def Dev.changeEnd (s : Dev) (n : Nat) (c : FreqCh) : Dev :=
  let s := ((s.modShaft n (fun p => { p with freq := none })).dropLease (lsHelper n) hoTRAIN).wlTrigger
  let s := (s.setF Reg.SHAFT_STATUS_FREQ_BUSY 0 n).setF Reg.SHAFT_FREQ_STATUS_BUSY 0 n
  let s := (s.setF Reg.SHAFT_FREQ_STATUS_RESULT c.result n).setSat Reg.SHAFT_FREQ_STATUS_LAST_NS c.ns n
  let s := if c.result == 1 then (s.bump Reg.SHAFT_CNT_FREQ_VALUE n).raise (shaftPage n) Reg.EV_SHAFT_FREQ_DONE else s
  if c.result == 4 then s
  else if s.wantPoint n != s.point n && (c.result == 1 || s.wantPoint n != c.target) then s.autoChange n
  else if (s.shaft n).parkHeld then (s.modShaft n (fun p => { p with parkHeld := false })).park n
  else s

/-- A failure of a change (R183). -/
def Dev.changeFail (s : Dev) (n : Nat) : Dev := s.raiseRec (shaftPage n) Reg.EV_SHAFT_FREQ_FAIL sevWARNING []

/-- Has the quiesce of a change ended: issued commands are complete but for reads at a far source, and nothing is left to write (R182
step 1)? -/
def ShaftSt.quiesced (p : ShaftSt) : Bool :=
  p.wbuf.isEmpty && p.units.isEmpty && p.rep.isNone && p.replay.isEmpty && p.fly.all (fun f => 4 ≤ f.stage)

/-- Does another holder still have the helper lease? -/
def Dev.helperTaken (s : Dev) (n : Nat) : Bool := let h := (s.lease (lsHelper n)).holder; h != 0 && h != hoTRAIN

/-- FREQ_CHANGE_STEP_END (R182, R183): the step ends, `ok` within its limit. Step 1 ends once the controller has quiesced, step 6 once the helper
has run for it, and no step ends without REFCLK (R16). -/
def Dev.changeStep (s : Dev) (n : Nat) (ok : Bool) (ns : Nat) (o : ShortObs) : Dev :=
  match (s.shaft n).freq with
  | none => s
  | some c =>
    if !s.pins.refclk || (c.step == 1 && !((s.shaft n).quiesced)) || (6 ≤ c.step && s.helperTaken n) then s else
    let c := { c with ns := c.ns + ns }
    let set (s : Dev) (c : FreqCh) : Dev := s.modShaft n (fun p => { p with freq := some c })
    let fatal (s : Dev) : Dev :=
      (((s.changeFail n).setF Reg.SHAFT_STATUS_SELF_REFRESH 1 n).changeEnd n { c with result := 4 }).failShaft n
    match c.step with
    | 1 =>
      let s := (s.issueRfms n).setF Reg.SHAFT_STATUS_FREQ_BUSY 1 n
      set (s.setF Reg.SHAFT_FREQ_STATUS_BUSY 1 n) { c with step := 2 }
    | 2 => set (s.enterSR n) { c with step := if c.target == c.old then 4 else 3 }
    | 3 =>
      if ok then
        if c.back then
          let s := if s.fv Reg.SHAFT_STATUS_ACTIVE_SET n == c.oldSet then s else s.flipSet n c.old
          set s { c with step := 5 }
        else set s { c with step := 4 }
      else if c.back then fatal s
      else set (s.changeFail n) { c with back := true, result := 2 }
    | 4 => set (s.flipSet n c.target) { c with step := 5 }
    | 5 => set (s.exitSR n) { c with step := 6 }
    | _ =>
      if ok && o.ok then (s.shortRetrain n o).changeEnd n c
      else
      let s := s.shortRetrain n { o with ok := false }
      if c.back then fatal s
      else set ((s.changeFail n).enterSR n) { c with back := true, result := 3, step := 3 }

def execFreqChangeStepEnd (n : Fin 48) (ok : Bool) (ns : Nat) (o : ShortObs) (s : State) : Host.Outcome State Fault Refusal := s.on fun s =>
  .next (s.changeStep n ok ns o)

/-- FENCED_HOLD_TIMEOUT (R341): the oldest request held at a FENCED or TESTING shaft has waited 64 µs. One whose reads a fence cut short waits
in the window as one not begun. -/
def Dev.fencedTimeout (s : Dev) (n : Nat) : Dev :=
  let st := s.shaftSt n
  let p := s.shaft n
  let held (w : WinE) : Bool := !(fencedWork w.req) && (!w.issued || p.fly.any (fun f => f.req.id == w.req.id && f.wait != 0 && f.stage == 0))
  if st != stFENCED && st != stTESTING then s
  else match p.win.find? held with
  | some w =>
    (s.modShaft n (fun p => { p with win := dropFirst (fun x => x == w) p.win, fly := p.fly.filter (fun f => f.req.id != w.req.id),
                                     units := p.units.filter (fun u => u.id != w.req.id || u.value.isSome) })).shaftAnswer n w.req (.retry 100)
  | none => match (p.collar.map (·.1) ++ p.localq).find? (fun r => !(fencedWork r)) with
    | some r =>
      (s.modShaft n (fun p =>
        { p with collar := dropFirst (fun x => x.1 == r) p.collar, localq := dropFirst (fun x => x == r) p.localq })).shaftAnswer n r (.retry 100)
    | none => s

def execFencedHoldTimeout (n : Fin 48) (s : State) : Host.Outcome State Fault Refusal := s.on fun s => .next (s.fencedTimeout n)

end Sys2Proof.Machine
end

