-- ==== Sys2Proof/Machine/Correct.lean ====
section
/-!
DEFINITION. Machine/Correct.lean: read data coming back (R269 to R276), the correction order (R273), atomics at a unit (R172), patrol
scrub (R277, R278), the repeat tracker (R280, R281, R284) and repairs (R282 to R288).
-/
namespace Sys2Proof.Machine

/-- The bytes of the internal words a mask selects (R271). -/
def wordBytes (w : BitVec 4) : BitVec 64 := BitVec.ofNat 64 (maskOf 64 (fun i => bitN w.toNat (i / 16)))
def popW (w : BitVec 4) : Nat := countOf 4 (fun i => bitN w.toNat i)
def readFails (o : ReadObs) : BitVec 64 := o.bad ||| wordBytes o.unc

/-- The die's counts of corrected and uncorrectable words (R271). -/
def Dev.countWords (s : Dev) (n : Nat) (o : ReadObs) : Dev :=
  let s := (s.bumpBy Reg.SHAFT_CNT_CORR_VALUE (popW o.corr) n).bumpBy Reg.SHAFT_CNT_UNCORR_VALUE (popW o.unc) n
  (s.bumpBy Reg.DIE_CNT_CORR_VALUE (popW o.corr) (n / 4)).bumpBy Reg.DIE_CNT_UNCORR_VALUE (popW o.unc) (n / 4)

/-! ### The repeat tracker (R280, R281, R284) -/

/-- The controller reads the 32 lines of a row under class 62, for a visit, a rewrite or a repair; the reads wait at its own source. -/
def Dev.readRow (s : Dev) (n k b r : Nat) : Dev :=
  (List.range 32).foldl (fun s c => s.readOwn n k (lineAt b r c)) s

/-- A count has risen: the row is rewritten at REWRITE_AT, and weak at WEAK_AT (R281). -/
def Dev.trackAct (s : Dev) (n : Nat) (e : TrackE) : Dev :=
  let set (s : Dev) (f : TrackE) : Dev := s.modShaft n (fun p =>
    { p with tracker := p.tracker.map (fun t => if t.bank == e.bank && t.row == e.row then f else t) })
  if e.st == 0 && s.fv Reg.SHAFT_TRACK_CTL_REWRITE_AT n ≤ e.count then
    (set s { e with st := 1, count := 0, map := 0 }).readRow n 1 e.bank e.row
  else if e.st == 1 && s.fv Reg.SHAFT_TRACK_CTL_WEAK_AT n ≤ e.count then set s { e with st := 2 }
  else s

/-- The lowest count among entries in TRACK. -/
def lowTrack (t : List TrackE) : Option TrackE := bestBy (fun e => 16 - e.count) (t.filter (fun e => e.st == 0))

/-- A corrected read counts toward its row, once per column (R280). -/
def Dev.trackRow (s : Dev) (n l : Nat) : Dev :=
  let p := s.shaft n
  let b := bankOf l
  let r := rowOf l
  let bit : BitVec 32 := BitVec.ofNat 32 (2 ^ colOf l)
  match p.tracker.find? (fun t => t.bank == b && t.row == r) with
  | some e =>
    if e.map &&& bit != 0 then s
    else
      let f := { e with count := min 15 (e.count + 1), map := e.map ||| bit }
      ((s.modShaft n (fun p => { p with tracker := p.tracker.map (fun t => if t == e then f else t) })).trackAct n f).showTrack n
  | none =>
    let f : TrackE := ⟨b, r, 0, 1, bit⟩
    if p.tracker.length < 128 then
      ((s.modShaft n (fun p => { p with tracker := p.tracker ++ [f] })).trackAct n f).showTrack n
    else match lowTrack p.tracker with
    | some e => ((s.modShaft n (fun p => { p with tracker := dropFirst (fun t => t == e) p.tracker ++ [f] })).trackAct n f).showTrack n
    | none => s.bump Reg.SHAFT_CNT_TRACK_DROP_VALUE n

/-- Count the row against its column; a column that reaches COL_ROWS rows is suspect (R284). -/
def Dev.trackCol (s : Dev) (n l : Nat) : Dev :=
  let k := 32 * bankOf l + colOf l
  let rows := sget (fun _ => []) (s.shaft n).cols k
  if rows.contains (rowOf l) then s
  else
    let rows := rows ++ [rowOf l]
    let s := s.modShaft n (fun p => { p with cols := sset (fun _ => []) p.cols k rows })
    if rows.length == s.fv Reg.SHAFT_TRACK_CTL_COL_ROWS n then
      let s := ((s.setF Reg.SHAFT_COL_SUSPECT_VALID 1 n).setF Reg.SHAFT_COL_SUSPECT_ROWS rows.length n).setF Reg.SHAFT_COL_SUSPECT_BANK (bankOf l) n
      ((s.setF Reg.SHAFT_COL_SUSPECT_COLUMN (colOf l) n).raiseDie n Reg.EV_DIE_COLUMN_SUSPECT).record (shaftPage n) codeOTHER sevWARNING
        [bankOf l, colOf l]
    else s

def Dev.trackCorr (s : Dev) (n l : Nat) : Dev := (s.trackRow n l).trackCol n l

/-- TRACKER_ENTRY_EXPIRY (R281): an entry that is not WEAK has gained no count in one scrub period. -/
def Dev.trackExpire (s : Dev) (n i : Nat) : Dev :=
  match (s.shaft n).tracker[i]? with
  | some e => if e.st == 2 then s
    else (s.modShaft n (fun p => { p with tracker := dropFirst (fun t => t == e) p.tracker })).showTrack n
  | none => s

def execTrackerEntryExpiry (n : Fin 48) (i : Fin 128) (s : State) : Host.Outcome State Fault Refusal := s.on fun s => .next (s.trackExpire n i)

/-! ### Giving a line to its requester -/

/-- Put the write buffer's bytes on top of what the cells gave (R165). -/
def RdFly.merged (f : RdFly) (d : Line) (bad : BitVec 64) : Line × BitVec 64 :=
  (mergeLine d f.ovd f.ovm, (bad &&& (fullMask ^^^ f.ovm)) ||| (f.ovb &&& f.ovm))

/-- The atomics of the window that join the chain of a line: those of the line in order, up to 16, until another kind of access to it is
next, or one whose operand is poisoned has been applied (R172). -/
def chain (l : Nat) : Nat → List WinE → List Req
  | 0, _ => []
  | _, [] => []
  | k + 1, w :: ws =>
    if !(w.on l) then chain l (k + 1) ws
    else match w.req.op with
    | .atom _ => w.req :: (if w.req.parOk then chain l k ws else [])
    | _ => []

/-- One atomic of a chain: the operation of R90 on its word. A poisoned operand of an engine makes the line poison (R235, log 165). -/
def UnitLine.apply (h : UnitLine) (r : Req) : UnitLine :=
  let old := wordAt h.data r.off
  if !r.parOk then { h with data := 0, mask := fullMask, bad := poisonBad, answers := h.answers ++ [(r, .atomData old true false)] }
  else
    let new := match r.op with
      | .atom k => atomResult k old r.a r.b
      | _ => old
    { h with data := setWord h.data r.off new, mask := h.mask ||| wordMask r.off, answers := h.answers ++ [(r, .atomData old (old != new) false)] }

/-- An atomic unit serves its chain on the line it holds, 2 CK each, and then holds what it is to write (R90, R172): the words of the chain,
or with `full` the whole line, which is to be written back (R273). -/
def Dev.serveAtoms (s : Dev) (n : Nat) (f : RdFly) (y : Line × BitVec 64) (full : Bool) : Dev :=
  let rs := chain f.sline 16 (s.shaft n).win
  let h := rs.foldl UnitLine.apply ⟨y.1, if full then fullMask else 0, 0, []⟩
  let s := s.modShaft n (fun p =>
    { p with win := p.win.filter (fun w => !(rs.any (fun r => r.id == w.req.id))),
             units := p.units.map (fun u => if u.id == f.req.id && !u.fix then
               { u with value := some (h.data, h.mask, h.bad), from_ := p.ck + 2 * rs.length, cls := if full then 62 else u.cls } else u) })
  let s := if h.bad == 0 then s else s.signed n
  h.answers.foldl (fun s x => s.shaftAnswer n x.1 x.2) (s.bumpBy Reg.SHAFT_CNT_ATOM_VALUE h.answers.length n)

/-- A line is bound for its requester: an atomic goes to its unit, and the rest as `giveLine` says. -/
def Dev.deliverLine (s : Dev) (n : Nat) (f : RdFly) (y : Line × BitVec 64) (full : Bool := false) : Dev :=
  match f.req.op with
  | .atom _ =>
    if linePoison y then
      (s.modShaft n (fun p => { p with units := p.units.filter (fun u => u.id != f.req.id || u.fix),
                                       win := p.win.filter (fun w => w.req.id != f.req.id) })).shaftAnswer n f.req (.atomData 0 false true)
    else s.serveAtoms n f y full
  | _ => s.giveLine n f.req f.idx f.sline y

/-! ### The correction order (R273 to R275) -/

def Dev.setFly (s : Dev) (n : Nat) (f g : RdFly) : Dev :=
  s.modShaft n (fun p => { p with fly := p.fly.map (fun x => if x == f then g else x) })
def Dev.dropFly (s : Dev) (n : Nat) (f : RdFly) : Dev :=
  s.modShaft n (fun p => { p with fly := dropFirst (fun x => x == f) p.fly })

/-- The CORRECTION record of a case that source `k`, 3 to 5, ended (R273, R441, R442). -/
def Dev.corrRecord (s : Dev) (n : Nat) (f : RdFly) (k : Nat) : Dev :=
  s.record (shaftPage n) 0x101 (if k == 5 then sevERROR else sevWARNING) [f.sline, k, originCode f.req.org]

/-- The host line of a read burst. -/
def RdFly.host (f : RdFly) : Nat := frameOfLine f.req.line * 8192 + f.sline % 8192

/-- A corrective or scrub write-back (R274): the line is held, as by an atomic unit, until its WR under class 62 has gone. The lines of a row
repair are written by the repair. -/
def Dev.writeBack (s : Dev) (n : Nat) (f : RdFly) (y : Line × BitVec 64) : Dev :=
  if f.req.org == .scrub 2 then s
  else s.modShaft n (fun p => { p with units := p.units ++ [⟨f.req.id, f.sline, f.host, 62, 0, f.age, true, p.ck, some (y.1, fullMask, y.2)⟩] })

/-- Source 5: the signature is written, which lists the line, and answered. -/
def Dev.toPoison (s : Dev) (n : Nat) (f : RdFly) : Dev :=
  ((((s.dropFly n f).writeBack n f (0, poisonBad)).signed n).corrRecord n f 5).deliverLine n f (0, poisonBad)

/-- Is source 3 open: the sector CLEAN with a far copy, and the port not blocked? -/
def Dev.farSource (s : Dev) (n : Nat) (f : RdFly) : Option Nat :=
  match s.entry (frameOfLine f.req.line), s.farPortOf (frameOfLine f.req.line) with
  | some e, some p =>
    if e.shaft == n && e.slot == f.sline / 8192 && e.sec (f.sline % 8192 / 64) == secCLEAN && e.farValid && !(s.farBlocked p) &&
        f.req.op != .capture then some p else none
  | _, _ => none

/-- Is source 4 open (R273, R326): the line in a mirror window and the partner up; a PRIMARY's partner serves only what it holds? -/
def Dev.pairSource (s : Dev) (f : RdFly) : Option Nat :=
  match s.mirrorWin (frameOfLine f.host), s.pairPort with
  | some j, some p =>
    if s.pairActive p && !s.pairMuted && f.req.op != .capture &&
        (s.role == roleSECONDARY || (s.role == rolePRIMARY && (!(s.isLagged j) || !(s.pair.lagQ.any (fun x => x.1 == f.host))))) then some p
    else none
  | _, _ => none

/-- Source 4, or poison. -/
def Dev.tryPair (s : Dev) (n : Nat) (f : RdFly) : Dev :=
  match s.pairSource f with
  | some p =>
    let q := s.pair.mseq
    let s := (s.setFly n f { f with stage := 5 }).modPair (fun x => { x with asked := x.asked ++ [(n, f.sline, q)], mseq := (q + 1) % 65536 })
    s.sendPair p { mtype := 6, addr := f.host, mseq := q, cls := 60 }
  | none => s.toPoison n f

/-- The source a read is at has failed: the next one is tried. Re-reads and the re-sense go through the scheduler (R170); later bursts of
the line that are in flight are read again after this one (R274). -/
def Dev.nextSource (s : Dev) (n : Nat) (f : RdFly) : Dev :=
  let again (s : Dev) (k : Nat) : Dev := s.setFly n f { f with stage := k, wait := 1, shut := false }
  match f.stage with
  | 0 =>
    let s := again (s.bump Reg.SHAFT_CNT_PARITY_RD_VALUE n) 1
    s.modShaft n (fun p => { p with fly := p.fly.map (fun g => if g.sline == f.sline && decide (f.age < g.age) then { g with wait := 1 } else g) })
  | 1 => again s 2
  | 2 => again s 3
  | 3 =>
    (match s.farSource n f with
     | some p =>
       let l := s.farLineOf f.host
       let t := (s.setFly n f { f with stage := 4 }).farIssue p (.corr n f.req.id f.idx) false l 0 0
       if (List.range 8).any (fun k => s.hdmCovers p k l) then t else t.tryPair n { f with stage := 4 }
     | none => s.tryPair n f)
  | 4 => s.tryPair n f
  | _ => s.toPoison n f

/-- A good line has come from source 0 to 4, its CORR high (`corr`) or low: it is given to the requester; from source 2 on it is written back,
with no other access to the line between (R273, R274), as is a line of a visit that the die had to correct, and every line of a row that is
rewritten (R278, R281). -/
def Dev.goodLine (s : Dev) (n : Nat) (f : RdFly) (d : Line) (corr : Bool) : Dev :=
  let s := s.dropFly n f
  let s := if f.stage == 1 || f.stage == 2 then s.bump Reg.SHAFT_CNT_REREAD_OK_VALUE n
    else if f.stage == 3 then s.bump Reg.SHAFT_CNT_RESENSE_OK_VALUE n
    else if f.stage == 4 then (s.bump Reg.SHAFT_CNT_FAR_FIX_VALUE n).corrRecord n f 3
    else if f.stage == 5 then (s.bump Reg.SHAFT_CNT_PAIR_FIX_VALUE n).corrRecord n f 4
    else s
  let y := f.merged d 0
  let scrub := (f.req.org == .scrub 0 && corr) || f.req.org == .scrub 1
  let s := if scrub then s.bump Reg.SHAFT_CNT_SCRUB_WB_VALUE n else s
  match f.req.op with
  | .atom _ => s.deliverLine n f y (decide (3 ≤ f.stage))
  | _ => (if scrub || 3 ≤ f.stage then s.writeBack n f y else s).deliverLine n f y

/-- Does haulage's answer to scrub's query leave the line alone (R278): a free slot, or a sector that is neither CLEAN nor DIRTY? -/
def Dev.scrubIgnores (s : Dev) (n : Nat) (f : RdFly) : Bool :=
  (f.req.org == .scrub 0 || f.req.org == .scrub 1) && (match s.frameAt n (f.sline / 8192) with
    | some x => let sec := ((s.entry x).map (fun e => e.sec (f.sline % 8192 / 64))).getD 0
      sec != secCLEAN && sec != secDIRTY
    | none => true)

/-- The burst whose data are next: the oldest one that has been issued and whose RL has passed, unless an earlier burst of its line is
unfinished. -/
def Dev.nextBurst (s : Dev) (n : Nat) : Option RdFly :=
  let p := s.shaft n
  p.fly.find? (fun f => f.stage ≤ 3 && f.wait == 0 && (decide (f.due ≤ p.ck) || s.inSR n) &&
    !(p.fly.any (fun g => g.sline == f.sline && decide (g.age < f.age))))

/-- READ_DATA_RETURN: a burst comes back. The poison signature on all 64 bytes, with CORR low, is answered at once; a byte that fails parity
and that the write buffer does not hold starts or continues the correction order (R272, R273). Corrections count toward the row, but for the
reads of its own rewrite or repair (R280). -/
def Dev.readReturn (s : Dev) (n : Nat) (o : ReadObs) : Dev :=
  match s.nextBurst n with
  | none => s
  | some f =>
    let s := s.countWords n o
    let s := if o.corr == 0 || f.req.org == .scrub 1 || f.req.org == .scrub 2 then s else s.trackCorr n f.sline
    if isPoison f.data f.bad && o.bad == 0 && o.unc == 0 && o.corr == 0 && f.ovm != fullMask then
      ((s.dropFly n f).listPoison n f.sline).deliverLine n f (0, poisonBad)
    else
      let bad := (f.bad ||| readFails o) &&& (fullMask ^^^ f.ovm)
      if bad == 0 then s.goodLine n f f.data (o.corr != 0)
      else if f.stage == 0 && s.scrubIgnores n f then ((s.dropFly n f).bump Reg.SHAFT_CNT_SCRUB_IGNORED_VALUE n).deliverLine n f (f.data, 0)
      else s.nextSource n f

def execReadDataReturn (n : Fin 48) (o : ReadObs) (s : State) : Host.Outcome State Fault Refusal := s.on fun s => .next (s.readReturn n o)

/-- Take back the correction read of a burst, waiting or outstanding. -/
def Dev.dropCorr (s : Dev) (n : Nat) (f : RdFly) : Dev :=
  (List.range 4).foldl (fun s q => if (s.far q).cxl.any (fun x => x.org == .corr n f.req.id f.idx) ||
      (s.far q).cxlQ.any (fun x => x.org == .corr n f.req.id f.idx) then
    s.modFar q (fun p => { p with cxl := p.cxl.filter (fun x => x.org != .corr n f.req.id f.idx),
                                  cxlQ := p.cxlQ.filter (fun x => x.org != .corr n f.req.id f.idx) }) else s) s

/-- The partner is no longer asked for a burst's line. -/
def Dev.dropAsked (s : Dev) (n : Nat) (f : RdFly) : Dev :=
  s.modPair (fun x => { x with asked := dropFirst (fun a => a.1 == n && a.2.1 == f.sline) x.asked })

/-- CORRECTION_SOURCE_TIMEOUT (R273): the oldest read waiting on source 3 or 4 has waited its limit; in a ground-die reset it waits for haulage
(R289). -/
def Dev.sourceTimeout (s : Dev) (n : Nat) : Dev :=
  if s.ks.gdr.isSome then s
  else match (s.shaft n).fly.find? (fun f => 4 ≤ f.stage) with
  | none => s
  | some f => (if f.stage == 4 then s.dropCorr n f else s.dropAsked n f).nextSource n f

def execCorrectionSourceTimeout (n : Fin 48) (s : State) : Host.Outcome State Fault Refusal := s.on fun s => .next (s.sourceTimeout n)

/-- A line has come from far memory for burst `idx` of request `id`: good on every byte it is used; otherwise the next source is tried. -/
def Dev.farFix (s : Dev) (n id idx : Nat) (d : Line) (bad : BitVec 64) : Dev :=
  match (s.shaft n).fly.find? (fun f => f.stage == 4 && f.req.id == id && f.idx == idx) with
  | none => s
  | some f => if bad == 0 then s.goodLine n f d false else s.nextSource n f

/-- FAR_FIX_ARRIVAL (R273): the line far memory, or the partner, holds of line `l` of the shaft, with the parity it carries. -/
def Dev.fixArrival (s : Dev) (n l : Nat) (d : Line) (bad : BitVec 64) : Dev :=
  match (s.shaft n).fly.find? (fun f => 4 ≤ f.stage && f.sline == l) with
  | none => s
  | some f =>
    let s := if f.stage == 4 then s.dropCorr n f else s.dropAsked n f
    if bad == 0 then s.goodLine n f d false else s.nextSource n f

def execFarFixArrival (n : Fin 48) (l : Nat) (x : SentLine) (s : State) : Host.Outcome State Fault Refusal := s.on fun s =>
  .next (s.fixArrival n l x.data (badBytes x.data x.par))

/-- A line, or none, has come from the partner for line `l` of shaft `n`. -/
def Dev.pairFix (s : Dev) (n l : Nat) (d : Option Line) : Dev :=
  match (s.shaft n).fly.find? (fun f => f.stage == 5 && f.sline == l) with
  | none => s
  | some f => match d with
    | some d => s.goodLine n f d false
    | none => s.nextSource n f

/-- Far port `f` blocks, or the partner goes dark: every read waiting on that source goes on at once; in a ground-die reset it waits for
haulage instead (R289). -/
def Dev.skipSources (s : Dev) (far : Option Nat) : Dev :=
  if s.ks.gdr.isSome then s
  else (List.range 48).foldl (fun s n => (s.shaft n).fly.foldl (fun s f =>
    match far with
    | some p => if f.stage == 4 && s.farPortOf (frameOfLine f.req.line) == some p then (s.dropCorr n f).nextSource n f else s
    | none => if f.stage == 5 then s.nextSource n f else s) s) s

/-! ### Patrol scrub (R277, R278, R290) -/

/-- Does scrub run on the shaft? -/
def Dev.scrubs (s : Dev) (n : Nat) : Bool :=
  let st := s.shaftSt n
  s.fb Reg.SHAFT_SCRUB_CTL_EN n && (st == stONLINE || st == stEVACUATING || st == stFENCED) && !(s.isParked n) && !(s.freqBusy n) && !(s.inSR n) && !s.workStops

/-- SCRUB_VISIT (R277): a visit of the row at SCRUB_POS starts; its 32 reads go through the scheduler under class 62, and their comparison takes
the helper lease (R197, R352). A visit that falls due while the last one is unfinished, or the lease is held, does not start (log 169). -/
def Dev.scrubVisit (s : Dev) (n : Nat) : Dev :=
  if !(s.scrubs n) || (s.shaft n).scrubLeft != 0 then s
  else
    let (ok, s) := s.askLease (lsHelper n) hoSCRUB rkINTEGRITY
    if !ok then s else
    (s.modShaft n (fun p => { p with scrubLeft := 32 })).readRow n 0 (s.fv Reg.SHAFT_SCRUB_POS_BANK n) (s.fv Reg.SHAFT_SCRUB_POS_ROW n)

def execScrubVisit (die : Fin 12) (q : Fin 4) (s : State) : Host.Outcome State Fault Refusal := s.on fun s => .next (s.scrubVisit (4 * die.val + q.val))

/-! ### Repairs (R282 to R288) -/

/-- A soft row repair starts (R282, R283): the row is read into the repair buffer. A shaft that R179 holds in self-refresh refuses it, as one
in no state for it does (log 168). -/
def Dev.rowRepair (s : Dev) (n b r : Nat) (fw : Bool) (o : RepairObs) : Dev :=
  let st := s.shaftSt n
  if (s.shaft n).rep.isSome || (s.shaft n).colRun.isSome then s
  else if !(st == stONLINE || st == stEVACUATING || st == stFENCED || st == stTESTING) || (s.shaft n).alertFenced then s.repairEnd n 2 1 0
  else
    let used := s.usedRows n b
    if 64 ≤ used then
      ((s.repairEnd n 2 2 0).raiseDie n Reg.EV_DIE_SPARE_EXHAUSTED).record (shaftPage n) codeOTHER sevWARNING [b, r]
    else
      let s := (s.wakeShaft n).modShaft n (fun p => { p with rep := some ⟨b, r, used, o.done, fw, [], false, []⟩ })
      (s.setF Reg.SHAFT_REPAIR_STATUS_BUSY 1 n).readRow n 2 b r

/-- The repair of the first WEAK row, which the tracker starts by itself while AUTO_REPAIR is 1 (R281). -/
def Dev.autoRepair (s : Dev) (n : Nat) (o : RepairObs) : Dev :=
  match (s.shaft n).tracker.find? (fun t => t.st == 2) with
  | some t => if s.fb Reg.SHAFT_TRACK_CTL_AUTO_REPAIR n && s.shaftSt n != stTESTING then s.rowRepair n t.bank t.row false o else s
  | none => s

/-- A column repair (R285): of an empty shaft it is over at once; otherwise the column is copied to staging slots of the shaft and back, line by
line (log 185). -/
def Dev.colRepair (s : Dev) (n b c : Nat) (o : RepairObs) : Dev :=
  let st := s.shaftSt n
  let empty := !(s.space.ways.any (fun x => x.2.valid && x.2.shaft == n))
  let used := s.usedCols n b
  let lamp := s.mode == mdLAMPROOM
  let free := s.freeCount n
  let spare := s.unpinnedIn n
  if (s.shaft n).rep.isSome || (s.shaft n).colRun.isSome then s
  else if !((st == stFENCED && empty) || ((st == stFENCED || st == stTESTING) && lamp)) || (s.shaft n).alertFenced then s.repairEnd n 2 1 0
  else if 4 ≤ used then
    ((s.repairEnd n 2 2 0).raiseDie n Reg.EV_DIE_SPARE_EXHAUSTED).record (shaftPage n) codeOTHER sevWARNING [b, c]
  else if !empty then
    if free + spare.length < 12 then s.repairEnd n 2 3 0
    else (s.setF Reg.SHAFT_REPAIR_STATUS_BUSY 1 n).modShaft n (fun p => { p with colRun := some { bank := b, col := c, spare := used, done := o.done } })
  else if !o.done then s.repairEnd n 2 4 0
  else (s.colMapped n b c used).repairEnd n 1 0 used

end Sys2Proof.Machine
end

