-- ==== Sys2Proof/Machine/Crc.lean ====
section
/-!
DEFINITION. Machine/Crc.lean: CRC-32C, which R320 and the engine's CRC step name. The spec names the code only; its polynomial 0x1EDC6F41,
reflected, with start and final value all ones, is the published one (PRESUMED, log 17).
-/
namespace Sys2Proof.Machine

/-- One bit of the reflected division. -/
def crcBit (c : BitVec 32) : BitVec 32 := if c.getLsbD 0 then (c >>> 1) ^^^ 0x82F63B78#32 else c >>> 1

/-- One byte. -/
def crcByte (c : BitVec 32) (b : Nat) : BitVec 32 :=
  (List.range 8).foldl (fun c _ => crcBit c) (c ^^^ BitVec.ofNat 32 (b % 256))

/-- Continue a running remainder over bytes. -/
def crcRun (c : BitVec 32) (bs : List Nat) : BitVec 32 := bs.foldl crcByte c

/-- CRC-32C of a byte string. -/
def crc32c (bs : List Nat) : BitVec 32 := (crcRun (BitVec.allOnes 32) bs) ^^^ BitVec.allOnes 32

/-- The bytes of a number, least significant first. -/
def bytesLE (n x : Nat) : List Nat := (List.range n).map (fun i => x / 2 ^ (8 * i) % 256)

end Sys2Proof.Machine
end

