-- ==== Sys2Proof/Machine/Float.lean ====
section
/-!
DEFINITION. Machine/Float.lean: the floating-point arithmetic of the engines (R217, R218): bf16, fp16 and fp32 as exact numbers
m × 2^e, rounded once by FP_CTL.ROUND.
-/
namespace Sys2Proof.Machine

/-- A format: exponent bits, fraction bits, and whether subnormals are taken as zero (bf16, R218). -/
structure Fmt where
  ew : Nat
  fw : Nat
  flush : Bool
  deriving DecidableEq, Repr

def fmtBF16 : Fmt := ⟨8, 7, true⟩
def fmtFP16 : Fmt := ⟨5, 10, false⟩
def fmtFP32 : Fmt := ⟨8, 23, false⟩

/-- What a floating-point word stands for: ± mant × 2^exp, an infinity, or a NaN. -/
inductive FVal where
  | nan
  | inf (neg : Bool)
  | fin (neg : Bool) (mant : Nat) (exp : Int)
  deriving DecidableEq, Repr

def Fmt.bias (t : Fmt) : Int := 2 ^ (t.ew - 1) - 1
/-- Encoding of +∞. -/
def Fmt.infBits (t : Fmt) : Nat := (2 ^ t.ew - 1) * 2 ^ t.fw
def Fmt.signBit (t : Fmt) : Nat := 2 ^ (t.ew + t.fw)
/-- The quiet NaN of R218: all fraction bits set, sign 0. -/
def Fmt.nanBits (t : Fmt) : Nat := t.infBits + (2 ^ t.fw - 1)

/-- The value of a word. -/
def Fmt.decode (t : Fmt) (x : Nat) : FVal :=
  let neg := x / t.signBit % 2 == 1
  let e := x / 2 ^ t.fw % 2 ^ t.ew
  let f := x % 2 ^ t.fw
  if e == 2 ^ t.ew - 1 then (if f == 0 then .inf neg else .nan)
  else if e == 0 then .fin neg (if t.flush then 0 else f) (1 - t.bias - t.fw)
  else .fin neg (2 ^ t.fw + f) (e - t.bias - t.fw)

/-- Rounding modes of FP_CTL.ROUND: 0 nearest even, 1 toward zero, 2 down, 3 up. Does a magnitude go up, given the quotient, the
remainder and the divisor? -/
def roundsUp (mode : Nat) (neg : Bool) (q r d : Nat) : Bool :=
  if r == 0 then false
  else match mode with
    | 0 => decide (d < 2 * r) || (2 * r == d && q % 2 == 1)
    | 1 => false
    | 2 => neg
    | _ => !neg

/-- x / 2^k rounded. -/
def shiftRound (mode : Nat) (neg : Bool) (x k : Nat) : Nat :=
  let d := 2 ^ k
  x / d + b2n (roundsUp mode neg (x / d) (x % d) d)

/-- The word for an exact value, rounded once; overflow follows the rounding mode. -/
def Fmt.encode (t : Fmt) (mode : Nat) : FVal → Nat
  | .nan => t.nanBits
  | .inf neg => t.infBits + b2n neg * t.signBit
  | .fin neg m e =>
    let sg := b2n neg * t.signBit
    if m == 0 then sg
    else
      let top : Int := (Nat.log2 m : Nat) + e
      let low : Int := 1 - t.bias
      let q : Int := max top low - t.fw
      let sig := if q ≤ e then m * 2 ^ (e - q).toNat else shiftRound mode neg m (q - e).toNat
      let bits := (max top low + t.bias).toNat * 2 ^ t.fw + sig - 2 ^ t.fw
      if t.infBits ≤ bits then
        (if mode == 0 || (mode == 2 && neg) || (mode == 3 && !neg) then t.infBits else t.infBits - 1) + sg
      else if t.flush && bits < 2 ^ t.fw then sg
      else bits + sg

/-! ### Exact arithmetic -/

def FVal.isNan : FVal → Bool
  | .nan => true
  | _ => false

def FVal.neg : FVal → FVal
  | .nan => .nan
  | .inf n => .inf (!n)
  | .fin n m e => .fin (!n) m e

/-- The exact product. -/
def FVal.mul : FVal → FVal → FVal
  | .nan, _ => .nan
  | _, .nan => .nan
  | .inf a, .inf b => .inf (a != b)
  | .inf a, .fin b m _ => if m == 0 then .nan else .inf (a != b)
  | .fin a m _, .inf b => if m == 0 then .nan else .inf (a != b)
  | .fin a m e, .fin b k f => .fin (a != b) (m * k) (e + f)

/-- A finite value as a signed whole number of 2^q, for q at most its exponent. -/
def scaled (q : Int) : FVal → Int
  | .fin n m e => (if n then -1 else 1) * (m * 2 ^ (e - q).toNat : Nat)
  | _ => 0

def expOf : FVal → Int
  | .fin _ _ e => e
  | _ => 0

def isNegZero : FVal → Bool
  | .fin true 0 _ => true
  | _ => false

def isInfS (neg : Bool) : FVal → Bool
  | .inf n => n == neg
  | _ => false

/-- The exact sum. A sum of zero is −0 when every term is −0, or when rounding down and the terms do not all have sign +;
otherwise +0. -/
def fsum (mode : Nat) (ts : List FVal) : FVal :=
  if ts.any FVal.isNan then .nan
  else if ts.any (isInfS true) && ts.any (isInfS false) then .nan
  else if ts.any (isInfS true) then .inf true
  else if ts.any (isInfS false) then .inf false
  else
    let q := ts.foldl (fun q t => min q (expOf t)) 0
    let x := ts.foldl (fun x t => x + scaled q t) 0
    if x == 0 then
      let plus := ts.all (fun t => match t with
        | .fin n m _ => m == 0 && !n
        | _ => false)
      .fin (ts.all isNegZero || (mode == 2 && !plus)) 0 0
    else .fin (decide (x < 0)) x.natAbs q

/-- Exact comparison of two values that are not NaN: less than, and equal. -/
def fless (a b : FVal) : Bool :=
  match a, b with
  | .nan, _ => false
  | _, .nan => false
  | .inf true, .inf true => false
  | .inf true, _ => true
  | _, .inf true => false
  | .inf false, _ => false
  | _, .inf false => true
  | .fin _ _ e, .fin _ _ f => decide (scaled (min e f) a < scaled (min e f) b)

def feq (a b : FVal) : Bool := !(a.isNan) && !(b.isNan) && !(fless a b) && !(fless b a)

/-- The smaller (or larger) of two values. Where one is a NaN, or both are zeros, the spec does not say which is given: the free
number `k` chooses. -/
def fpick (isMin : Bool) (k : Nat) (a b : FVal) : FVal :=
  if a.isNan || b.isNan then
    (match Config.freeNat k % 3 with
     | 0 => .nan
     | 1 => if a.isNan then b else a
     | _ => .nan)
  else if feq a b then (if Config.freeNat k % 2 == 0 then a else b)
  else if (fless a b) == isMin then a else b

/-- A relative error of at most 2^−12, as a free fraction of 2^32: between −2^20 + 1 and 2^20 − 1 (R218). -/
def freeError (k : Nat) : Int := (Config.freeNat k % (2 ^ 21 - 1) : Nat) - (2 ^ 20 - 1)

/-- 1 / a within the error of R218. -/
def frcp (k : Nat) : FVal → FVal
  | .nan => .nan
  | .inf n => .fin n 0 0
  | .fin n m e =>
    if m == 0 then .inf n
    else .fin n (((2 : Int) ^ 32 + freeError k).toNat * 2 ^ 80 / m) (-e - 112)

/-- The whole square root, by bisection from the top bit. -/
def isqrtGo : Nat → Nat → Nat → Nat
  | 0, _, r => r
  | b + 1, x, r => isqrtGo b x (if (r + 2 ^ b) * (r + 2 ^ b) ≤ x then r + 2 ^ b else r)
def isqrt (x : Nat) : Nat := isqrtGo (Nat.log2 x / 2 + 1) x 0

/-- 1 / √a within the error of R218. -/
def frsq (k : Nat) : FVal → FVal
  | .nan => .nan
  | .inf true => .nan
  | .inf false => .fin false 0 0
  | .fin n m e =>
    if m == 0 then .inf n
    else if n then .nan
    else
      let m := if e % 2 == 0 then m else 2 * m
      let e := if e % 2 == 0 then e else e - 1
      let r := isqrt (m * 2 ^ 160)
      .fin false (((2 : Int) ^ 32 + freeError k).toNat * 2 ^ 200 / r) (-(e / 2) + 80 - 232)

/-- A value rounded to a whole number. -/
def toWhole (mode : Nat) : FVal → Int
  | .fin n m e =>
    let x := if 0 ≤ e then m * 2 ^ e.toNat else shiftRound mode n m (-e).toNat
    if n then -(x : Int) else x
  | _ => 0

/-- A whole number as a value. -/
def ofWhole (x : Int) : FVal := .fin (decide (x < 0)) x.natAbs 0

end Sys2Proof.Machine
end

