-- ==== Sys2Proof/Machine/Lanes.lean ====
section
/-!
DEFINITION. Machine/Lanes.lean: the registers of an engine (R214), element types and lanes (R217), masks and the summary flag
(R221, R222), and what each element of a result is (R218, R223).
-/
namespace Sys2Proof.Machine

/-! ### Registers -/

def zeroV (_ : Nat) : BitVec 512 := 0
def zeroM (_ : Nat) : BitVec 64 := 0
def noBit (_ : Nat) : Bool := false
def zeroN (_ : Nat) : Nat := 0

def EngSt.vr (g : EngSt) (i : Nat) : BitVec 512 := sget zeroV g.v i
def EngSt.vpr (g : EngSt) (i : Nat) : BitVec 64 := sget zeroM g.vp i
def EngSt.mr (g : EngSt) (i : Nat) : BitVec 64 := sget zeroM g.m i
def EngSt.sr (g : EngSt) (i : Nat) : Word64 := sget zeroM g.s i
def EngSt.spr (g : EngSt) (i : Nat) : Bool := sget noBit g.sp i
def EngSt.lr (g : EngSt) (k : Nat) : Nat := sget zeroN g.l k

def EngSt.setV (g : EngSt) (i : Nat) (x : BitVec 512) (p : BitVec 64) : EngSt :=
  { g with v := sset zeroV g.v i x, vp := sset zeroM g.vp i p }
def EngSt.setM (g : EngSt) (i : Nat) (x : BitVec 64) : EngSt := { g with m := sset zeroM g.m i x }
def EngSt.setS (g : EngSt) (i : Nat) (x : Nat) (p : Bool) : EngSt :=
  { g with s := sset zeroM g.s i (BitVec.ofNat 64 x), sp := sset noBit g.sp i p }
def EngSt.setL (g : EngSt) (k x : Nat) : EngSt := { g with l := sset zeroN g.l k x }
def EngSt.strm (g : EngSt) (k : Nat) : Option Strm := sget (fun _ => none) g.streams k
def EngSt.setStrm (g : EngSt) (k : Nat) (x : Option Strm) : EngSt := { g with streams := sset (fun _ => none) g.streams k x }

/-! ### Types (R217) -/

/-- What the elements of a TYPE are. -/
inductive Kind where
  | sint | uint | flt (t : Fmt)
  deriving DecidableEq, Repr

/-- An element type: width in bytes and kind. -/
structure Ty where
  w : Nat
  k : Kind
  deriving DecidableEq, Repr

/-- The types of TYPE 0 to 9; 10 to 15 are none. -/
def tyOf (c : Nat) : Option Ty :=
  match c with
  | 0 => some ⟨1, .sint⟩
  | 1 => some ⟨1, .uint⟩
  | 2 => some ⟨2, .sint⟩
  | 3 => some ⟨2, .uint⟩
  | 4 => some ⟨2, .flt fmtBF16⟩
  | 5 => some ⟨2, .flt fmtFP16⟩
  | 6 => some ⟨4, .sint⟩
  | 7 => some ⟨4, .uint⟩
  | 8 => some ⟨4, .flt fmtFP32⟩
  | 9 => some ⟨8, .sint⟩
  | _ => none

def Ty.lanes (t : Ty) : Nat := 64 / t.w
def Ty.bits (t : Ty) : Nat := 8 * t.w
def Ty.isInt (t : Ty) : Bool := match t.k with
  | .flt _ => false
  | _ => true
def Ty.isFlt (t : Ty) : Bool := !t.isInt
def Ty.isS (t : Ty) : Bool := t.k == .sint

/-- An element as a whole number. -/
def Ty.toI (t : Ty) (x : Nat) : Int := if t.k == .sint then toSigned t.bits x else (x % 2 ^ t.bits : Nat)
/-- A whole number wrapped into an element. -/
def Ty.ofI (t : Ty) (x : Int) : Nat := ofSigned t.bits x
def Ty.minI (t : Ty) : Int := if t.k == .sint then -(2 ^ (t.bits - 1) : Nat) else 0
def Ty.maxI (t : Ty) : Int := if t.k == .sint then (2 ^ (t.bits - 1) : Nat) - 1 else (2 ^ t.bits : Nat) - 1
/-- A whole number saturated into an element. -/
def Ty.satI (t : Ty) (x : Int) : Nat := t.ofI (max t.minI (min t.maxI x))

/-! ### Lanes -/

/-- Element `i` of width `w` of a vector register. -/
def elem (w : Nat) (v : BitVec 512) (i : Nat) : Nat := v.toNat / 2 ^ (8 * w * i) % 2 ^ (8 * w)

/-- A vector register from its elements of width `w`. -/
def ofElems (w : Nat) (f : Nat → Nat) : BitVec 512 :=
  BitVec.ofNat 512 ((List.range (64 / w)).foldr (fun i n => n * 2 ^ (8 * w) + f i % 2 ^ (8 * w)) 0)

/-- Is any byte of element `i` poisoned? -/
def elemBad (w : Nat) (p : BitVec 64) (i : Nat) : Bool := decide (p.toNat / 2 ^ (w * i) % 2 ^ w ≠ 0)

/-- The poison bits of element `i`, one per byte, and those of an element that is poisoned as a whole. -/
def elemBits (w : Nat) (p : BitVec 64) (i : Nat) : Nat := p.toNat / 2 ^ (w * i) % 2 ^ w
def wholeBits (w : Nat) (bad : Bool) : Nat := if bad then 2 ^ w - 1 else 0

/-- Poison bits from those of the elements. -/
def ofBits (w : Nat) (f : Nat → Nat) : BitVec 64 :=
  BitVec.ofNat 64 ((List.range (64 / w)).foldr (fun i n => n * 2 ^ w + f i % 2 ^ w) 0)

/-- Bit `i` of a mask. -/
def mbit (m : BitVec 64) (i : Nat) : Bool := bitN m.toNat i

/-- Is lane `i` active (R221)? -/
def EngSt.active (g : EngSt) (f : StepF) (i : Nat) : Bool :=
  (f.mask == 0 || mbit (g.mr f.mask.toNat) i) != f.inv

/-- Write the active lanes of a vector destination with the poison bits of each byte; the others keep their values and theirs (R221). -/
def EngSt.putBytes (g : EngSt) (f : StepF) (w dst : Nat) (val bits : Nat → Nat) : EngSt :=
  g.setV dst (ofElems w (fun i => if g.active f i then val i else elem w (g.vr dst) i))
    (ofBits w (fun i => if g.active f i then bits i else elemBits w (g.vpr dst) i))

/-- The same with computed lanes: one with a poisoned input is poisoned as a whole (R235). -/
def EngSt.putLanes (g : EngSt) (f : StepF) (w dst : Nat) (val : Nat → Nat) (bad : Nat → Bool) : EngSt :=
  g.putBytes f w dst val (fun i => wholeBits w (bad i))

/-- Write every lane of a vector destination. -/
def EngSt.putAll (g : EngSt) (w dst : Nat) (val : Nat → Nat) (bad : Nat → Bool) : EngSt :=
  g.setV dst (ofElems w val) (ofBits w (fun i => wholeBits w (bad i)))

/-- The summary flag from a result mask and the lanes active at issue (R222). -/
def EngSt.summary (g : EngSt) (f : StepF) (lanes : Nat) (r : Nat → Bool) : EngSt :=
  let act := (List.range lanes).filter (fun i => g.active f i)
  { g with sfAny := act.any r, sfAll := act.all r }

/-! ### Elements (R218, R223) -/

/-- A whole number converted to TYPE (R220): the low bits for an integer type, the rounded value for a floating one; the number is
read as signed 64 bits. -/
def Ty.ofImm (t : Ty) (mode : Nat) (x : Nat) : Nat :=
  match t.k with
  | .flt fm => fm.encode mode (ofWhole (toSigned 64 x))
  | _ => x % 2 ^ t.bits

/-- Element operations of two or three operands. -/
inductive LOp where
  | add | sub | mul | mulh | fma | fms | fnma | rcp | min | max | abs | neg | adds | subs
  | and | or | xor | andn | not | shl | shr | sar | rotl | popc | clz | rsq | mov
  deriving DecidableEq, Repr

/-- An integer element result. -/
def intOp (t : Ty) (op : LOp) (a b c : Nat) : Nat :=
  let x := t.toI a
  let y := t.toI b
  let z := t.toI c
  let n := t.bits
  let k := b % n
  match op with
  | .add => t.ofI (x + y)
  | .sub => t.ofI (x - y)
  | .mul => t.ofI (x * y)
  | .mulh => t.ofI (x * y / 2 ^ n)
  | .fma => t.ofI (x * y + z)
  | .fms => t.ofI (x * y - z)
  | .fnma => t.ofI (z - x * y)
  | .min => if x ≤ y then a else b
  | .max => if y ≤ x then a else b
  | .abs => t.ofI (x.natAbs : Nat)
  | .neg => t.ofI (-x)
  | .adds => t.satI (x + y)
  | .subs => t.satI (x - y)
  | .and => Nat.land a b
  | .or => Nat.lor a b
  | .xor => Nat.xor a b
  | .andn => Nat.land a (Nat.xor b (2 ^ n - 1))
  | .not => Nat.xor a (2 ^ n - 1)
  | .shl => a * 2 ^ k % 2 ^ n
  | .shr => a / 2 ^ k
  | .sar => ofSigned n (toSigned n a / 2 ^ k)
  | .rotl => (a * 2 ^ k + a / 2 ^ (n - k)) % 2 ^ n
  | .popc => countOf n (fun i => bitN a i)
  | .clz => if a == 0 then n else n - 1 - Nat.log2 a
  | _ => a

/-- A floating element result; `k` numbers its free values. -/
def fltOp (fm : Fmt) (mode k : Nat) (op : LOp) (a b c : Nat) : Nat :=
  let x := fm.decode a
  let y := fm.decode b
  let z := fm.decode c
  match op with
  | .add => fm.encode mode (fsum mode [x, y])
  | .sub => fm.encode mode (fsum mode [x, y.neg])
  | .mul => fm.encode mode (x.mul y)
  | .fma => fm.encode mode (fsum mode [x.mul y, z])
  | .fms => fm.encode mode (fsum mode [x.mul y, z.neg])
  | .fnma => fm.encode mode (fsum mode [(x.mul y).neg, z])
  | .rcp => fm.encode mode (frcp k x)
  | .rsq => fm.encode mode (frsq k x)
  | .min => fm.encode mode (fpick true k x y)
  | .max => fm.encode mode (fpick false k x y)
  | .abs => fm.encode mode (match x with
    | .fin _ m e => .fin false m e
    | .inf _ => .inf false
    | .nan => .nan)
  | .neg => fm.encode mode x.neg
  | _ => a

def Ty.op (t : Ty) (mode k : Nat) (o : LOp) (a b c : Nat) : Nat :=
  match t.k with
  | .flt fm => if o == .mov then a else fltOp fm mode k o a b c
  | _ => intOp t o a b c

/-- Comparisons. -/
inductive COp where
  | eq | ne | lt | le | gt | ge | nan
  deriving DecidableEq, Repr

def Ty.cmp (t : Ty) (o : COp) (a b : Nat) : Bool :=
  match t.k with
  | .flt fm =>
    let x := fm.decode a
    let y := fm.decode b
    let bad := x.isNan || y.isNan
    match o with
    | .eq => feq x y
    | .ne => bad || !(feq x y)
    | .lt => fless x y
    | .le => !bad && (fless x y || feq x y)
    | .gt => fless y x
    | .ge => !bad && (fless y x || feq x y)
    | .nan => bad
  | _ =>
    let x := t.toI a
    let y := t.toI b
    match o with
    | .eq => decide (x = y)
    | .ne => decide (x ≠ y)
    | .lt => decide (x < y)
    | .le => decide (x ≤ y)
    | .gt => decide (y < x)
    | .ge => decide (y ≤ x)
    | .nan => false

/-- An element converted from one type to another (R218, R223); `sat` saturates an integer that is narrowed; every other integer wraps. -/
def convert (src dst : Ty) (mode : Nat) (sat : Bool) (x : Nat) : Nat :=
  match src.k, dst.k with
  | .flt a, .flt b => b.encode mode (a.decode x)
  | .flt a, _ => match a.decode x with
    | .nan => 0
    | .inf true => dst.ofI dst.minI
    | .inf false => dst.ofI dst.maxI
    | v => dst.satI (toWhole mode v)
  | _, .flt b => b.encode mode (ofWhole (src.toI x))
  | _, _ => if sat && decide (dst.w < src.w) then dst.satI (src.toI x) else dst.ofI (src.toI x)

/-- The hash of R223. -/
def hashElem (n : Nat) (imm x : Nat) : Nat :=
  let s1 := if n == 64 then 29 else 13
  let s2 := if n == 64 then 32 else 16
  let y := Nat.xor x (imm % 2 ^ n)
  let y := y * 0x85EBCA6B % 2 ^ n
  let y := Nat.xor y (y / 2 ^ s1)
  let y := y * 0xC2B2AE35 % 2 ^ n
  Nat.xor y (y / 2 ^ s2)

/-- Reductions. -/
inductive ROp where
  | sum | min | max | or
  deriving DecidableEq, Repr

/-- An element as the result of an arithmetic step (R218): a floating one rounded to its type, its NaN the quiet one. -/
def Ty.canon (t : Ty) (mode x : Nat) : Nat :=
  match t.k with
  | .flt fm => fm.encode mode (fm.decode x)
  | _ => x

/-- The reduction of a list of elements, in lane order; `k` numbers the free values of floating minima and maxima. -/
def Ty.reduce (t : Ty) (mode k : Nat) (o : ROp) : List Nat → Nat
  | [] => match o with
    | .sum => 0
    | .or => 0
    | .min => (match t.k with
      | .flt fm => fm.infBits
      | _ => t.ofI t.maxI)
    | .max => (match t.k with
      | .flt fm => fm.infBits + fm.signBit
      | _ => t.ofI t.minI)
  | x :: l =>
    (l.foldl (fun (r : Nat × Nat) y => (match o with
      | .sum => t.op mode r.2 .add r.1 y 0
      | .min => t.op mode r.2 .min r.1 y 0
      | .max => t.op mode r.2 .max r.1 y 0
      | .or => Nat.lor r.1 y, r.2 + 1)) (t.canon mode x, k)).1

/-- Scalar operations (R223, SALU). -/
inductive SOp where
  | add | sub | mul | and | or | xor | shl | shr | smin | smax
  deriving DecidableEq, Repr

def scalarOp (o : SOp) (a b : Nat) : Nat :=
  match o with
  | .add => (a + b) % 2 ^ 64
  | .sub => (a + 2 ^ 64 - b) % 2 ^ 64
  | .mul => a * b % 2 ^ 64
  | .and => Nat.land a b
  | .or => Nat.lor a b
  | .xor => Nat.xor a b
  | .shl => a * 2 ^ (b % 64) % 2 ^ 64
  | .shr => a / 2 ^ (b % 64)
  | .smin => if toSigned 64 a ≤ toSigned 64 b then a else b
  | .smax => if toSigned 64 b ≤ toSigned 64 a then a else b

end Sys2Proof.Machine
end

