-- ==== Sys2Proof/Machine/Leases.lean ====
section
/-!
DEFINITION. Machine/Leases.lean: the leases through which shared instruments are lent (R352, R353, R359, R360), and the
calibration of the references: impedance, converter and wake comparator (R191 to R194, R211 to R213).
-/
namespace Sys2Proof.Machine

/-! ### Leases (R353, R360) -/

/-- The thermal sequencer asks for the converter: it takes it from a diagnostics holder, which then receives BUSY (R353). -/
def Dev.askConverter (s : Dev) : Bool × Dev :=
  let l := s.lease lsCONV
  if l.holder != 0 && l.rank == rkDIAG then
    let s := s.setLease lsCONV ⟨hoTHERMAL, rkSAFETY, s.time⟩
    let s := (s.bump Reg.LEASES_CNT_BUSY_VALUE).bump Reg.LEASES_CNT_PREEMPT_VALUE
    let s := if l.holder == hoSOFT then s.setF Reg.LEASES_REQ_STATUS_BUSY 1 else s
    (true, s.raiseRec pgLEASES Reg.EV_LEASES_PREEMPT sevWARNING [lsCONV])
  else s.askLease lsCONV hoTHERMAL rkSAFETY

/-- Leases for which `p` holds are released. -/
def Dev.freeLeases (s : Dev) (p : Nat → Lease → Bool) : Dev :=
  { s with leases := s.leases.filter (fun e => !(p e.1 e.2)) }

/-- A write of LEASES.REQ (R360): RELEASE gives back a lease software holds, GO asks for one. -/
def Dev.leaseReq (s : Dev) (v : Word32) : Dev :=
  let i := s.fv Reg.LEASES_REQ_RES
  let s := if bitN v.toNat 30 then s.dropLease i hoSOFT else s
  if bitN v.toNat 31 then
    let (ok, s) := s.askLease i hoSOFT (s.fv Reg.LEASES_REQ_RANK)
    s.setF Reg.LEASES_REQ_STATUS_BUSY (b2n (!ok))
  else s

/-- REFCLK periods in a millisecond (R474). -/
def ticksPerMs : Nat := 100000

/-- SEL_STATUS: the holder of the selected lease (R360). -/
def Dev.selStatus (s : Dev) : Word32 :=
  let l := s.lease (s.fv Reg.LEASES_SEL_RES)
  if l.holder == 0 then 0
  else BitVec.ofNat 32 (2 ^ 31 + l.rank * 2 ^ 24 + l.holder * 2 ^ 16 + min 65535 ((s.time - l.since) / ticksPerMs))

/-- HELDx: leases 32x to 32x + 31 held. -/
def Dev.heldMask (s : Dev) (x : Nat) : Word32 := BitVec.ofNat 32 (maskOf 32 (fun i => s.leaseHeld (32 * x + i)))

/-- REQ_STATUS: whether software holds RES, and whether its last request was refused. -/
def Dev.reqStatus (s : Dev) : Word32 :=
  let held := (s.lease (s.fv Reg.LEASES_REQ_RES)).holder == hoSOFT
  withBits (s.rdReg 0x3044) 31 31 (b2n held)

/-- A lease taken through the LEASES page is held longer than HOLD_LIMIT.MS (R353): it stays held, LONG_HOLD is set. -/
def Dev.longHold (s : Dev) (i : Nat) : Dev :=
  if (s.lease i).holder == hoSOFT then s.raiseRec pgLEASES Reg.EV_LEASES_LONG_HOLD sevWARNING [i] else s

/-- LONG_HOLD (R353). -/
def execLongHold (i : BitVec 7) (s : State) : Host.Outcome State Fault Refusal := s.on fun s => .next (s.longHold i.toNat)

/-! ### The references (R191 to R194) -/

/-- Is the management controller island in a mode in which its references work (R207)? -/
def Dev.calMode (s : Dev) : Bool := s.pins.mgmtOn

/-- An accepted calibration of the references is counted and stamped. -/
def Dev.refStamp (s : Dev) : Dev :=
  (s.bump Reg.CALREF_CAL_COUNT_VALUE).wrReg 0x705C (s.rdReg 0x5058)

/-- STATUS.BUSY: a calibration is running. Bit 0 of `calBusy.2` stands for the converter's, bit 1 for the comparator's. -/
def Dev.setCal (s : Dev) (b : Nat) (on : Bool) : Dev :=
  let m := if on then Nat.lor s.calBusy.2 (2 ^ b) else if bitN s.calBusy.2 b then s.calBusy.2 - 2 ^ b else s.calBusy.2
  { s with calBusy := (s.calBusy.1, m) }.setF Reg.CALREF_STATUS_BUSY (b2n (m != 0))

/-- One code toward `x`. -/
def oneToward (x old : Nat) : Nat := if old < x then old + 1 else if x < old then old - 1 else old

/-- The impedance measurement found MASTER (R192). The first since reset sets the current; each repeat moves it by at most one
code; after a rejection the previous current stays. -/
def Dev.impFound (s : Dev) (m : Nat) : Dev :=
  let first := !s.impRun
  let s := { s with impRun := true }
  if 4 ≤ m && m ≤ 27 then
    let code := if first then m else oneToward m (s.fv Reg.CALREF_IMP_MASTER)
    let s := (s.setF Reg.CALREF_IMP_MASTER code).setF Reg.CALREF_STATUS_IMP_VALID 1
    (s.setF Reg.CALREF_STATUS_REASON_IMP 0).refStamp
  else
    let why := if m == 0 || m == 31 then rsIMP_PINNED else rsIMP_RANGE
    let s := (s.setF Reg.CALREF_STATUS_REASON_IMP why).setF Reg.CALREF_STATUS_IMP_VALID 0
    s.raiseRec pgCALREF Reg.EV_CALREF_IMP_FAIL sevWARNING [m, why]

/-- Calibration asks for the converter lease (R193). A refusal is repeated; the eighth repeat refused records LEASE_BUSY. -/
def Dev.convAsk (s : Dev) : Dev :=
  let (ok, s) := s.askLease lsCONV hoCALIB rkINTEGRITY
  if ok then { s with calBusy := (0, s.calBusy.2) }.setCal 0 true
  else if s.calBusy.1 == 8 then
    let s := { s with calBusy := (0, s.calBusy.2) }.setF Reg.CALREF_STATUS_REASON_CONV rsLEASE_BUSY
    s.record pgCALREF codeOTHER sevWARNING [rsLEASE_BUSY]
  else { s with calBusy := (s.calBusy.1 + 1, s.calBusy.2) }

/-- Start a converter calibration; one that runs or waits for its lease goes on. -/
def Dev.convStart (s : Dev) : Dev :=
  if s.calBusy.1 != 0 || bitN s.calBusy.2 0 then s else s.convAsk

/-- The request for the converter lease is repeated after 100 µs. -/
def Dev.convRetry (s : Dev) : Dev := if s.calBusy.1 == 0 then s else s.convAsk

/-- CALIBRATION_LEASE_RETRY (R193). -/
def execCalibrationLeaseRetry (s : State) : Host.Outcome State Fault Refusal := s.on fun s => .next s.convRetry

/-- The nearest whole number to a / b, halves away from zero. -/
def roundDiv (a b : Nat) : Nat := (2 * a + b) / (2 * b)

/-- The two conversions of a converter calibration gave ZERO and REF (R193). -/
def Dev.convFound (s : Dev) (zero : Int) (ref : Nat) : Dev :=
  if !(bitN s.calBusy.2 0) then s
  else
    let s := (s.dropLease lsCONV hoCALIB).setCal 0 false
    let s := (s.setF Reg.CALREF_CONV_RAW_ZERO (ofSigned 16 zero)).setF Reg.CALREF_CONV_RAW_REF (ref % 65536)
    if 47040 ≤ ref && ref ≤ 48960 && decide (-200 ≤ zero) && decide (zero ≤ 200) then
      let gain := roundDiv (32768 * 48000) ((ref : Int) - zero).toNat
      let s := (s.setF Reg.CALREF_CONV_CORR_GAIN gain).setF Reg.CALREF_CONV_CORR_OFFSET (ofSigned 12 (-zero))
      let s := (s.setF Reg.CALREF_STATUS_CONV_VALID 1).setF Reg.CALREF_STATUS_REASON_CONV 0
      s.refStamp
    else
      let s := (s.setF Reg.CALREF_STATUS_CONV_VALID 0).setF Reg.CALREF_STATUS_REASON_CONV rsREF_WINDOW
      s.raiseRec pgCALREF Reg.EV_CALREF_CONV_FAIL sevWARNING [ref, ofSigned 32 zero]

/-- CONVERTER_CALIBRATION_END (R193). -/
def execConverterCalibrationEnd (zero : Int) (ref : Nat) (s : State) : Host.Outcome State Fault Refusal := s.on fun s =>
  .next (s.convFound zero ref)

/-- Start the wake comparator check (R194): in RUN, DIM and LAMPROOM, and at KINDLE; from SHUTTERED entry onward it is refused
with STATE. -/
def Dev.wakeStart (s : Dev) : Dev :=
  if bitN s.calBusy.2 1 then s
  else if s.mode == mdSHUTTERED || decide (5 ≤ s.fv Reg.MODES_STATUS_PHASE) then
    (s.setF Reg.CALREF_STATUS_REASON_WAKE rsSTATE).record pgCALREF codeOTHER sevWARNING [rsSTATE]
  else
    let (ok, s) := s.askLease lsWAKE hoCALIB rkINTEGRITY
    if ok then s.setCal 1 true
    else (s.setF Reg.CALREF_STATUS_REASON_WAKE rsLEASE_BUSY).record pgCALREF codeOTHER sevWARNING [rsLEASE_BUSY]

/-- The check found a worst error (R194): above 10 mV it fails and the comparator keeps its trim; R205 names no reason for it, so that
REASON_WAKE is a free value then (log 30). -/
def Dev.wakeFound (s : Dev) (mv : Nat) : Dev :=
  if !(bitN s.calBusy.2 1) then s
  else
    let s := (s.dropLease lsWAKE hoCALIB).setCal 1 false
    let s := s.setSat Reg.CALREF_WAKE_CHK_ERR_MV mv
    if mv ≤ 10 then
      let s := (s.setF Reg.CALREF_STATUS_WAKE_VALID 1).setF Reg.CALREF_STATUS_REASON_WAKE 0
      s.refStamp
    else
      let s := (s.setF Reg.CALREF_STATUS_REASON_WAKE (Config.freeNat s.free % 16)).nextFree
      (s.setF Reg.CALREF_STATUS_WAKE_VALID 0).raiseRec pgCALREF Reg.EV_CALREF_WAKE_FAIL sevWARNING [mv]

/-- WAKE_CHECK_END (R194). -/
def execWakeCheckEnd (errMv : Nat) (s : State) : Host.Outcome State Fault Refusal := s.on fun s => .next (s.wakeFound errMv)

end Sys2Proof.Machine
end

