-- ==== Sys2Proof/Machine/Training.lean ====
section
/-!
DEFINITION. Machine/Training.lean: full training of a shaft (R198 to R200), the pattern and compare helper (R197) and
periodic retraining (R202 to R204, R206), with the training registers of R209 and R210.
-/
namespace Sys2Proof.Machine

/-! ### Full training (R198 to R200) -/

/-- The run ends: TRAIN_STATUS shows its result, the helper lease is released, and a shaft being started becomes ONLINE after
the last step or FAILED after a rejection. -/
def Dev.trainEnd (s : Dev) (n result why lane : Nat) : Dev :=
  let s := s.modShaft n (fun p => { p with train := none })
  let s := (s.setF Reg.SHAFT_TRAIN_STATUS_BUSY 0 n).setF Reg.SHAFT_TRAIN_STATUS_DONE 1 n
  let s := ((s.setF Reg.SHAFT_TRAIN_STATUS_RESULT result n).setF Reg.SHAFT_TRAIN_STATUS_REASON why n).setF Reg.SHAFT_TRAIN_STATUS_LANE lane n
  s.dropLease (lsHelper n) hoTRAIN

/-- A rejected run (R199, R200): the taps stay as they were before the step. TRAIN_STATUS.LANE names the first failing lane; a rejection for
another cause has none, and reads 15, as a fault-free run does (DESIGN CHOICE, log 170: R200 and R210 are silent). -/
def Dev.trainReject (s : Dev) (n why lane : Nat) : Dev :=
  let s := (s.trainEnd n 3 why lane).setReject n why
  if s.shaftSt n == stKINDLING then s.failShaft n else s

/-- A run in progress is abandoned (R206). -/
def Dev.trainAbandon (s : Dev) (n : Nat) : Dev :=
  if (s.shaft n).train.isSome then s.trainReject n rsABANDONED 15 else s

/-- A full training, of all steps (0) or of one, is asked for (R199): the preconditions in the order of their table. -/
def Dev.trainBegin (s : Dev) (n step : Nat) : Dev :=
  let st := s.shaftSt n
  if (s.shaft n).train.isSome then s
  else
    let s := s.setF Reg.SHAFT_TRAIN_STATUS_STEP step n
    if st == stONLINE || st == stEVACUATING then s.trainReject n rsNOT_IDLE 15
    else if !(st == stKINDLING || st == stFENCED || st == stTESTING) then s.trainReject n rsSTATE 15
    else
      let (ok, s) := s.askLease (lsHelper n) hoTRAIN rkINTEGRITY
      if !ok then s.trainReject n rsLEASE_BUSY 15
      else if (step == 0 || step == 1) && !(s.fb Reg.CALREF_STATUS_IMP_VALID) then
        s.trainReject n (s.fv Reg.CALREF_STATUS_REASON_IMP) 15
      else
        let s := if s.inSR n then s.exitSR n else s
        let first := if step == 0 then 1 else step
        let s := s.modShaft n (fun p => { p with train := some ⟨step == 0, first, 1⟩ })
        let s := (s.setF Reg.SHAFT_TRAIN_STATUS_BUSY 1 n).setF Reg.SHAFT_TRAIN_STATUS_DONE 0 n
        let s := (s.setF Reg.SHAFT_TRAIN_STATUS_RESULT 0 n).setF Reg.SHAFT_TRAIN_STATUS_REASON 0 n
        s.setF Reg.SHAFT_TRAIN_STATUS_STEP first n

/-- TRAIN_CTL is written with START (R199). -/
def Dev.trainStart (s : Dev) (n : Nat) : Dev := s.trainBegin n (s.fv Reg.SHAFT_TRAIN_CTL_STEP n)

/-- A run of passing codes that is not empty. -/
def goodRun (r : Option (Nat × Nat)) : Option (Nat × Nat) :=
  match r with
  | some (lo, hi) => if lo ≤ hi then some (lo, hi) else none
  | none => none

/-- The per-bit delays a step looks for: CA bits of step 2 (transmit), DQ receive of step 4, DQ transmit of step 5. -/
def stepBit (step : Nat) (i : Nat) (rx : Bool) : Bool :=
  match step with
  | 2 => decide (72 ≤ i) && !rx
  | 4 => decide (i < 72) && rx
  | 5 => decide (i < 72) && !rx
  | _ => false

/-- The lane quantities a step looks for: the write strobe of step 3, the read strobe and Vref of step 4, the write Vref of
step 5, and the widths of all four in step 6. -/
def stepLane (step q : Nat) : Bool :=
  match step with
  | 3 => q == 1
  | 4 => q == 0 || q == 2
  | 5 => q == 3
  | 6 => true
  | _ => false

/-- What a training found for a bit, and for a lane's quantity: the passing run. -/
def bitRun (o : TrainObs) (i : Nat) (rx : Bool) : Option (Nat × Nat) :=
  let r := match o.bits.find? (fun b => b.1.val == i && b.2.1 == rx) with
    | some b => b.2.2
    | none => o.bitRest
  goodRun (r.map (fun r => (r.1.toNat, r.2.toNat)))
def laneRun (o : TrainObs) (lane q : Nat) : Option (Nat × Nat) :=
  let r := match o.lanes.find? (fun b => b.1.val == lane && b.2.1.val == q) with
    | some b => b.2.2
    | none => o.laneRest
  let top := if q < 2 then 255 else 63
  goodRun (r.map (fun r => (min r.1.toNat top, min r.2.toNat top)))

/-- The midpoint of a run; of an even number of codes, the lower of the two in the middle (DESIGN CHOICE, log 171: R198 says only midpoint). -/
def midOf (r : Nat × Nat) : Nat := (r.1 + r.2) / 2

/-- Key of a lane's quantity in the edges of R203, at a frequency point. -/
def edgeKey (pt lane q : Nat) : Nat := 64 * pt + 4 * lane + q

/-- The widths found for a lane (R210). -/
def Dev.setWidth (s : Dev) (n lane q w : Nat) : Dev :=
  match q with
  | 0 => s.setSat Reg.SHAFT_BYTEb_MARGIN_RD_WIDTH w n lane
  | 1 => s.setSat Reg.SHAFT_BYTEb_MARGIN_WR_WIDTH w n lane
  | 2 => s.setSat Reg.SHAFT_BYTEb_MARGIN_RD_VWIDTH w n lane
  | _ => s.setSat Reg.SHAFT_BYTEb_MARGIN_WR_VWIDTH w n lane

/-- A delay scaled to another point, rounded to the nearest tap (R196): num / 4 of it. A delay halfway between two taps goes up (DESIGN CHOICE, log
172: R196 says only nearest). -/
def scaleTap (num x : Nat) : Nat := (num * x + 2) / 4

/-- Step 7: the F1 and F2 banks from F0's delays times 0.75 and 0.5, Vref unchanged (R196). -/
def scaleBank (num : Nat) (t : TapBank) : TapBank :=
  { bits := stab bitReset 83 (fun i => (scaleTap num (t.bit i).1, scaleTap num (t.bit i).2)),
    lanes := stab laneReset 9 (fun b => ⟨scaleTap num (t.lane b).rd, scaleTap num (t.lane b).wr, (t.lane b).rdV, (t.lane b).wrV⟩) }

/-- A per-bit delay after a step: the midpoint of its run, where the step looks for it. -/
def bitAfter (o : TrainObs) (step i : Nat) (rx : Bool) (old : Nat) : Nat :=
  if stepBit step i rx then (match bitRun o i rx with
    | some r => midOf r
    | none => old)
  else old

/-- A lane's taps after a step; step 6 only shows widths. -/
def laneAfter (o : TrainObs) (step lane : Nat) (t : LaneTap) : LaneTap :=
  (List.range 4).foldl (fun (t : LaneTap) q =>
    if stepLane step q && step != 6 then (match laneRun o lane q with
      | some r => t.setQty q (midOf r)
      | none => t)
    else t) t

/-- The lanes and quantities a step looks for. -/
def stepLanes (step : Nat) : List (Nat × Nat) :=
  ((List.range 36).map (fun k => (k / 4, k % 4))).filter (fun x => stepLane step x.2)

/-- Apply what a step found (R198): each tap to the midpoint of its widest passing run; step 1 sets the impedance codes, and the die's own by
MRW (R195). -/
def Dev.applyStep (s : Dev) (n step : Nat) (o : TrainObs) : Dev :=
  let pt := s.fv Reg.SHAFT_STATUS_POINT n
  let s := if step == 1 then
      let s := (s.issue n .mrw).modShaft n (fun p => { p with dieImp := (o.die.1.toNat, o.die.2.1.toNat, o.die.2.2.toNat) })
      ((s.setF Reg.SHAFT_IMP_CODE_PU o.imp.1.toNat n).setF Reg.SHAFT_IMP_CODE_PD o.imp.2.1.toNat n).setF Reg.SHAFT_IMP_CODE_ODT o.imp.2.2.toNat n
    else s
  let t := s.taps n pt
  let s := s.setTaps n pt
    { bits := stab bitReset 83 (fun i => (bitAfter o step i true (t.bit i).1, bitAfter o step i false (t.bit i).2)),
      lanes := stab laneReset 9 (fun b => laneAfter o step b (t.lane b)) }
  let s := if step == 5 then s.issue n .mrw else s
  let edges := (stepLanes step).foldl (fun e x => match laneRun o x.1 x.2 with
    | some r => sset (fun _ => none) e (edgeKey pt x.1 x.2) (some r)
    | none => e) (s.shaft n).edges
  let s := s.modShaft n (fun p => { p with edges := edges })
  let s := if step == 6 then (stepLanes step).foldl (fun s x => match laneRun o x.1 x.2 with
    | some r => s.setWidth n x.1 x.2 (r.2 + 1 - r.1)
    | none => s) s else s
  if step == 7 && pt == 0 then (s.setTaps n 1 (scaleBank 3 (s.taps n 0))).setTaps n 2 (scaleBank 2 (s.taps n 0)) else s

/-- The runs of a step, of every tap it looks for: byte lane (15 for a CA bit), and the width (none where no code passes). -/
def widths (o : TrainObs) (step : Nat) : List (Nat × Option Nat) :=
  let w (r : Option (Nat × Nat)) : Option Nat := r.map (fun r => r.2 + 1 - r.1)
  let side (rx : Bool) : List (Nat × Option Nat) := ((List.range 83).filter (fun i => stepBit step i rx)).map (fun i =>
    (if i < 72 then i / 8 else 15, w (bitRun o i rx)))
  side true ++ side false ++ (stepLanes step).map (fun x => (x.1, w (laneRun o x.1 x.2)))

/-- The end of a training step (R199, R200). -/
def Dev.trainStep (s : Dev) (n : Nat) (o : TrainObs) : Dev :=
  match (s.shaft n).train with
  | none => s
  | some run =>
    let ws := widths o run.step
    if 2 ≤ o.tempMoves.val then s.trainReject n rsTEMP_MOVED 15
    else if o.alertTwice && run.step != 2 then s.trainReject n rsCHANNEL 15
    else if ws.any (fun w => w.2.isNone) then
      s.trainReject n rsNO_WINDOW ((ws.filter (fun w => w.2.isNone)).foldl (fun m w => min m w.1) 15)
    else
      let s := s.applyStep n run.step o
      let narrow := ws.any (fun w => decide (w.2.getD 255 < s.fv Reg.SHAFT_RETRAIN_CTL_MIN_WIDTH n))
      let s := if narrow then s.setMargin n else s
      let worst := if narrow then 2 else run.worst
      if run.all && run.step < 7 then
        (s.modShaft n (fun p => { p with train := some ⟨true, run.step + 1, worst⟩ })).setF Reg.SHAFT_TRAIN_STATUS_STEP (run.step + 1) n
      else
        let s := (s.trainEnd n worst 0 15).calStamp n
        if s.shaftSt n == stKINDLING && run.step == 7 then s.enter (shaftPage n) stONLINE else s

/-- What a training step finds of a shaft of which nothing is said: every code of every tap passes. -/
def wideObs : TrainObs := ⟨0, false, (16, 16, 16), (16, 16, 16), [], [], some (0, 127), some (0, 255)⟩

/-- A whole full training (R198, R199), of a shaft in start-up or after a column spare: the seven steps end as observed. -/
def Dev.trainRun (s : Dev) (n : Nat) (os : List TrainObs) : Dev :=
  (List.range 7).foldl (fun s k => s.trainStep n (os.getD k wideObs)) (s.trainBegin n 0)

/-- TRAIN_STEP_END (R198 to R200). -/
def execTrainStepEnd (n : Fin 48) (o : TrainObs) (s : State) : Host.Outcome State Fault Refusal := s.on fun s => .next (s.trainStep n o)

/-! ### The helper (R197) -/

/-- HELPER_CTL is written with START: a diagnostics-rank run by firmware, if the lease is free, with the pattern, target, bursts and seed then
set. -/
def Dev.helperStart (s : Dev) (n : Nat) : Dev :=
  let st := s.shaftSt n
  let refuse (s : Dev) (why : Nat) : Dev :=
    ((s.setF Reg.SHAFT_HELPER_STATUS_DONE 1 n).setF Reg.SHAFT_HELPER_STATUS_REASON why n).record (shaftPage n) codeOTHER sevWARNING [why]
  if (s.shaft n).helper.isSome then s
  else if !(st == stONLINE || st == stEVACUATING || st == stFENCED || st == stTESTING) then refuse s rsSTATE
  else
    let (ok, s) := s.askLease (lsHelper n) hoSOFT rkDIAG
    if !ok then refuse s rsLEASE_BUSY
    else
      let run : HelperRun := ⟨s.fv Reg.SHAFT_HELPER_CTL_PATTERN n, s.fb Reg.SHAFT_HELPER_CTL_TARGET n, s.fv Reg.SHAFT_HELPER_CTL_BURSTS n,
        s.fv Reg.SHAFT_HELPER_SEED_SEED n⟩
      let s := (s.modShaft n (fun p => { p with helper := some run })).setF Reg.SHAFT_HELPER_STATUS_DONE 0 n
      (s.setF Reg.SHAFT_HELPER_STATUS_REASON 0 n).setF Reg.SHAFT_HELPER_STATUS_ERRORS 0 n

/-- HELPER_RUN_END: the fail mask keeps what it held (it is sticky, and no rule clears it: log 173), the error count is at most the bits the
run compares (72 DQ, 8 beats a burst); the saved rows have been written back and the lease is free. -/
def Dev.helperEnd (s : Dev) (n : Nat) (fail : BitVec 72) (errors : Nat) : Dev :=
  match (s.shaft n).helper with
  | none => s
  | some run =>
    let s := s.modShaft n (fun p => { p with helper := none })
    let s := (List.range 3).foldl (fun s x => s.setF Reg.SHAFT_HELPER_FAILx_MASK
      (Nat.lor (s.fv Reg.SHAFT_HELPER_FAILx_MASK n x) (fail.toNat / 2 ^ (32 * x) % 2 ^ 32)) n x) s
    let s := (s.setSat Reg.SHAFT_HELPER_STATUS_ERRORS (min errors (576 * run.bursts)) n).setF Reg.SHAFT_HELPER_STATUS_DONE 1 n
    s.dropLease (lsHelper n) hoSOFT

def execHelperRunEnd (n : Fin 48) (fail : BitVec 72) (errors : Nat) (s : State) : Host.Outcome State Fault Refusal := s.on fun s =>
  .next (s.helperEnd n fail errors)

/-! ### Periodic retraining (R202 to R204) -/

/-- RETRAIN_ROUND: a period is over. On a FAILED shaft the round is refused with STATE and recorded (R205, R207). -/
def Dev.roundDue (s : Dev) (n : Nat) : Dev :=
  if s.shaftSt n == stFAILED && s.fb Reg.SHAFT_RETRAIN_CTL_EN n then
    ((s.setF Reg.SHAFT_RETRAIN_STATUS_REASON rsSTATE n).bumpSat Reg.SHAFT_RETRAIN_STATUS_SKIPPED n).record (shaftPage n) codeOTHER sevWARNING
      [rsSTATE]
  else if s.roundsOn n && !((s.shaft n).roundOn) then s.startRound n
  else s

def execRetrainRound (n : Fin 48) (s : State) : Host.Outcome State Fault Refusal := s.on fun s => .next (s.roundDue n)

/-- The next touch of the round is due; after the 37th the round is complete (R204). -/
def Dev.touchNext (s : Dev) (n : Nat) : Dev :=
  let k := (s.shaft n).touchAt + 1
  if k < 37 then s.modShaft n (fun p => { p with touchAt := k, tapHit := false })
  else (s.modShaft n (fun p => { p with touchAt := 0, roundOn := false, subst := false, subAt := none, tapHit := false })).calStamp n

/-- What RETRAIN_STATUS shows of a touch. -/
def Dev.touchShow (s : Dev) (n lane q move why : Nat) : Dev :=
  let s := (s.setF Reg.SHAFT_RETRAIN_STATUS_LANE lane n).setF Reg.SHAFT_RETRAIN_STATUS_QTY q n
  (s.setF Reg.SHAFT_RETRAIN_STATUS_MOVE move n).setF Reg.SHAFT_RETRAIN_STATUS_REASON why n

/-- MOVE of RETRAIN_STATUS. -/
def moveCode : Move → Nat
  | .stay => 0
  | .up => 1
  | .down => 2

/-- A code moved, within its ladder. -/
def moveBy (top x : Nat) : Move → Nat
  | .stay => x
  | .up => min top (x + 1)
  | .down => x - 1

/-- The impedance touch: PU, PD and ODT each move by at most one code. LANE, and MOVE where the three codes do not move alike,
are values the spec does not state. -/
def Dev.impTouch (s : Dev) (n : Nat) (o : TouchObs) : Dev :=
  let s := s.setF Reg.SHAFT_IMP_CODE_PU (moveBy 31 (s.fv Reg.SHAFT_IMP_CODE_PU n) o.imp.1) n
  let s := s.setF Reg.SHAFT_IMP_CODE_PD (moveBy 31 (s.fv Reg.SHAFT_IMP_CODE_PD n) o.imp.2.1) n
  let s := s.setF Reg.SHAFT_IMP_CODE_ODT (moveBy 31 (s.fv Reg.SHAFT_IMP_CODE_ODT n) o.imp.2.2) n
  let alike := o.imp.1 == o.imp.2.1 && o.imp.2.1 == o.imp.2.2
  let move := if alike then moveCode o.imp.1 else Config.freeNat s.free % 4
  ((s.touchShow n (Config.freeNat (s.free + 1) % 16) 4 move 0).nextFree).nextFree

/-- The innermost known passing codes of a lane's quantity; where nothing is known yet, the setting itself. -/
def Dev.edge (s : Dev) (n pt lane q : Nat) : Nat × Nat :=
  let v := ((s.taps n pt).lane lane).qty q
  (sget (fun _ => none) (s.shaft n).edges (edgeKey pt lane q)).getD (v, v)

/-- A touch of a lane's quantity (R203, R204). -/
def Dev.laneTouch (s : Dev) (n lane q : Nat) (o : TouchObs) : Dev :=
  let pt := s.fv Reg.SHAFT_STATUS_POINT n
  if !(o.l1 || o.l || o.r || o.r1) then ((s.touchShow n lane q 0 rsNO_WINDOW).setReject n rsNO_WINDOW)
  else
    let v := ((s.taps n pt).lane lane).qty q
    let (l, r) := s.edge n pt lane q
    let top := if q < 2 then 255 else 63
    let l := if o.l1 then l - 1 else if !o.l then min top (l + 1) else l
    let r := if o.r1 then min top (r + 1) else if !o.r then r - 1 else r
    let c := (l + r) / 2
    let w := oneToward c v
    let s := s.modShaft n (fun p => { p with edges := sset (fun _ => none) p.edges (edgeKey pt lane q) (some (l, r)) })
    let s := s.setTaps n pt ((s.taps n pt).setLane lane (((s.taps n pt).lane lane).setQty q w))
    let s := s.touchShow n lane q (if v < w then 1 else if w < v then 2 else 0) 0
    let drift := (c - v) + (v - c)
    if decide (r + 1 < l + s.fv Reg.SHAFT_RETRAIN_CTL_MIN_WIDTH n) || decide (s.fv Reg.SHAFT_RETRAIN_CTL_DRIFT_LIMIT n < drift) then
      s.setMargin n
    else s

/-- Is there room for a touch: a gap, with window and write buffer empty; or, once REFab substitution has started, the tRFCab of a substituted
REFab, for one touch each (R202)? -/
def Dev.touchRoom (s : Dev) (n : Nat) : Bool :=
  let p := s.shaft n
  p.roundOn && s.roundsOn n && !(s.inSR n) && !(s.freqBusy n) && !p.parking &&
    (if p.subst then (match p.subAt with
      | some t => decide (p.ck ≤ t)
      | none => false) else p.empty && p.queued.isEmpty)

/-- TOUCH (R203): it holds the helper lease for its own length. One that the lease refuses, or whose tap firmware wrote while it ran (R206), moves
nothing and counts in SKIPPED. -/
def Dev.touch (s : Dev) (n : Nat) (o : TouchObs) : Dev :=
  let p := s.shaft n
  if !(s.touchRoom n) then s
  else
    let (ok, s) := (s.modShaft n (fun p => { p with subAt := none })).askLease (lsHelper n) hoTRAIN rkINTEGRITY
    if !ok then
      let s := (s.bumpSat Reg.SHAFT_RETRAIN_STATUS_SKIPPED n).setF Reg.SHAFT_RETRAIN_STATUS_REASON rsLEASE_BUSY n
      (s.record (shaftPage n) codeOTHER sevWARNING [rsLEASE_BUSY]).touchNext n
    else
      let s := if p.touchAt == 36 then s.impTouch n o
        else if o.hit && p.tapHit then (s.touchShow n (p.touchAt / 4) (p.touchAt % 4) 0 0).bumpSat Reg.SHAFT_RETRAIN_STATUS_SKIPPED n
        else s.laneTouch n (p.touchAt / 4) (p.touchAt % 4) o
      (s.dropLease (lsHelper n) hoTRAIN).touchNext n

def execTouch (n : Fin 48) (o : TouchObs) (s : State) : Host.Outcome State Fault Refusal := s.on fun s => .next (s.touch n o)

/-- GAP_WAIT_EXPIRY: the touch has waited GAP_WAIT_MS; REFab substitution starts and serves the rest of the round (R202). -/
def Dev.gapWait (s : Dev) (n : Nat) : Dev :=
  if (s.shaft n).roundOn && s.roundsOn n then s.modShaft n (fun p => { p with subst := true }) else s

def execGapWaitExpiry (n : Fin 48) (s : State) : Host.Outcome State Fault Refusal := s.on fun s => .next (s.gapWait n)

end Sys2Proof.Machine
end

