-- ==== Sys2Proof/Machine/EngCore.lean ====
section
/-!
DEFINITION. Machine/EngCore.lean: what an engine does around its steps: accesses and the frame cache (R228, R230, R237), streams
(R226 to R228), faults (R236), and the start and end of a job (R254 to R257, R239).
-/
namespace Sys2Proof.Machine

/-! ### Shown registers -/

/-- EXEC_STATUS and the job registers follow the engine's state (R241, R268). -/
def Dev.engShow (s : Dev) (n : Nat) : Dev :=
  let g := s.eng n
  let s := s.setF Reg.ENGINE_EXEC_STATUS_RUNNING (b2n g.run.isSome) n
  let s := s.setF Reg.ENGINE_EXEC_STATUS_FROZEN (b2n (g.frozen != 0)) n
  let s := s.setF Reg.ENGINE_JOBQ_QUEUED g.queue.length n
  let active := s.fv Reg.ENGINE_SLOT_ACTIVE_HALF n
  match g.run with
  | some r =>
    let s := (s.setF Reg.ENGINE_EXEC_STATUS_SLOT r.job.slot n).setF Reg.ENGINE_EXEC_STATUS_PC r.pc n
    let s := (s.setF Reg.ENGINE_JOBQ_RING r.job.ring n).setF Reg.ENGINE_RUN_ID_JOB_ID r.job.id n
    s.setF Reg.ENGINE_SLOT_OLD_BUSY (if b2n (bitN active r.job.slot) == r.half then 0 else 2 ^ r.job.slot) n
  | none => (s.setF Reg.ENGINE_RUN_ID_JOB_ID 0 n).setF Reg.ENGINE_SLOT_OLD_BUSY 0 n

def EngSt.modRun (g : EngSt) (f : Run → Run) : EngSt := { g with run := g.run.map f }
def Dev.modRun (s : Dev) (n : Nat) (f : Run → Run) : Dev := s.modEng n (fun g => g.modRun f)

/-- JOB_TIME (R255, R268): microseconds of the time base since the running job started. -/
def Dev.jobTime (s : Dev) (n : Nat) : Word32 :=
  match (s.eng n).run with
  | some r => BitVec.ofNat 32 (min (2 ^ 26 - 1) ((s.time - r.start) / 100))
  | none => 0

/-- FCACHE_STATUS (R241). -/
def Dev.fcacheStatus (s : Dev) (n : Nat) : Word32 :=
  let l := (s.eng n).fcache
  BitVec.ofNat 32 (l.length + (l.filter (fun x => x.shaft == n)).length * 2 ^ 16)

/-! ### Accesses (R228, R230) -/

/-- The class of the running job. -/
def EngSt.cls (g : EngSt) : Nat := (g.run.map (·.job.cls)).getD 0

/-- Is this access a write or an atomic? -/
def Acc.writes (a : Acc) : Bool := isWrite a.op

/-- A new access goes to the end of the engine's list. -/
def Dev.addAcc (s : Dev) (n : Nat) (a : Acc) : Dev :=
  let s := s.modEng n (fun g => { g with acc := g.acc ++ [{ a with id := s.nextId }] })
  let s := s.fresh
  s.modRun n (fun r => match a.op with
    | .wr => { r with wrLines := r.wrLines + 1 }
    | .wrm => { r with wrLines := r.wrLines + 1 }
    | .rd => { r with rdLines := r.rdLines + 1 }
    | _ => r)

/-- The request an access becomes; an atomic with a poisoned operand carries it as failing parity. -/
def reqOf (n cls : Nat) (a : Acc) : Req :=
  { id := a.id, org := .engine n a.id, op := a.op, cls := cls, line := a.line, data := a.data,
    par := lineParity a.data ^^^ a.bad, mask := a.mask, a := a.a, b := a.b, off := a.off,
    parOk := !((match a.op with
      | .atom _ => true
      | _ => false) && a.bad != 0) }

/-- A frame-cache entry serves a read of a READABLE sector, and a write or atomic of a WRITABLE one outside mirror windows. -/
def FcEnt.serves (x : FcEnt) (line : Nat) (w : Bool) : Bool :=
  let i := sectorOfLine line
  if w then bitN x.writable.toNat i && !x.mirror else bitN x.readable.toNat i

/-- Does the frame table show the frame as one an engine may enter on a miss: born, resident, and in service? -/
def Dev.tableShows (s : Dev) (r : Req) : Bool :=
  let f := frameOfLine r.line
  match s.entry f with
  | none => false
  | some e => !s.space.walking && s.ust hauPage == stONLINE && !(s.isDraining f) && !(s.isLost f) && !e.busy &&
      s.shaftSt e.shaft != stFAILED && (match s.pairJudge r (isWrite r.op) with
        | .serve => true
        | _ => false)

/-- Use an entry: USED is set, it becomes the most recently used one, and a write leaves the job's class. -/
def Dev.useEntry (s : Dev) (n : Nat) (x : FcEnt) (w : Bool) (cls : Nat) : Dev :=
  s.modEng n (fun g => { g with fcache := g.fcache.filter (fun y => y.frame != x.frame) ++
    [{ x with used := true, cls := if w then some cls else x.cls }] })

/-- Straight to the shaft: up the local path, or over the collar (R230). A write to a frame that is being moved is carried out in both slots
(R68). -/
def Dev.engDirect (s : Dev) (n : Nat) (r : Req) : Dev :=
  let s :=
    if r.shaft == n then
      let s := s.bump Reg.ENGINE_CNT_LINES_LOCAL_VALUE n
      match s.shaftShut n with
      | some res => s.answer r res
      | none => s.modShaft n (fun p => { p with localq := p.localq ++ [{ r with loc := true }], parking := false })
    else (s.bump Reg.ENGINE_CNT_LINES_REMOTE_VALUE n).sendShaft r
  if isWrite r.op && (s.shaftShut r.shaft).isNone then s.moveWrite r else s

/-- A frame-table request over the collar; one that moves no line (a hint, a FLUSH) is not counted as one (R240). -/
def Dev.engTable (s : Dev) (n : Nat) (r : Req) : Dev :=
  let s := if isSampled r.op then s.bump Reg.ENGINE_CNT_LINES_REMOTE_VALUE n else s
  s.modSpace (fun p => { p with lookupQ := p.lookupQ ++ [r] })

/-- Resolve an access through the frame cache and send it (R230). -/
def Dev.issueAcc (s : Dev) (n : Nat) (a : Acc) : Dev :=
  let cls := (s.eng n).cls
  let r := reqOf n cls a
  let s := s.modEng n (fun g => { g with acc := g.acc.map (fun y => if y.id == a.id then { y with sent := true, again := false } else y) })
  let mem := match a.op with
    | .rd => true
    | .wr => true
    | .wrm => true
    | .atom _ => true
    | _ => false
  if !mem then s.engTable n r
  else
    let f := frameOfLine a.line
    let hit := (s.eng n).fcache.find? (fun x => x.frame == f)
    let s := if hit.isSome then s.bump Reg.ENGINE_CNT_FC_HIT_VALUE n else s.bump Reg.ENGINE_CNT_FC_MISS_VALUE n
    let s := if hit.isNone && s.tableShows r then s.fcacheNote r else s
    match (s.eng n).fcache.find? (fun x => x.frame == f) with
    | some x =>
      if x.serves a.line a.writes then
        (s.useEntry n x a.writes cls).engDirect n { r with shaft := x.shaft, sline := x.slot * 8192 + a.line % 8192 }
      else s.engTable n r
    | none => s.engTable n r

/-- May an access go: no earlier access of the job to its line is incomplete, where one of the two writes (R228)? -/
def mayGo (before : List Acc) (a : Acc) : Bool :=
  !a.sent && !a.again && !(before.any (fun b => b.line == a.line && (b.writes || a.writes)))

/-- The first access that may go. -/
def nextAcc : List Acc → List Acc → Option Acc
  | _, [] => none
  | before, a :: l => if mayGo before a then some a else nextAcc (before ++ [a]) l

/-- Does an access take the path inside the tile? -/
def Dev.goesLocal (s : Dev) (n : Nat) (a : Acc) : Bool :=
  (s.eng n).fcache.any (fun x => x.frame == frameOfLine a.line && x.shaft == n && x.serves a.line a.writes)

/-- The engine's cells that the spine has not taken: at most 64 (R122). -/
def Dev.outCells (s : Dev) (n : Nat) : Nat :=
  (s.fabric.voq.filter (fun c => c.src == 0x10 + n)).length + (s.space.lookupQ.filter (fun r => srcAtt r == 0x10 + n)).length

/-- Send every access that may go; those that cross the collar wait while its outbound pool is full. -/
def Dev.accPumpN : Nat → Dev → Nat → Dev
  | 0, s, _ => s
  | k + 1, s, n => match nextAcc [] (s.eng n).acc with
    | none => s
    | some a => if 64 ≤ s.outCells n && !(s.goesLocal n a) then s else Dev.accPumpN k (s.issueAcc n a) n

def Dev.accPump (s : Dev) (n : Nat) : Dev :=
  if (s.eng n).frozen / 4 % 2 == 1 then s else Dev.accPumpN (s.eng n).acc.length s n

/-! ### Streams (R226 to R228) -/

/-- A stream from its 112-bit descriptor. -/
def strmOf (d : Nat) : Strm :=
  { addr := d % 2 ^ 45, esize := 2 ^ (d / 2 ^ 45 % 4), cols := d / 2 ^ 47 % 2 ^ 20 + 1, stride := toSigned 16 (d / 2 ^ 67),
    rows := d / 2 ^ 83 % 2 ^ 12 + 1, stride2 := toSigned 17 (d / 2 ^ 95), row := 0, col := 0, buf := [], part := none }

/-- The host address of an element. -/
def Strm.at (t : Strm) (row col : Nat) : Int := t.addr + row * t.stride2 * 64 + col * t.stride * t.esize

/-- Inside the 45-bit host space? -/
def inHost (x : Int) : Bool := decide (0 ≤ x) && decide (x < 2 ^ 45)

/-- Elements left. -/
def Strm.left (t : Strm) : Nat := if t.row < t.rows then (t.rows - t.row) * t.cols - t.col else 0

/-- The place `k` elements further. -/
def Strm.skip (t : Strm) (k : Nat) : Strm :=
  let p := min (t.row * t.cols + t.col + k) (t.rows * t.cols)
  { t with row := p / t.cols, col := p % t.cols }

/-- The lines of the next elements, in order, each once: at most `room`, over at most `k` elements. -/
def Strm.ahead (t : Strm) : Nat → Nat → Nat → List Nat → List Nat
  | 0, _, _, l => l
  | k + 1, room, i, l =>
    let u := t.skip i
    if t.left ≤ i || !(inHost (t.at u.row u.col)) then l
    else
      let x := (t.at u.row u.col).toNat / 64
      if l.contains x then t.ahead k room (i + 1) l
      else if room ≤ l.length then l
      else t.ahead k room (i + 1) (l ++ [x])

/-- Ask for the lines a read stream wants: 16 ahead, or those the next step needs. Lines no longer wanted leave the buffer. -/
def Dev.readAhead (s : Dev) (n k : Nat) : Dev :=
  match (s.eng n).strm k with
  | none => s
  | some t =>
    if t.addr % t.esize != 0 then s
    else
      let want := t.ahead 1024 16 0 []
      let need := t.ahead (min (64 / t.esize) (t.cols - t.col)) 64 0 []
      let all := want ++ need.filter (fun x => !(want.contains x))
      let t := { t with buf := t.buf.filter (fun b => all.contains b.1) }
      let s := s.modEng n (fun g => g.setStrm k (some t))
      let asked := (s.eng n).acc.filter (fun a => a.dest == .stream k)
      let new := all.filter (fun x => !(t.buf.any (fun b => b.1 == x)) && !(asked.any (fun a => a.line == x)))
      let pc := ((s.eng n).run.map (·.pc)).getD 0
      new.foldl (fun s x => s.addAcc n ⟨0, .stream k, .rd, x, 0, 0, 0, 0, 0, 0, false, false, pc, x * 64⟩) s

/-- Send out the line a write stream has gathered. -/
def Dev.flushPart (s : Dev) (n k : Nat) : Dev :=
  match (s.eng n).strm k with
  | some t => match t.part with
    | some (line, d, m, bad) =>
      let s := s.modEng n (fun g => g.setStrm k (some { t with part := none }))
      let pc := ((s.eng n).run.map (·.pc)).getD 0
      if m == 0 then s
      else s.addAcc n ⟨0, .none, if m == fullMask then .wr else .wrm, line, d, m, bad, 0, 0, 0, false, false, pc, line * 64⟩
    | none => s
  | none => s

def Dev.flushParts (s : Dev) (n : Nat) : Dev := (s.flushPart n 4).flushPart n 5

/-- Keep the read streams reading ahead and send what may go. -/
def Dev.engPump (s : Dev) (n : Nat) : Dev :=
  let live := match (s.eng n).run with
    | some r => r.ending.isNone
    | none => false
  let s := if live then (List.range 4).foldl (fun s k => s.readAhead n k) s else s
  s.accPump n

/-! ### The end of a job (R234, R236, R255 to R257) -/

def stDONE : Nat := 0x01
def stRESET : Nat := 0x20
def stTIMEOUT : Nat := 0x21
def stABORTGD : Nat := 0x22
def stABORTED : Nat := 0x23
def stABORTMODE : Nat := 0x24
def stREFUSED : Nat := 0x25

/-- The 32 bytes of a completion record (R256). -/
def recBytes (jobId status pc slot poisoned cycles eng steps rd wr detail : Nat) : BitVec 256 :=
  let cap (w x : Nat) : Nat := min (2 ^ w - 1) x
  BitVec.ofNat 256 (jobId % 2 ^ 24 + status * 2 ^ 24 + pc % 4096 * 2 ^ 32 + slot * 2 ^ 44 + cap 16 poisoned * 2 ^ 48 +
    cycles % 2 ^ 48 * 2 ^ 64 + eng % 64 * 2 ^ 112 + cap 32 steps * 2 ^ 128 + cap 32 rd * 2 ^ 160 + cap 32 wr * 2 ^ 192 +
    detail % 2 ^ 32 * 2 ^ 224)

/-- The running job ends: the engine is free and the dispatcher holds the record. -/
def Dev.jobEnd (s : Dev) (n status detail pc : Nat) : Dev :=
  match (s.eng n).run with
  | none => s
  | some r =>
    let rec_ : Rec := ⟨n, r.job.ring, r.job.id, r.job.comp, r.job.cls,
      recBytes r.job.id status pc r.job.slot r.poisoned r.cycles n r.steps r.rdLines r.wrLines detail, false⟩
    let s := s.modEng n (fun g => { g with run := none, acc := [], streams := [], loops := [] })
    let s := { s with disp := { s.disp with recs := s.disp.recs ++ [rec_] } }
    let s := if status == stTIMEOUT then
        (s.bump Reg.DISPATCH_CNT_TIMEOUT_VALUE).raiseRec dispPage Reg.EV_DISPATCH_TIMEOUT sevWARNING [r.job.id, n] else s
    s.engShow n

/-- Is the job past its steps, for a reason other than an END step that waits for its accesses? -/
def Run.closing (r : Run) : Bool :=
  match r.ending with
  | some (status, _, _) => status != stDONE
  | none => false

/-- A job that is ending ends once its last access is complete. -/
def Dev.tryEnd (s : Dev) (n : Nat) : Dev :=
  match (s.eng n).run with
  | some r => match r.ending with
    | some (status, detail, pc) => if (s.eng n).acc.isEmpty then s.jobEnd n status detail pc else s
    | none => s
  | none => s

/-- The job begins to end with a status: no further step issues, partial lines are written out, accesses run to completion. A job
whose END still waits has not ended, and takes the status. -/
def Dev.beginEnd (s : Dev) (n status detail pc : Nat) : Dev :=
  match (s.eng n).run with
  | none => s
  | some r =>
    if r.closing then s
    else
      let s := s.flushParts n
      let s := s.modRun n (fun r => { r with ending := some (status, detail, pc) })
      (s.accPump n).tryEnd n

/-- A fault (R236): the step has no effect; FAULT and FAULT_ADDR record it. -/
def Dev.engFault (s : Dev) (n code addr pc : Nat) (detail : Option Nat := none) : Dev :=
  match (s.eng n).run with
  | none => s
  | some r =>
    if r.closing then s
    else
      let s := (s.setF Reg.ENGINE_FAULT_VALID 1 n).setF Reg.ENGINE_FAULT_SLOT r.job.slot n
      let s := (s.setF Reg.ENGINE_FAULT_CODE code n).setF Reg.ENGINE_FAULT_PC pc n
      let s := (s.setF Reg.ENGINE_FAULT_ADDR_LO_ADDR addr n).setF Reg.ENGINE_FAULT_ADDR_HI_ADDR (addr / 2 ^ 32) n
      let s := (s.bump Reg.ENGINE_CNT_FAULT_VALUE n).raiseRec (enginePage n) Reg.EV_ENGINE_FAULT sevWARNING [code, pc, addr]
      s.beginEnd n (0x10 + code) (detail.getD addr) pc

/-! ### Answers (R232, R235 to R237) -/

/-- A poisoned line or scratch byte was met. -/
def Dev.notePoison (s : Dev) (n k : Nat) : Dev :=
  if k == 0 then s
  else
    let s := (s.bumpBy Reg.ENGINE_CNT_POISON_VALUE k n).raise (enginePage n) Reg.EV_ENGINE_POISON
    s.modRun n (fun r => { r with poisoned := r.poisoned + k })

/-- The fault code of a refusal. -/
def refusalCode (reason : Nat) : Nat := if reason == 1 then 8 else if reason == 4 then 9 else if reason == 2 then 10 else 1

/-- Put `w` bytes of an element, with the poison bits of each, into lane `j` of a vector register. -/
def EngSt.loadLane (g : EngSt) (dst j w x bits : Nat) : EngSt :=
  g.setV dst (ofElems w (fun i => if i == j then x else elem w (g.vr dst) i))
    (ofBits w (fun i => if i == j then bits else elemBits w (g.vpr dst) i))

/-- Data for a destination. Under policy 2 poisoned bytes are loaded as 0. -/
def EngSt.loadData (g : EngSt) (a : Acc) (d : Line) (bad : BitVec 64) : EngSt :=
  let zero := (g.run.map (·.job.poison)).getD 0 == 2
  let d := if zero then mergeLine d 0 bad else d
  let bad := if zero then 0 else bad
  match a.dest with
  | .stream k => match g.strm k with
    | some t => g.setStrm k (some { t with buf := t.buf ++ [(a.line, d, bad, 0)] })
    | none => g
  | .lane dst j w off => g.loadLane dst j w (d.toNat / 2 ^ (8 * off)) (bad.toNat / 2 ^ off % 2 ^ w)
  | .scalar dst => g.setS dst (d.toNat / 2 ^ (64 * a.off) % 2 ^ 64) (decide (bad ≠ 0))
  | .none => g

/-- The old value of an atomic; one on a poisoned line gives 0 and, but for policy 2, its poison bit; so does one with a poisoned operand
(R235). -/
def EngSt.loadOld (g : EngSt) (a : Acc) (old : Word64) (poison : Bool) : EngSt :=
  let mark := (poison || a.bad != 0) && (g.run.map (·.job.poison)).getD 0 != 2
  let x := if poison then 0 else old.toNat
  match a.dest with
  | .lane dst j w _ => g.loadLane dst j w x (wholeBits w mark)
  | .scalar dst => g.setS dst x mark
  | _ => g

/-- An answer to one of the engine's accesses. While the job is ending, answers are discarded but for poison, which is counted
(R238). -/
def Dev.engAnswer (s : Dev) (n : Nat) (a : Acc) (res : Result) : Dev :=
  let ending := match (s.eng n).run with
    | some r => r.ending.isSome
    | none => true
  let cut := match (s.eng n).run with
    | some r => (match r.ending with
      | some (st, _, _) => st == stTIMEOUT || st == stABORTED
      | none => false)
    | none => true
  let drop (s : Dev) : Dev := s.modEng n (fun g => { g with acc := g.acc.filter (fun y => y.id != a.id) })
  let put (s : Dev) (f : EngSt → EngSt) : Dev := if ending then s else s.modEng n f
  match res with
  | .retry _ => if cut then drop s else
      s.modEng n (fun g => { g with acc := g.acc.map (fun y => if y.id == a.id then { y with sent := false, again := true } else y) })
  | .data d bad => (put (drop s) (fun g => g.loadData a d bad)).notePoison n (b2n (bad != 0))
  | .poison => (put (drop s) (fun g => g.loadData a 0 fullMask)).notePoison n 1
  | .ack => drop s
  | .atomData old _ p => (put (drop s) (fun g => g.loadOld a old p)).notePoison n (b2n p)
  | .dark _ _ => match a.dest with
    | .stream k => put (drop s) (fun g => match g.strm k with
      | some t => g.setStrm k (some { t with buf := t.buf ++ [(a.line, 0, 0, 13)] })
      | none => g)
    | _ => (drop s).engFault n 13 a.addr a.pc
  | .error reason _ => match a.dest with
    | .stream k => put (drop s) (fun g => match g.strm k with
      | some t => g.setStrm k (some { t with buf := t.buf ++ [(a.line, 0, 0, refusalCode reason)] })
      | none => g)
    | _ => (drop s).engFault n (refusalCode reason) a.addr a.pc
  | .lines _ => drop s

/-- STREAM_LINE_ARRIVAL: the oldest answer to an access of engine `n` arrives. -/
def Dev.engArrival (s : Dev) (n : Nat) : Dev :=
  match s.answers.find? (fun x => match x.1 with
    | .engine m _ => m == n
    | _ => false) with
  | none => s
  | some (org, res) =>
    let s := { s with answers := dropFirst (fun x => x.1 == org) s.answers }
    let slot := match org with
      | .engine _ i => i
      | _ => 0
    match (s.eng n).acc.find? (fun a => a.id == slot) with
    | none => s
    | some a => ((s.engAnswer n a res).engPump n).tryEnd n

def execStreamLineArrival (n : Fin 48) (s : State) : Host.Outcome State Fault Refusal := s.on fun s => .next (s.engArrival n)

/-- ENGINE_RETRY_EXPIRY (R237): RETRY_US, and at least 1 µs, is over: what met NACK_RETRY is issued again. -/
def Dev.engRetry (s : Dev) (n : Nat) : Dev :=
  let s := s.modEng n (fun g => { g with acc := g.acc.map (fun y => { y with again := false }) })
  s.engPump n

def execEngineRetryExpiry (n : Fin 48) (s : State) : Host.Outcome State Fault Refusal := s.on fun s => .next (s.engRetry n)

/-! ### Job start, resets and freezes (R216, R239, R254) -/

/-- Every vector, mask, scalar and loop register, the summary flag and every poison bit are zero. -/
def EngSt.clearRegs (g : EngSt) : EngSt :=
  { g with v := [], vp := [], m := [], s := [], sp := [], l := [], loops := [], sfAny := false, sfAll := false, streams := [] }

/-- The half of a slot that is active, with its base and length; none when it is not VALID. -/
def Dev.slotHalf (s : Dev) (n slot : Nat) : Option (Nat × Nat × Nat) :=
  let h := b2n (bitN (s.fv Reg.ENGINE_SLOT_ACTIVE_HALF n) slot)
  let w := s.rdReg (enginePage n * 4096 + 0x140 + 8 * slot + 4 * h)
  if bitN w.toNat 31 then some (h, bitsOf w 11 0, bitsOf w 28 16) else none

/-- JOB_START: an idle engine that runs takes the next job of its queue and sets it up (R254); without REFCLK nothing runs (R16). -/
def Dev.jobStart (s : Dev) (n : Nat) : Dev :=
  let g := s.eng n
  match g.run, g.queue with
  | none, j :: q =>
    if s.engSt n != stONLINE || g.frozen != 0 || !s.pins.refclk then s
    else
      let half := (s.slotHalf n j.slot).getD (b2n (bitN (s.fv Reg.ENGINE_SLOT_ACTIVE_HALF n) j.slot), 0, 0)
      let s := s.modEng n (fun g =>
        let g := g.clearRegs
        let g := if j.clr then { g with scratch := [], scratchBad := [] } else g
        let g := j.ops.foldl (fun (g : EngSt) o => g.setStrm o.1 (some (strmOf o.2))) g
        { g with queue := q, passBp := false,
                 run := some ⟨j, half.1, half.2.1, half.2.2, 0, none, 0, 0, 0, 0, 0, 0, 0, s.time, false⟩ })
      (s.engPump n).engShow n
  | _, _ => s

def execJobStart (n : Fin 48) (s : State) : Host.Outcome State Fault Refusal := s.on fun s => .next (s.jobStart n)

/-- The engine leaves ONLINE, or is reset (R239, R262): its running job ends with `status` after its accesses are complete, its
queued jobs go back to the dispatcher. -/
def Dev.engLeave (s : Dev) (n status : Nat) : Dev :=
  let q := (s.eng n).queue
  let s := s.modEng n (fun g => { g with queue := [] })
  let s := { s with disp := { s.disp with back := s.disp.back ++ q } }
  let pc := ((s.eng n).run.map (·.pc)).getD 0
  (s.beginEnd n status 0 pc).engShow n

/-- What heat and the cap ladder ask of an engine now (R216, R397, R411): the duty of T1, the freezes of T3 and P4, the point. -/
def Dev.engLimits (s : Dev) (n : Nat) : Dev :=
  let t := s.fv Reg.HEAT_STATUS_STEP
  let hold := b2n (decide (3 ≤ t)) + 8 * b2n (s.fv Reg.POWER_LADDER_STEP == 4)
  let s := s.modEng n (fun g => { g with frozen := Nat.lor (Nat.land g.frozen 6) hold })
  ((s.setF Reg.ENGINE_EXEC_STATUS_THROTTLED (b2n (decide (1 ≤ t))) n).setF Reg.ENGINE_EXEC_STATUS_POINT (s.eng n).want n).engShow n

/-- Engine FUNC_RESET (R239, R344): as leaving ONLINE; accesses in flight are completed, and scratch, registers and frame cache are
cleared; the engine's registers but the slot halves take their reset values, and heat and power hold it as before. -/
def Dev.engReset (s : Dev) (n status : Nat) : Dev :=
  let s := s.engLeave n status
  let s := s.modEng n (fun g => { g with acc := g.acc.filter (fun a => a.sent) })
  let s := s.modEng n (fun g => { g.clearRegs with scratch := [], scratchBad := [], fcache := [], stepReq := false, passBp := false })
  let s := s.tryEnd n
  (s.resetPage (enginePage n) (fun off => decide (off < 0x40) || (decide (0x140 ≤ off) && decide (off < 0x1C0)))).engLimits n

/-- Freeze the engine at the next step boundary for a reason, or let it go on. -/
def Dev.engFreeze (s : Dev) (n why : Nat) (on : Bool) : Dev :=
  let x := (s.eng n).frozen
  let y := if on then Nat.lor x (2 ^ why) else if bitN x why then x - 2 ^ why else x
  (s.modEng n (fun g => { g with frozen := y })).engShow n

/-- ENGINE_FREQ_CHANGE (R216): at a step boundary the engine takes the point that power has set. -/
def Dev.engFreq (s : Dev) (n : Nat) : Dev := s.setF Reg.ENGINE_EXEC_STATUS_POINT (s.eng n).want n

def execEngineFreqChange (n : Fin 48) (s : State) : Host.Outcome State Fault Refusal := s.on fun s => .next (s.engFreq n)

/-- The job is cut off by its timer or by ABORT (R255): reissues of NACK_RETRY stop. An END that has issued wins, unless one of the
accesses it waits for is to be issued again. -/
def Dev.jobCut (s : Dev) (n status : Nat) : Dev :=
  match (s.eng n).run with
  | none => s
  | some r =>
    if r.ending.isSome && !((s.eng n).acc.any (fun a => a.again)) || r.closing then s
    else (s.modEng n (fun g => { g with acc := g.acc.filter (fun a => !a.again) })).beginEnd n status 0 r.pc

/-- JOB_TIMEOUT (R255): the job's timer has reached its class's JOB_TIMEOUT. In a ground-die reset the job is to end
ABORTED_BY_RESET instead (R371); in a trip it ends TIMEOUT at the release (R413). -/
def Dev.jobTimeout (s : Dev) (n : Nat) : Dev :=
  if bitN (s.eng n).frozen 2 then s
  else if s.fb Reg.HEAT_STATUS_TRIPPED then s.modRun n (fun r => { r with expired := true })
  else s.jobCut n stTIMEOUT

def execJobTimeout (n : Fin 48) (s : State) : Host.Outcome State Fault Refusal := s.on fun s => .next (s.jobTimeout n)

end Sys2Proof.Machine
end

