-- ==== Sys2Proof/Machine/EngSteps.lean ====
section
/-!
DEFINITION. Machine/EngSteps.lean: the steps of the engines (R215, R219 to R236): decoding, the checks every step makes, and what
each opcode does.
-/
namespace Sys2Proof.Machine

/-! ### Operations (R223) -/

/-- The operations of the opcode table of R223. -/
inductive EOp where
  | lane (o : LOp) | dot4 | dot2 | salu (o : SOp) | sli | bcast
  | cmp (o : COp) | sel | mlog (o : LOp) | mnot | msum | mfirst | mld | mst
  | red (o : ROp) | perm | shuf | compress | expand | extr | insr | hash | crc | cvt | pack | unpk | prefixSum
  | sopen | srd | swr | sclose | scrld | scrst | scrgath | scrscat | scradd | sskip | spos | ldg | stg | scrz
  | atom (aop : Nat) | avadd | fence (writes : Bool) | hint (kind : Nat) | flush (frame : Bool)
  | nop | loop | brk | br | wait | fin | param | trap
  deriving DecidableEq, Repr

def saluOf (x : Nat) : Option EOp :=
  ([.add, .sub, .mul, .and, .or, .xor, .shl, .shr, .smin, .smax] : List SOp)[x]?.map EOp.salu

/-- OP values 0x00 to 0x1C but for DOT4 and DOT2. -/
def laneOf (op : Nat) : Option LOp :=
  match op with
  | 0x00 => some .add | 0x01 => some .sub | 0x02 => some .mul | 0x03 => some .mulh
  | 0x04 => some .fma | 0x05 => some .fms | 0x06 => some .fnma | 0x07 => some .rcp
  | 0x08 => some .min | 0x09 => some .max | 0x0A => some .abs | 0x0B => some .neg
  | 0x0C => some .adds | 0x0D => some .subs
  | 0x10 => some .and | 0x11 => some .or | 0x12 => some .xor | 0x13 => some .andn | 0x14 => some .not
  | 0x15 => some .shl | 0x16 => some .shr | 0x17 => some .sar | 0x18 => some .rotl
  | 0x19 => some .popc | 0x1A => some .clz | 0x1B => some .rsq | 0x1C => some .mov
  | _ => none

/-- OP values 0x1D to 0x3F. -/
def opLow (op ext : Nat) : Option EOp :=
  match op with
  | 0x0E => some .dot4 | 0x0F => some .dot2
  | 0x1D => saluOf (ext % 16) | 0x1E => some .sli | 0x1F => some .bcast
  | 0x20 => some (.cmp .eq) | 0x21 => some (.cmp .ne) | 0x22 => some (.cmp .lt) | 0x23 => some (.cmp .le)
  | 0x24 => some (.cmp .gt) | 0x25 => some (.cmp .ge) | 0x26 => some (.cmp .nan) | 0x27 => some .sel
  | 0x28 => some (.mlog .and) | 0x29 => some (.mlog .or) | 0x2A => some (.mlog .xor) | 0x2B => some .mnot
  | 0x2C => some .msum | 0x2D => some .mfirst | 0x2E => some .mld | 0x2F => some .mst
  | 0x30 => some (.red .sum) | 0x31 => some (.red .min) | 0x32 => some (.red .max) | 0x33 => some (.red .or)
  | 0x34 => some .perm | 0x35 => some .shuf | 0x36 => some .compress | 0x37 => some .expand
  | 0x38 => some .extr | 0x39 => some .insr | 0x3A => some .hash | 0x3B => some .crc
  | 0x3C => some .cvt | 0x3D => some .pack | 0x3E => some .unpk | 0x3F => some .prefixSum
  | _ => none

/-- OP values 0x40 to 0x6F. -/
def opHigh (op ext : Nat) : Option EOp :=
  match op with
  | 0x40 => some .sopen | 0x41 => some .srd | 0x42 => some .swr | 0x43 => some .sclose
  | 0x44 => some .scrld | 0x45 => some .scrst | 0x46 => some .scrgath | 0x47 => some .scrscat | 0x48 => some .scradd
  | 0x49 => some .sskip | 0x4A => some .spos | 0x4B => some .ldg | 0x4C => some .stg | 0x4D => some .scrz
  | 0x50 => some (.atom 0) | 0x51 => some (.atom 1) | 0x52 => some (.atom 2) | 0x53 => some (.atom 3)
  | 0x54 => some (.atom 4) | 0x55 => some (.atom 5) | 0x56 => some (.atom 6) | 0x57 => some .avadd
  | 0x58 => some (.fence false) | 0x59 => some (.fence true)
  | 0x5A => if ext % 8 < 6 then some (.hint (ext % 8)) else none
  | 0x5B => some (.flush (ext % 2 == 1))
  | 0x60 => some .nop | 0x61 => some .loop | 0x62 => some .brk | 0x63 => some .br
  | 0x64 => some .wait | 0x65 => some .fin | 0x66 => some .param | 0x67 => some .trap
  | _ => none

/-- The operation of an OP value with its extension; none faults with ILLEGAL_OP. -/
def opOf (op ext : Nat) : Option EOp := ((laneOf op).map EOp.lane).orElse (fun _ => (opLow op ext).orElse (fun _ => opHigh op ext))

/-- The fields of a stored step (R219). -/
def fieldsOf (x : BitVec 128) : StepF :=
  let at_ (lo w : Nat) : Nat := x.toNat / 2 ^ lo % 2 ^ w
  { typ := BitVec.ofNat 4 (at_ 116 4), dst := BitVec.ofNat 5 (at_ 111 5), srcA := BitVec.ofNat 5 (at_ 106 5),
    srcB := BitVec.ofNat 5 (at_ 101 5), srcC := BitVec.ofNat 5 (at_ 96 5), mask := BitVec.ofNat 3 (at_ 93 3),
    inv := at_ 92 1 == 1, cond := BitVec.ofNat 4 (at_ 88 4), ext := BitVec.ofNat 24 (at_ 64 24), imm := BitVec.ofNat 64 (at_ 0 64) }

/-- A bit of EXT. -/
def StepFext (f : StepF) (i : Nat) : Bool := bitN f.ext.toNat i
/-- Does operand B come from IMM (R220)? -/
def immB (f : StepF) : Bool := StepFext f 0
/-- Bits hi..lo of IMM. -/
def immBits (f : StepF) (hi lo : Nat) : Nat := f.imm.toNat / 2 ^ lo % 2 ^ (hi + 1 - lo)
def extBits (f : StepF) (hi lo : Nat) : Nat := f.ext.toNat / 2 ^ lo % 2 ^ (hi + 1 - lo)

/-- The TYPE values an operation takes (R223); none where it does not use TYPE. -/
def EOp.types : EOp → Option (List Nat)
  | .lane o => match o with
    | .mulh => some [0, 1, 2, 3, 6, 7, 9]
    | .rcp => some [4, 5, 8]
    | .rsq => some [4, 5, 8]
    | .abs => some [0, 2, 6, 9, 4, 5, 8]
    | .neg => some [0, 2, 6, 9, 4, 5, 8]
    | .adds => some [0, 1, 2, 3, 6, 7, 9]
    | .subs => some [0, 1, 2, 3, 6, 7, 9]
    | .and | .or | .xor | .andn | .not | .shl | .shr | .sar | .rotl | .popc | .clz => some [0, 1, 2, 3, 6, 7, 9]
    | _ => some (List.range 10)
  | .dot4 => some [0, 1]
  | .dot2 => some [4, 5]
  | .cmp .nan => some [4, 5, 8]
  | .red .or => some [0, 1, 2, 3, 6, 7, 9]
  | .hash => some [6, 7, 9]
  | .crc => some [1]
  | .pack => some [0, 1, 2, 3, 6, 7, 4, 5]
  | .unpk => some [2, 3, 6, 7, 9, 8]
  | .scrgath => some [6, 7, 8, 9]
  | .scrscat => some [6, 7, 8, 9]
  | .scradd => some [6, 7, 8]
  | .bcast | .cmp _ | .sel | .msum | .mfirst | .red _ | .perm | .shuf | .compress | .expand | .extr | .insr | .cvt
  | .prefixSum | .srd | .swr | .scrld | .scrst | .ldg | .stg => some (List.range 10)
  | _ => none

/-- Registers a step names: vectors read, scalars read, masks read, and the destinations; `addr` the scalars whose value is an
address, a count or a loop count (R235). -/
structure Uses where
  vs : List Nat := []
  ss : List Nat := []
  ms : List Nat := []
  dv : List Nat := []
  ds : List Nat := []
  dm : List Nat := []
  addr : List Nat := []
  deriving Repr

/-- Operands of R223. R220 lets EXT[0] put IMM in place of operand B "in the arithmetic and compare groups" without listing them: here these
are the lane operations of 0x00 to 0x1C that have a B, logic and shifts included, DOT4, DOT2 and the CMP steps (DESIGN CHOICE,
log 161). -/
def EOp.uses (o : EOp) (f : StepF) : Uses :=
  let a := f.srcA.toNat
  let b := f.srcB.toNat
  let c := f.srcC.toNat
  let d := f.dst.toNat
  let vb := if immB f then [] else [b]
  match o with
  | .lane l => match l with
    | .fma | .fms | .fnma => { vs := a :: c :: vb, dv := [d] }
    | .rcp | .rsq | .abs | .neg | .not | .popc | .clz | .mov => { vs := [a], dv := [d] }
    | _ => { vs := a :: vb, dv := [d] }
  | .dot4 => { vs := a :: c :: vb, dv := [d] }
  | .dot2 => { vs := a :: c :: vb, dv := [d] }
  | .salu _ => { ss := a :: (if StepFext f 4 then [] else [b]), ds := [d] }
  | .sli => { ds := [d] }
  | .bcast => { ss := if StepFext f 4 then [] else [a], dv := [d] }
  | .cmp _ => { vs := a :: vb, dm := [d] }
  | .sel => { vs := [a, b], ms := [c], dv := [d] }
  | .mlog _ => { ms := [a, b], dm := [d] }
  | .mnot => { ms := [a], dm := [d] }
  | .msum => { ms := [a], ds := [d] }
  | .mfirst => { ms := [a], ds := [d] }
  | .mld => { ss := [a], dm := [d] }
  | .mst => { ms := [a], ds := [d] }
  | .red _ => { vs := [a], dv := [d] }
  | .perm => { vs := [a, b], dv := [d] }
  | .shuf => { vs := [a], dv := [d] }
  | .compress => { vs := [a], dv := [d], ds := [c] }
  | .expand => { vs := [a], dv := [d] }
  | .extr => { vs := [a], ds := [d] }
  | .insr => { ss := [a], dv := [d] }
  | .hash => { vs := [a], dv := [d] }
  | .crc => { vs := [a], ss := [b], ds := [d] }
  | .cvt => { vs := [a], dv := [d] }
  | .pack => { vs := [a, b], dv := [d] }
  | .unpk => { vs := [a], dv := [d] }
  | .prefixSum => { vs := [a], dv := [d] }
  | .sopen => { ss := [a, b], addr := [a, b] }
  | .srd => { dv := [d], dm := if extBits f 6 4 == 0 then [] else [extBits f 6 4] }
  | .swr => { vs := [a] }
  | .scrld => { ss := [a], addr := [a], dv := [d] }
  | .scrst => { vs := [a], ss := [a], addr := [a] }
  | .scrgath => { vs := [b], ss := [a], addr := [a], dv := [d] }
  | .scrscat => { vs := [a, b], ss := [a], addr := [a] }
  | .scradd => { vs := [a, b], ss := [a], addr := [a] }
  | .sskip => { ss := [a], addr := [a] }
  | .spos => { ds := [d] }
  | .ldg => { vs := [b], dv := [d] }
  | .stg => { vs := [a, b] }
  | .scrz => { ss := [a], addr := [a] }
  | .atom _ => { ss := [a, b, c], addr := [a], ds := [d] }
  | .avadd => { vs := [a, b], dv := [d] }
  | .hint _ => { ss := [a], addr := [a] }
  | .flush _ => { ss := [a], addr := [a] }
  | .loop => if StepFext f 4 then { ss := [a], addr := [a] } else {}
  | .param => { ds := [d] }
  | _ => {}

/-- Do all register fields name registers that exist (R220)? -/
def Uses.legal (u : Uses) : Bool :=
  (u.ss ++ u.ds).all (fun i => decide (i < 16)) && (u.ms ++ u.dm).all (fun i => decide (i < 8))

/-- Does an access still on its way write a register the step names (R215)? -/
def EngSt.waitsFor (g : EngSt) (u : Uses) : Bool :=
  g.acc.any (fun a => match a.dest with
    | .lane d _ _ _ => (u.vs ++ u.dv).contains d
    | .scalar d => (u.ss ++ u.ds).contains d
    | _ => false)

/-! ### Results -/

/-- Where the sequencer goes after a step: on; to a step; past the end `e` of a body; out of the innermost loop. -/
inductive Seq where
  | next | jump (t : Nat) | past (e : Nat) | leave

/-- What a step does. `used`: a poisoned byte was used. -/
inductive StepR where
  | fault (code addr : Nat) (detail : Option Nat)
  | stall
  | regs (g : EngSt) (used : Bool)
  | mem (s : Dev) (used : Bool)
  | seq (s : Dev) (go : Seq)

def rfault (code : Nat) (addr : Nat := 0) : StepR := .fault code addr none

/-- Condition of a sequencer step (R224); none faults. -/
def EngSt.cond (g : EngSt) (c : Nat) : Option Bool :=
  match c with
  | 0 => some true
  | 1 => some g.sfAny
  | 2 => some (!g.sfAny)
  | 3 => some g.sfAll
  | 4 => some (!g.sfAll)
  | _ => none

/-! ### Arithmetic, compare, mask and lane steps -/

/-- Operand B of a lane. -/
def EngSt.opB (g : EngSt) (f : StepF) (t : Ty) (mode i : Nat) : Nat :=
  if immB f then t.ofImm mode f.imm.toNat else elem t.w (g.vr f.srcB.toNat) i

/-- Is a lane of the vectors a step reads poisoned? -/
def EngSt.badLane (g : EngSt) (vs : List Nat) (w i : Nat) : Bool := vs.any (fun v => elemBad w (g.vpr v) i)

/-- Is an active lane of them? -/
def EngSt.badActive (g : EngSt) (f : StepF) (vs : List Nat) (w lanes : Nat) : Bool :=
  (List.range lanes).any (fun i => g.active f i && g.badLane vs w i)

/-- Steps that compute each lane by itself. -/
def EngSt.laneStep (g : EngSt) (f : StepF) (t : Ty) (vs : List Nat) (val : Nat → Nat) : StepR :=
  .regs (g.putLanes f t.w f.dst.toNat val (g.badLane vs t.w)) (g.badActive f vs t.w t.lanes)

/-- The sum of products of DOT4 and DOT2: result lane `i` of 4 bytes takes `k` source lanes of width `w`. -/
def EngSt.dotStep (g : EngSt) (f : StepF) (vs : List Nat) (w : Nat) (val : Nat → Nat) : StepR :=
  let bad (i : Nat) : Bool := elemBad 4 (g.vpr f.srcC.toNat) i ||
    (List.range (4 / w)).any (fun j => g.badLane (vs.filter (· != f.srcC.toNat)) w (4 / w * i + j))
  .regs (g.putLanes f 4 f.dst.toNat val bad) ((List.range 16).any (fun i => g.active f i && bad i))

/-- A whole-register result in lane 0 (reductions). -/
def EngSt.redStep (g : EngSt) (f : StepF) (t : Ty) (x : Nat) (bad : Bool) : StepR :=
  .regs (g.putAll t.w f.dst.toNat (fun i => if i == 0 then x else 0) (fun _ => bad)) bad

/-- The active lanes of A, in order. -/
def EngSt.actives (g : EngSt) (f : StepF) (lanes : Nat) : List Nat := (List.range lanes).filter (fun i => g.active f i)

/-- A mask destination from bits of the lanes. -/
def maskBits (lanes : Nat) (r : Nat → Bool) : BitVec 64 := BitVec.ofNat 64 (maskOf lanes r)

/-- The type a PACK reads and a UNPK reads: twice, or half, the width and the same kind (R223). UNPK to fp32 reads bf16 or fp16: the
spec does not say which (a free constant). -/
def wideOf (t : Ty) : Ty := match t.k with
  | .flt _ => ⟨4, .flt fmtFP32⟩
  | k => ⟨2 * t.w, k⟩
def narrowOf (t : Ty) : Ty := match t.k with
  | .flt _ => ⟨2, .flt (if Config.unpkBf16 then fmtBF16 else fmtFP16)⟩
  | k => ⟨t.w / 2, k⟩

/-- Steps on registers only. `mode` is FP_CTL.ROUND and `k` numbers free values. -/
def EngSt.regStep (g : EngSt) (o : EOp) (f : StepF) (t : Ty) (mode k : Nat) : StepR :=
  let a := f.srcA.toNat
  let b := f.srcB.toNat
  let c := f.srcC.toNat
  let d := f.dst.toNat
  let n := t.lanes
  let u := o.uses f
  let va (i : Nat) : Nat := elem t.w (g.vr a) i
  let sbad : Bool := u.ss.any (fun i => g.spr i)
  match o with
  | .lane l => g.laneStep f t u.vs (fun i => t.op mode (k + i) l (va i) (g.opB f t mode i) (elem t.w (g.vr c) i))
  | .dot4 => g.dotStep f u.vs 1 (fun i =>
      let i32 : Ty := ⟨4, .sint⟩
      i32.ofI (i32.toI (elem 4 (g.vr c) i) + (List.range 4).foldl (fun x j =>
        x + t.toI (va (4 * i + j)) * t.toI (g.opB f t mode (4 * i + j))) 0))
  | .dot2 => g.dotStep f u.vs 2 (fun i => match t.k with
      | .flt fm =>
        let p (j : Nat) : FVal := (fm.decode (va j)).mul (fm.decode (g.opB f t mode j))
        fmtFP32.encode mode (fsum mode [fmtFP32.decode (elem 4 (g.vr c) i), p (2 * i), p (2 * i + 1)])
      | _ => 0)
  | .salu op =>
    .regs (g.setS d (scalarOp op (g.sr a).toNat (if StepFext f 4 then f.imm.toNat else (g.sr b).toNat)) sbad) sbad
  | .sli => .regs (g.setS d f.imm.toNat false) false
  | .bcast =>
    let x := t.ofImm mode (if StepFext f 4 then f.imm.toNat else (g.sr a).toNat)
    .regs (g.putLanes f t.w d (fun _ => x) (fun _ => sbad)) sbad
  | .cmp op =>
    let r (i : Nat) : Bool := g.active f i && !(g.badLane u.vs t.w i) && t.cmp op (va i) (g.opB f t mode i)
    .regs ((g.summary f n r).setM d (maskBits n r)) (g.badActive f u.vs t.w n)
  | .sel =>
    let pick (i : Nat) : Nat := if mbit (g.mr c) i then a else b
    .regs (g.putLanes f t.w d (fun i => elem t.w (g.vr (pick i)) i) (g.badLane u.vs t.w)) (g.badActive f u.vs t.w n)
  | .mlog op =>
    let x := g.mr a
    let y := g.mr b
    .regs (g.setM d (match op with
      | .and => x &&& y
      | .or => x ||| y
      | _ => x ^^^ y)) false
  | .mnot => .regs (g.setM d (fullMask ^^^ g.mr a)) false
  | .msum =>
    let r (i : Nat) : Bool := mbit (g.mr a) i
    .regs ((g.setS d ((g.actives f n).filter r).length false).summary f n r) false
  | .mfirst => .regs (g.setS d (((g.actives f n).find? (fun i => mbit (g.mr a) i)).getD 64) false) false
  | .mld => .regs (g.setM d (g.sr a)) sbad
  | .mst => .regs (g.setS d (g.mr a).toNat false) false
  | .red op => g.redStep f t (t.reduce mode k op ((g.actives f n).map va)) (g.badActive f u.vs t.w n)
  | .perm =>
    let from_ (i : Nat) : Nat := elem t.w (g.vr b) i % n
    let bad (i : Nat) : Bool := elemBad t.w (g.vpr b) i || elemBad t.w (g.vpr a) (from_ i)
    .regs (g.putLanes f t.w d (fun i => va (from_ i)) bad) ((g.actives f n).any bad)
  | .shuf =>
    let from_ (i : Nat) : Nat := (i + f.imm.toNat) % n
    let bad (i : Nat) : Bool := elemBad t.w (g.vpr a) (from_ i)
    .regs (g.putLanes f t.w d (fun i => va (from_ i)) bad) ((g.actives f n).any bad)
  | .compress =>
    let l := g.actives f n
    let bad (i : Nat) : Bool := match l[i]? with
      | some j => elemBad t.w (g.vpr a) j
      | none => false
    let g' := g.putAll t.w d (fun i => match l[i]? with
      | some j => va j
      | none => 0) bad
    .regs (g'.setS c l.length false) ((List.range n).any bad)
  | .expand =>
    let l := g.actives f n
    let from_ (i : Nat) : Nat := (l.filter (fun j => decide (j < i))).length
    let bad (i : Nat) : Bool := elemBad t.w (g.vpr a) (from_ i)
    .regs (g.putLanes f t.w d (fun i => va (from_ i)) bad) (l.any bad)
  | .extr =>
    let i := immBits f 5 0
    if n ≤ i then rfault 1
    else .regs (g.setS d (va i) (elemBad t.w (g.vpr a) i)) (elemBad t.w (g.vpr a) i)
  | .insr =>
    let j := immBits f 5 0
    .regs (if j < n then g.loadLane d j t.w ((g.sr a).toNat % 2 ^ t.bits) (wholeBits t.w sbad) else g) sbad
  | .hash => g.laneStep f t u.vs (fun i => hashElem t.bits f.imm.toNat (va i))
  | .crc =>
    let bad := g.badActive f u.vs 1 64 || sbad
    .regs (g.setS d (crcRun ((g.sr b).truncate 32) ((g.actives f 64).map va)).toNat bad) bad
  | .cvt =>
    match tyOf (extBits f 3 0) with
    | none => rfault 1
    | some src =>
      let m := min n src.lanes
      let bad (i : Nat) : Bool := elemBad src.w (g.vpr a) i
      let val (i : Nat) : Nat := if i < m then convert src t mode (StepFext f 4) (elem src.w (g.vr a) i) else elem t.w (g.vr d) i
      .regs (g.putBytes f t.w d val (fun i => if i < m then wholeBits t.w (bad i) else elemBits t.w (g.vpr d) i))
        ((g.actives f m).any bad)
  | .pack =>
    let src := wideOf t
    let h := src.lanes
    let reg (i : Nat) : Nat := if i < h then a else b
    let bad (i : Nat) : Bool := elemBad src.w (g.vpr (reg i)) (i % h)
    .regs (g.putLanes f t.w d (fun i => convert src t mode true (elem src.w (g.vr (reg i)) (i % h))) bad) ((g.actives f n).any bad)
  | .unpk =>
    let src := narrowOf t
    let from_ (i : Nat) : Nat := i + (if StepFext f 0 then n else 0)
    let bad (i : Nat) : Bool := elemBad src.w (g.vpr a) (from_ i)
    .regs (g.putLanes f t.w d (fun i => convert src t mode false (elem src.w (g.vr a) (from_ i))) bad) ((g.actives f n).any bad)
  | .prefixSum =>
    let upTo (i : Nat) : List Nat := (g.actives f (i + 1)).map va
    let bad (i : Nat) : Bool := (g.actives f (i + 1)).any (fun j => elemBad t.w (g.vpr a) j)
    .regs (g.putLanes f t.w d (fun i => t.reduce mode k .sum (upTo i)) bad) ((g.actives f n).any bad)
  | _ => .stall

/-! ### Scratch (R223, R229) -/

def scratchBytes : Nat := 2097152
def EngSt.scr (g : EngSt) (i : Nat) : BitVec 8 := sget zeroByte g.scratch i
def EngSt.scrBad (g : EngSt) (i : Nat) : Bool := sget noBit g.scratchBad i
def EngSt.setScr (g : EngSt) (i : Nat) (x : BitVec 8) (bad : Bool) : EngSt :=
  { g with scratch := sset zeroByte g.scratch i x, scratchBad := sset noBit g.scratchBad i bad }

/-- An element of `w` bytes of scratch, and whether a byte of it fails parity. -/
def EngSt.scrElem (g : EngSt) (w i : Nat) : Nat := (List.range w).foldr (fun j n => n * 256 + (g.scr (i + j)).toNat) 0
def EngSt.scrElemBad (g : EngSt) (w i : Nat) : Bool := (List.range w).any (fun j => g.scrBad (i + j))
def EngSt.scrElemBits (g : EngSt) (w i : Nat) : Nat := maskOf w (fun j => g.scrBad (i + j))
/-- The element with its poisoned bytes read as 0 (policy 2). -/
def EngSt.scrElemZ (g : EngSt) (w i : Nat) : Nat :=
  (List.range w).foldr (fun j n => n * 256 + (if g.scrBad (i + j) then 0 else (g.scr (i + j)).toNat)) 0
/-- Store an element whose byte `j` is poisoned where bit `j` of `bits` is 1. -/
def EngSt.setScrElem (g : EngSt) (w i x bits : Nat) : EngSt :=
  (List.range w).foldl (fun g j => g.setScr (i + j) (BitVec.ofNat 8 (x / 2 ^ (8 * j))) (bitN bits j)) g

/-- Does the job load poisoned bytes as zero (policy 2)? -/
def EngSt.zeroing (g : EngSt) : Bool := (g.run.map (·.job.poison)).getD 0 == 2

/-- S[SRCA] plus an offset, modulo 2^64. -/
def EngSt.base (g : EngSt) (f : StepF) (x : Nat) : Nat := ((g.sr f.srcA.toNat).toNat + x) % 2 ^ 64

/-- The scratch address of a gather or scatter lane: S[SRCA] + B lane × w. -/
def EngSt.gathAddr (g : EngSt) (f : StepF) (t : Ty) (i : Nat) : Int :=
  let x := elem t.w (g.vr f.srcB.toNat) i
  let idx : Int := if t.k == .uint then (x : Nat) else toSigned t.bits x
  (((g.sr f.srcA.toNat).toNat : Int) + idx * t.w) % 2 ^ 64

/-- Check the addresses of the active lanes: the first that is misaligned, or outside the scratch, faults. -/
def EngSt.gathFault (g : EngSt) (f : StepF) (t : Ty) : Option StepR :=
  (g.actives f t.lanes).findSome? (fun i =>
    let x := (g.gathAddr f t i).toNat
    if x % t.w != 0 then some (rfault 6 x)
    else if scratchBytes < x + t.w then some (rfault 7 x)
    else none)

/-- Is the address of an active lane poisoned (R235)? -/
def EngSt.badAddr (g : EngSt) (f : StepF) (w lanes : Nat) : Bool :=
  (g.actives f lanes).any (fun i => elemBad w (g.vpr f.srcB.toNat) i)

/-- Scratch steps; the Nat is how many poisoned bytes were read. -/
def EngSt.scratchStep (g : EngSt) (o : EOp) (f : StepF) (t : Ty) (mode k : Nat) : StepR × Nat :=
  let a := f.srcA.toNat
  let d := f.dst.toNat
  let n := t.lanes
  let x := g.base f (immBits f 20 0)
  let line (go : StepR × Nat) : StepR × Nat :=
    if x % 64 != 0 then (rfault 6 x, 0) else if scratchBytes < x + 64 then (rfault 7 x, 0) else go
  let gath (go : StepR × Nat) : StepR × Nat :=
    if g.badAddr f t.w n then (rfault 12, 0)
    else match g.gathFault f t with
      | some r => (r, 0)
      | none => go
  match o with
  | .scrld =>
    let bad (i : Nat) : Bool := g.scrElemBad t.w (x + t.w * i)
    let val (i : Nat) : Nat := if g.zeroing then g.scrElemZ t.w (x + t.w * i) else g.scrElem t.w (x + t.w * i)
    line (.regs (g.putBytes f t.w d val (fun i => if g.zeroing then 0 else g.scrElemBits t.w (x + t.w * i)))
        ((g.actives f n).any bad && !g.zeroing),
      countOf 64 (fun i => g.scrBad (x + i)))
  | .scrst =>
    line (.regs ((g.actives f n).foldl (fun h i => h.setScrElem t.w (x + t.w * i) (elem t.w (g.vr a) i) (elemBits t.w (g.vpr a) i)) g)
      (g.badActive f [a] t.w n), 0)
  | .scrgath =>
    let at_ (i : Nat) : Nat := (g.gathAddr f t i).toNat
    let bad (i : Nat) : Bool := g.scrElemBad t.w (at_ i)
    let val (i : Nat) : Nat := if g.zeroing then g.scrElemZ t.w (at_ i) else g.scrElem t.w (at_ i)
    gath (.regs (g.putBytes f t.w d val (fun i => if g.zeroing then 0 else g.scrElemBits t.w (at_ i)))
        ((g.actives f n).any bad && !g.zeroing),
      (g.actives f n).foldl (fun c i => c + countOf t.w (fun j => g.scrBad (at_ i + j))) 0)
  | .scrscat =>
    gath (.regs ((g.actives f n).foldl (fun h i =>
      h.setScrElem t.w (g.gathAddr f t i).toNat (elem t.w (g.vr a) i) (elemBits t.w (g.vpr a) i)) g) (g.badActive f [a] t.w n), 0)
  | .scradd =>
    let one (h : EngSt) (i : Nat) : EngSt :=
      let y := (g.gathAddr f t i).toNat
      let bad := h.scrElemBad t.w y
      let old := if g.zeroing then h.scrElemZ t.w y else h.scrElem t.w y
      h.setScrElem t.w y (t.op mode (k + i) .add old (elem t.w (g.vr a) i) 0)
        (wholeBits t.w ((bad && !g.zeroing) || elemBad t.w (g.vpr a) i))
    let met := (g.actives f n).foldl (fun c i => c + countOf t.w (fun j => g.scrBad ((g.gathAddr f t i).toNat + j))) 0
    gath (.regs ((g.actives f n).foldl one g) (g.badActive f [a] t.w n || (met != 0 && !g.zeroing)), met)
  | _ =>
    let y := (g.sr a).toNat
    let len := immBits f 21 0
    if len != 0 && scratchBytes < y + len then (rfault 7 y, 0)
    else (.regs { g with scratch := g.scratch.filter (fun e => !(decide (y ≤ e.1) && decide (e.1 < y + len))),
                         scratchBad := g.scratchBad.filter (fun e => !(decide (y ≤ e.1) && decide (e.1 < y + len))) } false, 0)

/-! ### Streams (R226, R227) -/

/-- The data of a line a stream has: data, bad bytes, fault code. -/
def Strm.have (t : Strm) (line : Nat) : Option (Line × BitVec 64 × Nat) := (t.buf.find? (fun b => b.1 == line)).map (·.2)

/-- The first fault an SRD of `k` elements meets: a misaligned base, an address outside the host space, a line refused. -/
def Strm.readFault (t : Strm) (k : Nat) : Option StepR :=
  if k != 0 && t.addr % t.esize != 0 then some (rfault 6 t.addr)
  else (List.range k).findSome? (fun i =>
    let x := t.at t.row (t.col + i)
    if !(inHost x) then some (rfault 8 (x % 2 ^ 45).toNat)
    else match t.have (x.toNat / 64) with
      | some (_, _, c) => if c == 0 then none else some (rfault c x.toNat)
      | none => none)

/-- SRD: the next elements of the current row, from lane 0. -/
def Dev.srdStep (s : Dev) (n : Nat) (f : StepF) (ty : Ty) : StepR :=
  let g := s.eng n
  let k := extBits f 1 0
  match g.strm k with
  | none => rfault 4
  | some t =>
    if t.esize != ty.w then rfault 2
    else
      let cnt := if t.row < t.rows then min ty.lanes (t.cols - t.col) else 0
      match t.readFault cnt with
      | some r => r
      | none =>
        let at_ (i : Nat) : Nat := (t.at t.row (t.col + i)).toNat
        if (List.range cnt).any (fun i => (t.have (at_ i / 64)).isNone) then .stall
        else
          let get (i : Nat) : Line × BitVec 64 × Nat := (t.have (at_ i / 64)).getD (0, 0, 0)
          let val (i : Nat) : Nat := if i < cnt then (get i).1.toNat / 2 ^ (8 * (at_ i % 64)) % 2 ^ ty.bits else 0
          let bits (i : Nat) : Nat := if i < cnt then (get i).2.1.toNat / 2 ^ (at_ i % 64) % 2 ^ ty.w else 0
          let g' := (g.setStrm k (some (t.skip cnt))).putBytes f ty.w f.dst.toNat val bits
          let m := extBits f 6 4
          let r (i : Nat) : Bool := decide (i < cnt)
          let g' := if m == 0 then g' else (g'.summary f ty.lanes r).setM m (maskBits ty.lanes r)
          .regs g' ((List.range cnt).any (fun i => g.active f i && bits i != 0))

/-- Write one element at a write stream's place, with the poison bits of its bytes, and advance; the line goes out when the next element
lies in another. -/
def Dev.putElem (s : Dev) (n k w x bits : Nat) (on : Bool) : Dev :=
  match (s.eng n).strm k with
  | none => s
  | some t =>
    let y := (t.at t.row t.col).toNat
    let line := y / 64
    let m : BitVec 64 := if on then BitVec.ofNat 64 ((2 ^ w - 1) * 2 ^ (y % 64)) else 0
    let bad : BitVec 64 := if on then BitVec.ofNat 64 (bits % 2 ^ w * 2 ^ (y % 64)) else 0
    let d : Line := BitVec.ofNat 512 (x % 2 ^ (8 * w) * 2 ^ (8 * (y % 64)))
    let s := match t.part with
      | some p => if p.1 == line then s else s.flushPart n k
      | none => s
    let t := ((s.eng n).strm k).getD t
    let part := match t.part with
      | some (l, e, pm, pb) => (l, mergeLine e d m, pm ||| m, (pb &&& (fullMask ^^^ m)) ||| bad)
      | none => (line, mergeLine 0 d m, m, bad)
    let u := { t.skip 1 with part := some part }
    let s := s.modEng n (fun g => g.setStrm k (some u))
    if u.left != 0 && (u.at u.row u.col).toNat / 64 != line then s.flushPart n k else s

/-- SWR: elements to a write stream, in the lanes' order. -/
def Dev.swrStep (s : Dev) (n : Nat) (f : StepF) (ty : Ty) : StepR :=
  let g := s.eng n
  let k := 4 + extBits f 0 0
  match g.strm k with
  | none => rfault 4
  | some t =>
    if t.esize != ty.w then rfault 2
    else if t.left == 0 then rfault 5
    else
      let all := StepFext f 1
      let lanes := if all then (g.actives f ty.lanes).take t.left else List.range (min ty.lanes (t.cols - t.col))
      let bads := (List.range lanes.length).find? (fun i => let u := t.skip i; !(inHost (u.at u.row u.col)))
      if t.addr % t.esize != 0 then rfault 6 t.addr
      else match bads with
        | some i => let u := t.skip i; rfault 8 ((u.at u.row u.col) % 2 ^ 45).toNat
        | none =>
          let a := f.srcA.toNat
          let s' := lanes.foldl (fun s i => s.putElem n k ty.w (elem ty.w (g.vr a) i) (elemBits ty.w (g.vpr a) i) (all || g.active f i)) s
          .mem s' (lanes.any (fun i => g.active f i && elemBad ty.w (g.vpr a) i))

/-- SOPEN, SCLOSE, SSKIP and SPOS. -/
def Dev.streamStep (s : Dev) (n : Nat) (o : EOp) (f : StepF) : StepR :=
  let g := s.eng n
  let k := extBits f 2 0
  match o with
  | .sopen =>
    if 6 ≤ k then rfault 1
    else
      let d := (g.sr f.srcA.toNat).toNat + (g.sr f.srcB.toNat).toNat % 2 ^ 48 * 2 ^ 64
      .mem ((s.flushPart n k).modEng n (fun g => g.setStrm k (some (strmOf d)))) false
  | .sclose => if 6 ≤ k then rfault 1 else .mem ((s.flushPart n k).modEng n (fun g => g.setStrm k none)) false
  | .sskip => match g.strm (extBits f 1 0) with
    | none => rfault 4
    | some t => .regs (g.setStrm (extBits f 1 0) (some (t.skip (g.sr f.srcA.toNat).toNat))) false
  | _ =>
    if 6 ≤ k then rfault 1
    else match g.strm k with
    | none => rfault 4
    | some t => .regs (g.setS f.dst.toNat t.left false) false

/-! ### Host memory, atomics, hints (R223, R232, R233) -/

/-- An access of this step, to the line of a host address. -/
def mkAcc (dest : ADest) (op : MOp) (addr pc : Nat) : Acc :=
  ⟨0, dest, op, addr / 64, 0, 0, 0, 0, 0, addr % 64 / 8, false, false, pc, addr⟩

/-- The host address in 64-bit lane `j` of B. -/
def EngSt.addr64 (g : EngSt) (f : StepF) (j : Nat) : Nat := elem 8 (g.vr f.srcB.toNat) j

/-- The first fault of eight lane addresses aligned to `w`. -/
def EngSt.laneAddrFault (g : EngSt) (f : StepF) (w : Nat) : Option StepR :=
  if (g.actives f 8).any (fun j => elemBad 8 (g.vpr f.srcB.toNat) j) then some (rfault 12)
  else (g.actives f 8).findSome? (fun j =>
    let x := g.addr64 f j
    if 2 ^ 45 ≤ x then some (rfault 8 (x % 2 ^ 45)) else if x % w != 0 then some (rfault 6 x) else none)

/-- Steps that access host memory. -/
def Dev.hostStep (s : Dev) (n pc : Nat) (o : EOp) (f : StepF) (t : Ty) : StepR :=
  let g := s.eng n
  let a := f.srcA.toNat
  let d := f.dst.toNat
  let x := g.base f 0
  match o with
  | .ldg => match g.laneAddrFault f t.w with
    | some r => r
    | none => .mem ((g.actives f 8).foldl (fun s j =>
        let y := g.addr64 f j
        s.addAcc n (mkAcc (.lane d j t.w (y % 64)) .rd y pc)) s) false
  | .stg => match g.laneAddrFault f t.w with
    | some r => r
    | none => .mem ((g.actives f 8).foldl (fun s j =>
        let y := g.addr64 f j
        let m : BitVec 64 := BitVec.ofNat 64 ((2 ^ t.w - 1) * 2 ^ (y % 64))
        s.addAcc n { mkAcc .none .wrm y pc with data := BitVec.ofNat 512 (elem t.w (g.vr a) j * 2 ^ (8 * (y % 64))), mask := m,
                                                bad := BitVec.ofNat 64 (elemBits t.w (g.vpr a) j * 2 ^ (y % 64)) }) s)
        ((g.actives f 8).any (fun j => elemBad t.w (g.vpr a) j))
  | .atom aop =>
    let y := g.base f (ofSigned 64 (toSigned 32 (immBits f 31 0)))
    if 2 ^ 45 ≤ y then rfault 8 (y % 2 ^ 45)
    else if y % 8 != 0 then rfault 6 y
    else
      let used := g.spr f.srcB.toNat || g.spr f.srcC.toNat
      .mem (s.addAcc n { mkAcc (.scalar d) (.atom aop) y pc with a := g.sr f.srcB.toNat, b := g.sr f.srcC.toNat,
                                                                 bad := if used then fullMask else 0 }) used
  | .avadd => match g.laneAddrFault f 8 with
    | some r => r
    | none => .mem ((g.actives f 8).foldl (fun s j =>
        s.addAcc n { mkAcc (.lane d j 8 0) (.atom 0) (g.addr64 f j) pc with a := BitVec.ofNat 64 (elem 8 (g.vr a) j),
                                                                            bad := if elemBad 8 (g.vpr a) j then fullMask else 0 }) s)
        ((g.actives f 8).any (fun j => elemBad 8 (g.vpr a) j))
  | .hint kind =>
    if 2 ^ 45 ≤ x then rfault 8 (x % 2 ^ 45)
    else .mem (s.addAcc n (mkAcc .none (.hint kind (immBits f 5 0 + 1) (immBits f 13 8)) x pc)) false
  | .flush frame =>
    if 2 ^ 45 ≤ x then rfault 8 (x % 2 ^ 45)
    else .mem (s.addAcc n (mkAcc .none (.flush frame) x pc)) false
  | _ => .stall

/-! ### The sequencer (R224, R225, R234) -/

/-- Does an active loop use counter `k`? -/
def EngSt.loopOn (g : EngSt) (k : Nat) : Bool := g.loops.any (fun l => l.1 == k)

/-- Sequencer steps. -/
def Dev.seqStep (s : Dev) (n : Nat) (r : Run) (o : EOp) (f : StepF) : StepR :=
  let g := s.eng n
  match o with
  | .nop => .seq s .next
  | .fence w =>
    let s := (s.flushParts n).modRun n (fun r => { r with fence := if w then 2 else 1 })
    .seq s .next
  | .wait => .seq (s.modRun n (fun r => { r with wait := immBits f 31 0 })) .next
  | .param =>
    let x := extBits f 2 0
    let v := if x < 4 then some (r.job.params.getD x 0) else if x == 4 then some r.job.id else if x == 5 then some n
      else if x == 6 then some r.job.cls else none
    (match v with
     | some v => .regs (g.setS f.dst.toNat v false) false
     | none => rfault 1)
  | .trap => .fault 14 0 (some (immBits f 15 0))
  | .loop =>
    let k := extBits f 1 0
    let cnt := if StepFext f 4 then (g.sr f.srcA.toNat).toNat % 2 ^ 32 else immBits f 31 0
    let body := immBits f 43 32
    let stop := r.pc + body
    let past := match g.loops with
      | l :: _ => decide (l.2.2 < stop)
      | [] => false
    if g.loopOn k || body == 0 || past then rfault 1
    else if cnt == 0 then .seq s (.past stop)
    else .seq (s.modEng n (fun g => { g.setL k cnt with loops := (k, r.pc + 1, stop) :: g.loops })) .next
  | .brk => match g.cond f.cond.toNat with
    | none => rfault 1
    | some c => .seq s (if c then .leave else .next)
  | .br => match g.cond f.cond.toNat with
    | none => rfault 1
    | some c => .seq s (if c then .jump (immBits f 11 0) else .next)
  | .fin => match g.cond f.cond.toNat with
    | none => rfault 1
    | some c => if c then .seq ((s.flushParts n).modRun n (fun r => { r with ending := some (stDONE, 0, r.pc) })) .next else .seq s .next
  | _ => .stall

/-- The step after the last step `e` that ran: loops whose body ends there go round or end. -/
def afterStep : List (Nat × Nat × Nat) → EngSt → Nat → EngSt × Nat
  | [], g, e => ({ g with loops := [] }, e + 1)
  | l :: ls, g, e =>
    if l.2.2 == e then
      if 1 < g.lr l.1 then ({ g.setL l.1 (g.lr l.1 - 1) with loops := l :: ls }, l.2.1)
      else afterStep ls (g.setL l.1 0) e
    else ({ g with loops := l :: ls }, e + 1)

/-- End every loop whose body does not hold step `t` (R225). -/
def dropLoops (t : Nat) (g : EngSt) : EngSt :=
  let out := g.loops.filter (fun l => !(decide (l.2.1 ≤ t) && decide (t ≤ l.2.2)))
  { out.foldl (fun g l => g.setL l.1 0) g with loops := g.loops.filter (fun l => decide (l.2.1 ≤ t) && decide (t ≤ l.2.2)) }

/-- Where PC goes. -/
def EngSt.go (g : EngSt) (pc : Nat) : Seq → EngSt × Nat
  | .next => afterStep g.loops g pc
  | .past e => afterStep g.loops g e
  | .jump t => (dropLoops t g, t)
  | .leave => match g.loops with
    | l :: ls => afterStep ls (g.setL l.1 0) l.2.2
    | [] => (g, pc + 1)

/-! ### Issuing a step (R215, R235, R236) -/

/-- What a step does, by kind of operation. -/
def Dev.stepOf (s : Dev) (n : Nat) (r : Run) (o : EOp) (f : StepF) (t : Ty) : StepR × Nat :=
  let g := s.eng n
  let mode := s.fv Reg.ENGINE_FP_CTL_ROUND n
  match o with
  | .scrld | .scrst | .scrgath | .scrscat | .scradd | .scrz => g.scratchStep o f t mode s.free
  | .srd => (s.srdStep n f t, 0)
  | .swr => (s.swrStep n f t, 0)
  | .sopen | .sclose | .sskip | .spos => (s.streamStep n o f, 0)
  | .ldg | .stg | .atom _ | .avadd | .hint _ | .flush _ => (s.hostStep n r.pc o f t, 0)
  | .nop | .fence _ | .wait | .param | .trap | .loop | .brk | .br | .fin => (s.seqStep n r o f, 0)
  | _ => (g.regStep o f t mode s.free, 0)

/-- The step has issued: it is counted, and PC moves. -/
def Dev.stepDone (s : Dev) (n : Nat) (go : Seq) : Dev :=
  let s := s.bump Reg.ENGINE_CNT_STEPS_VALUE n
  let s := s.modEng n (fun g => match g.run with
    | some r =>
      let (g', pc) := g.go r.pc go
      { g' with run := some { r with pc := if r.ending.isSome then r.pc else pc, steps := r.steps + 1 }, passBp := false, stepReq := false }
    | none => g)
  (({ s with free := s.free + 64 }).engPump n).tryEnd n

/-- A step waits for data or an answer. -/
def Dev.stepStall (s : Dev) (n : Nat) : Dev := s.bump Reg.ENGINE_CNT_STALL_VALUE n

/-- Carry out a step of a running job: register indexes, TYPE, results still on their way, poisoned addresses, then the step; under
poison policy 0 a step that uses a poisoned byte faults (R235). -/
def Dev.runStep (s : Dev) (n : Nat) (r : Run) (o : EOp) (f : StepF) : Dev :=
  let g := s.eng n
  let u := o.uses f
  let ty := match o.types with
    | some l => if l.contains f.typ.toNat then tyOf f.typ.toNat else none
    | none => some ⟨8, .sint⟩
  let fault (code addr : Nat) (detail : Option Nat) : Dev := (s.engFault n code addr r.pc detail).engShow n
  if !u.legal then fault 1 0 none
  else match ty with
  | none => fault 2 0 none
  | some t =>
    if g.waitsFor u then s.stepStall n
    else if u.addr.any (fun i => g.spr i) then fault 12 0 none
    else
      let (res, met) := s.stepOf n r o f t
      let strict := r.job.poison == 0
      match res with
      | .fault c x d => fault c x d
      | .stall => (s.stepStall n).engPump n
      | .regs g' used => if used && strict then ((s.notePoison n met).engFault n 11 0 r.pc none).engShow n
          else (((s.modEng n (fun _ => g')).notePoison n met).stepDone n .next).engShow n
      | .mem s' used => if used && strict then fault 11 0 none else (s'.stepDone n .next).engShow n
      | .seq s' go => (s'.stepDone n go).engShow n

/-- Does a FENCE hold the next step (R234)? -/
def EngSt.fenced (g : EngSt) (r : Run) : Bool :=
  (r.fence == 1 && !g.acc.isEmpty) || (r.fence == 2 && g.acc.any (fun a => a.writes))

/-- The step at PC, from the program store. -/
def EngSt.fetch (g : EngSt) (r : Run) : BitVec 128 := sget (fun _ => 0) g.store ((r.base + r.pc) % 4096)

/-- One cycle of engine `n` in which `issue` is the step at PC: what holds it, then the step. No cycle runs without REFCLK (R16). A step that
DEBUG_CTL.STEP has asked for issues although the engine is halted, once nothing else holds it (R241). -/
def Dev.engCycle (s : Dev) (n : Nat) (issue : Run → Dev → Dev) : Dev :=
  match (s.eng n).run, s.pins.refclk with
  | none, _ => s
  | _, false => s
  | some r, true =>
    let debug := (s.eng n).stepReq
    let halted := s.fb Reg.ENGINE_EXEC_STATUS_HALTED n && !debug
    let s := (s.bump Reg.ENGINE_CNT_CYCLES_VALUE n).modRun n (fun r => { r with cycles := r.cycles + 1 })
    let g := s.eng n
    if r.ending.isSome || g.frozen != 0 || halted then s
    else if r.wait != 0 then s.modRun n (fun r => { r with wait := r.wait - 1 })
    else if s.fb Reg.ENGINE_EXEC_STATUS_THROTTLED n && r.cycles % 4 == 3 then s
    else if g.fenced r then s.stepStall n
    else
      let s := s.modRun n (fun r => { r with fence := 0 })
      if s.fb Reg.ENGINE_DEBUG_CTL_BP_EN n && s.fv Reg.ENGINE_DEBUG_CTL_BP_PC n == r.pc && !g.passBp && !debug then
        (s.setF Reg.ENGINE_EXEC_STATUS_HALTED 1 n).raise (enginePage n) Reg.EV_ENGINE_HALTED
      else if r.len ≤ r.pc then (s.engFault n 3 0 r.pc).engShow n
      else issue r s

/-- The step fetched from the store; `parity`: it passes its parity (R261). -/
def Dev.issueStored (n : Nat) (parity : Bool) (r : Run) (s : Dev) : Dev :=
  let x := (s.eng n).fetch r
  let f := fieldsOf x
  if !parity then (s.engFault n 15 0 r.pc).engShow n
  else match opOf (x.toNat / 2 ^ 120) f.ext.toNat with
  | some o => s.runStep n r o f
  | none => (s.engFault n 1 0 r.pc).engShow n

/-- STEP_ISSUE: one engine cycle, with the step of the program store at PC. -/
def Dev.stepIssue (s : Dev) (n : Nat) (parity : Bool) : Dev := s.engCycle n (Dev.issueStored n parity)

/-- A row of the opcode table: one engine cycle in which the step at PC is this one. -/
def Dev.opIssue (s : Dev) (n : Nat) (o : EOp) (f : StepF) : Dev := s.engCycle n (fun r s => s.runStep n r o f)

/-- An OP value the table of R223 does not list. -/
def Dev.badOp (s : Dev) (n : Nat) (op : Nat) (f : StepF) : Dev :=
  s.engCycle n (fun r s => match opOf op f.ext.toNat with
    | some o => s.runStep n r o f
    | none => (s.engFault n 1 0 r.pc).engShow n)

end Sys2Proof.Machine
end

