-- ==== Sys2Proof/Machine/EngRows.lean ====
section
/-!
DEFINITION. Machine/EngRows.lean: the rows of the opcode table that are steps of an engine program (R223), and STEP_ISSUE, which takes
the step from the program store. Each row is one engine cycle in which the step at PC is that one.
-/
namespace Sys2Proof.Machine

/-- ADD (R223). -/
def execEAdd (n : Fin 48) (f : StepF) (s : State) : Host.Outcome State Fault Refusal := s.on fun s => .next (s.opIssue n (.lane .add) f)
/-- SUB (R223). -/
def execESub (n : Fin 48) (f : StepF) (s : State) : Host.Outcome State Fault Refusal := s.on fun s => .next (s.opIssue n (.lane .sub) f)
/-- MUL (R223). -/
def execEMul (n : Fin 48) (f : StepF) (s : State) : Host.Outcome State Fault Refusal := s.on fun s => .next (s.opIssue n (.lane .mul) f)
/-- MULH (R223). -/
def execEMulh (n : Fin 48) (f : StepF) (s : State) : Host.Outcome State Fault Refusal := s.on fun s => .next (s.opIssue n (.lane .mulh) f)
/-- FMA (R223). -/
def execEFma (n : Fin 48) (f : StepF) (s : State) : Host.Outcome State Fault Refusal := s.on fun s => .next (s.opIssue n (.lane .fma) f)
/-- FMS (R223). -/
def execEFms (n : Fin 48) (f : StepF) (s : State) : Host.Outcome State Fault Refusal := s.on fun s => .next (s.opIssue n (.lane .fms) f)
/-- FNMA (R223). -/
def execEFnma (n : Fin 48) (f : StepF) (s : State) : Host.Outcome State Fault Refusal := s.on fun s => .next (s.opIssue n (.lane .fnma) f)
/-- RCP (R223). -/
def execERcp (n : Fin 48) (f : StepF) (s : State) : Host.Outcome State Fault Refusal := s.on fun s => .next (s.opIssue n (.lane .rcp) f)
/-- MIN (R223). -/
def execEMin (n : Fin 48) (f : StepF) (s : State) : Host.Outcome State Fault Refusal := s.on fun s => .next (s.opIssue n (.lane .min) f)
/-- MAX (R223). -/
def execEMax (n : Fin 48) (f : StepF) (s : State) : Host.Outcome State Fault Refusal := s.on fun s => .next (s.opIssue n (.lane .max) f)
/-- ABS (R223). -/
def execEAbs (n : Fin 48) (f : StepF) (s : State) : Host.Outcome State Fault Refusal := s.on fun s => .next (s.opIssue n (.lane .abs) f)
/-- NEG (R223). -/
def execENeg (n : Fin 48) (f : StepF) (s : State) : Host.Outcome State Fault Refusal := s.on fun s => .next (s.opIssue n (.lane .neg) f)
/-- ADDS (R223). -/
def execEAdds (n : Fin 48) (f : StepF) (s : State) : Host.Outcome State Fault Refusal := s.on fun s => .next (s.opIssue n (.lane .adds) f)
/-- SUBS (R223). -/
def execESubs (n : Fin 48) (f : StepF) (s : State) : Host.Outcome State Fault Refusal := s.on fun s => .next (s.opIssue n (.lane .subs) f)
/-- DOT4 (R223). -/
def execEDot4 (n : Fin 48) (f : StepF) (s : State) : Host.Outcome State Fault Refusal := s.on fun s => .next (s.opIssue n (.dot4) f)
/-- DOT2 (R223). -/
def execEDot2 (n : Fin 48) (f : StepF) (s : State) : Host.Outcome State Fault Refusal := s.on fun s => .next (s.opIssue n (.dot2) f)
/-- AND (R223). -/
def execEAnd (n : Fin 48) (f : StepF) (s : State) : Host.Outcome State Fault Refusal := s.on fun s => .next (s.opIssue n (.lane .and) f)
/-- OR (R223). -/
def execEOr (n : Fin 48) (f : StepF) (s : State) : Host.Outcome State Fault Refusal := s.on fun s => .next (s.opIssue n (.lane .or) f)
/-- XOR (R223). -/
def execEXor (n : Fin 48) (f : StepF) (s : State) : Host.Outcome State Fault Refusal := s.on fun s => .next (s.opIssue n (.lane .xor) f)
/-- ANDN (R223). -/
def execEAndn (n : Fin 48) (f : StepF) (s : State) : Host.Outcome State Fault Refusal := s.on fun s => .next (s.opIssue n (.lane .andn) f)
/-- NOT (R223). -/
def execENot (n : Fin 48) (f : StepF) (s : State) : Host.Outcome State Fault Refusal := s.on fun s => .next (s.opIssue n (.lane .not) f)
/-- SHL (R223). -/
def execEShl (n : Fin 48) (f : StepF) (s : State) : Host.Outcome State Fault Refusal := s.on fun s => .next (s.opIssue n (.lane .shl) f)
/-- SHR (R223). -/
def execEShr (n : Fin 48) (f : StepF) (s : State) : Host.Outcome State Fault Refusal := s.on fun s => .next (s.opIssue n (.lane .shr) f)
/-- SAR (R223). -/
def execESar (n : Fin 48) (f : StepF) (s : State) : Host.Outcome State Fault Refusal := s.on fun s => .next (s.opIssue n (.lane .sar) f)
/-- ROTL (R223). -/
def execERotl (n : Fin 48) (f : StepF) (s : State) : Host.Outcome State Fault Refusal := s.on fun s => .next (s.opIssue n (.lane .rotl) f)
/-- POPC (R223). -/
def execEPopc (n : Fin 48) (f : StepF) (s : State) : Host.Outcome State Fault Refusal := s.on fun s => .next (s.opIssue n (.lane .popc) f)
/-- CLZ (R223). -/
def execEClz (n : Fin 48) (f : StepF) (s : State) : Host.Outcome State Fault Refusal := s.on fun s => .next (s.opIssue n (.lane .clz) f)
/-- RSQ (R223). -/
def execERsq (n : Fin 48) (f : StepF) (s : State) : Host.Outcome State Fault Refusal := s.on fun s => .next (s.opIssue n (.lane .rsq) f)
/-- MOV (R223). -/
def execEMov (n : Fin 48) (f : StepF) (s : State) : Host.Outcome State Fault Refusal := s.on fun s => .next (s.opIssue n (.lane .mov) f)
/-- SALU_ADD (R223). -/
def execESaluAdd (n : Fin 48) (f : StepF) (s : State) : Host.Outcome State Fault Refusal := s.on fun s => .next (s.opIssue n (.salu .add) f)
/-- SALU_SUB (R223). -/
def execESaluSub (n : Fin 48) (f : StepF) (s : State) : Host.Outcome State Fault Refusal := s.on fun s => .next (s.opIssue n (.salu .sub) f)
/-- SALU_MUL (R223). -/
def execESaluMul (n : Fin 48) (f : StepF) (s : State) : Host.Outcome State Fault Refusal := s.on fun s => .next (s.opIssue n (.salu .mul) f)
/-- SALU_AND (R223). -/
def execESaluAnd (n : Fin 48) (f : StepF) (s : State) : Host.Outcome State Fault Refusal := s.on fun s => .next (s.opIssue n (.salu .and) f)
/-- SALU_OR (R223). -/
def execESaluOr (n : Fin 48) (f : StepF) (s : State) : Host.Outcome State Fault Refusal := s.on fun s => .next (s.opIssue n (.salu .or) f)
/-- SALU_XOR (R223). -/
def execESaluXor (n : Fin 48) (f : StepF) (s : State) : Host.Outcome State Fault Refusal := s.on fun s => .next (s.opIssue n (.salu .xor) f)
/-- SALU_SHL (R223). -/
def execESaluShl (n : Fin 48) (f : StepF) (s : State) : Host.Outcome State Fault Refusal := s.on fun s => .next (s.opIssue n (.salu .shl) f)
/-- SALU_SHR (R223). -/
def execESaluShr (n : Fin 48) (f : StepF) (s : State) : Host.Outcome State Fault Refusal := s.on fun s => .next (s.opIssue n (.salu .shr) f)
/-- SALU_SIGNED_MIN (R223). -/
def execESaluSignedMin (n : Fin 48) (f : StepF) (s : State) : Host.Outcome State Fault Refusal := s.on fun s => .next (s.opIssue n (.salu .smin) f)
/-- SALU_SIGNED_MAX (R223). -/
def execESaluSignedMax (n : Fin 48) (f : StepF) (s : State) : Host.Outcome State Fault Refusal := s.on fun s => .next (s.opIssue n (.salu .smax) f)
/-- SLI (R223). -/
def execESli (n : Fin 48) (f : StepF) (s : State) : Host.Outcome State Fault Refusal := s.on fun s => .next (s.opIssue n (.sli) f)
/-- BCAST (R223). -/
def execEBcast (n : Fin 48) (f : StepF) (s : State) : Host.Outcome State Fault Refusal := s.on fun s => .next (s.opIssue n (.bcast) f)
/-- CMPEQ (R223). -/
def execECmpeq (n : Fin 48) (f : StepF) (s : State) : Host.Outcome State Fault Refusal := s.on fun s => .next (s.opIssue n (.cmp .eq) f)
/-- CMPNE (R223). -/
def execECmpne (n : Fin 48) (f : StepF) (s : State) : Host.Outcome State Fault Refusal := s.on fun s => .next (s.opIssue n (.cmp .ne) f)
/-- CMPLT (R223). -/
def execECmplt (n : Fin 48) (f : StepF) (s : State) : Host.Outcome State Fault Refusal := s.on fun s => .next (s.opIssue n (.cmp .lt) f)
/-- CMPLE (R223). -/
def execECmple (n : Fin 48) (f : StepF) (s : State) : Host.Outcome State Fault Refusal := s.on fun s => .next (s.opIssue n (.cmp .le) f)
/-- CMPGT (R223). -/
def execECmpgt (n : Fin 48) (f : StepF) (s : State) : Host.Outcome State Fault Refusal := s.on fun s => .next (s.opIssue n (.cmp .gt) f)
/-- CMPGE (R223). -/
def execECmpge (n : Fin 48) (f : StepF) (s : State) : Host.Outcome State Fault Refusal := s.on fun s => .next (s.opIssue n (.cmp .ge) f)
/-- CMPNAN (R223). -/
def execECmpnan (n : Fin 48) (f : StepF) (s : State) : Host.Outcome State Fault Refusal := s.on fun s => .next (s.opIssue n (.cmp .nan) f)
/-- SEL (R223). -/
def execESel (n : Fin 48) (f : StepF) (s : State) : Host.Outcome State Fault Refusal := s.on fun s => .next (s.opIssue n (.sel) f)
/-- MAND (R223). -/
def execEMand (n : Fin 48) (f : StepF) (s : State) : Host.Outcome State Fault Refusal := s.on fun s => .next (s.opIssue n (.mlog .and) f)
/-- MOR (R223). -/
def execEMor (n : Fin 48) (f : StepF) (s : State) : Host.Outcome State Fault Refusal := s.on fun s => .next (s.opIssue n (.mlog .or) f)
/-- MXOR (R223). -/
def execEMxor (n : Fin 48) (f : StepF) (s : State) : Host.Outcome State Fault Refusal := s.on fun s => .next (s.opIssue n (.mlog .xor) f)
/-- MNOT (R223). -/
def execEMnot (n : Fin 48) (f : StepF) (s : State) : Host.Outcome State Fault Refusal := s.on fun s => .next (s.opIssue n (.mnot) f)
/-- MSUM (R223). -/
def execEMsum (n : Fin 48) (f : StepF) (s : State) : Host.Outcome State Fault Refusal := s.on fun s => .next (s.opIssue n (.msum) f)
/-- MFIRST (R223). -/
def execEMfirst (n : Fin 48) (f : StepF) (s : State) : Host.Outcome State Fault Refusal := s.on fun s => .next (s.opIssue n (.mfirst) f)
/-- MLD (R223). -/
def execEMld (n : Fin 48) (f : StepF) (s : State) : Host.Outcome State Fault Refusal := s.on fun s => .next (s.opIssue n (.mld) f)
/-- MST (R223). -/
def execEMst (n : Fin 48) (f : StepF) (s : State) : Host.Outcome State Fault Refusal := s.on fun s => .next (s.opIssue n (.mst) f)
/-- RSUM (R223). -/
def execERsum (n : Fin 48) (f : StepF) (s : State) : Host.Outcome State Fault Refusal := s.on fun s => .next (s.opIssue n (.red .sum) f)
/-- RMIN (R223). -/
def execERmin (n : Fin 48) (f : StepF) (s : State) : Host.Outcome State Fault Refusal := s.on fun s => .next (s.opIssue n (.red .min) f)
/-- RMAX (R223). -/
def execERmax (n : Fin 48) (f : StepF) (s : State) : Host.Outcome State Fault Refusal := s.on fun s => .next (s.opIssue n (.red .max) f)
/-- ROR (R223). -/
def execERor (n : Fin 48) (f : StepF) (s : State) : Host.Outcome State Fault Refusal := s.on fun s => .next (s.opIssue n (.red .or) f)
/-- PERM (R223). -/
def execEPerm (n : Fin 48) (f : StepF) (s : State) : Host.Outcome State Fault Refusal := s.on fun s => .next (s.opIssue n (.perm) f)
/-- SHUF (R223). -/
def execEShuf (n : Fin 48) (f : StepF) (s : State) : Host.Outcome State Fault Refusal := s.on fun s => .next (s.opIssue n (.shuf) f)
/-- COMPRESS (R223). -/
def execECompress (n : Fin 48) (f : StepF) (s : State) : Host.Outcome State Fault Refusal := s.on fun s => .next (s.opIssue n (.compress) f)
/-- EXPAND (R223). -/
def execEExpand (n : Fin 48) (f : StepF) (s : State) : Host.Outcome State Fault Refusal := s.on fun s => .next (s.opIssue n (.expand) f)
/-- EXTR (R223). -/
def execEExtr (n : Fin 48) (f : StepF) (s : State) : Host.Outcome State Fault Refusal := s.on fun s => .next (s.opIssue n (.extr) f)
/-- INSR (R223). -/
def execEInsr (n : Fin 48) (f : StepF) (s : State) : Host.Outcome State Fault Refusal := s.on fun s => .next (s.opIssue n (.insr) f)
/-- HASH (R223). -/
def execEHash (n : Fin 48) (f : StepF) (s : State) : Host.Outcome State Fault Refusal := s.on fun s => .next (s.opIssue n (.hash) f)
/-- CRC (R223). -/
def execECrc (n : Fin 48) (f : StepF) (s : State) : Host.Outcome State Fault Refusal := s.on fun s => .next (s.opIssue n (.crc) f)
/-- CVT (R223). -/
def execECvt (n : Fin 48) (f : StepF) (s : State) : Host.Outcome State Fault Refusal := s.on fun s => .next (s.opIssue n (.cvt) f)
/-- PACK (R223). -/
def execEPack (n : Fin 48) (f : StepF) (s : State) : Host.Outcome State Fault Refusal := s.on fun s => .next (s.opIssue n (.pack) f)
/-- UNPK (R223). -/
def execEUnpk (n : Fin 48) (f : StepF) (s : State) : Host.Outcome State Fault Refusal := s.on fun s => .next (s.opIssue n (.unpk) f)
/-- PREFIX (R223). -/
def execEPrefix (n : Fin 48) (f : StepF) (s : State) : Host.Outcome State Fault Refusal := s.on fun s => .next (s.opIssue n (.prefixSum) f)
/-- SOPEN (R223). -/
def execESopen (n : Fin 48) (f : StepF) (s : State) : Host.Outcome State Fault Refusal := s.on fun s => .next (s.opIssue n (.sopen) f)
/-- SRD (R223). -/
def execESrd (n : Fin 48) (f : StepF) (s : State) : Host.Outcome State Fault Refusal := s.on fun s => .next (s.opIssue n (.srd) f)
/-- SWR (R223). -/
def execESwr (n : Fin 48) (f : StepF) (s : State) : Host.Outcome State Fault Refusal := s.on fun s => .next (s.opIssue n (.swr) f)
/-- SCLOSE (R223). -/
def execESclose (n : Fin 48) (f : StepF) (s : State) : Host.Outcome State Fault Refusal := s.on fun s => .next (s.opIssue n (.sclose) f)
/-- SCRLD (R223). -/
def execEScrld (n : Fin 48) (f : StepF) (s : State) : Host.Outcome State Fault Refusal := s.on fun s => .next (s.opIssue n (.scrld) f)
/-- SCRST (R223). -/
def execEScrst (n : Fin 48) (f : StepF) (s : State) : Host.Outcome State Fault Refusal := s.on fun s => .next (s.opIssue n (.scrst) f)
/-- SCRGATH (R223). -/
def execEScrgath (n : Fin 48) (f : StepF) (s : State) : Host.Outcome State Fault Refusal := s.on fun s => .next (s.opIssue n (.scrgath) f)
/-- SCRSCAT (R223). -/
def execEScrscat (n : Fin 48) (f : StepF) (s : State) : Host.Outcome State Fault Refusal := s.on fun s => .next (s.opIssue n (.scrscat) f)
/-- SCRADD (R223). -/
def execEScradd (n : Fin 48) (f : StepF) (s : State) : Host.Outcome State Fault Refusal := s.on fun s => .next (s.opIssue n (.scradd) f)
/-- SSKIP (R223). -/
def execESskip (n : Fin 48) (f : StepF) (s : State) : Host.Outcome State Fault Refusal := s.on fun s => .next (s.opIssue n (.sskip) f)
/-- SPOS (R223). -/
def execESpos (n : Fin 48) (f : StepF) (s : State) : Host.Outcome State Fault Refusal := s.on fun s => .next (s.opIssue n (.spos) f)
/-- LDG (R223). -/
def execELdg (n : Fin 48) (f : StepF) (s : State) : Host.Outcome State Fault Refusal := s.on fun s => .next (s.opIssue n (.ldg) f)
/-- STG (R223). -/
def execEStg (n : Fin 48) (f : StepF) (s : State) : Host.Outcome State Fault Refusal := s.on fun s => .next (s.opIssue n (.stg) f)
/-- SCRZ (R223). -/
def execEScrz (n : Fin 48) (f : StepF) (s : State) : Host.Outcome State Fault Refusal := s.on fun s => .next (s.opIssue n (.scrz) f)
/-- AADD (R223). -/
def execEAadd (n : Fin 48) (f : StepF) (s : State) : Host.Outcome State Fault Refusal := s.on fun s => .next (s.opIssue n (.atom 0) f)
/-- ASWAP (R223). -/
def execEAswap (n : Fin 48) (f : StepF) (s : State) : Host.Outcome State Fault Refusal := s.on fun s => .next (s.opIssue n (.atom 1) f)
/-- ACAS (R223). -/
def execEAcas (n : Fin 48) (f : StepF) (s : State) : Host.Outcome State Fault Refusal := s.on fun s => .next (s.opIssue n (.atom 2) f)
/-- AMINS (R223). -/
def execEAmins (n : Fin 48) (f : StepF) (s : State) : Host.Outcome State Fault Refusal := s.on fun s => .next (s.opIssue n (.atom 3) f)
/-- AMAXS (R223). -/
def execEAmaxs (n : Fin 48) (f : StepF) (s : State) : Host.Outcome State Fault Refusal := s.on fun s => .next (s.opIssue n (.atom 4) f)
/-- AMINU (R223). -/
def execEAminu (n : Fin 48) (f : StepF) (s : State) : Host.Outcome State Fault Refusal := s.on fun s => .next (s.opIssue n (.atom 5) f)
/-- AMAXU (R223). -/
def execEAmaxu (n : Fin 48) (f : StepF) (s : State) : Host.Outcome State Fault Refusal := s.on fun s => .next (s.opIssue n (.atom 6) f)
/-- AVADD (R223). -/
def execEAvadd (n : Fin 48) (f : StepF) (s : State) : Host.Outcome State Fault Refusal := s.on fun s => .next (s.opIssue n (.avadd) f)
/-- STEP_FENCE (R223). -/
def execEFence (n : Fin 48) (f : StepF) (s : State) : Host.Outcome State Fault Refusal := s.on fun s => .next (s.opIssue n (.fence false) f)
/-- FENCEW (R223). -/
def execEFencew (n : Fin 48) (f : StepF) (s : State) : Host.Outcome State Fault Refusal := s.on fun s => .next (s.opIssue n (.fence true) f)
/-- STEP_HINT_PREFETCH (R223). -/
def execEHintPrefetch (n : Fin 48) (f : StepF) (s : State) : Host.Outcome State Fault Refusal := s.on fun s => .next (s.opIssue n (.hint 0) f)
/-- STEP_HINT_PIN (R223). -/
def execEHintPin (n : Fin 48) (f : StepF) (s : State) : Host.Outcome State Fault Refusal := s.on fun s => .next (s.opIssue n (.hint 1) f)
/-- STEP_HINT_UNPIN (R223). -/
def execEHintUnpin (n : Fin 48) (f : StepF) (s : State) : Host.Outcome State Fault Refusal := s.on fun s => .next (s.opIssue n (.hint 2) f)
/-- STEP_HINT_DEMOTE (R223). -/
def execEHintDemote (n : Fin 48) (f : StepF) (s : State) : Host.Outcome State Fault Refusal := s.on fun s => .next (s.opIssue n (.hint 3) f)
/-- STEP_HINT_RELEASE (R223). -/
def execEHintRelease (n : Fin 48) (f : StepF) (s : State) : Host.Outcome State Fault Refusal := s.on fun s => .next (s.opIssue n (.hint 4) f)
/-- STEP_HINT_MIGRATE (R223). -/
def execEHintMigrate (n : Fin 48) (f : StepF) (s : State) : Host.Outcome State Fault Refusal := s.on fun s => .next (s.opIssue n (.hint 5) f)
/-- STEP_FLUSH_SECTOR (R223). -/
def execEFlushSector (n : Fin 48) (f : StepF) (s : State) : Host.Outcome State Fault Refusal := s.on fun s => .next (s.opIssue n (.flush false) f)
/-- STEP_FLUSH_FRAME (R223). -/
def execEFlushFrame (n : Fin 48) (f : StepF) (s : State) : Host.Outcome State Fault Refusal := s.on fun s => .next (s.opIssue n (.flush true) f)
/-- NOP (R223). -/
def execENop (n : Fin 48) (f : StepF) (s : State) : Host.Outcome State Fault Refusal := s.on fun s => .next (s.opIssue n (.nop) f)
/-- LOOP (R223). -/
def execELoop (n : Fin 48) (f : StepF) (s : State) : Host.Outcome State Fault Refusal := s.on fun s => .next (s.opIssue n (.loop) f)
/-- BRK (R223). -/
def execEBrk (n : Fin 48) (f : StepF) (s : State) : Host.Outcome State Fault Refusal := s.on fun s => .next (s.opIssue n (.brk) f)
/-- BR (R223). -/
def execEBr (n : Fin 48) (f : StepF) (s : State) : Host.Outcome State Fault Refusal := s.on fun s => .next (s.opIssue n (.br) f)
/-- WAIT (R223). -/
def execEWait (n : Fin 48) (f : StepF) (s : State) : Host.Outcome State Fault Refusal := s.on fun s => .next (s.opIssue n (.wait) f)
/-- END (R223). -/
def execEEnd (n : Fin 48) (f : StepF) (s : State) : Host.Outcome State Fault Refusal := s.on fun s => .next (s.opIssue n (.fin) f)
/-- PARAM (R223). -/
def execEParam (n : Fin 48) (f : StepF) (s : State) : Host.Outcome State Fault Refusal := s.on fun s => .next (s.opIssue n (.param) f)
/-- TRAP (R223). -/
def execETrap (n : Fin 48) (f : StepF) (s : State) : Host.Outcome State Fault Refusal := s.on fun s => .next (s.opIssue n (.trap) f)

/-- ILLEGAL_OP: a step whose OP the table of R223 does not list (R223, R236). -/
def execEIllegalOp (n : Fin 48) (op : BitVec 8) (f : StepF) (s : State) : Host.Outcome State Fault Refusal := s.on fun s => .next (s.badOp n op.toNat f)

/-- STEP_ISSUE (R215). -/
def execStepIssue (n : Fin 48) (parity : Bool) (s : State) : Host.Outcome State Fault Refusal := s.on fun s => .next (s.stepIssue n parity)

end Sys2Proof.Machine
end

