-- ==== Sys2Proof/Machine/Jobs.lean ====
section
/-!
DEFINITION. Machine/Jobs.lean: the dispatcher (R244 to R263): rings and doorbells, descriptors, the choice of an engine, pre-haul,
completion records, and the engine registers that software writes (R241, R243, R260, R261, R268).
-/
namespace Sys2Proof.Machine

def Dev.modDisp (s : Dev) (f : DispSt → DispSt) : Dev := { s with disp := f s.disp }

/-! ### Rings (R244 to R247) -/

def Dev.ringSize (s : Dev) (k : Nat) : Nat := 2 ^ s.fv Reg.DISPATCH_RINGk_CTL_LOG2 0 k
def Dev.ringHead (s : Dev) (k : Nat) : Nat := s.fv Reg.DISPATCH_RINGk_STATUS_HEAD 0 k
def Dev.ringTail (s : Dev) (k : Nat) : Nat := s.fv Reg.DISPATCH_RINGk_STATUS_TAIL 0 k
def Dev.ringEmpty (s : Dev) (k : Nat) : Bool := s.ringHead k == s.ringTail k
def Dev.ringClass (s : Dev) (k : Nat) : Nat := s.fv Reg.DISPATCH_RINGk_CTL_CLASS 0 k

/-- The host address of entry `i`. -/
def Dev.ringEntry (s : Dev) (k i : Nat) : Nat :=
  s.fv Reg.DISPATCH_RINGk_BASE_HI_ADDR 0 k * 2 ^ 32 + s.fv Reg.DISPATCH_RINGk_BASE_LO_ADDR 0 k * 128 + 128 * i

def Dev.fetchOf (s : Dev) (k : Nat) : Option Fetch := sget (fun _ => none) s.disp.fetch k
def Dev.setFetch (s : Dev) (k : Nat) (f : Option Fetch) : Dev :=
  s.modDisp (fun d => { d with fetch := sset (fun _ => none) d.fetch k f })

/-- Unplaced descriptors of a ring. -/
def Dev.ringPending (s : Dev) (k : Nat) : Nat := (s.ringTail k + s.ringSize k - s.ringHead k) % s.ringSize k

/-- STATUS: unplaced descriptors, and jobs running (R265). -/
def Dev.dispStatus (s : Dev) : Word32 :=
  let p := (List.range 64).foldl (fun x k => x + s.ringPending k) 0
  BitVec.ofNat 32 (min 65535 p + countOf 48 (fun n => (s.eng n).run.isSome) * 2 ^ 16)

/-- Does the dispatcher place jobs (R262)? -/
def Dev.dispOn (s : Dev) : Bool := s.ust dispPage == stONLINE && !s.disp.stopped && s.pins.spineOn

/-- Read a line of the descriptor at HEAD, under the ring's class (R244). -/
def Dev.askLine (s : Dev) (k half : Nat) : Dev :=
  let r : Req := { id := s.nextId, org := .desc (2 * k + half), op := .rd, cls := s.ringClass k,
                   line := s.ringEntry k (s.ringHead k) / 64 % 2 ^ 39 + half }
  (s.modSpace (fun p => { p with lookupQ := p.lookupQ ++ [r] })).fresh

/-- Is a line of the ring's descriptor still to come? -/
def Dev.reading (s : Dev) (k : Nat) : Bool :=
  match s.fetchOf k with
  | some f => f.lo.isNone || f.hi.isNone
  | none => false

/-- Start to read the descriptor at HEAD of a ring that is served. -/
def Dev.ringPump (s : Dev) (k : Nat) : Dev :=
  if s.dispOn && s.fb Reg.DISPATCH_RINGk_CTL_EN 0 k && !(s.fb Reg.DISPATCH_RINGk_CTL_ERROR 0 k) && !(s.ringEmpty k) &&
      (s.fetchOf k).isNone && decide (countOf 64 s.reading < 32) then
    ((s.setFetch k (some ⟨none, none, false⟩)).askLine k 0).askLine k 1
  else s

def Dev.ringsPump (s : Dev) : Dev := (List.range 64).foldl (fun s k => s.ringPump k) s

/-- The descriptor being read at HEAD is no longer wanted: it is dropped once its reads are answered. -/
def Dev.dropFetch (s : Dev) (k : Nat) : Dev :=
  s.setFetch k ((s.fetchOf k).bind (fun f => if f.lo.isSome && f.hi.isSome then none else some { f with stale := true }))

/-- A doorbell write (R245, R246): TAIL, modulo the ring's size; what it withdraws is not placed. -/
def Dev.ringBell (s : Dev) (k : Nat) (v : Word32) : Dev :=
  let s := s.setF Reg.DISPATCH_RINGk_STATUS_TAIL (bitsOf v 15 0 % s.ringSize k) 0 k
  let s := if s.ringEmpty k then s.dropFetch k else s
  s.ringPump k

/-- RINGk_CTL was written (R265): RESUME clears ERROR; fetching starts or restarts at HEAD. -/
def Dev.ringCtl (s : Dev) (k : Nat) (v : Word32) : Dev :=
  let s := if bitN v.toNat 3 then s.setF Reg.DISPATCH_RINGk_CTL_ERROR 0 0 k else s
  s.ringPump k

/-! ### Descriptors (R248 to R250) -/

/-- The job of a descriptor's 1,024 bits, on ring `k`. -/
def Dev.descJob (s : Dev) (k x : Nat) : Job :=
  let at_ (lo w : Nat) : Nat := x / 2 ^ lo % 2 ^ w
  let cls := if s.fb Reg.DISPATCH_RINGk_CTL_DESC_CLASS 0 k then min 59 (at_ 4 6) else s.ringClass k
  { ring := k, id := at_ 72 24, comp := at_ 32 40 * 32, params := (List.range 4).map (fun i => at_ (96 + 64 * i) 64),
    ops := ((List.range 6).filter (fun j => bitN (at_ 13 6) j)).map (fun j => (j, at_ (352 + 112 * j) 112)),
    cls := cls, slot := at_ 0 4, poison := min 2 (at_ 10 2), clr := at_ 12 1 == 1, noPlace := at_ 19 1 == 1 }

/-- The ring stops at an entry that cannot be read (R247). -/
def Dev.ringStop (s : Dev) (k : Nat) : Dev :=
  let s := (s.dropFetch k).setF Reg.DISPATCH_RINGk_CTL_ERROR 1 0 k
  s.raiseRec dispPage Reg.EV_DISPATCH_RING_ERR sevWARNING [k, s.ringHead k]

/-- A line of a descriptor came. -/
def Dev.gotLine (s : Dev) (k half : Nat) (d : Line) : Dev :=
  match s.fetchOf k with
  | none => s
  | some f =>
    let g := if half == 0 then { f with lo := some d } else { f with hi := some d }
    s.setFetch k (if g.stale && g.lo.isSome && g.hi.isSome then none else some g)

/-- DESCRIPTOR_FETCH_RETURN: the answer to a line read of ring `k`'s descriptor. -/
def Dev.fetchReturn (s : Dev) (k : Nat) : Dev :=
  let one (s : Dev) (half : Nat) (res : Result) : Dev :=
    match s.fetchOf k with
    | none => s
    | some f =>
      if f.stale then s.gotLine k half 0
      else match res with
      | .data d bad => if bad == 0 then s.gotLine k half d else (s.ringStop k).gotLine k half 0
      | .retry _ => s.askLine k half
      | .dark _ _ => s.askLine k half
      | _ => (s.ringStop k).gotLine k half 0
  match s.takeAnswer (.desc (2 * k)) with
  | some (res, s) => (one s 0 res).ringsPump
  | none => match s.takeAnswer (.desc (2 * k + 1)) with
    | some (res, s) => (one s 1 res).ringsPump
    | none => s

def execDescriptorFetchReturn (k : Fin 64) (s : State) : Host.Outcome State Fault Refusal := s.on fun s => .next (s.fetchReturn k)

/-! ### The choice of an engine (R251, R252) -/

/-- The class's affinity mask admits the engine. -/
def Dev.inMask (s : Dev) (c n : Nat) : Bool := s.affinity c == 0 || bitN (s.affinity c) n

/-- ONLINE, as the dispatcher knows it, with the slot valid. -/
def Dev.canRun (s : Dev) (j : Job) (n : Nat) : Bool := s.routeState (enginePage n) == stONLINE && (s.slotHalf n j.slot).isSome

/-- Engines a job may be placed on, full or not, and whether the mask was dropped for it. -/
def Dev.candidates (s : Dev) (j : Job) : List Nat × Bool :=
  let l := (List.range 48).filter (fun n => s.canRun j n && s.inMask j.cls n)
  if l.isEmpty then ((List.range 48).filter (s.canRun j), true) else (l, false)

/-- Those that can take it now. -/
def Dev.eligible (s : Dev) (j : Job) : List Nat :=
  (s.candidates j).1.filter (fun n => !(s.fb Reg.ENGINE_JOB_CTL_DRAIN n) && decide ((s.eng n).queue.length < 4))

/-- Bytes an operand covers: COUNT × COUNT2 × ESIZE. -/
def opBytes (d : Nat) : Nat := let t := strmOf d; t.cols * t.rows * t.esize

/-- The score of engine `n`: operands whose element (0, 0) lies in its own shaft. -/
def Dev.score (s : Dev) (j : Job) (n : Nat) : Nat :=
  j.ops.foldl (fun x o => match s.entry ((strmOf o.2).addr / 2 ^ 19) with
    | some e => if e.shaft == n then x + opBytes o.2 else x
    | none => x) 0

/-- The engine for a job: highest score, fewest jobs, lowest number. -/
def Dev.chooseEngine (s : Dev) (j : Job) : Option Nat :=
  bestBy (fun n => s.score j n * 8 + (7 - (s.eng n).queue.length - b2n (s.eng n).run.isSome)) (s.eligible j)

/-! ### Pre-haul (R253) -/

/-- Lowest and highest element addresses of a stream. -/
def Strm.range (t : Strm) : Nat × Nat :=
  let cs := [t.at 0 0, t.at 0 (t.cols - 1), t.at (t.rows - 1) 0, t.at (t.rows - 1) (t.cols - 1)]
  ((cs.foldl min (t.at 0 0)).toNat, (cs.foldl max (t.at 0 0)).toNat)

/-- Maximal runs of sectors that satisfy `p`, each within 64 sectors: (first, count). -/
def runsOf (p : Nat → Bool) : Nat → Nat → Option (Nat × Nat) → List (Nat × Nat)
  | 0, _, cur => match cur with
    | some c => [c]
    | none => []
  | k + 1, i, cur =>
    match cur with
    | some (a, c) => if p i && c < 64 then runsOf p k (i + 1) (some (a, c + 1))
        else (a, c) :: runsOf p k (i + 1) (if p i then some (i, 1) else none)
    | none => runsOf p k (i + 1) (if p i then some (i, 1) else none)

/-- Send a hint of the job's class. -/
def Dev.sendHint (s : Dev) (cls kind line count target : Nat) : Dev :=
  let r : Req := { id := s.nextId, org := .hint, op := .hint kind count target, cls := cls, line := line }
  let s := if kind == 0 then s.bump Reg.DISPATCH_CNT_PREFETCH_VALUE else s.bump Reg.DISPATCH_CNT_MOVES_VALUE
  (s.modSpace (fun p => { p with lookupQ := p.lookupQ ++ [r] })).fresh

/-- Has the dispatcher moved the frame within MOVE_HOLD_US? -/
def Dev.heldFrame (s : Dev) (f : Nat) : Bool :=
  s.disp.moved.any (fun x => x.1 == f && decide (s.time - x.2 < s.fv Reg.DISPATCH_CTL_MOVE_HOLD_US * 100))

def Dev.noteMoved (s : Dev) (f : Nat) : Dev :=
  s.modDisp (fun d =>
    let l := d.moved.filter (fun x => x.1 != f)
    { d with moved := (if 256 ≤ l.length then l.drop 1 else l) ++ [(f, s.time)] })

/-- What pre-haul does with one frame. -/
def Dev.prehaulFrame (s : Dev) (cls mode e f : Nat) : Dev :=
  if !(s.isBorn f) then s
  else
    let move (s : Dev) : Dev := (s.sendHint cls 5 (f * 8192) 1 e).noteMoved f
    match s.entry f with
    | none =>
      let s := if mode == 2 then move s else s
      (s.sendHint cls 0 (f * 8192) 64 0).sendHint cls 0 (f * 8192 + 4096) 64 0
    | some x =>
      let s := if mode == 2 && x.shaft != e && !(s.heldFrame f) then move s else s
      (runsOf (fun i => x.sec i == secINVALID) 128 0 none).foldl (fun s r => s.sendHint cls 0 (f * 8192 + 64 * r.1) r.2 0) s

/-- Pre-haul of a job placed on engine `e`. -/
def Dev.prehaul (s : Dev) (j : Job) (e : Nat) : Dev :=
  let mode := s.fv Reg.DISPATCH_CTL_PLACE_MODE
  if j.noPlace || mode == 0 then s
  else
    let lim := s.fv Reg.DISPATCH_CTL_PREHAUL_FRAMES
    j.ops.foldl (fun s o =>
      let (lo, hi) := (strmOf o.2).range
      let a := lo / 2 ^ 19
      (List.range (min lim (hi / 2 ^ 19 + 1 - a))).foldl (fun s i => s.prehaulFrame j.cls mode e (a + i)) s) s

/-! ### JOB_PLACEMENT -/

/-- Jobs that wait to be placed: those given back first, then each ring's, with the ring. -/
def Dev.waitingJobs (s : Dev) : List (Nat × Bool × Job) :=
  s.disp.back.map (fun j => (j.ring, true, j)) ++
  (List.range 64).filterMap (fun k => match s.fetchOf k with
    | some ⟨some lo, some hi, false⟩ => some (k, false, s.descJob k (lo.toNat + hi.toNat * 2 ^ 512))
    | _ => none)

/-- A job leaves the place it waited in; HEAD moves past a ring's entry. -/
def Dev.takeJob (s : Dev) (k : Nat) (back : Bool) (j : Job) : Dev :=
  if back then s.modDisp (fun d => { d with back := dropFirst (fun x => x == j) d.back })
  else
    let s := s.setF Reg.DISPATCH_RINGk_STATUS_HEAD ((s.ringHead k + 1) % s.ringSize k) 0 k
    (s.setFetch k none).ringPump k

/-- A job that no ONLINE engine can run ends REFUSED. Its record names no engine that ran it: that field is a free value. -/
def Dev.refuseJob (s : Dev) (j : Job) : Dev :=
  let r : Rec := ⟨48, j.ring, j.id, j.comp, j.cls,
    recBytes j.id stREFUSED 0 j.slot 0 0 (Config.freeNat s.free) 0 0 0 1, false⟩
  let s := (s.modDisp (fun d => { d with recs := d.recs ++ [r] })).nextFree
  (s.bump Reg.DISPATCH_CNT_REFUSED_VALUE).raiseRec dispPage Reg.EV_DISPATCH_REFUSED sevWARNING [j.id]

/-- JOB_PLACEMENT: the waiting job of the greatest key that can be placed, or refused, now; rings of equal keys rotate. A job that has starved
counts as LEVEL 7 (R138). -/
def Dev.placeJob (s : Dev) : Dev :=
  if !s.dispOn || !s.pins.refclk then s
  else
    let ok := s.waitingJobs.filter (fun x => !(s.eligible x.2.2).isEmpty || (s.candidates x.2.2).1.isEmpty)
    let starved (x : Nat × Bool × Job) : Bool := if x.2.1 then x.2.2.starved else s.disp.starved.contains x.1
    match bestBy (fun x => s.key (s.ringClass x.1) 0 (starved x) * 64 + (63 - (x.1 + 63 - s.disp.last) % 64)) ok with
    | none => s
    | some (k, back, j) =>
      let s := (s.modDisp (fun d => { d with last := k, starved := if back then d.starved else d.starved.filter (· != k) })).takeJob k back j
      let j := { j with starved := false }
      match s.chooseEngine j with
      | none => s.refuseJob j
      | some e =>
        let s := if (s.candidates j).2 then s.bump Reg.DISPATCH_CNT_FALLBACK_VALUE else s
        let s := (s.modEng e (fun g => { g with queue := g.queue ++ [j] })).bump Reg.DISPATCH_CNT_JOBS_VALUE
        ((s.countCell 0x49 (0x10 + e) 0).prehaul j e).engShow e

def execJobPlacement (s : State) : Host.Outcome State Fault Refusal := s.on fun s => .next s.placeJob

/-! ### Completion records (R256, R258) -/

/-- COMPLETION_RECORD_WRITE: the oldest record of engine `n` (or of a REFUSED job) that is not on its way is written, as one masked
access under the job's class. -/
def Dev.recWrite (s : Dev) (n : Nat) : Dev :=
  let mine (e : Nat) : Option Rec := s.disp.recs.find? (fun r => r.eng == e)
  let r := match mine n with
    | some r => some r
    | none => mine 48
  match r with
  | none => s
  | some r =>
    if r.sent then s
    else
      let off := r.addr % 64
      let d : Line := BitVec.ofNat 512 (r.bytes.toNat * 2 ^ (8 * off))
      let q : Req := { id := s.nextId, org := .comp r.eng, op := .wrm, cls := r.cls, line := r.addr / 64, data := d, par := lineParity d,
                       mask := BitVec.ofNat 64 ((2 ^ 32 - 1) * 2 ^ off) }
      let s := s.modDisp (fun d => { d with recs := d.recs.map (fun x => if x == r then { x with sent := true } else x) })
      (s.modSpace (fun p => { p with lookupQ := p.lookupQ ++ [q] })).fresh

def execCompletionRecordWrite (n : Fin 48) (s : State) : Host.Outcome State Fault Refusal := s.on fun s => .next (s.recWrite n)

/-- The answer to a record's write. -/
def Dev.recAnswer (s : Dev) (e : Nat) (res : Result) : Dev :=
  match s.disp.recs.find? (fun r => r.eng == e && r.sent) with
  | none => s
  | some r =>
    let drop (s : Dev) : Dev := s.modDisp (fun d => { d with recs := dropFirst (fun x => x == r) d.recs })
    match res with
    | .error _ _ => (drop ((s.bump Reg.DISPATCH_CNT_COMP_LOST_VALUE))).raiseRec dispPage Reg.EV_DISPATCH_COMP_LOST sevERROR [r.jobId, r.eng]
    | .retry _ => (s.modDisp (fun d => { d with recs := d.recs.map (fun x => if x == r then { x with sent := false } else x) })).recWrite e
    | .dark _ _ => (s.modDisp (fun d => { d with recs := d.recs.map (fun x => if x == r then { x with sent := false } else x) })).recWrite e
    | _ =>
      let s := (drop s).bump Reg.DISPATCH_CNT_DONE_VALUE
      if s.fb Reg.DISPATCH_RINGk_CTL_EVT_DONE 0 r.ring then s.raise dispPage Reg.EV_DISPATCH_JOB_DONE else s

/-- COMPLETION_WRITE_ANSWER. -/
def Dev.compAnswer (s : Dev) (n : Nat) : Dev :=
  match s.takeAnswer (.comp n) with
  | some (res, s) => s.recAnswer n res
  | none => match s.takeAnswer (.comp 48) with
    | some (res, s) => s.recAnswer 48 res
    | none => s

def execCompletionWriteAnswer (n : Fin 48) (s : State) : Host.Outcome State Fault Refusal := s.on fun s => .next (s.compAnswer n)

/-! ### Engine registers that software writes (R241, R260, R261, R268) -/

/-- DEBUG_CTL was written: HALT stops the engine (steps are whole here, so it is at a boundary) or lets it go on; STEP asks for one step
while halted, which issues in this cycle or, where something holds it, in the first that lets it (R241). -/
def Dev.debugCtl (s : Dev) (n : Nat) (v : Word32) : Dev :=
  let was := s.fb Reg.ENGINE_EXEC_STATUS_HALTED n
  let s :=
    if s.fb Reg.ENGINE_DEBUG_CTL_HALT n then
      (if was then s else (s.setF Reg.ENGINE_EXEC_STATUS_HALTED 1 n).raise (enginePage n) Reg.EV_ENGINE_HALTED)
    else if was && !(bitN v.toNat 1) then (s.setF Reg.ENGINE_EXEC_STATUS_HALTED 0 n).modEng n (fun g => { g with passBp := true })
    else s
  if bitN v.toNat 1 && s.fb Reg.ENGINE_EXEC_STATUS_HALTED n then (s.modEng n (fun g => { g with stepReq := true })).stepIssue n true
  else if s.fb Reg.ENGINE_EXEC_STATUS_HALTED n then s
  else s.modEng n (fun g => { g with stepReq := false })

/-- FCACHE_CTL.INVALIDATE: every entry is dropped (R238). -/
def Dev.fcacheDrop (s : Dev) (n : Nat) : Dev := s.modEng n (fun g => { g with fcache := [] })

/-- SLOT_FLIP (R260): the halves of the slots written 1 change places. -/
def Dev.slotFlip (s : Dev) (n : Nat) (v : Word32) : Dev :=
  let h := s.fv Reg.ENGINE_SLOT_ACTIVE_HALF n
  (s.setF Reg.ENGINE_SLOT_ACTIVE_HALF (Nat.xor h (bitsOf v 15 0)) n).engShow n

/-- JOB_CTL.ABORT (R255): the running job ends ABORTED. -/
def Dev.jobAbort (s : Dev) (n : Nat) : Dev := s.jobCut n stABORTED

/-- Is a store step protected (R261): inside the active half of a slot whose active half is VALID, or inside the old half a job still
runs on? -/
def Dev.storeHeld (s : Dev) (n i : Nat) : Bool :=
  let inside (b l : Nat) : Bool := decide (b ≤ i) && decide (i < b + l)
  (List.range 16).any (fun k => match s.slotHalf n k with
    | some (_, b, l) => inside b l
    | none => false) ||
  (match (s.eng n).run with
   | some r => s.fv Reg.ENGINE_SLOT_OLD_BUSY n != 0 && inside r.base r.len
   | none => false)

/-- Write a word of the program store (R243, R261). -/
def Dev.storeWrite (s : Dev) (n off : Nat) (v : Word32) : Dev :=
  let i := off / 16
  if s.storeHeld n i then s.bump Reg.ENGINE_CNT_STORE_REJECT_VALUE n
  else
    let lo := 32 * (off / 4 % 4)
    let x := (sget (fun _ => 0) (s.eng n).store i).toNat
    let y := x - x / 2 ^ lo % 2 ^ 32 * 2 ^ lo + v.toNat * 2 ^ lo
    s.modEng n (fun g => { g with store := sset (fun _ => 0) g.store i (BitVec.ofNat 128 y) })

/-- Read a word of the program store. -/
def Dev.storeRead (s : Dev) (n off : Nat) : Word32 :=
  BitVec.ofNat 32 ((sget (fun _ => 0) (s.eng n).store (off / 16)).toNat / 2 ^ (32 * (off / 4 % 4)))

/-- DBG_DATA (R241): a word of the selected register, while the engine is halted or frozen. -/
def Dev.dbgData (s : Dev) (n : Nat) : Word32 :=
  let g := s.eng n
  if !(s.fb Reg.ENGINE_EXEC_STATUS_HALTED n) && g.frozen == 0 then 0
  else
    let r := s.fv Reg.ENGINE_DBG_SEL_REG n
    let x : Nat :=
      if r < 32 then (g.vr r).toNat
      else if r < 40 then (g.mr (r - 32)).toNat
      else if r < 56 then (g.sr (r - 40)).toNat
      else if r < 60 then g.lr (r - 56)
      else Config.dbgFlags g.sfAny g.sfAll (maskOf 16 (fun i => g.spr i))
    BitVec.ofNat 32 (x / 2 ^ (32 * s.fv Reg.ENGINE_DBG_SEL_WORD n))

end Sys2Proof.Machine
end

