-- ==== Sys2Proof/Machine/Peer.lean ====
section
/-!
DEFINITION. Machine/Peer.lean: what a member of a pair knows of the other (R319, R320, R327, R328): comparing roles, epochs and
windows, the partner going dark and coming back.
-/
namespace Sys2Proof.Machine

/-- CFG_CRC (R320): CRC-32C over the 16 MWj triples, each register 4 bytes, least significant first; of MWj_CTL the configuration
fields (DEDUCED, log 40). -/
def Dev.cfgCrc (s : Dev) : Word32 :=
  crc32c ((List.range 16).flatMap (fun j =>
    bytesLE 4 (s.fv Reg.PAIR_MWj_BASE_FRAME 0 j) ++ bytesLE 4 (s.fv Reg.PAIR_MWj_SIZE_FRAMES 0 j) ++
    bytesLE 4 (s.fv Reg.PAIR_MWj_CTL_EN 0 j + 2 * s.fv Reg.PAIR_MWj_CTL_MODE 0 j)))

/-- MISMATCH follows the two CFG_CRC values; the event marks its rise. -/
def Dev.noteMismatch (s : Dev) : Dev :=
  let bad := s.pair.crcPeer != s.cfgCrc.toNat
  let was := s.fb Reg.PAIR_STATUS_MISMATCH
  let s := s.setF Reg.PAIR_STATUS_MISMATCH (b2n bad)
  if bad && !was then s.raise pgPAIR Reg.EV_PAIR_MISMATCH else s

/-- The member becomes STALE (R328). -/
def Dev.demote (s : Dev) (rec : Bool) : Dev :=
  let s := s.setF Reg.PAIR_CTL_ROLE roleSTALE
  if rec then s.raiseRec pgPAIR Reg.EV_PAIR_DEMOTED sevWARNING [s.fv Reg.PAIR_EPOCH_EPOCH, s.fv Reg.PAIR_STATUS_PARTNER_EPOCH]
  else s.raise pgPAIR Reg.EV_PAIR_DEMOTED

/-- Compare the member's own role and epoch with the partner's (R328). A SECONDARY and a PRIMARY of one epoch are in normal service,
whichever of them compares (log 41). -/
def Dev.compareRoles (s : Dev) : Dev :=
  let pr := s.fv Reg.PAIR_STATUS_PARTNER_ROLE
  let pe := s.fv Reg.PAIR_STATUS_PARTNER_EPOCH
  let e := s.fv Reg.PAIR_EPOCH_EPOCH
  let s := s.setF Reg.PAIR_STATUS_CONFLICT (b2n (s.role == rolePRIMARY && pr == rolePRIMARY && pe == e))
  if pr != rolePRIMARY then s
  else if s.role == rolePRIMARY && e < pe then s.demote true
  else if s.role == roleSECONDARY && pe < e then s.demote false
  else s

/-- A candle or a CAP row has shown the partner's role, epoch and CFG_CRC. A partner that rejoins from STALE is due a full resync
(R329). -/
def Dev.peerSeen (s : Dev) (role epoch crc : Nat) : Dev :=
  let back := s.fv Reg.PAIR_STATUS_PARTNER_ROLE == roleSTALE && role == roleSECONDARY
  let s := if back then s.modPair (fun p => { p with fullDue := true }) else s
  let s := (s.setF Reg.PAIR_STATUS_PARTNER_ROLE role).setF Reg.PAIR_STATUS_PARTNER_EPOCH epoch
  ((s.modPair (fun p => { p with crcPeer := crc })).noteMismatch).compareRoles

/-- A resync in progress stops: the next one starts afresh. -/
def Dev.resyncStop (s : Dev) : Dev :=
  let s := s.modPair (fun p => { p with resyncing := false, whole := false, todo := [], fullDue := p.fullDue || (p.resyncing && p.whole) })
  (List.range 16).foldl (fun s j => s.setF Reg.PAIR_MWj_CTL_RESYNCING 0 0 j) s

/-- The partner is declared dark (R327): neither role changes; reads that wait on it go on to their next source (R289). -/
def Dev.partnerDark (s : Dev) : Dev :=
  if s.fb Reg.PAIR_STATUS_PARTNER_DARK then s
  else
    let s := (s.setF Reg.PAIR_STATUS_PARTNER_DARK 1).setF Reg.PAIR_STATUS_PARTNER_UP 0
    let s := s.raiseRec pgPAIR Reg.EV_PAIR_PARTNER_DARK sevWARNING [s.fv Reg.PAIR_CTL_ROLE, s.fv Reg.PAIR_EPOCH_EPOCH]
    (s.resyncStop.modPair (fun p => { p with asked := [] })).skipSources none

/-- The line of a copy as its slot holds it now; the copy's own bytes where the frame has no slot. -/
def Dev.copyFresh (s : Dev) (c : MirCopy) : MirCopy :=
  match s.entry (frameOfLine c.line) with
  | some e => let x := s.lineView e.shaft (e.slot * 8192 + c.line % 8192)
              if c.release then c else { c with data := x.1, bad := x.2 }
  | none => c

/-- The partner is back with roles and epochs in order (R329): copies still awaiting MACK, and then those queued, are
sent with what their slots hold. -/
def Dev.resendCopies (s : Dev) : Dev :=
  (s.modPair (fun p => { p with copies := (p.await ++ p.copies).map s.copyFresh, await := [] })).pumpCopies

/-- Are roles and epochs in order for copies to flow from here (R328)? -/
def Dev.inOrder (s : Dev) : Bool :=
  s.role == rolePRIMARY && s.fv Reg.PAIR_STATUS_PARTNER_ROLE == roleSECONDARY &&
  s.fv Reg.PAIR_STATUS_PARTNER_EPOCH == s.fv Reg.PAIR_EPOCH_EPOCH && !s.pairMuted

/-- Candles arrive (R327): PARTNER_UP is set, PARTNER_DARK clears. -/
def Dev.partnerUp (s : Dev) : Dev :=
  if s.fb Reg.PAIR_STATUS_PARTNER_UP then s
  else
    ((s.setF Reg.PAIR_STATUS_PARTNER_UP 1).setF Reg.PAIR_STATUS_PARTNER_DARK 0).raise pgPAIR Reg.EV_PAIR_PARTNER_UP

/-- What pairing keeps across a warm device reset or a ground-die reset (R330, R331): the copies not yet acknowledged and the mirror
queue, as addresses, the resync list, and the standby image. -/
def PairSt.kept (p : PairSt) : PairSt :=
  { copies := (p.await ++ p.copies).map (fun c => { c with ans := none }), lagQ := p.lagQ, mseq := p.mseq, resync := p.resync,
    fullDue := p.fullDue || (p.resyncing && p.whole), standby := p.standby }

end Sys2Proof.Machine
end

