-- ==== Sys2Proof/Machine/Far.lean ====
section
/-!
DEFINITION. Machine/Far.lean: the far ports (R295 to R318): roles and bring-up, the CXL root port, the rows of the pair link, and
the tools that watch a lane.
-/
namespace Sys2Proof.Machine

/-! ### The link leaves service -/

def Dev.farStage (s : Dev) (f : Nat) : Nat := s.fv Reg.FARPORT_STATUS_STAGE f
def Dev.setStage (s : Dev) (f k : Nat) : Dev := s.setF Reg.FARPORT_STATUS_STAGE k f
def Dev.farRole (s : Dev) (f : Nat) : Nat := s.fv Reg.FARPORT_STATUS_ACTIVE_ROLE f

/-- A port enters a state of its link; one that is FENCED, TESTING, RESETTING, DARK or FAILED stays so. -/
def Dev.farEnter (s : Dev) (f st : Nat) : Dev :=
  let now := s.farSt f
  if now == stOFFLINE || now == stKINDLING || now == stONLINE then s.enter (farPage f) st else s

/-- Everything in flight to far memory ends at once (R67): a fill whose lines have not all come as after a timeout, a write-back whose lines
are not all acknowledged, captured or not, as after a completion error, direct reads with poison; corrections go on to their
next source (R289). -/
def Dev.farKill (s : Dev) (f : Nat) : Dev :=
  let orgs := (s.far f).cxl.map (·.org) ++ (s.far f).cxlQ.map (·.org)
  let s := s.modFar f (fun p => { p with cxl := [], cxlQ := [] })
  let s := orgs.foldl (fun s o => s.farFailed o) s
  let ended (w : Wback) : Bool := w.port == f && decide (w.acks < 64)
  let s := s.modHaul (fun p =>
    { p with fills := smapv (fun _ => none) p.fills (fun b => b.map (fun b => if b.port == f && decide (b.got.length < 64) then { b with failed := true } else b)),
             marks := if p.wbacks.any (fun x => x.2.any ended) then Nat.lor p.marks (2 ^ f) else p.marks,
             wbacks := smapv (fun _ => none) p.wbacks (fun b => b.map (fun w => if ended w then { w with failed := true } else w)) })
  s.skipSources (some f)

/-- The running eye scan point of a port ends (R311, R315). -/
def Dev.scanEnd (s : Dev) (f errors : Nat) : Dev :=
  match (s.far f).scan with
  | none => s
  | some l =>
    let s := (s.modFar f (fun p => { p with scan := none })).dropLease (lsSampler f l) hoSCAN
    let s := (s.setF Reg.FARPORT_SCAN_STATUS_DONE 1 f).setF Reg.FARPORT_SCAN_STATUS_REASON 0 f
    (s.setSat Reg.FARPORT_SCAN_STATUS_ERRORS errors f).raise (farPage f) Reg.EV_FARPORT_SCAN_DONE

/-- The replay buffer, sequence counts and credits of the pair link are cleared (R306): rows not acknowledged are lost. -/
def Dev.clearReplay (s : Dev) (f : Nat) : Dev :=
  let s := s.modFar f (fun p => { p with txQ := [], replay := [], txSeq := 0, rxSeq := 0, credit := 0, pool := 0, owed := 0,
                                         naks := (0, 0), naksTx := (0, 0), rxMsgs := [], fresh := true })
  (s.setF Reg.FARPORT_PAIR_LINK_TX_CREDIT 0 f).setF Reg.FARPORT_PAIR_LINK_RX_FREE 0 f

/-- Is the link in ACTIVE, or a CXL link in L0? -/
def Dev.farLinkUp (s : Dev) (f : Nat) : Bool := s.farStage f == 5 || (s.farRole f == 1 && s.farStage f == 4)

/-- The link leaves ACTIVE or L0: LINK_DOWN; far memory traffic in flight ends; a scan point ends. -/
def Dev.farLeave (s : Dev) (f : Nat) : Dev :=
  let s := s.scanEnd f 16777215
  if !(s.farLinkUp f) then s
  else
    let s := (s.setStage f 0).raise (farPage f) Reg.EV_FARPORT_LINK_DOWN
    if s.farRole f == 1 then (s.farKill f).noteBlocked else s.noteBlocked

/-- The link goes down and is held down (R295, R307, R317): a pair link loses its rows, and the partner is dark. -/
def Dev.farDown (s : Dev) (f : Nat) : Dev :=
  let s := s.farLeave f
  let s := (((s.setStage f 0).setF Reg.FARPORT_STATUS_RATE 0 f).setF Reg.FARPORT_STATUS_WIDTH 0 f).setF Reg.FARPORT_LANE_STATUS_USED 0 f
  let s := s.setF Reg.FARPORT_LANE_STATUS_LOCKED 0 f
  let s := s.wrReg ((farPage f) * 4096 + 0x68) 0
  if s.farRole f == 2 then
    let s := s.clearReplay f
    if s.fb Reg.PAIR_STATUS_PARTNER_UP then s.partnerDark else s
  else s

/-- Bring-up starts with receiver detection (R298, R307); role OFF, or DISABLE, leaves the port OFFLINE. -/
def Dev.farBringUp (s : Dev) (f : Nat) : Dev :=
  let s := s.farDown f
  if s.farRole f == 0 || s.fb Reg.FARPORT_CTL_DISABLE f then s.farEnter f stOFFLINE
  else (s.setStage f 1).farEnter f stKINDLING

/-- A stage fails (R307): back to DETECT, or FAILED at the eighth failure in a row. -/
def Dev.stageFail (s : Dev) (f code : Nat) : Dev :=
  let s := (s.bumpSat Reg.FARPORT_STATUS_FAILS f).setF Reg.FARPORT_STATUS_LAST_FAIL code f
  let s := (s.raise (farPage f) Reg.EV_FARPORT_TRAIN_FAIL).farDown f
  if 8 ≤ s.fv Reg.FARPORT_STATUS_FAILS f then
    (s.enter (farPage f) stFAILED).raiseRec (farPage f) Reg.EV_FARPORT_FAILED sevCRITICAL [code]
  else (s.setStage f 1).farEnter f stKINDLING

/-- A retrain from ACTIVE or L0 (R307, R312): the port goes back to stage `k`; a pair link that returns through LOCK keeps its rows. -/
def Dev.farRetrain (s : Dev) (f k : Nat) : Dev :=
  if !(s.farLinkUp f) then s
  else
    let s := ((s.farLeave f).bump Reg.FARPORT_CNT_RETRAIN_VALUE f).setStage f k
    if s.farRole f == 2 then s.farEnter f stKINDLING else s

/-- A protocol error on the pair link (R304): a record, and a retrain through LOCK. -/
def Dev.farProtocol (s : Dev) (f ctl : Nat) : Dev := (s.record (farPage f) codeOTHER sevWARNING [ctl]).farRetrain f 3

/-! ### Bring-up of the pair link (R297, R307, R308) -/

/-- The width a set of lanes allows, as STATUS.WIDTH shows it, 0 when no half is whole. -/
def widthOf (lanes excl : Nat) : Nat :=
  let ok := Nat.land lanes (255 - excl)
  if ok == 255 then 3 else if ok % 16 == 15 then 1 else if ok / 16 == 15 then 2 else 0
/-- The lanes of a width. -/
def widthLanes (w : Nat) : Nat := if w == 3 then 255 else if w == 1 then 15 else if w == 2 then 240 else 0

/-- The lanes that carry the link are fixed: WIDTH, REVERSED, LOCKED and USED; an x4 link is DEGRADED, with a record that names the
lanes left out (R297). -/
def Dev.setLanes (s : Dev) (f lanes : Nat) (rev : Bool) : Dev :=
  let w := widthOf lanes (s.fv Reg.FARPORT_LANE_EXCL_LANES f)
  let s := (s.setF Reg.FARPORT_STATUS_WIDTH w f).setF Reg.FARPORT_STATUS_REVERSED (b2n rev) f
  let s := (s.setF Reg.FARPORT_LANE_STATUS_LOCKED lanes f).setF Reg.FARPORT_LANE_STATUS_USED (widthLanes w) f
  let s := s.setF Reg.FARPORT_LANE_STATUS_LOS (Nat.land (s.fv Reg.FARPORT_LANE_STATUS_LOS f) (255 - lanes % 256)) f
  let code := s.fv Reg.CALREF_IMP_MASTER
  let s := s.modFar f (fun p => { p with imp := (List.range 8).foldl (fun t l =>
    if bitN lanes l then sset (fun _ => 16) t l code else t) p.imp })
  if w == 3 then s else s.raiseRec (farPage f) Reg.EV_FARPORT_DEGRADED sevWARNING [255 - widthLanes w]

/-- Bytes of the port's own CAP row that must agree (R308). -/
def Dev.capOwn (s : Dev) (f : Nat) : Nat :=
  Config.capIdent (s.rdReg 0x40).toNat % 65536 + Config.capWidth (s.fv Reg.FARPORT_STATUS_WIDTH f) % 256 * 65536

/-- The CAP row a port sends (R308, R326). -/
def Dev.capRow (s : Dev) (f : Nat) (ack : Bool) : BitVec 512 :=
  let n := 0x55 + (1 + 128 * b2n ack) * 2 ^ 8 + s.capOwn f * 2 ^ 16 + Config.capOrder (s.fb Reg.FARPORT_STATUS_REVERSED f) % 256 * 2 ^ 40 +
    256 * 2 ^ 48 + s.role * 2 ^ 64 + s.fv Reg.PAIR_EPOCH_EPOCH * 2 ^ 72 + s.cfgCrc.toNat * 2 ^ 88
  BitVec.ofNat 512 n

/-- PAIR_STAGE_END: a stage of the bring-up ends, or reaches its limit. EXCHANGE ends with the CAP rows. -/
def Dev.pairStage (s : Dev) (f : Nat) (o : StageObs) : Dev :=
  if s.farRole f != 2 || s.farSt f == stFAILED || s.farSt f == stDARK || s.farSt f == stTESTING || s.farSt f == stRESETTING then s
  else
    let k := s.farStage f
    match o with
    | .noSignal => if 2 ≤ k && k ≤ 4 then s.stageFail f 6 else s
    | .limit =>
      if k == 1 then s.farEnter f stOFFLINE
      else if 2 ≤ k && k ≤ 4 then s.stageFail f (k - 1)
      else s
    | .ends lanes rev =>
      let usable := widthOf lanes.toNat (s.fv Reg.FARPORT_LANE_EXCL_LANES f) != 0
      if k == 1 then (if usable then (s.setStage f 2).farEnter f stKINDLING else s)
      else if k == 2 then (s.setStage f 3).emit (.row f (idleRow 0 (s.far f).rxSeq))
      else if k == 3 then
        if usable then
          let s := ((s.setLanes f lanes.toNat rev).setF Reg.FARPORT_STATUS_RATE 2 f).setStage f 4
          let s := s.modFar f (fun p => { p with capLast := 0, capRun := 0, capAck := false })
          s.emit (.row f (s.capRow f false))
        else s.stageFail f 5
      else s

def execPairStageEnd (f : Fin 4) (o : StageObs) (s : State) : Host.Outcome State Fault Refusal := s.on fun s =>
  if s.fb Reg.MODES_STATUS_PADS_LATCHED || !s.pins.refclk then .next s else .next (s.pairStage f.val (if s.pins.vddaFar then o else .limit))

/-- What the receiver has counted since the row before: corrected symbols, bad headers (R303, R308). -/
def Dev.countRx (s : Dev) (f : Nat) (x : BitVec 8 × BitVec 8) : Dev :=
  (s.bumpBy Reg.FARPORT_CNT_RS_CORR_VALUE x.1.toNat f).bumpBy Reg.FARPORT_CNT_HDR_BAD_VALUE x.2.toNat f

/-- Byte `i` of a row, and a field of `w` bytes. -/
def rowField (row : BitVec 512) (i w : Nat) : Nat := row.toNat / 2 ^ (8 * i) % 2 ^ (8 * w)

/-- EXCHANGE has ended (R307, R308): the link is ACTIVE. A link whose counts were cleared starts with the partner's grant. -/
def Dev.pairActivate (s : Dev) (f grant : Nat) : Dev :=
  let s := ((s.setStage f 5).setF Reg.FARPORT_STATUS_FAILS 0 f).raise (farPage f) Reg.EV_FARPORT_LINK_UP
  let s := if (s.far f).fresh then s.modFar f (fun p => { p with credit := grant, fresh := false }) else s
  let s := (s.setF Reg.FARPORT_PAIR_LINK_TX_CREDIT (s.far f).credit f).setF Reg.FARPORT_PAIR_LINK_RX_FREE (256 - (s.far f).pool) f
  ((s.farEnter f stONLINE).txPump f).pumpCopies

/-- CAP (R308): a CAP row is compared with the one before; eight alike, one with ACK, end EXCHANGE; bytes 2 to 4 must agree. A CAP
row on an ACTIVE link is a protocol error (R304). -/
def Dev.capIn (s : Dev) (f : Nat) (row : BitVec 512) (seen : BitVec 8 × BitVec 8) : Dev :=
  if s.farRole f != 2 || rowField row 0 1 != 0x55 then s
  else
    let s := s.countRx f seen
    if s.farStage f == 5 then s.farProtocol f 0x55
    else if s.farStage f != 4 then s
    else if rowField row 2 3 != s.capOwn f then s.stageFail f 4
    else
      let ack := bitN row.toNat 15
      let body := row &&& ~~~(BitVec.ofNat 512 (2 ^ 15))
      let s := s.modFar f (fun p =>
        if p.capLast == body && p.capRun != 0 then { p with capRun := p.capRun + 1, capAck := p.capAck || ack }
        else { p with capLast := body, capRun := 1, capAck := ack })
      let p := s.far f
      let s := s.emit (.row f (s.capRow f (8 ≤ p.capRun)))
      if 8 ≤ p.capRun && p.capAck then
        (s.peerSeen (rowField row 8 1 % 4) (rowField row 9 2) (rowField row 11 4)).pairActivate f (rowField row 6 2)
      else s

def execCap (f : Fin 4) (row : BitVec 512) (seen : BitVec 8 × BitVec 8) (s : State) : Host.Outcome State Fault Refusal := s.on fun s =>
  .next (s.capIn f.val row seen)

/-! ### Rows of an ACTIVE pair link (R304 to R306) -/

/-- Messages of the replay buffer that an acknowledgement of `ack` still leaves. -/
def unacked (ack : Nat) : List (Nat × PairMsg) → List (Nat × PairMsg)
  | [] => []
  | x :: l =>
    let d := (ack + 65536 - x.1) % 65536
    if 1 + msgLen x.2 ≤ d && d ≤ 4096 then unacked ack l else x :: l

/-- Credits returned and rows acknowledged by a control row. -/
def Dev.rowAck (s : Dev) (f : Nat) (row : BitVec 512) : Dev :=
  let s := s.modFar f (fun p => { p with credit := min 256 (p.credit + rowField row 2 1), replay := unacked (rowField row 4 2) p.replay })
  ((s.setF Reg.FARPORT_PAIR_LINK_TX_CREDIT (s.far f).credit f).txPump f).pumpCopies

/-- An IDLE row of the port's own: credits owed, and the sequence expected. -/
def Dev.sendIdle (s : Dev) (f : Nat) : Dev :=
  let p := s.far f
  (s.emit (.row f (idleRow (min 255 p.owed) p.rxSeq))).modFar f (fun p => { p with owed := p.owed - min 255 p.owed })

/-- IDLE (R304): an IDLE row returns credits and acknowledges rows. -/
def Dev.idleIn (s : Dev) (f : Nat) (row : BitVec 512) (seen : BitVec 8 × BitVec 8) : Dev :=
  if s.farRole f != 2 || s.farStage f != 5 || rowField row 0 1 != 0 then s else (s.countRx f seen).rowAck f row

def execIdle (f : Fin 4) (row : BitVec 512) (seen : BitVec 8 × BitVec 8) (s : State) : Host.Outcome State Fault Refusal := s.on fun s =>
  .next (s.idleIn f.val row seen)

/-- MSG (R304 to R306): a message with its data rows is received, takes its sequence numbers, and waits for its effect; a line for
the mirror pool takes a cell. The sequence expected goes back with a row of the port's own. A row of another type, or other data
rows than LEN announces, is a protocol error. -/
def Dev.msgIn (s : Dev) (f : Nat) (row : BitVec 512) (rows : List (BitVec 512)) (seen : BitVec 8 × BitVec 8) : Dev :=
  if s.farRole f != 2 || s.farStage f != 5 then s
  else
    let s := s.countRx f seen
    if rowField row 0 1 != 0x1E || rows.length != rowField row 1 1 % 8 then s.farProtocol f (rowField row 0 1)
    else
      let m := msgOfRow row (rows.headD 0)
      let s := s.modFar f (fun p => { p with rxSeq := (p.rxSeq + 1 + rows.length) % 65536, rxMsgs := if 1 ≤ m.mtype && m.mtype ≤ 9 then p.rxMsgs ++ [m] else p.rxMsgs,
                                             pool := if m.mtype == 1 then p.pool + 1 else p.pool, naksTx := (0, 0) })
      let s := s.setF Reg.FARPORT_PAIR_LINK_RX_FREE (256 - (s.far f).pool) f
      (s.rowAck f row).sendIdle f

def execMsg (f : Fin 4) (row : BitVec 512) (rows : List (BitVec 512)) (seen : BitVec 8 × BitVec 8) (s : State) :
    Host.Outcome State Fault Refusal := s.on fun s => .next (s.msgIn f.val row rows seen)

/-- NAKs counted for a sequence number. -/
def nakCount (x : Nat × Nat) (seq : Nat) : Nat × Nat := if x.1 == seq && x.2 != 0 then (seq, x.2 + 1) else (seq, 1)

/-- Send the rows of the replay buffer again. -/
def Dev.replayRows (s : Dev) (f : Nat) : Dev :=
  (s.far f).replay.foldl (fun s x =>
    let s := s.emit (.row f (msgRow x.2 0 (s.far f).rxSeq))
    if msgLen x.2 == 1 then s.emit (.row f x.2.data) else s) s

/-- NAK (R306): the transmitter replays from the sequence asked for; the third NAK for one sequence retrains through LOCK. -/
def Dev.nakIn (s : Dev) (f : Nat) (row : BitVec 512) (seen : BitVec 8 × BitVec 8) : Dev :=
  if s.farRole f != 2 || s.farStage f != 5 || rowField row 0 1 != 0x4B then s
  else
    let seq := rowField row 4 2
    let s := (s.countRx f seen).modFar f (fun p => { p with naks := nakCount p.naks seq, replay := unacked seq p.replay })
    if 3 ≤ (s.far f).naks.2 then (s.modFar f (fun p => { p with naks := (0, 0) })).farRetrain f 3
    else (s.bump Reg.FARPORT_CNT_REPLAY_VALUE f).replayRows f

def execNak (f : Fin 4) (row : BitVec 512) (seen : BitVec 8 × BitVec 8) (s : State) : Host.Outcome State Fault Refusal := s.on fun s =>
  .next (s.nakIn f.val row seen)

/-- UNCORRECTABLE_CODEWORD (R306): the rows are discarded and NAK asks for the sequence expected; the third NAK for it retrains. -/
def Dev.badCodeword (s : Dev) (f : Nat) : Dev :=
  if s.farRole f != 2 || s.farStage f != 5 then s
  else
    let s := (s.bump Reg.FARPORT_CNT_RS_UNCORR_VALUE f).raise (farPage f) Reg.EV_FARPORT_RS_UNCORR
    let s := s.modFar f (fun p => { p with naksTx := nakCount p.naksTx p.rxSeq })
    let s := s.emit (.row f (nakRow (s.far f).rxSeq))
    if 3 ≤ (s.far f).naksTx.2 then (s.modFar f (fun p => { p with naksTx := (0, 0) })).farRetrain f 3 else s

def execUncorrectableCodeword (f : Fin 4) (s : State) : Host.Outcome State Fault Refusal := s.on fun s => .next (s.badCodeword f.val)

/-- REPLAY_ACK_TIMEOUT (R306): the oldest buffered row has had no acknowledgement for 10 µs. -/
def execReplayAckTimeout (f : Fin 4) (s : State) : Host.Outcome State Fault Refusal := s.on fun s =>
  .next (if s.farRole f.val == 2 && !(s.far f.val).replay.isEmpty then s.farRetrain f.val 3 else s)

/-! ### Detectors (R308, R312) -/

/-- Lane `l` loses lock: its LOCKED bit clears and the port retrains, a pair link through LOCK, a CXL link through recovery. -/
def Dev.lockLost (s : Dev) (f l : Nat) : Dev :=
  let m := s.fv Reg.FARPORT_LANE_STATUS_LOCKED f
  let s := s.setF Reg.FARPORT_LANE_STATUS_LOCKED (if bitN m l then m - 2 ^ l else m) f
  if bitN (s.fv Reg.FARPORT_LANE_STATUS_USED f) l then s.farRetrain f 3 else s

/-- Does the port have lane `l` in lock? -/
def Dev.laneLocked (s : Dev) (f l : Nat) : Bool := bitN (s.fv Reg.FARPORT_LANE_STATUS_LOCKED f) l

/-- BLOCK_LOCK_LOSS (R308): 16 bad headers in a window. -/
def Dev.blockLockLoss (s : Dev) (f l : Nat) : Dev :=
  if s.farRole f != 2 || !(s.laneLocked f l) then s
  else
    let s := (s.bumpBy Reg.FARPORT_CNT_HDR_BAD_VALUE 16 f).bump Reg.FARPORT_CNT_LOCK_LOSS_VALUE f
    (s.raise (farPage f) Reg.EV_FARPORT_LOCK_LOSS).lockLost f l

def execBlockLockLoss (f : Fin 4) (lane : Fin 8) (s : State) : Host.Outcome State Fault Refusal := s.on fun s => .next (s.blockLockLoss f.val lane.val)

/-- LOSS_OF_LOCK (R312): a CDR out of lock for 100 ns. -/
def execLossOfLock (f : Fin 4) (lane : Fin 8) (s : State) : Host.Outcome State Fault Refusal := s.on fun s =>
  .next (if s.farRole f.val != 0 && s.laneLocked f.val lane.val then s.lockLost f.val lane.val else s)

/-- LOSS_OF_SIGNAL (R307, R312): the lane is marked, and the port retrains: a pair link through TRAIN, a CXL link through
recovery; during a stage of the pair bring-up it fails the stage. -/
def Dev.signalLost (s : Dev) (f l : Nat) : Dev :=
  if s.farRole f == 0 || s.farStage f < 2 then s
  else
    let s := s.setF Reg.FARPORT_LANE_STATUS_LOS (Nat.lor (s.fv Reg.FARPORT_LANE_STATUS_LOS f) (2 ^ l)) f
    let m := s.fv Reg.FARPORT_LANE_STATUS_LOCKED f
    let s := s.setF Reg.FARPORT_LANE_STATUS_LOCKED (if bitN m l then m - 2 ^ l else m) f
    let s := (s.bump Reg.FARPORT_CNT_LOS_VALUE f).raise (farPage f) Reg.EV_FARPORT_LOS
    if s.farLinkUp f then
      (if bitN (s.fv Reg.FARPORT_LANE_STATUS_USED f) l then s.farRetrain f (if s.farRole f == 2 then 2 else 3) else s)
    else if s.farRole f == 2 then s.stageFail f 6
    else s

def execLossOfSignal (f : Fin 4) (lane : Fin 8) (s : State) : Host.Outcome State Fault Refusal := s.on fun s => .next (s.signalLost f.val lane.val)

/-- A setting moved by at most one code. -/
def stepInt (x : Int) : Move → Int
  | .stay => x
  | .up => x + 1
  | .down => x - 1

/-- ADAPTATION (R310): the hold takes the sampler lease at integrity rank, or meets BUSY and tries again; no setting moves by
more than one code. -/
def Dev.adapt (s : Dev) (f l : Nat) (c d : Move) : Dev :=
  if !(s.farLinkUp f) then s
  else
    let (ok, s) := s.askLease (lsSampler f l) hoADAPT rkINTEGRITY
    if !ok then s
    else (s.modFar f (fun p => { p with ctle := smod (fun _ => 0) p.ctle l (fun x => stepInt x c),
                                        dfe := smod (fun _ => 0) p.dfe l (fun x => stepInt x d) })).dropLease (lsSampler f l) hoADAPT

def execAdaptation (f : Fin 4) (lane : Fin 8) (ctle dfe : Move) (s : State) : Host.Outcome State Fault Refusal := s.on fun s =>
  .next (s.adapt f.val lane.val ctle dfe)

/-! ### Slips, eye scans and loops (R309, R311, R313) -/

def Dev.farTesting (s : Dev) (f : Nat) : Bool := s.farSt f == stTESTING

/-- A write of SLIP_CTL with GO: the lane slips COUNT bits and locks only at 64 good headers there. -/
def Dev.slipGo (s : Dev) (f : Nat) (good : Bool) : Dev :=
  if !(s.farTesting f) || !(s.fb Reg.FARPORT_SLIP_CTL_HUNT_DIS f) then s
  else
    let l := s.fv Reg.FARPORT_SLIP_CTL_LANE f
    let s := s.modFar f (fun p => { p with slips := smod (fun _ => 0) p.slips l (fun x => (x + s.fv Reg.FARPORT_SLIP_CTL_COUNT f) % 66) })
    let m := s.fv Reg.FARPORT_LANE_STATUS_LOCKED f
    let m := if bitN m l then m - 2 ^ l else m
    s.setF Reg.FARPORT_LANE_STATUS_LOCKED (if good then m + 2 ^ l else m) f

/-- A scan request ends without a point. -/
def Dev.scanRefuse (s : Dev) (f why : Nat) : Dev :=
  let s := (s.setF Reg.FARPORT_SCAN_STATUS_DONE 1 f).setF Reg.FARPORT_SCAN_STATUS_REASON why f
  (s.setF Reg.FARPORT_SCAN_STATUS_ERRORS 0 f).raise (farPage f) Reg.EV_FARPORT_SCAN_DONE

/-- A write of SCAN_CTL with GO (R310, R311): a point starts under the sampler lease. -/
def Dev.scanGo (s : Dev) (f : Nat) : Dev :=
  let l := s.fv Reg.FARPORT_SCAN_CTL_LANE f
  if (s.far f).scan.isSome then s
  else if s.farRole f == 0 || bitN (s.fv Reg.FARPORT_LANE_EXCL_LANES f) l || (s.farStage f < 3 && !(s.farTesting f)) then s.scanRefuse f rsSTATE
  else
    let (ok, s) := s.askLease (lsSampler f l) hoSCAN rkDIAG
    if !ok then s.scanRefuse f rsLEASE_BUSY
    else (s.modFar f (fun p => { p with scan := some l })).wrReg (farPage f * 4096 + 0x58) 0

/-- SCAN_POINT_END: the point has compared its bits, or the port retrained (R315). -/
def execScanPointEnd (f : Fin 4) (errors : Nat) (retrain : Bool) (s : State) : Host.Outcome State Fault Refusal := s.on fun s =>
  .next (s.scanEnd f.val (if retrain then 16777215 else errors))

/-- A write of LOOP_CTL (R313, R317): GO starts the loop MODE names, on a TESTING port; MODE 0 ends a far-end loop. -/
def Dev.loopWritten (s : Dev) (f : Nat) (v : Word32) : Dev :=
  let m := s.fv Reg.FARPORT_LOOP_CTL_MODE f
  if !(s.farTesting f) then s
  else if m == 0 then
    (if (s.far f).loop == 3 then
      ((s.modFar f (fun p => { p with loop := 0 })).setF Reg.FARPORT_LOOP_STATUS_DONE 1 f).raise (farPage f) Reg.EV_FARPORT_LOOP_DONE
     else s)
  else if bitN v.toNat 31 then (s.modFar f (fun p => { p with loop := m })).wrReg (farPage f * 4096 + 0x60) 0
  else s

/-- LOOP_END: a near-end loop ends after its bits, with the failing lanes among those selected; a far-end loop when MODE is 0. -/
def Dev.loopEnd (s : Dev) (f : Nat) (fail : BitVec 8) (errors : Nat) : Dev :=
  let k := (s.far f).loop
  if k == 0 || (k == 3 && s.fv Reg.FARPORT_LOOP_CTL_MODE f != 0) then s
  else
    let s := s.modFar f (fun p => { p with loop := 0 })
    let s := if k == 3 then s else
      (s.setF Reg.FARPORT_LOOP_STATUS_FAIL_LANES (Nat.land fail.toNat (s.fv Reg.FARPORT_LOOP_CTL_LANES f)) f).setSat
        Reg.FARPORT_LOOP_STATUS_ERRORS errors f
    (s.setF Reg.FARPORT_LOOP_STATUS_DONE 1 f).raise (farPage f) Reg.EV_FARPORT_LOOP_DONE

def execLoopEnd (f : Fin 4) (failLanes : BitVec 8) (errors : Nat) (s : State) : Host.Outcome State Fault Refusal := s.on fun s =>
  .next (s.loopEnd f.val failLanes errors)

/-- A port leaves TESTING: loops stop, hunting is on again (R309, R315). -/
def Dev.farLeaveTest (s : Dev) (f : Nat) : Dev :=
  (s.modFar f (fun p => { p with loop := 0, slips := [] })).setF Reg.FARPORT_SLIP_CTL_HUNT_DIS 0 f

/-! ### The CXL root port (R298 to R302) -/

/-- CXL_RECEIVER_DETECTED: receiver detection ends. With a partner the port leaves OFFLINE and trains; with none it is OFFLINE. -/
def Dev.cxlDetected (s : Dev) (f : Nat) (found : Bool) : Dev :=
  if s.farRole f == 1 && s.farStage f == 1 && (s.farSt f == stOFFLINE || s.farSt f == stKINDLING || s.farSt f == stFENCED) then
    (if found then (s.setStage f 2).farEnter f stKINDLING else if s.farSt f == stKINDLING then s.farEnter f stOFFLINE else s)
  else s

def execCxlReceiverDetected (f : Fin 4) (found : Bool) (s : State) : Host.Outcome State Fault Refusal := s.on fun s =>
  if s.fb Reg.MODES_STATUS_PADS_LATCHED || !s.pins.refclk then .next s else .next (s.cxlDetected f.val (found && s.pins.vddaFar))

/-- CXL_LINK_TRAINED (R298): L0 at 64 or 32 GT/s on a usable width, or a failure. A link in recovery that was serving serves again;
otherwise enumeration starts. -/
def Dev.cxlTrained (s : Dev) (f : Nat) (o : CxlTrainObs) : Dev :=
  if s.farRole f != 1 || !(s.farStage f == 2 || s.farStage f == 3) then s
  else match o with
  | .failed => s.stageFail f 1
  | .trained rate lanes rev =>
    if rate.val == 0 then s.stageFail f 1
    else if widthOf lanes.toNat (s.fv Reg.FARPORT_LANE_EXCL_LANES f) == 0 then s.stageFail f 5
    else
      let r := if s.fb Reg.FARPORT_CTL_MAX_RATE f then 1 else rate.val
      let s := (s.setLanes f lanes.toNat rev).setF Reg.FARPORT_STATUS_RATE r f
      let s := if r == 1 then s.raise (farPage f) Reg.EV_FARPORT_DEGRADED else s
      let s := s.setF Reg.FARPORT_STATUS_FAILS 0 f
      if s.farStage f == 3 && s.fb Reg.FARPORT_CXL_STATUS_MEM_EN f then ((s.setStage f 5).noteBlocked.farPump f).pump
      else (s.setStage f 4).wrReg (farPage f * 4096 + 0x68) 0

def execCxlLinkTrained (f : Fin 4) (o : CxlTrainObs) (s : State) : Host.Outcome State Fault Refusal := s.on fun s =>
  if s.fb Reg.MODES_STATUS_PADS_LATCHED || !s.pins.refclk then .next s else .next (s.cxlTrained f.val (if s.pins.vddaFar then o else .failed))

/-- Is an enumeration going on? -/
def Dev.enumerating (s : Dev) (f : Nat) : Bool :=
  s.farRole f == 1 && s.farStage f == 4 && s.fv Reg.FARPORT_CXL_STATUS_ENUM_ERR f == 0

/-- The ENUM_ERR that what was found gives, 0 when there is none; where several apply, the lowest code (log 43). -/
def enumErr (o : EnumObs) : Nat :=
  if o.devices == 0 && o.others == 0 then 1
  else if o.others != 0 then 2
  else if o.deep then 3
  else if 8 < o.devices then 4
  else if !o.commits then 5
  else 0

/-- An enumeration ends with an error: the port stays KINDLING and blocked. -/
def Dev.enumFail (s : Dev) (f err : Nat) : Dev :=
  (s.setF Reg.FARPORT_CXL_STATUS_ENUM_ERR err f).raise (farPage f) Reg.EV_FARPORT_ENUM

/-- ENUMERATION_END (R300): MEM_EN and ENUM_DONE, and the port is ONLINE; or an ENUM_ERR. -/
def Dev.enumEnd (s : Dev) (f : Nat) (o : EnumObs) : Dev :=
  if !(s.enumerating f) then s
  else
    let s := (s.setF Reg.FARPORT_CXL_STATUS_SWITCH (b2n o.switch) f).setF Reg.FARPORT_CXL_STATUS_DEVICES (min 8 o.devices) f
    let err := enumErr o
    if err != 0 then s.enumFail f err
    else
      let s := (s.setF Reg.FARPORT_CXL_STATUS_MEM_EN 1 f).setF Reg.FARPORT_CXL_STATUS_ENUM_DONE 1 f
      let s := (s.raise (farPage f) Reg.EV_FARPORT_ENUM).raise (farPage f) Reg.EV_FARPORT_LINK_UP
      ((s.setStage f 5).farEnter f stONLINE).noteBlocked.pump

def execEnumerationEnd (f : Fin 4) (o : EnumObs) (s : State) : Host.Outcome State Fault Refusal := s.on fun s => .next (s.enumEnd f.val o)

/-- ENUMERATION_TIMEOUT (R300): ENUM_ERR 6. -/
def execEnumerationTimeout (f : Fin 4) (s : State) : Host.Outcome State Fault Refusal := s.on fun s =>
  .next (if s.enumerating f.val then s.enumFail f.val 6 else s)

/-- Is there an enabled far window that names port `f`? -/
def Dev.portNamed (s : Dev) (f : Nat) : Bool :=
  (List.range 64).any (fun k => s.fb Reg.HAULAGE_FWk_CTL_EN 0 k && s.fv Reg.HAULAGE_FWk_CTL_PORT 0 k == f)

/-- May decoder `k` commit (R301)? -/
def Dev.hdmOk (s : Dev) (f k : Nat) : Bool :=
  let b := s.fv Reg.FARPORT_HDMk_BASE_ADDR f k
  let u := s.fv Reg.FARPORT_HDMk_SIZE_UNITS f k
  u != 0 && (List.range 8).all (fun j => j == k || !(s.fb Reg.FARPORT_HDMk_CTL_COMMITTED f j) ||
    s.fv Reg.FARPORT_HDMk_BASE_ADDR f j + s.fv Reg.FARPORT_HDMk_SIZE_UNITS f j ≤ b || b + u ≤ s.fv Reg.FARPORT_HDMk_BASE_ADDR f j)

/-- A write of HDMk_CTL (R301); `old` is the register before it. -/
def Dev.hdmCtlWritten (s : Dev) (f k : Nat) (old : Word32) : Dev :=
  let on := s.fb Reg.FARPORT_HDMk_CTL_COMMIT f k
  if bitN old.toNat 1 then
    let s := s.wrReg (Reg.FARPORT_HDMk_CTL_COMMIT.addr f k) old
    if on || s.portNamed f then s
    else (s.setF Reg.FARPORT_HDMk_CTL_COMMIT 0 f k).setF Reg.FARPORT_HDMk_CTL_COMMITTED 0 f k
  else if on then
    let ok := s.hdmOk f k
    (s.setF Reg.FARPORT_HDMk_CTL_COMMITTED (b2n ok) f k).setF Reg.FARPORT_HDMk_CTL_ERR (b2n (!ok)) f k
  else s.setF Reg.FARPORT_HDMk_CTL_ERR 0 f k

/-- The completion of a far request reaches who made it (R56, R58, R59, R273). -/
def Dev.farDone (s : Dev) (f : Nat) (x : FarTx) (k : CplKind) : Dev :=
  let fill (r : Result) (s : Dev) : Dev := match x.org with
    | .fill i l => s.modHaul (fun p => { p with farArrived := p.farArrived ++ [(f, i, l, r)] })
    | .direct q => if r == .poison then (s.answer q .poison).record hauPage 0x102 sevERROR
        [frameOfLine q.line, sectorOfLine q.line, f, 0] else s.answer q r
    | .corr n id idx => (match r with
        | .data d _ => s.farFix n id idx d 0
        | _ => s.farFix n id idx 0 poisonBad)
    | .wback i _ => s.setWback i ((s.wback i).map (fun w => { w with acks := w.acks + 1 }))
  match k with
  | .error =>
    let s := s.bump Reg.FARPORT_CNT_CPL_ERR_VALUE f
    (match x.org with
     | .corr n id idx => s.farFix n id idx 0 poisonBad
     | o => s.farFailed o)
  | .poison => fill .poison (if x.write then s else s.bump Reg.FARPORT_CNT_POISON_IN_VALUE f)
  | .data d => fill (.data d 0) s
  | .done => fill (.data 0 0) s

/-- Take a far request off the port's list. -/
def Dev.takeTx (s : Dev) (f tag : Nat) : Option (FarTx × Dev) :=
  match (s.far f).cxl.find? (fun x => x.tag == tag) with
  | some x => some (x, s.modFar f (fun p => { p with cxl := p.cxl.filter (fun y => y.tag != tag) }))
  | none => none

/-- CXL_COMPLETION (R302): a completion of a request no longer outstanding is discarded. -/
def Dev.cxlCpl (s : Dev) (f tag : Nat) (o : CplObs) : Dev :=
  if s.farRole f != 1 || s.farStage f != 5 then s
  else
    let s := s.setF Reg.FARPORT_CXL_STATUS_DEVLOAD o.devload.toNat f
    match s.takeTx f tag with
    | none => s
    | some (x, s) => ((s.farDone f x o.kind).countCell (0x40 + f) 0x48 1).farPump f

def execCxlCompletion (f : Fin 4) (tag : Nat) (o : CplObs) (s : State) : Host.Outcome State Fault Refusal := s.on fun s => .next (s.cxlCpl f.val tag o)

/-- FAR_TIMEOUT (R302): no completion within TIMEOUT.US. -/
def Dev.farTimeout (s : Dev) (f tag : Nat) : Dev :=
  match s.takeTx f tag with
  | none => s
  | some (x, s) =>
    let s := (s.bump Reg.FARPORT_CNT_FAR_TIMEOUT_VALUE f).raise (farPage f) Reg.EV_FARPORT_FAR_TIMEOUT
    (match x.org with
     | .corr n id idx => s.farFix n id idx 0 poisonBad
     | o => s.farFailed o).farPump f

def execFarTimeout (f : Fin 4) (tag : Nat) (s : State) : Host.Outcome State Fault Refusal := s.on fun s => .next (s.farTimeout f.val tag)

/-- DEVICE_INITIATED_REQUEST (R299): discarded, with a record. -/
def execDeviceInitiatedRequest (f : Fin 4) (s : State) : Host.Outcome State Fault Refusal := s.on fun s =>
  .next (if s.farRole f.val == 1 && 4 ≤ s.farStage f.val then s.record (farPage f.val) codeOTHER sevWARNING [] else s)

/-! ### Register writes (R295, R301, R309, R317) -/

/-- A write of CTL: a second ROLE 2 is stored as 0; DISABLE takes the link down or starts bring-up. -/
def Dev.farCtlWritten (s : Dev) (f : Nat) (old : Word32) : Dev :=
  let two := s.fv Reg.FARPORT_CTL_ROLE f == 2 && (List.range 4).any (fun g => g != f &&
    (s.fv Reg.FARPORT_CTL_ROLE g == 2 || s.fv Reg.FARPORT_STATUS_ACTIVE_ROLE g == 2))
  let s := if two then s.setF Reg.FARPORT_CTL_ROLE 0 f else s
  let dis := s.fb Reg.FARPORT_CTL_DISABLE f
  let st := s.farSt f
  if dis == bitN old.toNat 16 || st == stRESETTING || st == stFAILED || st == stTESTING then s
  else if dis then (s.farDown f).farEnter f stOFFLINE
  else s.farBringUp f

/-- What a write of a FARPORT register does besides storing it; `off` is its offset, `old` the register before it. -/
def Dev.farWritten (s : Dev) (f off : Nat) (old v : Word32) (good : Bool) : Dev :=
  let a := farPage f * 4096 + off
  if off == 0x40 then s.farCtlWritten f old
  else if off == 0x50 then (if bitN v.toNat 31 then s.slipGo f good else s)
  else if off == 0x54 then (if bitN v.toNat 31 then s.scanGo f else s)
  else if off == 0x5C then s.loopWritten f v
  else if 0x100 ≤ off && off < 0x180 then
    let k := (off - 0x100) / 16
    if off % 16 == 8 then s.hdmCtlWritten f k old
    else if s.fb Reg.FARPORT_HDMk_CTL_COMMITTED f k then s.wrReg a old else s
  else s

end Sys2Proof.Machine
end

