-- ==== Sys2Proof/Machine/Pair.lean ====
section
/-!
DEFINITION. Machine/Pair.lean: pairing (R319 to R331): the messages received on the pair link, candles, mirror windows, handover and
takeover, resynchronisation, and the standby image.
-/
namespace Sys2Proof.Machine

/-- The oldest received message of port `f` for which `p` holds, and the state without it. -/
def Dev.takeMsg (s : Dev) (f : Nat) (p : PairMsg → Bool) : Option (PairMsg × Dev) :=
  match (s.far f).rxMsgs.find? p with
  | some m => some (m, s.modFar f (fun q => { q with rxMsgs := dropFirst (fun x => x == m) q.rxMsgs }))
  | none => none

/-! ### Copies at the partner (R322, R325, R328) -/

/-- Are copies of a message's sender accepted: a SECONDARY of the sender's epoch (R319, R327, R328)? -/
def Dev.acceptsCopies (s : Dev) (m : PairMsg) : Bool :=
  s.role == roleSECONDARY && m.epoch == s.fv Reg.PAIR_EPOCH_EPOCH && !(s.fb Reg.PAIR_STATUS_CONFLICT)

/-- Refuse a copy: reason permission (log 44). -/
def Dev.refuseCopy (s : Dev) (f : Nat) (m : PairMsg) : Dev :=
  let s := if m.mtype == 1 then s.poolFree f else s
  s.sendPair f { mtype := 4, mseq := m.mseq, addr := m.addr, body := [4] }

/-- A copy or release of `m` goes to the frame table as an ordinary write (R322), a full line as a WR64. -/
def Dev.applyCopy (s : Dev) (f : Nat) (m : PairMsg) (op : MOp) : Dev :=
  let maskOk := parityOf 8 m.mask.toNat == m.mpar
  let sig := m.flags / 2 % 2 == 1 || !maskOk
  let full := op == .wrm && (sig || m.mask == fullMask)
  let r : Req := { id := s.nextId, org := .mirror f m.mseq, op := if full then .wr else op, cls := m.cls, line := m.addr,
                   data := if sig then 0 else m.data, par := if sig then lineParity 0 ^^^ poisonBad else m.par,
                   mask := if sig then fullMask else m.mask }
  { s.fresh with space := { s.space with lookupQ := s.space.lookupQ ++ [r] } }

/-- The next copy or release of port `f`, if it is of type `t`: they are carried out in the order in which they came. -/
def Dev.copyIn (s : Dev) (f t : Nat) (op : MOp) : Dev :=
  match s.takeMsg f (fun m => m.mtype == 1 || m.mtype == 2) with
  | none => s
  | some (m, s') =>
    if m.mtype != t then s
    else if s'.acceptsCopies m then s'.applyCopy f m op
    else s'.refuseCopy f m

/-- MWRITE. -/
def execMwrite (f : Fin 4) (s : State) : Host.Outcome State Fault Refusal := s.on fun s => .next (s.copyIn f.val 1 .wrm)
/-- MRELEASE. -/
def execMrelease (f : Fin 4) (s : State) : Host.Outcome State Fault Refusal := s.on fun s => .next (s.copyIn f.val 2 (.hint 4 1 0))

/-! ### Reports at the PRIMARY (R323 to R325, R327) -/

/-- A handover ends at the PRIMARY once its mirror queue and its copies are empty: it takes ROLE 2 and the new epoch and sends
HANDOVER back. -/
def nextEpoch (e : Nat) : Nat := if e == 65535 then 1 else e + 1
def Dev.handoverCheck (s : Dev) : Dev :=
  if s.fb Reg.PAIR_STATUS_HANDOVER && s.role == rolePRIMARY && s.pair.lagQ.isEmpty && s.pair.copies.isEmpty && s.pair.await.isEmpty then
    match s.pairPort with
    | some f =>
      let s := (s.setF Reg.PAIR_CTL_ROLE roleSECONDARY).setF Reg.PAIR_EPOCH_EPOCH (nextEpoch (s.fv Reg.PAIR_EPOCH_EPOCH))
      (s.setF Reg.PAIR_STATUS_HANDOVER 0).sendPair f { mtype := 9 }
    | none => s
  else s

/-- Take a copy off the list of those awaiting a report. -/
def Dev.takeCopy (s : Dev) (mseq : Nat) : Option (MirCopy × Dev) :=
  match s.pair.await.find? (fun c => c.mseq == mseq) with
  | some c => some (c, s.modPair (fun p => { p with await := dropFirst (fun x => x.mseq == mseq) p.await }))
  | none => none

/-- The answer a copy was keeping. -/
def Dev.copyAck (s : Dev) (c : MirCopy) : Dev :=
  match c.ans with
  | some (r, res) => s.answer r res
  | none => s

/-- MACK: the copy is held at the partner; a strict write completes. -/
def Dev.mackIn (s : Dev) (f : Nat) : Dev :=
  match s.takeMsg f (fun m => m.mtype == 3) with
  | none => s
  | some (m, s) =>
    match s.takeCopy m.mseq with
    | none => s
    | some (c, s) =>
      let s := if c.release then s else s.bump Reg.PAIR_CNT_MIRROR_LINES_VALUE
      ((s.copyAck c).noteLag).handoverCheck

def execMack (f : Fin 4) (s : State) : Host.Outcome State Fault Refusal := s.on fun s => .next (s.mackIn f.val)

/-- MREFUSE: the window is BROKEN, the frame enters the resync list, a strict write gets its ACK. -/
def Dev.mrefuseIn (s : Dev) (f : Nat) : Dev :=
  match s.takeMsg f (fun m => m.mtype == 4) with
  | none => s
  | some (m, s) =>
    match s.takeCopy m.mseq with
    | none => s
    | some (c, s) =>
      let s := (if c.win < 16 then s.setF Reg.PAIR_MWj_CTL_BROKEN 1 0 c.win else s).raiseRec pgPAIR Reg.EV_PAIR_MIRROR_BROKEN sevERROR [c.win, c.line, m.body.headD 0]
      (((s.noteResync (frameOfLine c.line)).copyAck c).noteLag).handoverCheck

def execMrefuse (f : Fin 4) (s : State) : Host.Outcome State Fault Refusal := s.on fun s => .next (s.mrefuseIn f.val)

/-- STRICT_COPY_TIMEOUT (R323): the host receives NACK_RETRY; the copy stays queued. -/
def Dev.strictTimeout (s : Dev) (mseq : Nat) : Dev :=
  match (s.pair.await ++ s.pair.copies).find? (fun c => c.mseq == mseq && c.ans.isSome) with
  | none => s
  | some c =>
    let drop (l : List MirCopy) : List MirCopy := l.map (fun x => if x.mseq == mseq then { x with ans := none } else x)
    let s := s.modPair (fun p => { p with await := drop p.await, copies := drop p.copies })
    match c.ans with
    | some (r, _) => s.answer r (.retry 100)
    | none => s

def execStrictCopyTimeout (mseq : BitVec 16) (s : State) : Host.Outcome State Fault Refusal := s.on fun s => .next (s.strictTimeout mseq.toNat)

/-- The contents a line has now in its slot; none where no sector of the stack holds it. -/
def Dev.slotLine (s : Dev) (line : Nat) : Option (Line × BitVec 64) :=
  match s.entry (frameOfLine line) with
  | none => none
  | some e =>
    let k := e.sec (sectorOfLine line)
    if k == secINVALID then none
    else if k == secZERO then some (0, 0)
    else some (s.lineView e.shaft (e.slot * 8192 + line % 8192))

/-- LAGGED_COPY_SEND (R324): a queued line is sent with its contents as they stand, while the partner takes copies and a credit is
held; the class with the greatest key first (R305). -/
def Dev.laggedSend (s : Dev) : Dev :=
  match s.pairPort with
  | none => s
  | some f =>
    if !(s.inOrder) || !(s.pairActive f) || (s.far f).credit == 0 then s
    else match bestBy (fun x : Nat × Nat × Nat => s.key x.2.1 0 false) s.pair.lagQ with
    | none => s
    | some (l, c, t) =>
      let s := s.modPair (fun p => { p with lagQ := dropFirst (fun x => x.1 == l) p.lagQ })
      let x := (s.slotLine l).getD (0, poisonBad)
      (s.addCopy ⟨0, false, l, c, fullMask, x.1, x.2, (s.mirrorWin (frameOfLine l)).getD 16, false, none, false, t⟩).noteLag

def execLaggedCopySend (s : State) : Host.Outcome State Fault Refusal := s.on fun s => .next s.laggedSend

/-- LAG_TIME_LIMIT (R324): the oldest line of the lag is older than LAG_CTL.TIME_US. -/
def execLagTimeLimit (s : State) : Host.Outcome State Fault Refusal := s.on fun s =>
  .next (if s.lag == 0 then s else (s.modPair (fun p => { p with lagOld := true })).noteLag)

/-- LAG_AGE: µs since the oldest line of the lag was queued, saturating. -/
def Dev.lagAge (s : Dev) : Word32 :=
  let ts := s.pair.lagQ.map (fun x => x.2.2) ++ ((s.pair.copies ++ s.pair.await).filter (fun c => !c.strict && !c.resync)).map (·.since)
  match ts with
  | [] => 0
  | t :: l => BitVec.ofNat 32 (min 65535 ((s.time - l.foldl min t) / 100))

/-! ### Candles (R327, R328) -/

/-- CANDLE: roles, epochs and CFG_CRC are compared, and the partner is up. One that returns with roles and epochs in order is sent every
copy queued or awaiting MACK (R329). -/
def Dev.candleIn (s : Dev) (f : Nat) : Dev :=
  match s.takeMsg f (fun m => m.mtype == 5) with
  | none => s
  | some (m, s) =>
    let b (i : Nat) : Nat := m.body.getD i 0
    let was := s.inOrder && s.fb Reg.PAIR_STATUS_PARTNER_UP
    let s := s.modPair (fun p => { p with heard := true, missed := 0 })
    let s := s.peerSeen (b 0 % 4) m.epoch (b 2 + b 3 * 2 ^ 8 + b 4 * 2 ^ 16 + b 5 * 2 ^ 24)
    let s := s.partnerUp
    if s.inOrder && !was then s.resendCopies else s.pumpCopies

def execCandle (f : Fin 4) (s : State) : Host.Outcome State Fault Refusal := s.on fun s => .next (s.candleIn f.val)

/-- CANDLE_SEND: a period ends: a missed candle is counted, and while the link is ACTIVE one is sent. -/
def Dev.candleSend (s : Dev) : Dev :=
  let s := if s.fb Reg.PAIR_STATUS_PARTNER_UP && !s.pair.heard then
      (s.modPair (fun p => { p with missed := p.missed + 1 })).bump Reg.PAIR_CNT_CANDLE_MISS_VALUE
    else s
  let s := s.modPair (fun p => { p with heard := false })
  match s.pairPort with
  | none => s
  | some f =>
    if s.pairActive f then
      s.sendPair f { mtype := 5, body := [s.role, 0] ++ bytesLE 4 s.cfgCrc.toNat ++ bytesLE 4 s.lag }
    else s

def execCandleSend (s : State) : Host.Outcome State Fault Refusal := s.on fun s => .next s.candleSend

/-- PARTNER_DARK: no candle has come for MISS_LIMIT periods. -/
def execPartnerDark (s : State) : Host.Outcome State Fault Refusal := s.on fun s => .next (if s.pairPort.isSome then s.partnerDark else s)

/-! ### Correction source 4 and the standby image (R326, R330) -/

/-- RREQ: the partner's line is read without allocation; its answer goes back as RDATA. -/
def Dev.rreqIn (s : Dev) (f : Nat) : Dev :=
  match s.takeMsg f (fun m => m.mtype == 6) with
  | none => s
  | some (m, s) =>
    let r : Req := { id := s.nextId, org := .rdata f m.mseq, op := .rdNa, cls := m.cls, line := m.addr }
    { s.fresh with space := { s.space with lookupQ := s.space.lookupQ ++ [r] } }

def execRreq (f : Fin 4) (s : State) : Host.Outcome State Fault Refusal := s.on fun s => .next (s.rreqIn f.val)

/-- RDATA: the line comes for the read that asked for it; a POISON flag or bad parity sends the read on to source 5. -/
def Dev.rdataIn (s : Dev) (f : Nat) : Dev :=
  match s.takeMsg f (fun m => m.mtype == 7) with
  | none => s
  | some (m, s) =>
    match s.pair.asked.find? (fun a => a.2.2 == m.mseq) with
    | none => s
    | some a =>
      let s := s.modPair (fun p => { p with asked := dropFirst (fun x => x == a) p.asked })
      s.pairFix a.1 a.2.1 (if m.flags / 2 % 2 == 1 || badBytes m.data m.par != 0 then none else some m.data)

def execRdata (f : Fin 4) (s : State) : Host.Outcome State Fault Refusal := s.on fun s => .next (s.rdataIn f.val)

/-- Is `off` an offset of the register or register array that holds field `f`? -/
def Fld.isAt (f : Fld) (count off : Nat) : Bool :=
  if f.stride == 0 then off == f.off
  else f.off ≤ off && (off - f.off) % f.stride == 0 && (off - f.off) / f.stride < count

/-- Is the register at `a` marked MIRRORED (R330)? -/
def isMirrored (a : Nat) : Bool :=
  let page := a / 4096
  let off := a % 4096
  let rw := match regAt a with
    | some r => r.fields.any (fun f => f.acc == .rw)
    | none => false
  (page == 0x09 && (off == 0x040 || Reg.CLASSES_URG_FLOOR_L1.isAt 1 off || off == Reg.CLASSES_URG_CTL_FILTER.off)) ||
  (0x40 ≤ page && page < 0x44 && 0x40 ≤ off && rw) ||
  (page == 0x0B && (Reg.DISPATCH_CTL_PLACE_MODE.isAt 1 off || Reg.DISPATCH_RINGk_BASE_LO_ADDR.isAt 64 off ||
    Reg.DISPATCH_RINGk_BASE_HI_ADDR.isAt 64 off || Reg.DISPATCH_RINGk_CTL_EN.isAt 64 off))

/-- CFGWR: the standby image of a SECONDARY takes a register. -/
def Dev.cfgwrIn (s : Dev) (f : Nat) : Dev :=
  match s.takeMsg f (fun m => m.mtype == 8) with
  | none => s
  | some (m, s) =>
    let n (i : Nat) : Nat := m.body.getD i 0 + m.body.getD (i + 1) 0 * 2 ^ 8 + m.body.getD (i + 2) 0 * 2 ^ 16 + m.body.getD (i + 3) 0 * 2 ^ 24
    if s.role == roleSECONDARY && isMirrored (n 0) then s.modPair (fun p => { p with standby := sput p.standby (n 0) (BitVec.ofNat 32 (n 4)) }) else s

def execCfgwr (f : Fin 4) (s : State) : Host.Outcome State Fault Refusal := s.on fun s => .next (s.cfgwrIn f.val)

/-- A MIRRORED register has taken effect: on a PRIMARY it is copied to the partner. -/
def Dev.mirrorReg (s : Dev) (a : Nat) : Dev :=
  match s.pairPort with
  | some f => if isMirrored a && s.inOrder && s.pairActive f then
      s.sendPair f { mtype := 8, body := bytesLE 4 a ++ bytesLE 4 (s.rdReg a).toNat } else s
  | none => s

/-! ### Takeover (R327, R330) -/

/-- The standby image is applied in register order, every ring disabled with HEAD and TAIL 0. -/
def Dev.applyStandby (s : Dev) : Dev :=
  let s := s.pair.standby.foldl (fun s e => s.wrReg e.1 e.2) s
  let s := (List.range 64).foldl (fun s k =>
    ((s.setF Reg.DISPATCH_RINGk_CTL_EN 0 0 k).setF Reg.DISPATCH_RINGk_STATUS_HEAD 0 0 k).setF Reg.DISPATCH_RINGk_STATUS_TAIL 0 0 k) s
  (List.range 64).foldl (fun s k => s.dropFetch k) s

/-- Takeover's steps: EPOCH rises, the standby image is applied, ROLE 1. -/
def Dev.takeOver (s : Dev) : Dev :=
  let s := s.setF Reg.PAIR_EPOCH_EPOCH (nextEpoch (s.fv Reg.PAIR_EPOCH_EPOCH))
  let s := (s.applyStandby.wlTrigger).setF Reg.PAIR_CTL_ROLE rolePRIMARY
  let s := (s.setF Reg.PAIR_STATUS_HANDOVER 0).modPair (fun p => { p with handover := false })
  s.raiseRec pgPAIR Reg.EV_PAIR_TAKEOVER sevWARNING [s.fv Reg.PAIR_EPOCH_EPOCH]

/-- A TAKEOVER write with GO (R327): from a dark partner at once; otherwise a handover starts. -/
def Dev.takeoverWritten (s : Dev) (v : Word32) : Dev :=
  if !(bitN v.toNat 31) then s
  else if s.role != roleSECONDARY || bitsOf v 15 0 != s.fv Reg.PAIR_EPOCH_EPOCH then s.bump Reg.PAIR_CNT_TAKEOVER_REJECT_VALUE
  else if s.fb Reg.PAIR_STATUS_PARTNER_DARK then s.takeOver
  else
    let s := (s.setF Reg.PAIR_STATUS_HANDOVER 1).modPair (fun p => { p with handover := true })
    match s.pairPort with
    | some f => s.sendPair f { mtype := 9 }
    | none => s

/-- HANDOVER: on a PRIMARY it starts the handover; on the SECONDARY that asked for it, it completes it. -/
def Dev.handoverIn (s : Dev) (f : Nat) : Dev :=
  match s.takeMsg f (fun m => m.mtype == 9) with
  | none => s
  | some (_, s) =>
    if s.role == rolePRIMARY then (s.setF Reg.PAIR_STATUS_HANDOVER 1).handoverCheck
    else if s.role == roleSECONDARY && s.pair.handover then s.takeOver
    else s

def execHandover (f : Fin 4) (s : State) : Host.Outcome State Fault Refusal := s.on fun s => .next (s.handoverIn f.val)

/-- HANDOVER_TIMEOUT: the takeover is abandoned; EPOCH and ROLE stay, and the old PRIMARY resumes. -/
def execHandoverTimeout (s : State) : Host.Outcome State Fault Refusal := s.on fun s =>
  .next (if s.fb Reg.PAIR_STATUS_HANDOVER then (s.setF Reg.PAIR_STATUS_HANDOVER 0).modPair (fun p => { p with handover := false }) else s)

/-! ### Mirror windows (R321) -/

/-- The frames of window `j`. -/
def Dev.mwRange (s : Dev) (j : Nat) : Nat × Nat :=
  (s.fv Reg.PAIR_MWj_BASE_FRAME 0 j, s.fv Reg.PAIR_MWj_BASE_FRAME 0 j + s.fv Reg.PAIR_MWj_SIZE_FRAMES 0 j - 1)

def Dev.mwOn (s : Dev) (j : Nat) : Bool := s.fb Reg.PAIR_MWj_CTL_EN 0 j && !(s.fb Reg.PAIR_MWj_CTL_ENABLING 0 j)

/-- OVERLAP: an enabled window that shares a frame with an enabled lower-numbered one. -/
def Dev.mwOverlaps (s : Dev) : Dev :=
  (List.range 16).foldl (fun s j => s.setF Reg.PAIR_MWj_CTL_OVERLAP (b2n (s.mwOn j && (List.range j).any (fun i =>
    s.mwOn i && (s.mwRange i).1 ≤ (s.mwRange j).2 && (s.mwRange j).1 ≤ (s.mwRange i).2))) 0 j) s

/-- CFG_CRC has changed: MISMATCH follows while the partner is up. -/
def Dev.mwChanged (s : Dev) : Dev :=
  let s := s.mwOverlaps
  if s.fb Reg.PAIR_STATUS_PARTNER_UP then s.noteMismatch.pumpCopies else s

/-- A write of MWj_CTL; `old` is the register before it. While EN is 1 only EN changes; enabling starts the birth check. -/
def Dev.mwCtlWritten (s : Dev) (j : Nat) (old : Word32) : Dev :=
  let on := s.fb Reg.PAIR_MWj_CTL_EN 0 j
  if bitN old.toNat 0 then
    let s := s.setF Reg.PAIR_MWj_CTL_MODE (bitsOf old 1 1) 0 j
    if on then s else (s.setF Reg.PAIR_MWj_CTL_ENABLING 0 0 j).mwChanged
  else if on then s.setF Reg.PAIR_MWj_CTL_ENABLING 1 0 j
  else s.mwChanged

/-- A write of MWj_BASE or MWj_SIZE, discarded while EN is 1; `old` is the register before it, `oldSize` MWj_SIZE before it. -/
def Dev.mwRangeWritten (s : Dev) (j a : Nat) (old oldSize : Word32) : Dev :=
  if s.fb Reg.PAIR_MWj_CTL_EN 0 j then (s.wrReg (0xC404 + 16 * j) oldSize).wrReg a old else s.mwChanged

/-- MW_BIRTH_CHECK_END: with a frame of the range born, EN clamps to 0. -/
def Dev.mwCheckEnd (s : Dev) (j : Nat) : Dev :=
  if !(s.fb Reg.PAIR_MWj_CTL_ENABLING 0 j) then s
  else
    let s := s.setF Reg.PAIR_MWj_CTL_ENABLING 0 0 j
    let r := s.mwRange j
    let s := if s.space.born.any (fun iv => iv.1 ≤ r.2 && r.1 ≤ iv.2) then s.setF Reg.PAIR_MWj_CTL_EN 0 0 j else s
    s.mwChanged

def execMwBirthCheckEnd (j : Fin 16) (s : State) : Host.Outcome State Fault Refusal := s.on fun s => .next (s.mwCheckEnd j.val)

/-! ### Resynchronisation (R329) -/

/-- The ranges of every enabled mirror window. -/
def Dev.mirrorRanges (s : Dev) : ISet :=
  (List.range 16).foldl (fun t j => if s.mwOn j then iadd t (s.mwRange j).1 (s.mwRange j).2 else t) []

/-- RESYNCING reads 1 on each window with a frame still to send. -/
def Dev.showResync (s : Dev) : Dev :=
  (List.range 16).foldl (fun s j => s.setF Reg.PAIR_MWj_CTL_RESYNCING (b2n (s.pair.resyncing && s.mwOn j &&
    s.pair.todo.any (fun iv => iv.1 ≤ (s.mwRange j).2 && (s.mwRange j).1 ≤ iv.2))) 0 j) s

/-- A resync starts: the listed frames, or every frame of every mirror window. -/
def Dev.resyncStart (s : Dev) : Dev :=
  let whole := s.fb Reg.PAIR_RESYNC_STATUS_FULL || s.pair.fullDue
  let todo := if whole then s.mirrorRanges else s.pair.resync.foldl (fun t f => iadd t f f) []
  (s.modPair (fun p => { p with todo := todo, whole := whole, resyncing := true, fullDue := false })).showResync

/-- A copy a resync makes, under class 61. -/
def resyncCopy (win line : Nat) (release : Bool) (x : Line × BitVec 64) : MirCopy :=
  ⟨0, release, line, 61, if release then 0 else fullMask, x.1, x.2, win, false, none, true, 0⟩

/-- Ask the frame table for a line as RD64_NA reads it. -/
def Dev.resyncRead (s : Dev) (line : Nat) : Dev :=
  let r : Req := { id := s.nextId, org := .resync line, op := .rdNa, cls := 61, line := line }
  { s.fresh with space := { s.space with lookupQ := s.space.lookupQ ++ [r] } }

/-- The lines of one frame: those the stack holds are copied, the others are read without allocation. -/
def Dev.resyncFrame (s : Dev) (f : Nat) : Dev :=
  let s := s.modPair (fun p => { p with todo := idel p.todo f f })
  match s.mirrorWin f with
  | none => s
  | some j =>
    let born := s.isBorn f
    let s := if !born || s.pair.whole then s.addCopy (resyncCopy j (f * 8192) true (0, 0)) else s
    let s := s.bump Reg.PAIR_CNT_RESYNC_FRAMES_VALUE
    if !born then s
    else (List.range 8192).foldl (fun s i =>
      let l := f * 8192 + i
      match s.slotLine l with
      | some x => s.addCopy (resyncCopy j l false x)
      | none => (s.resyncRead l).modPair (fun p => { p with reads := p.reads ++ [l] })) s

/-- The reads of a resync that have been answered: each becomes a copy, of the slot's contents if the stack holds the line by now;
one refused with NACK_RETRY is made again. -/
def Dev.resyncAnswers (s : Dev) : Dev :=
  s.pair.reads.foldl (fun s l =>
    match s.takeAnswer (.resync l) with
    | none => s
    | some (.retry _, s) => s.resyncRead l
    | some (.dark _ _, s) => s.resyncRead l
    | some (res, s) =>
      let s := s.modPair (fun p => { p with reads := dropFirst (· == l) p.reads })
      let x := match res with
        | .data d bad => (d, bad)
        | _ => (0, poisonBad)
      match s.mirrorWin (frameOfLine l) with
      | some j => s.addCopy (resyncCopy j l false ((s.slotLine l).getD x))
      | none => s) s

/-- RESYNC: with the partner back in order the PRIMARY starts its resync, and then sends it frame by frame. -/
def Dev.resyncStep (s : Dev) : Dev :=
  if !s.inOrder then s
  else if !s.pair.resyncing then s.resyncStart
  else
    let s := s.resyncAnswers
    match ifirst s.pair.todo with
    | some f => (s.resyncFrame f).showResync
    | none => s

def execResync (s : State) : Host.Outcome State Fault Refusal := s.on fun s => .next s.resyncStep

/-- RESYNC_END: every frame has been sent and is held: the list empties, BROKEN clears. -/
def Dev.resyncEnd (s : Dev) : Dev :=
  if !s.pair.resyncing || !s.pair.todo.isEmpty || !s.pair.reads.isEmpty || (s.pair.copies ++ s.pair.await).any (·.resync) then s
  else
    let s := s.modPair (fun p => { p with resyncing := false, whole := false, resync := [] })
    let s := (List.range 16).foldl (fun s j => s.setF Reg.PAIR_MWj_CTL_BROKEN 0 0 j) s.showResync
    (s.wrReg 0xC060 0).raise pgPAIR Reg.EV_PAIR_RESYNC_DONE

def execResyncEnd (s : State) : Host.Outcome State Fault Refusal := s.on fun s => .next s.resyncEnd

/-- A STALE member that rejoins as SECONDARY releases all of its frames in the mirror windows. -/
def Dev.releaseMirror (s : Dev) : Dev :=
  s.mirrorRanges.foldl (fun s iv =>
    let s := (s.framesIn iv.1 iv.2).foldl (fun s f => s.releaseFrame f) s
    s.modSpace (fun p => { p with born := idel p.born iv.1 iv.2 })) s

/-! ### Writes of ROLE and EPOCH (R319) -/

def Dev.roleFree (s : Dev) (old : Nat) : Bool := old == roleNONE || old == roleSTALE || s.fb Reg.PAIR_STATUS_PARTNER_DARK

/-- A write of CTL; `old` is the register before it. -/
def Dev.pairCtlWritten (s : Dev) (old : Word32) : Dev :=
  let was := bitsOf old 1 0
  if !(s.roleFree was) then s.setF Reg.PAIR_CTL_ROLE was
  else if was == roleSTALE && s.role == roleSECONDARY then s.releaseMirror
  else s

/-- A write of EPOCH; `old` is the register before it. -/
def Dev.epochWritten (s : Dev) (old : Word32) : Dev := if s.roleFree s.role then s else s.wrReg 0xC044 old

/-- What a write of a PAIR register does besides storing it; `old` the register before it, `oldSize` the window's SIZE before it. -/
def Dev.pairWritten (s : Dev) (off : Nat) (old oldSize v : Word32) : Dev :=
  let a := 0xC000 + off
  if off == 0x40 then s.pairCtlWritten old
  else if off == 0x44 then s.epochWritten old
  else if off == 0x4C then s.takeoverWritten v
  else if 0x400 ≤ off && off < 0x500 then
    let j := (off - 0x400) / 16
    if off % 16 == 8 then s.mwCtlWritten j old else s.mwRangeWritten j a old oldSize
  else s

end Sys2Proof.Machine
end

