-- ==== Sys2Proof/Machine/Units.lean ====
section
/-!
DEFINITION. Machine/Units.lean: unit requests and the two views (R335 to R338), evacuation and fencing (R339, R340), function reset
(R344, R345), and the self-test (R346 to R349).
-/
namespace Sys2Proof.Machine

/-! ### Kinds of unit (R335) -/

inductive UKind where
  | shaft (n : Nat) | engine (n : Nat) | host (h : Nat) | far (f : Nat) | haulage | dispatcher
  deriving DecidableEq, Repr

/-- The unit of a page. -/
def unitOf (page : Nat) : Option UKind :=
  if page == 0x0A then some .haulage
  else if page == 0x0B then some .dispatcher
  else if 0x10 ≤ page && page < 0x1C then some (.host (page - 0x10))
  else if 0x20 ≤ page && page < 0x24 then some (.far (page - 0x20))
  else if 0x100 ≤ page && page < 0x130 then some (.engine (page - 0x100))
  else if 0x200 ≤ page && page < 0x230 then some (.shaft (page - 0x200))
  else none

/-! ### The self-test (R346 to R349) -/

/-- The page a self-test run lists a unit under: COLLAR lists a tile under its shaft. -/
def Dev.testPage (s : Dev) (page : Nat) : Nat :=
  if s.stest.kind == 1 && 0x100 ≤ page && page < 0x130 then page + 0x100 else page

/-- Does a self-test run hold the unit of a page? -/
def Dev.testHolds (s : Dev) (page : Nat) : Bool := s.stest.kind != 0 && s.stest.left.contains (s.testPage page)

/-- Spares of a collar port (domain 0) or column (domain 1) in use: the TYPE 3 entries (R348). -/
def Dev.sparesUsed (s : Dev) (domain n : Nat) : Nat :=
  (s.repairs.filter (fun e => bitsOf e.1 31 28 == 3 && bitsOf e.1 27 26 == domain && bitsOf e.1 25 20 == n)).length
/-- A TYPE 3 entry. -/
def spareEntry (domain n sig spare : Nat) : Nat := 3 * 2 ^ 28 + domain * 2 ^ 26 + n * 2 ^ 20 + sig * 2 ^ 8 + spare * 2 ^ 4

/-- The lane 8f + l left out: its LANE_EXCL bit and a TYPE 5 entry (R297). -/
def Dev.excludeLane (s : Dev) (f l : Nat) : Dev :=
  let m := s.fv Reg.FARPORT_LANE_EXCL_LANES f
  if bitN m l then s
  else (s.setF Reg.FARPORT_LANE_EXCL_LANES (m + 2 ^ l) f).addRepair (5 * 2 ^ 28 + f * 2 ^ 26 + l * 2 ^ 23)

/-- Repair one fault of a unit where spares allow (R348). The Bool says whether it was repaired. -/
def Dev.repairDefect (s : Dev) (u : UKind) (d : Defect) : Dev × Bool :=
  match u, d with
  | .shaft n, .bond sig =>
    let k := s.sparesUsed 0 n
    if k < 16 then (s.addRepair (spareEntry 0 n sig.val k), true) else (s, false)
  | .shaft n, .column sig =>
    let k := s.sparesUsed 1 n
    if k < 8 then (s.addRepair (spareEntry 1 n sig.val k), true) else (s, false)
  | .shaft n, .row b r => if s.usedRows n b.val < 64 then (s.rowMapped n b.val r.val (s.usedRows n b.val), true) else (s, false)
  | .shaft n, .col b c =>
    let used := s.usedCols n b.val
    if used < 4 then
      (((s.modShaft n (fun p => { p with colMap := p.colMap ++ [(b.val, c.val, used)] })).addRepair (colEntry n b.val c.val)).bump
        Reg.SHAFT_CNT_COL_REPAIR_VALUE n, true)
    else (s, false)
  | .host h, .hostLane tx lane =>
    let p := s.port h
    let used := if tx then p.replTx else p.replRx
    if used.contains lane.val then (s, true)
    else if !(laneRoom used lane.val) then (s, false)
    else
      let s := s.setPort h (if tx then { p with replTx := used ++ [lane.val] } else { p with replRx := used ++ [lane.val] })
      (s.addRepair (4 * 2 ^ 28 + h * 2 ^ 24 + b2n tx * 2 ^ 23 + lane.val * 2 ^ 17), true)
  | .far f, .farLane l =>
    let s := s.excludeLane f l.val
    (s, widthOf 255 (s.fv Reg.FARPORT_LANE_EXCL_LANES f) != 0)
  | _, _ => (s, false)

/-- Repair every fault in turn: whether all were repaired. -/
def Dev.repairAll (s : Dev) (u : UKind) : List Defect → Dev × Bool
  | [] => (s, true)
  | d :: ds =>
    let (s, ok) := s.repairDefect u d
    let (s, rest) := s.repairAll u ds
    (s, ok && rest)

/-- The number of a target in FAILx and REPAIRx. -/
def targetIndex (page : Nat) : Nat := if page < 0x20 then page - 0x10 else if page < 0x100 then page - 0x20 else page % 256

/-- Set bit `i` of FAIL_LO and FAIL_HI, or of the REPAIR pair. -/
def Dev.markTarget (s : Dev) (lo hi : Fld) (i : Nat) : Dev :=
  if i < 32 then s.setF lo (Nat.lor (s.fv lo) (2 ^ i)) else s.setF hi (Nat.lor (s.fv hi) (2 ^ (i - 32)))

/-- A unit fails: shafts as R342 says, links go down. -/
def Dev.failUnit (s : Dev) (u : UKind) (page : Nat) : Dev :=
  match u with
  | .shaft n => s.failShaft n
  | .host h => (s.dropLink h).enter page stFAILED
  | .far f => (s.farDown f).enter page stFAILED
  | .engine n => (s.engLeave n stRESET).enter page stFAILED
  | .haulage => if s.ust page == stFAILED then s else (s.enter page stFAILED).record page codeOTHER sevCRITICAL []
  | .dispatcher => s.enter page stFAILED

/-- Before a fallback ARRAY test: every entry that names the shaft is dropped (R347), its reserved slots wait to move, its poison
list is cleared, and one record gives the counts. -/
def Dev.dropShaftEntries (s : Dev) (n : Nat) : Dev :=
  let ks := (s.space.ways.filter (fun e => e.2.valid && e.2.shaft == n)).map (·.1)
  let lostOf (e : Entry) : Bool := e.dcount != 0 || e.stackOnly
  let lost := (ks.filter (fun k => lostOf (s.way k))).length
  let s := ks.foldl (fun s k =>
    let e := s.way k
    let f := s.frameOfWay k
    let s := s.setWay k noEntry
    if lostOf e then s.addLost f else if e.farValid then s else s.setBorn f false) s
  let s := (s.pendResv n).modShaft n (fun p => { p with poison := [] })
  let s := ((s.showPoison n).setRuns n []).setRuns n ((s.setRuns n []).freeFrom n)
  s.record pgSELFTEST codeOTHER (if lost == 0 then sevWARNING else sevCRITICAL) [n, ks.length, lost]

/-- The run ends (R357). -/
def Dev.selftestDone (s : Dev) : Dev :=
  let fails := s.fv Reg.SELFTEST_FAIL_LO_UNITS + s.fv Reg.SELFTEST_FAIL_HI_UNITS
  let us := (s.time - s.stest.start) / 100
  let s := (s.setF Reg.SELFTEST_STATUS_BUSY 0).setF Reg.SELFTEST_STATUS_DONE 1
  let s := s.setF Reg.SELFTEST_STATUS_RESULT (if fails == 0 then 1 else 2)
  let s := s.setF Reg.SELFTEST_STATUS_REASON (if s.stest.abandoned then rsABANDONED else 0)
  let s := (s.setSat Reg.SELFTEST_ELAPSED_US us).bump Reg.SELFTEST_CNT_RUNS_VALUE
  { s.raise pgSELFTEST Reg.EV_SELFTEST_RUN_DONE with stest := {} }

/-- A target leaves the run; the last one ends it. -/
def Dev.targetOut (s : Dev) (page : Nat) : Dev :=
  let s := { s with stest := { s.stest with left := s.stest.left.filter (· != page) } }
  let s := if 0x200 ≤ page then s.dropLease (lsHelper (page - 0x200)) hoSELFTEST else s
  if s.stest.kind != 0 && s.stest.left.isEmpty then s.selftestDone else s

/-- A target's part of the run is abandoned (R345, R355). -/
def Dev.targetAbandon (s : Dev) (page : Nat) : Dev :=
  if s.stest.left.contains page then ({ s with stest := { s.stest with abandoned := true } }).targetOut page else s

/-- What a write buffer kept through a fence, a test or a reset goes to the DRAM before any new access is served (R165). -/
def Dev.bufferFirst (s : Dev) (n : Nat) : Dev := s.modShaft n (fun p => { p with first := true })

/-- A unit goes under test: its link comes down, a shaft's DRAM stays in self-refresh for COLLAR and COLUMN. -/
def Dev.testUnit (s : Dev) (page : Nat) : Dev :=
  match unitOf page with
  | some (.shaft n) =>
    let s := if s.shaftSt n == stFENCED || s.shaftSt n == stTESTING then s else s.enter page stFENCED
    let s := (s.bufferFirst n).enter page stTESTING
    if s.inSR n then s else s.enterSR n
  | some (.engine n) =>
    let s := if s.engSt n == stONLINE then (s.enter page stFENCED).engLeave n stRESET else s
    s.enter page stTESTING
  | some (.host h) =>
    let s := if s.portSt h == stONLINE then s.enter page stFENCED else s
    (s.dropLink h).enter page stTESTING
  | some (.far f) =>
    let s := if s.farSt f == stONLINE then s.enter page stFENCED else s
    ((s.farDown f).enter page stTESTING).noteBlocked
  | _ => s

/-- A test ends on a unit that passed: FENCED again; links come up again, still FENCED (R113, R346). -/
def Dev.testPass (s : Dev) (page : Nat) : Dev :=
  let s := s.enter page stFENCED
  match unitOf page with
  | some (.host h) => s.startTraining h
  | some (.far f) => (s.farLeaveTest f).farBringUp f
  | _ => s

/-- The unit pages a run names. -/
def testTargets (kind lo hi : Nat) : List Nat :=
  let bits := (List.range 48).filter (fun i => if i < 32 then bitN lo i else bitN hi (i - 32))
  match kind with
  | 4 => bits.map (0x100 + ·)
  | 5 => (bits.filter (· < 12)).map (0x10 + ·)
  | 6 => (bits.filter (· < 4)).map (0x20 + ·)
  | 7 => unitPages.filter (0x10 ≤ ·)
  | _ => bits.map (0x200 + ·)

/-- Does a target meet the needs of a kind (R346, R347)? -/
def Dev.testNeeds (s : Dev) (kind : Nat) (path : Bool) (page : Nat) : Bool :=
  let n := page % 256
  match kind with
  | 1 => s.shaftSt n == stFENCED && s.engSt n == stFENCED
  | 3 => s.shaftSt n == stFENCED && (path || !(s.space.ways.any (fun e => e.2.valid && e.2.shaft == n)))
  | 6 => s.ust page == stFENCED || s.ust page == stOFFLINE
  | 7 => true
  | _ => s.ust page == stFENCED

/-- Units a FULL run takes: those that are powered, have not failed and are not in a reset or start-up. -/
def Dev.canTest (s : Dev) (page : Nat) : Bool :=
  let st := s.ust page
  st == stONLINE || st == stEVACUATING || st == stFENCED || st == stTESTING || (st == stOFFLINE && 0x20 ≤ page && page < 0x24)

/-- A run is refused as a whole: RESULT 3 with its reason. -/
def Dev.testRefuse (s : Dev) (kind why : Nat) : Dev :=
  let s := (s.setF Reg.SELFTEST_STATUS_DONE 1).setF Reg.SELFTEST_STATUS_RESULT 3
  (s.setF Reg.SELFTEST_STATUS_REASON why).setF Reg.SELFTEST_STATUS_KIND kind

/-- Ask for the helper lease of each shaft (R346); none is kept when one is refused. -/
def Dev.testLeases (s : Dev) : List Nat → Bool × Dev
  | [] => (true, s)
  | n :: ns =>
    let (ok, s) := s.askLease (lsHelper n) hoSELFTEST rkDIAG
    if !ok then (false, s)
    else
      let (rest, s) := s.testLeases ns
      (rest, if rest then s else s.dropLease (lsHelper n) hoSELFTEST)

/-- A write of SELFTEST.RUN with GO. -/
def Dev.selftestGo (s : Dev) : Dev :=
  let kind := s.fv Reg.SELFTEST_RUN_KIND
  let path := s.fb Reg.SELFTEST_RUN_PATH
  if s.stest.kind != 0 || kind == 0 then s
  else
    let ts := (testTargets kind (s.fv Reg.SELFTEST_TARGET_LO_UNITS) (s.fv Reg.SELFTEST_TARGET_HI_UNITS)).filter
      (fun p => kind != 7 || s.canTest p)
    let lamp := s.mode == mdLAMPROOM
    let mgmt (h : Nat) : Bool := s.portSt h == stONLINE && s.fb Reg.HOSTPORT_MGMT_MGMT_EN h
    let lastPort := (List.range 12).any (fun h => mgmt h && ts.contains (hostPage h)) &&
      !((List.range 12).any (fun h => mgmt h && !(ts.contains (hostPage h))))
    if (kind == 7 && !lamp) || (kind == 3 && path && !lamp && !(s.fb Reg.SELFTEST_CTL_ALLOW_LOSS)) ||
        !(ts.all (fun p => s.testNeeds kind path p)) || ts.isEmpty || lastPort then s.testRefuse kind rsSTATE
    else
      let (ok, s) := s.testLeases (if kind == 2 || kind == 7 then (ts.filter (0x200 ≤ ·)).map (· - 0x200) else [])
      if !ok then s.testRefuse kind rsLEASE_BUSY
      else
        let s := s.wrReg 0x8050 (BitVec.ofNat 32 (2 ^ 31 + kind))
        let s := [0x8054, 0x8058, 0x805C, 0x8060].foldl (fun s a => s.wrReg a 0) s
        let s := { s with stest := ⟨kind, ts, s.time, false⟩ }
        let s := if kind == 7 || (kind == 3 && path) then
            (ts.filter (0x200 ≤ ·)).foldl (fun s p => s.dropShaftEntries (p - 0x200)) s else s
        let s := ts.foldl (fun s p => s.testUnit p) s
        if kind == 1 then ts.foldl (fun s p => s.testUnit (p - 0x100)) s else s

/-- Clear an array that a test has overwritten: what its patterns leave is not shown by any access (log 46). -/
def Dev.arrayTested (s : Dev) (n : Nat) : Dev :=
  let mine (a : Nat) : Bool := n * shaftBytes ≤ a && a < (n + 1) * shaftBytes
  { s with dram := s.dram.filter (fun c => !(mine c.1)), dramBad := s.dramBad.filter (fun c => !(mine c.1)) }

/-- SELFTEST_TARGET_END: a target's test ends; its faults are repaired, or it is FAILED, and the rest of the run goes on. -/
def Dev.targetEnd (s : Dev) (page : Nat) (o : SelftestObs) : Dev :=
  if !(s.stest.left.contains page) then s
  else match unitOf page with
  | none => s
  | some u =>
    let kind := s.stest.kind
    let i := targetIndex page
    let (s, ok) := s.repairAll u o.defects
    let n := page % 256
    let s := match u with
      | .shaft n => if kind == 3 || kind == 7 then s.arrayTested n else s
      | .engine n => s.modEng n (fun g => { g.clearRegs with scratch := [], scratchBad := [] })
      | _ => s
    let spared := o.defects.any (fun d => match d with
      | .column _ => true
      | _ => false)
    let (s, ok) := match u with
      | .shaft n => if spared && ok then
          (let s := s.trainRun n o.train
           (s, s.fv Reg.SHAFT_TRAIN_STATUS_RESULT n != 3)) else (s, ok)
      | _ => (s, ok)
    let s := if ok && !o.defects.isEmpty then s.markTarget Reg.SELFTEST_REPAIR_LO_UNITS Reg.SELFTEST_REPAIR_HI_UNITS i else s
    let s := if ok then s else s.markTarget Reg.SELFTEST_FAIL_LO_UNITS Reg.SELFTEST_FAIL_HI_UNITS i
    let s := if ok then s.testPass page else s.failUnit u page
    let s := if kind == 1 then (if ok then s.enter (enginePage n) stFENCED else s.enter (enginePage n) stFAILED) else s
    s.targetOut page

def execSelftestTargetEnd (page : BitVec 14) (o : SelftestObs) (s : State) : Host.Outcome State Fault Refusal := s.on fun s =>
  .next (s.targetEnd page.toNat o)

/-- Every run ends ABANDONED and TESTING units become FENCED (R355). -/
def Dev.selftestStop (s : Dev) : Dev :=
  let s := s.stest.left.foldl (fun s p => s.targetAbandon p) s
  unitPages.foldl (fun s p => if s.ust p == stTESTING then s.enter p stFENCED else s) s

/-! ### The two views (R338) -/

/-- STATE_NOTICE: the oldest notice reaches every block that routes work by unit state, and the management view unless it is lost: a cell of the
MGT network to haulage, the dispatcher and the management controller. -/
def Dev.stateNotice (s : Dev) (lost : Bool) : Dev :=
  match s.notice.stateFlight with
  | [] => s
  | (page, st, e) :: l =>
    let q := s.notice
    let view := sset (fun _ => (stOFFLINE, 0)) q.routeView page (st, e)
    let mgmt := if lost || !s.pins.mgmtOn then q.mgmtView else sset (fun _ => (stOFFLINE, 0)) q.mgmtView page (st, e)
    let s := { s with notice := { q with stateFlight := l, routeView := view, mgmtView := mgmt } }
    [0x48, 0x49, 0x4A].foldl (fun s a => s.countCell (attOfPage page) a 2) s

def execStateNotice (lost : Bool) (s : State) : Host.Outcome State Fault Refusal := s.on fun s => .next (s.stateNotice lost)

/-- VIEW_COMPARISON: where the management view and a unit differ, the view adopts the unit's state and epoch. A difference that a
notice still on its way accounts for is adopted too. -/
def Dev.compareViews (s : Dev) : Dev :=
  if !s.pins.mgmtOn then s
  else unitPages.foldl (fun s p =>
    let v := sget (fun _ => (stOFFLINE, 0)) s.notice.mgmtView p
    let w := (s.ust p, s.epoch p)
    if v == w then s
    else
      let s := { s with notice := { s.notice with mgmtView := sset (fun _ => (stOFFLINE, 0)) s.notice.mgmtView p w } }
      (s.bump Reg.SELFTEST_CNT_VIEW_FIX_VALUE).raiseRec pgSELFTEST Reg.EV_SELFTEST_VIEW_FIX sevWARNING
        [p, v.2 * 65536 + v.1, w.2 * 65536 + w.1]) s

def execViewComparison (s : State) : Host.Outcome State Fault Refusal := s.on fun s => .next s.compareViews

/-! ### Unit requests (R337 to R343) -/

/-- The results of R338. -/
def rqACCEPTED : Nat := 1
def rqSTALE_EPOCH : Nat := 2
def rqNOT_PERMITTED : Nat := 3
def rqBUSY : Nat := 4
def rqLAST_MGMT : Nat := 5

/-- Is the change in the table of R337? -/
def Dev.reqAllowed (s : Dev) (u : UKind) (page want : Nat) : Bool :=
  let now := s.ust page
  let serving := match u with
    | .haulage => false
    | .dispatcher => false
    | _ => true
  let shaft := match u with
    | .shaft _ => true
    | _ => false
  let stuck := match u with
    | .shaft n => (s.shaft n).alertFenced
    | _ => false
  let others := match u with
    | .shaft n => (List.range 48).any (fun m => m != n && s.shaftSt m == stONLINE)
    | _ => false
  if !serving then false
  else if want == stONLINE then (now == stFENCED && !stuck) || now == stEVACUATING || now == stOFFLINE || now == stDARK
  else if want == stEVACUATING then shaft && others && (now == stONLINE || (now == stFENCED && !stuck))
  else if want == stFENCED then now == stONLINE || now == stEVACUATING || now == stTESTING
  else if want == stTESTING then now == stFENCED
  else if want == stDARK then now == stFENCED || now == stOFFLINE
  else false

/-- The evacuation of a shaft stops: its waiting moves are withdrawn; frames already moved stay where they are. -/
def Dev.evacStop (s : Dev) (n : Nat) : Dev :=
  s.modHaul (fun p => { p with moveQ := p.moveQ.filter (fun q => !(q.2.2 == .evac && ((s.entry q.1).map (·.shaft)) == some n)) })

/-- A shaft carries out a request. Bring-up from DARK or OFFLINE whose short retrain finds no window fails (R336, R343). -/
def Dev.shaftReq (s : Dev) (n want : Nat) (r : ShortObs) : Dev :=
  let page := shaftPage n
  let now := s.shaftSt n
  if want == stONLINE then
    let s := s.evacStop n
    let s := if now == stOFFLINE || now == stDARK then s.enter page stKINDLING else s
    if s.inSR n && s.shaftSt n == stKINDLING && !r.ok then s.failShaft n
    else
      let s := if s.inSR n then (s.exitSR n).shortRetrain n r else s
      (s.bufferFirst n).enter page stONLINE
  else if want == stEVACUATING then
    let s := (s.wakeShaft n).enter page stEVACUATING
    let s := { s with ms := { s.ms with noEvac := s.ms.noEvac.filter (· != n) } }
    (if s.inSR n then s.exitSR n else s).bufferFirst n
  else if want == stFENCED then
    (((s.evacStop n).bufferFirst n).setF Reg.SHAFT_STATUS_PARKED 0 n).enter page stFENCED
  else if want == stTESTING then s.enter page stTESTING
  else
    let s := ((((s.drainWbuf n).enter page stDARK).trainAbandon n).cutHelper n).closeShaft n stDARK
    (if s.inSR n then s else s.enterSR n).freeLeases (fun i _ => i == lsHelper n)

/-- An engine carries out a request. -/
def Dev.engineReq (s : Dev) (n want : Nat) : Dev :=
  let page := enginePage n
  let now := s.engSt n
  if want == stONLINE then
    (if now == stOFFLINE || now == stDARK then
      ((s.enter page stKINDLING).modEng n (fun g => { g.clearRegs with scratch := [], scratchBad := [], fcache := [] })).enter page stONLINE
     else s.enter page stONLINE)
  else if want == stFENCED then (if now == stONLINE then s.engLeave n stRESET else s).enter page stFENCED
  else if want == stTESTING then s.enter page stTESTING
  else (s.enter page stDARK).modEng n (fun g => { g.clearRegs with scratch := [], scratchBad := [], fcache := [] })

/-- A host port carries out a request. -/
def Dev.hostReq (s : Dev) (h want : Nat) : Dev :=
  let page := hostPage h
  let now := s.portSt h
  if want == stONLINE then
    if now == stFENCED && s.fb Reg.HOSTPORT_LINK_STATUS_INIT_DONE h then s.enter page stONLINE
    else if s.fb Reg.HOSTPORT_LINK_CTL_DISABLE h then (s.enter page stKINDLING).enter page stOFFLINE
    else if now == stFENCED then s.enter page stKINDLING
    else (s.enter page stKINDLING).startTraining h
  else if want == stFENCED then
    (if now == stTESTING then (s.enter page stFENCED).startTraining h else s.enter page stFENCED)
  else if want == stTESTING then (s.dropLink h).enter page stTESTING
  else (if (s.port h).adapterUp then s.dropLink h else s).enter page stDARK

/-- A far port carries out a request. -/
def Dev.farReq (s : Dev) (f want : Nat) : Dev :=
  let page := farPage f
  let now := s.farSt f
  if want == stONLINE then
    let up := s.farStage f == 5
    if now == stFENCED && up then ((s.enter page stONLINE).noteBlocked.pump).pumpCopies
    else (s.enter page stKINDLING).farBringUp f
  else if want == stFENCED then
    (if now == stTESTING then ((s.farLeaveTest f).enter page stFENCED).farBringUp f else s.enter page stFENCED).noteBlocked
  else if want == stTESTING then ((s.farDown f).enter page stTESTING).noteBlocked
  else ((s.farDown f).enter page stDARK).noteBlocked

/-- A write of UNIT_REQ (R337, R338): the result, in the order BUSY, STALE_EPOCH, NOT_PERMITTED, LAST_MGMT, and the change. -/
def Dev.unitReqWritten (s : Dev) (page : Nat) (v : Word32) (r : ShortObs) : Dev :=
  match unitOf page with
  | none => s
  | some u =>
    let want := bitsOf v 3 0
    let now := s.ust page
    let last := match u with
      | .host h => now == stONLINE && want == stFENCED && s.fb Reg.HOSTPORT_MGMT_MGMT_EN h && !(s.otherMgmt h)
      | _ => false
    let res := if now == stRESETTING || now == stKINDLING || s.testHolds page then rqBUSY
      else if bitsOf v 31 16 != s.epoch page then rqSTALE_EPOCH
      else if !(s.reqAllowed u page want) then rqNOT_PERMITTED
      else if last then rqLAST_MGMT
      else rqACCEPTED
    let s := (s.setF Reg.SELFTEST_REQ_LAST_PAGE page).setF Reg.SELFTEST_REQ_LAST_RESULT res
    if res != rqACCEPTED then
      let s := (s.bump Reg.SELFTEST_CNT_REQ_REJECT_VALUE).raiseRec pgSELFTEST Reg.EV_SELFTEST_REQ_REJECT sevNOTICE [page, v.toNat, res]
      s.compareViews
    else match u with
    | .shaft n => s.shaftReq n want r
    | .engine n => s.engineReq n want
    | .host h => s.hostReq h want
    | .far f => s.farReq f want
    | _ => s

/-- EVACUATION_END (R339): no entry names the shaft: it becomes FENCED with its DRAM in self-refresh. -/
def Dev.evacEnd (s : Dev) (n : Nat) : Dev :=
  let busy := s.space.ways.any (fun e => e.2.valid && e.2.shaft == n) || s.haul.evicts.any (fun x => x.shaft == n) ||
    s.space.resvPend.any (fun i => (s.space.resv.getD i (0, 0)).1 == n)
  if s.shaftSt n != stEVACUATING || busy then s
  else
    let s := ((s.drainWbuf n).enter (shaftPage n) stFENCED).enterSR n
    s.raise pgSELFTEST Reg.EV_SELFTEST_EVAC_DONE

def execEvacuationEnd (n : Fin 48) (s : State) : Host.Outcome State Fault Refusal := s.on fun s => .next (s.evacEnd n.val)

/-! ### Function reset (R344, R345) -/


/-- Movement's own origins. -/
def isHaulOrg : Origin → Bool
  | .fill _ => true
  | .wback _ => true
  | .move _ => true
  | .zfillFor _ => true
  | _ => false

/-- Haulage abandons everything in flight without partial result (R45, R74): buffers are free, and what waits gets NACK_RETRY. A write on its
way to a zero-filled sector keeps its record: once the shaft holds it the sector is DIRTY. -/
def Dev.haulAbandon (s : Dev) : Dev :=
  let h := s.haul
  let fills := h.fills.flatMap (fun x => match x.2 with
    | some b => b.ops ++ b.writes.map (·.1)
    | none => [])
  let direct := (List.range 4).flatMap (fun f => ((s.far f).cxl.map (·.org) ++ (s.far f).cxlQ.map (·.org)).filterMap (fun o => match o with
    | .direct r => some r
    | _ => none))
  let waiting := h.held.map (·.req) ++ fills ++ direct ++ h.flushes.map (·.req) ++
    h.zfills.flatMap (·.waiting)
  let s := s.forgetFar (fun o => match o with
    | .corr _ _ _ => false
    | _ => true)
  let s := s.disownBy isHaulOrg
  let merging := (h.zfills.filter (fun z => z.merging.isSome)).map (fun z => { z with waiting := [] })
  let s := { s with haul := { toldStranded := h.toldStranded, gePtr := h.gePtr, wasBlocked := h.wasBlocked, zfills := merging } }
  waiting.foldl (fun s r => s.answer r (.retry 100)) s

/-- The movement registers of R75 take their reset values. -/
def Dev.haulRegs (s : Dev) : Dev := s.resetPage hauPage (fun off => off < 0x100 || 0x17C ≤ off)

/-- The far port's registers take their reset values but for CTL and LANE_EXCL (R316); what it had sent or received is gone. -/
def Dev.farRegs (s : Dev) (f : Nat) : Dev :=
  let role := s.farRole f
  let s := s.resetPage (farPage f) (fun off => off < 0x44 || off == 0x4C)
  let s := s.setF Reg.FARPORT_STATUS_ACTIVE_ROLE role f
  s.modFar f (fun _ => {})

/-- The host port's registers take their reset values but for TAG_LIMIT, LINK_CTL, CREDIT_CTL and MGMT (R114). -/
def Dev.hostRegs (s : Dev) (h : Nat) : Dev :=
  s.resetPage (hostPage h) (fun off => off < 0x40 || off == Reg.HOSTPORT_TAG_LIMIT_LIMIT.off || off == Reg.HOSTPORT_LINK_CTL_DISABLE.off ||
    off == Reg.HOSTPORT_CREDIT_CTL_TIMEOUT.off || off == Reg.HOSTPORT_MGMT_MGMT_EN.off)

/-- The engine's function reset (R239, R344). -/
def Dev.engineReset (s : Dev) (n status : Nat) : Dev :=
  if s.engSt n == stDARK || s.engSt n == stRESETTING then s
  else (s.engReset n status).enter (enginePage n) stRESETTING

/-- The other unit of a tile under a COLLAR run whose unit at `page` is reset: its part ends too, FENCED (R345). -/
def Dev.testFellow (s : Dev) (page : Nat) : Dev :=
  let other := if 0x200 ≤ page && page < 0x230 then page - 0x100 else if 0x100 ≤ page && page < 0x130 then page + 0x100 else 0
  if other != 0 && s.ust page == stTESTING && s.ust other == stTESTING && !(s.testHolds other) then s.enter other stFENCED else s

/-- A write of 1 to FUNC_RESET: discarded on a DARK unit, ignored on one that is RESETTING. -/
def Dev.funcReset (s : Dev) (page : Nat) : Dev :=
  let now := s.ust page
  match unitOf page with
  | none => s
  | some u =>
    if now == stDARK || now == stRESETTING then s
    else
      let s := (s.targetAbandon (s.testPage page)).testFellow page
      match u with
      | .shaft n =>
        let s := (((s.evacStop n).enter page stRESETTING).trainAbandon n).cutHelper n
        let s := (List.range 4).foldl (fun s ch =>
          if (s.mv ch).any (fun m => m.srcShaft == n || m.target == n) then s.moveAbandon ch else s) s
        let s := s.closeShaft n stRESETTING
        let s := s.modShaft n (fun p => { p with freq := none, parking := false, parkHeld := false, changeOnWake := false,
                                                 alerted := false, alertFenced := false })
        let s := (s.setF Reg.SHAFT_STATUS_FREQ_BUSY 0 n).setF Reg.SHAFT_FREQ_STATUS_BUSY 0 n
        let s := (s.setF Reg.SHAFT_STATUS_PARKED 0 n).setF Reg.SHAFT_ALERT_STATUS_CONSEC 0 n
        (if s.inSR n then s else s.enterSR n).freeLeases (fun i l => i == lsHelper n && l.holder != hoSOFT)
      | .engine n => s.engineReset n stRESET
      | .host h => ((s.dropLink h).hostRegs h).setPort h (s.port h).afterLoss |>.enter page stRESETTING
      | .far f =>
        let s := ((s.farDown f).farRegs f).enter page stRESETTING
        (s.freeLeases (fun i l => 32 + 8 * f ≤ i && i < 40 + 8 * f && l.holder != hoSOFT)).noteBlocked
      | .haulage => (s.haulAbandon.haulRegs).enter page stRESETTING
      | .dispatcher =>
        let s := s.disownBy (fun o => match o with
          | .desc _ => true
          | _ => false)
        ({ s with disp := { s.disp with fetch := [] } }).enter page stRESETTING

/-- An engine that was ending its job when it was reset has ended it. -/
def Dev.engineBack (s : Dev) (n : Nat) : Dev := (s.modEng n (fun g => { g with acc := [] })).tryEnd n

/-- FUNC_RESET_END: the unit's own logic is reset; it passes through KINDLING. A shaft has run its short retrain; a port trains; a far
port takes the role written; haulage walks the table; the dispatcher waits for a walk under way. -/
def Dev.funcResetEnd (s : Dev) (page : Nat) (o : BringUp) (r : ShortObs) : Dev :=
  if s.ust page != stRESETTING || !s.pins.refclk then s
  else
    let t := s.enter page stKINDLING
    match unitOf page with
    | none => s
    | some u =>
      if o == .failed then t.failUnit u page
      else match u with
      | .shaft n => if r.ok then (((t.shortRetrain n r).exitSR n).drainWbuf n).enter page stONLINE
        else (t.shortRetrain n r).failShaft n
      | .engine n => (t.engineBack n).enter page stONLINE
      | .host h => if t.fb Reg.HOSTPORT_LINK_CTL_DISABLE h then t.enter page stOFFLINE else t.startTraining h
      | .far f => (t.setF Reg.FARPORT_STATUS_ACTIVE_ROLE (t.fv Reg.FARPORT_CTL_ROLE f) f).farBringUp f
      | .haulage => t.startWalk
      | .dispatcher => if t.space.walking then t else (t.enter page stONLINE).ringsPump

def execFuncResetEnd (page : BitVec 14) (o : BringUp) (r : ShortObs) (s : State) : Host.Outcome State Fault Refusal := s.on fun s =>
  .next (s.funcResetEnd page.toNat o r)

/-- WALK_END: the walk ends (R46); haulage serves again, a dispatcher that waited for it too (R336; in a ground-die reset it recovers in step 7,
R370), and drains that were under way resume (R29). -/
def execWalkEnd (s : State) : Host.Outcome State Fault Refusal := s.on fun s =>
  let was := s.space.walking
  let s := s.walkEnd
  if was && !s.space.walking then
    let s := if s.ust hauPage == stKINDLING then s.enter hauPage stONLINE else s
    let s := if s.ust dispPage == stKINDLING && s.ks.gdr.isNone && s.mode != mdKINDLE then (s.enter dispPage stONLINE).ringsPump else s
    .next (s.space.drains.foldl (fun s d => s.drainKick d) s)
  else .next s

/-- JOB_END_TIMEOUT_RESET (R255): a job that timed out or was aborted has not ended within 2 µs: its engine gets a function reset,
and the status stays. -/
def Dev.jobEndReset (s : Dev) (n : Nat) : Dev :=
  match (s.eng n).run with
  | some r => (match r.ending with
    | some (st, _, _) => if st == stTIMEOUT || st == stABORTED then s.engineReset n st else s
    | none => s)
  | none => s

def execJobEndTimeoutReset (n : Fin 48) (s : State) : Host.Outcome State Fault Refusal := s.on fun s => .next (s.jobEndReset n.val)

/-- SHOOTDOWN_TIMEOUT (R63): an engine has not acknowledged within 2 µs: it is reset, LATE_ACK is set, and counts as
acknowledged. -/
def Dev.shootTimeout (s : Dev) (f n : Nat) : Dev :=
  if !(s.haul.shoots.any (fun h => h.frame == f && h.waiting.contains n)) then s
  else
    let s := (s.engineReset n stRESET).raise (enginePage n) Reg.EV_ENGINE_LATE_ACK
    s.modHaul (fun p => { p with shoots := p.shoots.map (fun h => if h.frame == f then { h with waiting := h.waiting.filter (· != n) } else h) })

def execShootdownTimeout (frame : BitVec 26) (n : Fin 48) (s : State) : Host.Outcome State Fault Refusal := s.on fun s => .next (s.shootTimeout frame.toNat n.val)

end Sys2Proof.Machine
end

