-- ==== Sys2Proof/Machine/Fuses.lean ====
section
/-!
DEFINITION. Machine/Fuses.lean: the fuse array and its shadows: sensing (R420, R421, R422), the map (R423 to R425), the start-up check and its
alarms (R426 to R428), thermometers (R429), trial and burning (R430 to R432), locking and superseding (R433, R434).
-/
namespace Sys2Proof.Machine

/-! ### The map (R423 to R425) -/

/-- A region: ID, KIND (1 STATIC, 2 APPEND, 3 COUNTER, 4 DIGEST, 5 SLOT), first word, words. -/
structure RegionD where
  id : Nat
  kind : Nat
  start : Nat
  len : Nat
  deriving DecidableEq, Repr

def fuseRegions : List RegionD :=
  [⟨0, 1, 0x0040, 64⟩, ⟨1, 1, 0x0080, 128⟩, ⟨2, 2, 0x0860, 5120⟩, ⟨3, 1, 0x0100, 32⟩, ⟨4, 1, 0x0120, 128⟩, ⟨5, 3, 0x0260, 512⟩,
   ⟨6, 3, 0x01A0, 128⟩, ⟨7, 4, 0x0220, 64⟩, ⟨8, 5, 0x0460, 320⟩, ⟨9, 5, 0x05A0, 320⟩, ⟨10, 5, 0x06E0, 320⟩]

def regionD (id : Nat) : RegionD := (fuseRegions.find? (fun r => r.id == id)).getD ⟨0, 1, 0x0040, 64⟩
/-- The region a word lies in. -/
def regionAt (a : Nat) : Option RegionD := fuseRegions.find? (fun r => decide (r.start ≤ a) && decide (a < r.start + r.len))

/-- The END word of a region (R424). -/
def endWord (id : Nat) : Nat := 0x454E4400 + id

/-- First words of the regions other rules read. -/
def wCONFIG : Nat := 0x0120
def wREPAIR : Nat := 0x0860
def wCYCLES : Nat := 0x0260
def wHOURS : Nat := 0x01A0
def wKEYS : Nat := 0x0100
def wDIGESTS : Nat := 0x0220

/-- CONFIG as shipped (R425, R428, R398, R399). -/
def shippedConfig (k : Nat) : Nat :=
  if k == 0 then 0x214
  else if k == 1 then 1
  else if k == 2 then 0x3201
  else if 3 ≤ k && k < 11 then exitDefaults.getD (k - 3) 0
  else if k == 127 then endWord 4
  else 0

/-- The fuse words of a part as shipped, as far as the spec gives them: the directory, IDENT, CONFIG and the END words. No region
is locked, and the words the spec does not give are unburned (DESIGN CHOICE, log 47). -/
def shippedNat (a : Nat) : Nat :=
  if a < 44 then
    let r := regionD (a / 4)
    match a % 4 with
    | 0 => r.id * 2 ^ 24 + r.kind * 2 ^ 16 + r.start
    | 1 => r.len
    | 3 => if r.kind == 2 || r.kind == 3 then endWord r.id else 0
    | _ => 0
  else if a == 0x0040 then 0xC4830EA1
  else if a == 0x007F then endWord 0
  else if a == 0x00FF then endWord 1
  else if a == 0x011F then endWord 3
  else if wCONFIG ≤ a && a < wCONFIG + 128 then shippedConfig (a - wCONFIG)
  else 0

def shippedWord (a : Nat) : Word32 := BitVec.ofNat 32 (shippedNat a)
/-- Both copies of a shipped word read alike in both passes. -/
def shippedFuse (a : Nat) : FuseWord := let w := shippedWord a; ⟨w, w, w, w⟩

/-! ### Reading fuses (R420, R421) -/

def Dev.modFuse (s : Dev) (f : FuseSt → FuseSt) : Dev := { s with fuse := f s.fuse }

/-- How a word of the array reads. -/
def Dev.fuseAt (s : Dev) (a : Nat) : FuseWord := sget shippedFuse s.fuse.array a

/-- The logical value: copy A or copy B at NORMAL. -/
def logical (w : FuseWord) : Word32 := w.na ||| w.nb
/-- Copies disagree at STRICT; a copy reads differently in the two passes. -/
def copyDiff (w : FuseWord) : Bool := w.sa != w.sb
def passDiff (w : FuseWord) : Bool := w.na != w.sa || w.nb != w.sb
/-- A fuse that reads 1 at STRICT reads 1 at NORMAL. -/
def cleanWord (w : FuseWord) : FuseWord := { w with sa := w.sa &&& w.na, sb := w.sb &&& w.nb }

/-- The logical value as sensed. -/
def Dev.sensedWord (s : Dev) (a : Nat) : Word32 := sget shippedWord s.fuse.sensed a

/-- The shadow of a word: the override, the slot's word, the entry of the shadow repair list (R288), or what was sensed. -/
def Dev.shadow (s : Dev) (a : Nat) : Word32 :=
  match sget (fun _ => none) s.fuse.ovr a, sget (fun _ => none) s.fuse.overlay a with
  | some w, _ => w
  | none, some w => w
  | none, none =>
    let e := if wREPAIR ≤ a then (s.repairs.getD (a - wREPAIR) (0, false)).1 else 0
    if e == 0 then s.sensedWord a else e

/-- Is a region in alarm (R428)? -/
def Dev.regionBad (s : Dev) (id : Nat) : Bool := s.fuse.bad.contains id

/-- Word `k` of CONFIG: a CONFIG region in alarm is replaced by the shipped values with policy 0x00 (R428). -/
def Dev.cfgWord (s : Dev) (k : Nat) : Word32 :=
  if s.regionBad 4 then BitVec.ofNat 32 (if k == 0 then 0x200 else shippedConfig k) else s.shadow (wCONFIG + k)

/-- STATUS follows the marginal list and the overrides. -/
def Dev.showFuse (s : Dev) : Dev :=
  let n := s.fuse.marg.length
  let s := (s.setF Reg.FUSES_STATUS_MARG_TOTAL n).setF Reg.FUSES_STATUS_MARG_OVF (b2n (64 < n))
  s.setF Reg.FUSES_STATUS_OVERRIDES (b2n (s.fuse.ovr.any (fun e => e.2.isSome)))

/-- Marginal words of an array in ascending order. -/
def margOf (arr : Sparse FuseWord) : List (Nat × Bool × Bool) :=
  (arr.filter (fun e => copyDiff e.2 || passDiff e.2)).map (fun e => (e.1, copyDiff e.2, passDiff e.2))

/-- Words that read otherwise than before. -/
def withReads (arr : Sparse FuseWord) (l : List (BitVec 13 × FuseWord)) : Sparse FuseWord :=
  l.foldl (fun a x => sset shippedFuse a x.1.toNat (cleanWord x.2)) arr

/-- Sensing (R421): both passes over every word; the shadows take the logical values, overrides are discarded. -/
def Dev.senseFuses (s : Dev) (l : List (BitVec 13 × FuseWord)) : Dev :=
  let arr := withReads s.fuse.array l
  let sensed := arr.foldl (fun m e => sset shippedWord m e.1 (logical e.2)) []
  let s := s.modFuse (fun f => { f with array := arr, sensed := sensed, overlay := [], ovr := [], marg := margOf arr, bad := [], job := none })
  s.showFuse.setF Reg.FUSES_STATUS_SENSED 1

/-- MARG_WORD: entry IDX of the first 64 marginal words. -/
def Dev.margWord (s : Dev) : Word32 :=
  match (s.fuse.marg.take 64)[s.fv Reg.FUSES_MARG_IDX_IDX]? with
  | some (a, c, p) => BitVec.ofNat 32 (2 ^ 31 + b2n c * 2 ^ 17 + b2n p * 2 ^ 16 + a)
  | none => 0
/-- REGION_STATUS of the region REGION_SEL names. -/
def Dev.regionStatus (s : Dev) : Word32 := BitVec.ofNat 32 (sget (fun _ => 0) s.fuse.regions (s.fv Reg.FUSES_REGION_SEL_ID))

/-! ### Thermometers (R429) -/

/-- The value of a thermometer of `n` bits (its highest burned bit plus 1) and whether it has a gap. -/
def thermo (n : Nat) (bit : Nat → Bool) : Nat × Bool :=
  let v := (List.range n).foldl (fun m i => if bit i then i + 1 else m) 0
  (v, countOf v bit != v)

/-- Bit `i` of the thermometer whose first word is `a`, as sensed. -/
def Dev.fuseBit (s : Dev) (a i : Nat) : Bool := bitN (s.sensedWord (a + i / 32)).toNat (i % 32)
def Dev.cyclesThermo (s : Dev) : Nat × Bool := thermo 16384 (s.fuseBit wCYCLES)
def Dev.hoursThermo (s : Dev) : Nat × Bool := thermo 4096 (s.fuseBit wHOURS)

/-- CYCLES and HOURS_FUSE. -/
def Dev.showCounters (s : Dev) : Dev :=
  let c := s.cyclesThermo
  let h := s.hoursThermo
  let s := ((s.setF Reg.FUSES_CYCLES_COUNT c.1).setF Reg.FUSES_CYCLES_INCONSISTENT (b2n c.2)).setF Reg.FUSES_CYCLES_SATURATED (b2n (c.1 == 16384))
  (s.setF Reg.FUSES_HOURS_FUSE_BITS h.1).setF Reg.FUSES_HOURS_FUSE_INCONSISTENT (b2n h.2)

/-! ### The start-up check (R426 to R428, R434) -/

/-- Little-endian bytes of words. -/
def fuseBytes (ws : List Nat) : List Nat := ws.flatMap (bytesLE 4)

/-- The digest of a region over words read by `rd` (R426), as eight words. -/
def regionDigest (rd : Nat → Nat) (r : RegionD) : List Nat :=
  let d := 4 * r.id
  let body := if r.kind == 2 || r.kind == 3 then [rd (d + 3)]
    else (List.range (if r.kind == 5 then 312 else r.len)).map (fun i => rd (r.start + i))
  let h := sha256 (fuseBytes (rd d :: rd (d + 1) :: body))
  (List.range 8).map (fun i => ofBE ((h.drop (4 * i)).take 4).reverse)

/-- Where a region's digest words stand (R424). -/
def digestAt (r : RegionD) : Nat := if r.kind == 5 then r.start + 312 else wDIGESTS + 8 * r.id
def digestWords (rd : Nat → Nat) (r : RegionD) : List Nat := (List.range 8).map (fun i => rd (digestAt r + i))

/-- The fields of word 0 of a slot (R434). -/
def slotTarget (w : Nat) : Nat := w / 2 ^ 28
def slotOffset (w : Nat) : Nat := w / 2 ^ 16 % 512
def slotCount (w : Nat) : Nat := w % 512

/-- Is a region complete: its END word is there (R424)? -/
def regionComplete (rd : Nat → Nat) (r : RegionD) : Bool :=
  match r.kind with
  | 1 => rd (r.start + r.len - 1) == endWord r.id
  | 5 => let c := slotCount (rd r.start); decide (1 ≤ c) && decide (c ≤ 310) && rd (r.start + c + 1) == endWord r.id
  | 4 => false
  | _ => rd (4 * r.id + 3) == endWord r.id

def regionLocked (rd : Nat → Nat) (id : Nat) : Bool := bitN (rd (4 * id + 2)) 8
def regionForced (rd : Nat → Nat) (id : Nat) : Bool := bitN (rd (4 * id + 2)) 9
def regionGen (rd : Nat → Nat) (id : Nat) : Nat × Bool := thermo 8 (bitN (rd (4 * id + 2)))
/-- A lock that was interrupted: digest words burned while LOCK is 0. -/
def regionTorn (rd : Nat → Nat) (r : RegionD) : Bool := r.kind != 4 && !(regionLocked rd r.id) && (digestWords rd r).any (· != 0)
def digestOk (rd : Nat → Nat) (r : RegionD) : Bool := regionDigest rd r == digestWords rd r

/-- Does a slot apply (R434)? -/
def slotApplies (rd : Nat → Nat) (r : RegionD) : Bool :=
  let w := rd r.start
  let t := slotTarget w
  regionLocked rd r.id && digestOk rd r && regionComplete rd r && [0, 1, 3, 4].contains t &&
  decide (slotOffset w + slotCount w ≤ (regionD t).len) && decide ((regionGen rd t).1 < (regionGen rd r.id).1)

/-- The slots that apply, in ascending GEN and slot number. -/
def slotsInOrder (rd : Nat → Nat) : List RegionD :=
  (List.range 9).flatMap (fun g => (fuseRegions.filter (fun r => r.kind == 5 && (regionGen rd r.id).1 == g)).filter (slotApplies rd))

/-- The words the applied slots put over their targets. -/
def overlayOf (rd : Nat → Nat) : Sparse (Option Word32) :=
  (slotsInOrder rd).foldl (fun m r =>
    let w := rd r.start
    let t := regionD (slotTarget w)
    (List.range (slotCount w)).foldl (fun m i =>
      sset (fun _ => none) m (t.start + slotOffset w + i) (some (BitVec.ofNat 32 (rd (r.start + 1 + i))))) m) []

/-- What the check finds of a region: torn, mismatch and incomplete after the cures of R434, and REGION_STATUS. -/
structure RegionChk where
  id : Nat
  torn : Bool
  mismatch : Bool
  incomplete : Bool
  status : Nat

def checkRegion (rd eff : Nat → Nat) (ov : Sparse (Option Word32)) (r : RegionD) : RegionChk :=
  let locked := regionLocked rd r.id
  let complete := if r.kind == 1 then regionComplete eff r else regionComplete rd r
  let ok := r.kind == 4 || !locked || digestOk rd r
  let cover := r.kind == 1 && (List.range r.len).all (fun i => (sget (fun _ => none) ov (r.start + i)).isSome)
  let torn := regionTorn rd r
  let slots := maskOf 3 (fun k => let q := regionD (8 + k); slotApplies rd q && slotTarget (rd q.start) == r.id)
  ⟨r.id, torn, (torn || !ok) && !cover, r.kind != 4 && locked && !complete,
   (regionGen rd r.id).1 + b2n locked * 2 ^ 8 + b2n (regionForced rd r.id) * 2 ^ 9 + b2n complete * 2 ^ 10 + b2n ok * 2 ^ 11 +
   b2n torn * 2 ^ 12 + b2n (r.kind == 5 && slotApplies rd r) * 2 ^ 13 + slots * 2 ^ 16 + rd (4 * r.id) / 2 ^ 16 % 16 * 2 ^ 20⟩

/-- The action CONFIG names for an alarm type (R428): 0 LAMPROOM, 1 DEGRADED, 2 HALT; 3 acts as 0. -/
def Dev.alarmAction (s : Dev) (ty : Nat) : Nat := let a := bitsOf (s.cfgWord 0) (2 * ty + 1) (2 * ty); if a == 3 then 0 else a

/-- The alarm types raised: 0 DIGEST_MISMATCH, 1 MARGINAL, 2 COUNTER_INCONSISTENT, 3 INCOMPLETE. -/
def Dev.alarmTypes (s : Dev) : List Nat :=
  (if s.fv Reg.FUSES_ALARM_DIGEST_MISMATCH != 0 then [0] else []) ++ (if s.fb Reg.FUSES_ALARM_MARGINAL then [1] else []) ++
  (if s.fb Reg.FUSES_ALARM_COUNTER_INCONSISTENT then [2] else []) ++ (if s.fb Reg.FUSES_ALARM_INCOMPLETE then [3] else [])

/-- The check of KINDLE step 3 (R426, R427): slots are laid over their targets, REGION_STATUS and ALARM filled, one record written for
each alarm type. -/
def Dev.checkFuses (s : Dev) : Dev :=
  let rd (a : Nat) : Nat := (s.sensedWord a).toNat
  let ov := overlayOf rd
  let eff (a : Nat) : Nat := ((sget (fun _ => none) ov a).getD (s.sensedWord a)).toNat
  let cs := fuseRegions.map (checkRegion rd eff ov)
  let regs := cs.foldl (fun m c => sset (fun _ => 0) m c.id c.status) []
  let bad := (cs.filter (fun c => c.mismatch || c.incomplete)).map (·.id)
  let s := s.modFuse (fun f => { f with overlay := ov, regions := regs, bad := bad })
  let s := s.showCounters
  let gap := s.cyclesThermo.2 || s.hoursThermo.2 || fuseRegions.any (fun r => (regionGen rd r.id).2)
  let s := s.setF Reg.FUSES_ALARM_DIGEST_MISMATCH (maskOf 11 (fun i => cs.any (fun c => c.id == i && c.mismatch)))
  let s := (s.setF Reg.FUSES_ALARM_MARGINAL (b2n (!s.fuse.marg.isEmpty))).setF Reg.FUSES_ALARM_COUNTER_INCONSISTENT (b2n gap)
  let s := (s.setF Reg.FUSES_ALARM_INCOMPLETE (b2n (cs.any (·.incomplete)))).setF Reg.FUSES_ALARM_TORN (b2n (cs.any (·.torn)))
  s.alarmTypes.foldl (fun s ty =>
    s.raiseRec pgFUSES Reg.EV_FUSES_ALARM (if s.alarmAction ty == 2 then sevCRITICAL else sevWARNING) [ty, (s.rdReg 0x4044).toNat]) s

/-- The most severe action of the alarms raised (R428): 2 HALT, then 0 LAMPROOM, then 1 DEGRADED; none without an alarm. -/
def Dev.fuseAction (s : Dev) : Option Nat :=
  let as := s.alarmTypes.map s.alarmAction
  if as.isEmpty then none else if as.contains 2 then some 2 else if as.contains 0 then some 0 else some 1

/-! ### The shadow repair list at start-up (R286, R288, R427) -/

/-- The entries of the REPAIR region up to the first all-zero word. -/
def Dev.burnedEntries (s : Dev) : Nat → Nat → List (Nat × Word32)
  | 0, _ => []
  | k + 1, a => let w := s.sensedWord a; if w == 0 then [] else (a, w) :: s.burnedEntries k (a + 1)

/-- Is an entry of a type start-up knows, with an existing unit (R286, R287)? -/
def entryKnown (w : Word32) : Bool :=
  let ty := bitsOf w 31 28
  (decide (1 ≤ ty) && decide (ty ≤ 5)) && !(ty == 4 && decide (12 ≤ bitsOf w 27 24)) && !(ty == 3 && decide (2 ≤ bitsOf w 27 26))

/-- The rows and columns that entries map onto spares, in entry order. -/
def rowsOf (l : List Word32) (n : Nat) : List (Nat × Nat × Nat) :=
  l.foldl (fun m e =>
    if bitsOf e 31 28 == 1 && bitsOf e 27 22 == n then
      let b := bitsOf e 21 17
      m ++ [(b, bitsOf e 16 0, (m.filter (fun x => x.1 == b)).length)]
    else m) []
def colsOf (l : List Word32) (n : Nat) : List (Nat × Nat × Nat) :=
  l.foldl (fun m e =>
    if bitsOf e 31 28 == 2 && bitsOf e 27 22 == n then
      let b := bitsOf e 21 17
      m ++ [(b, bitsOf e 4 0, (m.filter (fun x => x.1 == b)).length)]
    else m) []

/-- The list at start-up: BURNED entries, those in a marginal word or of no known type set aside with a record; after a warm reset the
SOFT entries, and those set aside whose repair is in force in the die. -/
def Dev.loadRepairs (s : Dev) (cold : Bool) : Dev :=
  let es := s.burnedEntries 5120 wREPAIR
  let marginal (a : Nat) : Bool := s.fuse.marg.any (fun m => m.1 == a)
  let aside := es.filter (fun e => marginal e.1 || !(entryKnown e.2))
  let burned := es.map (fun e => ((if marginal e.1 || !(entryKnown e.2) then 0 else e.2), true))
  let again := (es.filter (fun e => marginal e.1 && s.repairs.any (fun r => r.1 == e.2))).map (fun e => (e.2, false))
  let soft := (s.repairs.filter (fun r => !r.2)) ++ again
  let t := aside.foldl (fun s e => s.record pgFUSES codeOTHER sevWARNING [e.1, e.2.toNat]) s
  { t with repairs := if cold then burned else (burned ++ soft).take 5120 }

/-- Die `n / 4` is soft-repaired from the entries (KINDLE step 9); after a warm reset its remaps are still in force. -/
def Dev.dieRepair (s : Dev) (cold : Bool) (n : Nat) : Dev :=
  if cold then
    let l := s.repairs.map (·.1)
    s.modShaft n (fun p => { p with rowMap := rowsOf l n, colMap := colsOf l n })
  else s

/-- Lanes that TYPE 5 entries exclude (R297, loaded at a reset of the device). -/
def Dev.loadLanes (s : Dev) : Dev :=
  s.repairs.foldl (fun s e =>
    if bitsOf e.1 31 28 == 5 then
      let f := bitsOf e.1 27 26
      s.setF Reg.FARPORT_LANE_EXCL_LANES (Nat.lor (s.fv Reg.FARPORT_LANE_EXCL_LANES f) (2 ^ bitsOf e.1 25 23)) f
    else s) s

/-- Registers that take their value from the fuses: IDENT, MGMT and QUICK_EN at every reset of the device (R116, R357, R374), WAKE_CTL and
EXIT_D0 to D7 at a cold one (R398). -/
def Dev.loadConfig (s : Dev) (cold : Bool) : Dev :=
  let m := (s.cfgWord 1).toNat
  let s := (List.range 12).foldl (fun s h => s.setF Reg.HOSTPORT_MGMT_MGMT_EN (b2n (bitN m h)) h) s
  let s := s.setF Reg.SELFTEST_CTL_QUICK_EN (bitsOf (s.cfgWord 0) 9 9)
  let s := s.wrReg 0x0040 (s.shadow 0x0040)
  if cold then
    let s := s.wrReg 0x1054 (BitVec.ofNat 32 (Nat.land (s.cfgWord 2).toNat 0x7F07))
    (List.range 8).foldl (fun s i => (s.wrReg (0x1060 + 4 * i) (s.cfgWord (3 + i))).reclamp (0x1060 + 4 * i)) s
  else s

/-! ### Burning (R429 to R432) -/

/-- The effective temperature of T_GROUND in 1/16 °C. -/
def Dev.groundE (s : Dev) : Int := (sget (fun _ => ({} : DieSt)) s.heat.dies 0).e

/-- Word `a` takes `v` in both copies, but for the bits that fail verification. -/
def Dev.programWord (s : Dev) (a : Nat) (v weakA weakB : Word32) : Dev :=
  let w := s.fuseAt a
  let w' : FuseWord := ⟨w.na ||| v, (w.sa ||| v) &&& ~~~weakA, w.nb ||| v, (w.sb ||| v) &&& ~~~weakB⟩
  s.modFuse (fun f => { f with array := sset shippedFuse f.array a (cleanWord w') })

/-- Fuses of a word that a burn to `v` programs: those that read 0 at STRICT. -/
def fusesToBurn (w : FuseWord) (v : Word32) : Nat :=
  countOf 32 (fun i => bitN v.toNat i && !(bitN w.sa.toNat i)) + countOf 32 (fun i => bitN v.toNat i && !(bitN w.sb.toNat i))

/-- A word that passed is sound. -/
def Dev.soundWord (s : Dev) (a : Nat) : Dev := (s.modFuse (fun f => { f with marg := f.marg.filter (fun m => m.1 != a) })).showFuse

/-- BURN_STATUS or LOCK_STATUS (base 0x406C or 0x4074): BUSY, RESULT, REASON, with the FUSES count below. -/
def Dev.setBurn (s : Dev) (a busy result why : Nat) : Dev :=
  s.wrReg a (withBits (withBits (withBits (s.rdReg a) 31 31 busy) 29 28 result) 27 24 why)
def aBURN : Nat := 0x406C
def aLOCK : Nat := 0x4074

/-- Why BURN_CTL may not burn a word (R431, R432): the first condition that holds. -/
def Dev.burnWhy (s : Dev) (a : Nat) : Option Nat :=
  let v := s.shadow a
  let old := logical (s.fuseAt a)
  let steady := s.fv Reg.MODES_STATUS_PHASE < 5
  let modeOk := s.mode == mdLAMPROOM ||
    ((s.mode == mdRUN || s.mode == mdDIM) && s.fb Reg.FUSES_BURN_IN_RUN_EN && ((regionAt a).map (·.id)) == some 2)
  let kindOk := 64 ≤ a && ((regionAt a).map (·.kind)) != some 3
  let locked := match regionAt a with
    | some r => regionLocked (fun b => (logical (s.fuseAt b)).toNat) r.id
    | none => false
  if !(steady && modeOk && kindOk) then some 1
  else if s.leaseHeld lsFUSE then some 2
  else if locked && v != old then some 3
  else if old &&& ~~~v != 0 then some 4
  else if 1600 < s.groundE then some 5
  else none

/-- A write of BURN_CTL with GO. -/
def Dev.burnGo (s : Dev) : Dev :=
  let a := s.fv Reg.FUSES_BURN_CTL_ADDR
  if s.fb Reg.FUSES_BURN_STATUS_BUSY then s
  else match s.burnWhy a with
  | some why =>
    let s := if why == 2 then (s.askLease lsFUSE hoBURN rkINTEGRITY).2 else s
    (s.setF Reg.FUSES_BURN_STATUS_FUSES 0).setBurn aBURN 0 2 why
  | none =>
    let s := ((s.askLease lsFUSE hoBURN rkINTEGRITY).2.setF Reg.FUSES_BURN_STATUS_FUSES 0).setBurn aBURN 1 0 0
    s.modFuse (fun f => { f with job := some ⟨.word, [(a, s.shadow a)]⟩ })

/-- Why a region may not be locked (R432, R433). -/
def Dev.lockWhy (s : Dev) (id : Nat) (force : Bool) : Option Nat :=
  let rd (b : Nat) : Nat := (logical (s.fuseAt b)).toNat
  let r := regionD id
  let done := if r.kind == 1 then regionComplete (fun b => (s.shadow b).toNat) r else regionComplete rd r
  if s.mode != mdLAMPROOM || id == 7 then some 1
  else if s.leaseHeld lsFUSE then some 2
  else if regionLocked rd id then some 9
  else if !force && !done then some 7
  else if (digestWords rd r).any (· != 0) then some 8
  else none

/-- The words a lock burns: the digest of R426, then LOCK and FORCED. -/
def Dev.lockWords (s : Dev) (id : Nat) (force : Bool) : List (Nat × Word32) :=
  let rd (b : Nat) : Nat := (logical (s.fuseAt b)).toNat
  let r := regionD id
  let d := regionDigest rd r
  (List.range 8).map (fun i => (digestAt r + i, BitVec.ofNat 32 (d.getD i 0))) ++
    [(4 * id + 2, BitVec.ofNat 32 (Nat.lor (rd (4 * id + 2)) (if force then 0x300 else 0x100)))]

/-- A write of LOCK_CTL with GO. -/
def Dev.lockGo (s : Dev) : Dev :=
  let id := s.fv Reg.FUSES_LOCK_CTL_REGION
  let force := s.fb Reg.FUSES_LOCK_CTL_FORCE
  if s.fb Reg.FUSES_LOCK_STATUS_BUSY then s
  else match s.lockWhy id force with
  | some why => (if why == 2 then (s.askLease lsFUSE hoBURN rkINTEGRITY).2 else s).setBurn aLOCK 0 2 why
  | none =>
    let ws := s.lockWords id force
    let s := (s.askLease lsFUSE hoBURN rkINTEGRITY).2.setBurn aLOCK 1 0 0
    s.modFuse (fun f => { f with job := some ⟨.lock id, ws⟩ })

/-- HOURS_BIT_DUE (R429): the hours counter has passed a multiple of 64: a bit is burned if lease 2 is free, else the device tries again
a second later. -/
def Dev.hoursBit (s : Dev) : Dev :=
  let n := s.hoursThermo.1
  if s.mode == mdSHUTTERED || !s.pins.pwrgood || s.fv Reg.TALLY_TIME_HOURS / 64 ≤ n || 4096 ≤ n || s.fuse.job.isSome then s
  else
    let (ok, s) := s.askLease lsFUSE hoBURN rkINTEGRITY
    if !ok then s
    else
      let a := wHOURS + n / 32
      let v := Nat.lor (logical (s.fuseAt a)).toNat (2 ^ (n % 32))
      s.modFuse (fun f => { f with job := some ⟨.hours, [(a, BitVec.ofNat 32 v)]⟩ })

def execHoursBitDue (s : State) : Host.Outcome State Fault Refusal := s.on fun s => .next s.hoursBit

/-- The job has ended: BURN_STATUS or LOCK_STATUS, the event, the lease. -/
def Dev.burnEnd (s : Dev) (by_ : BurnBy) (result why : Nat) : Dev :=
  let s := (s.modFuse (fun f => { f with job := none })).dropLease lsFUSE hoBURN
  let s := match by_ with
    | .word => s.setBurn aBURN 0 result why
    | .lock _ => s.setBurn aLOCK 0 result why
    | .hours => s
  if result == 1 then
    match by_ with
    | .hours => s
    | _ => s.raise pgFUSES Reg.EV_FUSES_BURN_DONE
  else s

/-- What a burned word changes besides the array: words the device burns itself enter the shadows, a REPAIR word its list entry. -/
def Dev.burnedWord (s : Dev) (by_ : BurnBy) (a : Nat) (v : Word32) : Dev :=
  match by_ with
  | .word =>
    let k := a - wREPAIR
    if wREPAIR ≤ a && k < s.repairs.length then { s with repairs := setAt s.repairs k ((s.repairs.getD k (0, false)).1, true) } else s
  | _ => s.modFuse (fun f => { f with sensed := sset shippedWord f.sensed a v })

/-- Is a lock over with word `a` short of the word that holds LOCK: its rest was not started (R435)? LOCK_STATUS then reads RESULT 3 with reason
STATE (DESIGN CHOICE, log 176: no rule gives a torn lock's result). -/
def BurnBy.torn (b : BurnBy) (a : Nat) (rest : List (Nat × Word32)) : Bool := match b with
  | .lock id => rest.isEmpty && a != 4 * id + 2
  | _ => false

/-- FUSE_WORD_BURN_END (R431): the word in progress has been programmed, verified, and if it failed programmed once more. -/
def Dev.fuseWordEnd (s : Dev) (weakA weakB : Word32) : Dev :=
  match s.fuse.job with
  | none => s
  | some ⟨_, []⟩ => s
  | some ⟨by_, (a, v) :: rest⟩ =>
    let n := fusesToBurn (s.fuseAt a) v
    let s := if by_ == .word then s.setF Reg.FUSES_BURN_STATUS_FUSES n else s
    let s := s.programWord a v weakA weakB
    if (weakA ||| weakB) &&& v != 0 then
      let s := if by_ == .hours then s else s.bump Reg.FUSES_CNT_BURN_FAIL_VALUE
      (s.raiseRec pgFUSES Reg.EV_FUSES_BURN_FAIL sevWARNING [a]).burnEnd by_ 3 6
    else
      let s := ((s.soundWord a).bump Reg.FUSES_CNT_BURN_VALUE).burnedWord by_ a v
      if by_.torn a rest then s.burnEnd by_ 3 1
      else if rest.isEmpty then
        let s := match by_ with
          | .lock id =>
            let w := sget (fun _ => 0) s.fuse.regions id
            s.modFuse (fun f => { f with regions := sset (fun _ => 0) f.regions id (Nat.lor w (0x900 + b2n (bitN v.toNat 9) * 0x200)) })
          | .hours => s.showCounters
          | .word => s
        s.burnEnd by_ 1 0
      else s.modFuse (fun f => { f with job := some ⟨by_, rest⟩ })

/-- No further word of a lock starts (R435): the word in progress is the last. -/
def Dev.fuseStop (s : Dev) : Dev :=
  s.modFuse (fun f => { f with job := f.job.map (fun j => { j with words := j.words.take 1 }) })

/-- One power-cycle pair is burned (KINDLE step 4, R429). -/
def Dev.burnCycle (s : Dev) : Dev :=
  let n := s.cyclesThermo.1
  if 16384 ≤ n then s
  else
    let a := wCYCLES + n / 32
    let v := BitVec.ofNat 32 (Nat.lor (logical (s.fuseAt a)).toNat (2 ^ (n % 32)))
    let s := (s.programWord a v 0 0).burnedWord .hours a v
    let s := (s.showCounters).bump Reg.FUSES_CNT_BURN_VALUE
    if n + 1 == 16384 then s.raise pgFUSES Reg.EV_FUSES_CYCLES_SAT else s

/-! ### Re-sense and trial (R422, R430) -/

/-- A write of FUSES.RESENSE. -/
def Dev.resenseGo (s : Dev) : Dev :=
  let (ok, s) := s.askLease lsFUSE hoRESENSE rkINTEGRITY
  if ok then s.wrReg 0x407C 0 else (s.setF Reg.FUSES_RESENSE_STATUS_DONE 0).setF Reg.FUSES_RESENSE_STATUS_REASON 2

/-- RESENSE_END: the whole array has been sensed again at the present temperature and compared with the shadows. -/
def Dev.resenseEnd (s : Dev) (flaky : List (BitVec 13 × FuseWord)) : Dev :=
  if (s.lease lsFUSE).holder != hoRESENSE then s
  else
    let arr := withReads s.fuse.array flaky
    let changed := ((arr.map (·.1) ++ (s.fuse.sensed.map (·.1)).filter (fun a => arr.all (fun e => e.1 != a))).filter
      (fun a => logical (sget shippedFuse arr a) != s.sensedWord a && logical (sget shippedFuse arr a) != s.shadow a))
    let t := (s.groundE / 16).toNat % 256
    let s := s.wrReg 0x407C (BitVec.ofNat 32 (2 ^ 31 + t * 2 ^ 16 + changed.length))
    let s := (s.raise pgFUSES Reg.EV_FUSES_RESENSE_DONE).dropLease lsFUSE hoRESENSE
    if changed.isEmpty then s
    else
      let first := changed.foldl min (changed.headD 0)
      s.raiseRec pgFUSES Reg.EV_FUSES_RESENSE_CHANGE sevWARNING [first, (margOf arr).length]

def execResenseEnd (flaky : List (BitVec 13 × FuseWord)) (s : State) : Host.Outcome State Fault Refusal := s.on fun s => .next (s.resenseEnd flaky)

/-- A write of SHADOW_DATA: an override while TRIAL_EN.EN is 1, discarded otherwise. -/
def Dev.shadowWrite (s : Dev) (v : Word32) : Dev :=
  if s.fb Reg.FUSES_TRIAL_EN_EN then
    (s.modFuse (fun f => { f with ovr := sset (fun _ => none) f.ovr (s.fv Reg.FUSES_SHADOW_ADDR_ADDR) (some v) })).showFuse
  else s

/-- TRIAL_EN is 0: every override is discarded. -/
def Dev.trialOff (s : Dev) : Dev := ((s.setF Reg.FUSES_TRIAL_EN_EN 0).modFuse (fun f => { f with ovr := [] })).showFuse

end Sys2Proof.Machine
end

