-- ==== Sys2Proof/Machine/Tally.lean ====
section
/-!
DEFINITION. Machine/Tally.lean: the tally log (R439 to R451): the writer, rate limits, the ring, flushing to the management flash, tally time
and the life record, and snapshots; and the time base.
-/
namespace Sys2Proof.Machine

def Dev.modTally (s : Dev) (f : TallySt → TallySt) : Dev := { s with tally := f s.tally }

/-! ### The management flash (R367, R446, R447, R468) -/

/-- An erased byte. -/
def erasedByte (_ : Nat) : BitVec 8 := 0xFF
def Dev.flashByte (s : Dev) (a : Nat) : Nat := (sget erasedByte s.flash a).toNat
def Dev.flashNat (s : Dev) (a n : Nat) : Nat := (List.range n).foldr (fun i x => x * 256 + s.flashByte (a + i)) 0
/-- Write bytes at an address. -/
def Dev.flashPut (s : Dev) (a : Nat) (bs : List Nat) : Dev :=
  { s with flash := (bs.foldl (fun (m : Sparse (BitVec 8) × Nat) b => (sset erasedByte m.1 m.2 (BitVec.ofNat 8 b), m.2 + 1)) (s.flash, a)).1 }
/-- Erase the 4 KiB sector at an address. -/
def Dev.flashErase (s : Dev) (a : Nat) : Dev := { s with flash := s.flash.filter (fun e => e.1 / 4096 != a / 4096) }

/-- First bytes of the archive and the life record. -/
def aARCHIVE : Nat := 0x02000000
def aLIFE : Nat := 0x02800000

/-! ### Records (R439) -/

/-- The power-cycle count (R447). -/
def Dev.powerCycles (s : Dev) : Nat :=
  s.fv Reg.FUSES_CYCLES_COUNT + (if s.fb Reg.FUSES_CYCLES_SATURATED then s.tally.ext else 0)

/-- A record as it lies in the ring: word 0 in bits 31..0. -/
def recordBits (r : TRec) (seq cycle time supp : Nat) : BitVec 256 :=
  let ws := [seq % 65536 + r.code * 65536, r.unit + r.sev * 4096 + cycle % 65536 * 65536, time, r.p0, r.p1, r.p2, r.p3,
    seq % 65536 + min 65535 supp * 65536]
  BitVec.ofNat 256 (ws.foldr (fun w x => x * 2 ^ 32 + w % 2 ^ 32) 0)

def cPAD : Nat := 0x2101
def cSNAPSHOT : Nat := 0x2102

/-- A record of a CODE is not written: it counts in the next SUPPRESSED of that CODE. -/
def Dev.notWritten (s : Dev) (code : Nat) : Dev :=
  s.modTally (fun t => { t with supp := sset (fun _ => 0) t.supp code (sget (fun _ => 0) t.supp code + 1) })

def Dev.head (s : Dev) : Nat := s.fv Reg.TALLY_HEAD_SEQ
def Dev.flushed (s : Dev) : Nat := s.fv Reg.TALLY_FLUSHED_SEQ
/-- Records not yet in flash. -/
def Dev.unflushed (s : Dev) : Nat := (s.head + 2 ^ 32 - s.flushed) % 2 ^ 32

/-- The padding of a snapshot's block is complete: the writer freezes if FREEZE is 1 (R448). -/
def Dev.padsDone (s : Dev) : Dev :=
  if s.tally.snapBlock == some ((s.head + 2 ^ 32 - 1) % 2 ^ 32 / 128) && s.fb Reg.TALLY_SNAP_CTL_FREEZE then
    (s.setF Reg.TALLY_SNAP_STATUS_FROZEN 1).raise pgTALLY Reg.EV_TALLY_FROZEN
  else s

/-- The writer fills the rest of the present block with PAD records (R446). -/
def Dev.padStart (s : Dev) : Dev :=
  if s.tally.pads != 0 then s
  else
    let n := (128 - s.head % 128) % 128
    s.modTally (fun t => { t with pads := n, padFirst := s.head, padCount := n })

/-- A snapshot's record has been dealt with: pad and flush (R448). -/
def Dev.snapPad (s : Dev) : Dev :=
  let s := s.padStart
  let last := (s.head + (if s.tally.pads == 0 then 2 ^ 32 - 1 else 0)) % 2 ^ 32
  let s := s.modTally (fun t => { t with snapping := false, snapBlock := some (last / 128) })
  if s.tally.pads == 0 then
    let t := s.padsDone
    if t.unflushed == 0 then t.modTally (fun t => { t with snapBlock := none }) else t
  else s

/-- A trigger (R448, R449): a snapshot starts, or is counted in MISSED while one is flushing or the ring is frozen. -/
def Dev.snapTrigger (s : Dev) (k seq : Nat) : Dev :=
  if s.tally.snapping || s.tally.snapBlock.isSome || s.fb Reg.TALLY_SNAP_STATUS_FROZEN then s.bumpSat Reg.TALLY_SNAP_STATUS_MISSED
  else
    let s := (s.setF Reg.TALLY_SNAP_STATUS_LAST k).modTally (fun t => { t with snapping := true })
    (s.raise pgTALLY Reg.EV_TALLY_SNAPSHOT).modTally
      (fun t => { t with arriving := t.arriving ++ [⟨cSNAPSHOT, pgTALLY, sevINFO, k, seq, 0, 0⟩] })

/-- The writer stores one record (R440): HEAD rises; when HEAD − FLUSHED would exceed 8,192 the oldest block is lost (R446). -/
def Dev.store (s : Dev) (r : TRec) : Dev :=
  let seq := s.head
  let s := if 8192 ≤ s.unflushed then
      let b := s.flushed / 128
      let s := ((s.setF Reg.TALLY_FLUSHED_SEQ ((s.flushed + 128) % 2 ^ 32)).bumpBy Reg.TALLY_CNT_LOST_UNFLUSHED_VALUE 128).raise
        pgTALLY Reg.EV_TALLY_FLUSH_LAG
      s.modTally (fun t => { t with snapBlock := if t.snapBlock == some b then none else t.snapBlock })
    else s
  let bits := recordBits r seq s.powerCycles (s.rdReg 0x5058).toNat (sget (fun _ => 0) s.tally.supp r.code)
  let s := s.modTally (fun t => { t with ring := sset (fun _ => 0) t.ring (seq % 8192) bits, supp := sset (fun _ => 0) t.supp r.code 0 })
  let s := s.setF Reg.TALLY_HEAD_SEQ ((seq + 1) % 2 ^ 32)
  let s := if s.fb Reg.TALLY_SNAP_CTL_CODE_EN && r.code == s.fv Reg.TALLY_SNAP_CTL_CODE then s.snapTrigger 3 seq else s
  if s.fb Reg.TALLY_SNAP_CTL_SEV_EN && s.fv Reg.TALLY_SNAP_CTL_SEV ≤ r.sev then s.snapTrigger 4 seq else s

/-- A record is dropped: CNT_DROPPED rises. -/
def Dev.dropRec (s : Dev) (r : TRec) : Dev :=
  let s := (s.bump Reg.TALLY_CNT_DROPPED_VALUE).notWritten r.code
  if r.code == cSNAPSHOT then s.snapPad else s

/-- TALLY_RECORD_ARRIVAL (R440, R443, R448): a record reaches the writer. While the ring is frozen only SEV 4 is taken; a queue of 16 is
kept behind the record being written; a record whose bucket is empty is suppressed, SEV 4 taking no token. -/
def Dev.tallyArrive (s : Dev) : Dev :=
  match s.tally.arriving with
  | [] => s
  | r :: l =>
    let s := s.modTally (fun t => { t with arriving := l })
    let used := sget (fun _ => 0) s.tally.used r.code
    let cap : Nat := if s.tally.pads == 0 then 17 else 16
    if (s.fb Reg.TALLY_SNAP_STATUS_FROZEN && r.sev < 4) || cap ≤ s.tally.queue.length then s.dropRec r
    else if r.sev < 4 && s.fv Reg.TALLY_RATE_CTL_BURST ≤ used then
      let s := (s.bump Reg.TALLY_CNT_SUPPRESSED_VALUE).notWritten r.code
      if r.code == cSNAPSHOT then s.snapPad else s
    else
      s.modTally (fun t => { t with queue := t.queue ++ [r],
                                    used := if r.sev < 4 then sset (fun _ => 0) t.used r.code (used + 1) else t.used })

def execTallyRecordArrival (s : State) : Host.Outcome State Fault Refusal := s.on fun s => .next s.tallyArrive

/-- TALLY_RECORD_WRITE (R440, R446): 80 ns pass and one record is stored: a PAD record if a block is being padded, else the first of the
queue. -/
def Dev.tallyWrite (s : Dev) : Dev :=
  if s.tally.pads != 0 then
    let t := s.tally
    let s := (s.modTally (fun t => { t with pads := t.pads - 1 })).store ⟨cPAD, pgTALLY, sevINFO, t.padFirst, t.padCount, 0, 0⟩
    if s.tally.pads == 0 then s.padsDone else s
  else match s.tally.queue with
  | [] => s
  | r :: l =>
    let s := s.modTally (fun t => { t with queue := l })
    if s.fb Reg.TALLY_SNAP_STATUS_FROZEN && r.sev < 4 then s.dropRec r
    else
      let s := s.store r
      if r.code == cSNAPSHOT then s.snapPad else s

def execTallyRecordWrite (s : State) : Host.Outcome State Fault Refusal := s.on fun s => .next s.tallyWrite

/-- TOKEN_REFILL (R443): one token returns to each bucket. -/
def execTokenRefill (s : State) : Host.Outcome State Fault Refusal := s.on fun s =>
  .next (s.modTally (fun t => { t with used := t.used.foldl (fun m e => sset (fun _ => 0) m e.1 (e.2 - 1)) [] }))

/-! ### Reading the ring (R444) -/

/-- The word of the ring window at a register address 0x100_0000 to 0x103_FFFF. -/
def Dev.ringWord (s : Dev) (a : Nat) : Word32 :=
  let off := a - 0x1000000
  BitVec.ofNat 32 ((sget (fun _ => (0 : BitVec 256)) s.tally.ring (off / 32)).toNat / 2 ^ (off % 32 * 8))

/-! ### Flushing (R446) -/

/-- Bytes of a block of 128 records. -/
def Dev.blockBytes (s : Dev) (b : Nat) : List Nat :=
  (List.range 128).flatMap (fun i => bytesLE 32 (sget (fun _ => (0 : BitVec 256)) s.tally.ring ((128 * b + i) % 8192)).toNat)

/-- An operation on the flash takes lease 1 at integrity rank; refused, it is tried again later. -/
def Dev.flashStart (s : Dev) (b sector : Nat) (erase again : Bool) : Dev :=
  let (ok, s) := s.askLease lsFLASH hoTALLY rkINTEGRITY
  if ok then s.modTally (fun t => { t with flushOp := some (b, sector, erase, again) }) else s

/-- BLOCK_FLUSH: firmware writes the first complete block from FLUSHED onward. -/
def Dev.blockFlush (s : Dev) : Dev :=
  if !s.pins.mgmtOn || s.tally.flushOp.isSome || s.unflushed < 128 then s
  else let b := s.flushed / 128; s.flashStart b (b % 2048) false false

def execBlockFlush (s : State) : Host.Outcome State Fault Refusal := s.on fun s => .next s.blockFlush

/-- The write of a snapshot's padded block has ended (R448). -/
def Dev.snapEnd (s : Dev) (b : Nat) : Dev :=
  s.modTally (fun t => { t with snapBlock := if t.snapBlock == some b then none else t.snapBlock })

/-- FLASH_OPERATION_END: a block write or an erase ends. After a write the next sector is erased; a write that fails is tried again once
in the next sector. -/
def Dev.flashEnd (s : Dev) (ok : Bool) : Dev :=
  match s.tally.flushOp with
  | none => s
  | some (b, sec, erase, again) =>
    let s := (s.modTally (fun t => { t with flushOp := none })).dropLease lsFLASH hoTALLY
    let s := if ok then s else s.raise pgTALLY Reg.EV_TALLY_FLUSH_FAIL
    let next := (sec + 1) % 2048
    if erase then (if ok then s.flashErase (aARCHIVE + 4096 * sec) else s)
    else if ok then
      let s := (s.flashPut (aARCHIVE + 4096 * sec) (s.blockBytes b)).bump Reg.TALLY_CNT_FLUSH_VALUE
      let s := if s.flushed == 128 * b then s.setF Reg.TALLY_FLUSHED_SEQ ((s.flushed + 128) % 2 ^ 32) else s
      (s.snapEnd b).flashStart b next true false
    else if again then s.snapEnd b
    else s.flashStart b next false true

def execFlashOperationEnd (ok : Bool) (s : State) : Host.Outcome State Fault Refusal := s.on fun s => .next (s.flashEnd ok)

/-- FLASH_DATA is read under lease 1 at diagnostics rank: none while it is held (R451). -/
def Dev.flashRead (s : Dev) : Dev × Option Word32 :=
  let (ok, t) := s.askLease lsFLASH hoHOSTFL rkDIAG
  if !ok then (s, none)
  else
    let a := 4 * s.fv Reg.TALLY_FLASH_ADDR_ADDR
    let v := BitVec.ofNat 32 (s.flashNat a 4)
    let t := (t.dropLease lsFLASH hoHOSTFL).setF Reg.TALLY_FLASH_ADDR_ADDR ((a / 4 + 1) % 2 ^ 24)
    (t.wrReg 0x5064 v, some v)

/-! ### Tally time and the life record (R447) -/

/-- The 32 bytes of a life entry. -/
def lifeBytes (hours ext arch : Nat) : List Nat :=
  let b := bytesLE 4 0x4C494645 ++ bytesLE 4 hours ++ bytesLE 4 ext ++ bytesLE 4 arch ++ List.replicate 12 0
  b ++ bytesLE 4 (crc32c b).toNat

/-- The entry in slot `k` when its CRC passes: hours, extension, ARCH_HEAD. -/
def Dev.lifeAt (s : Dev) (k : Nat) : Option (Nat × Nat × Nat) :=
  let a := aLIFE + 32 * k
  let b := (List.range 28).map (fun i => s.flashByte (a + i))
  if s.flashNat a 4 == 0x4C494645 && (crc32c b).toNat == s.flashNat (a + 28) 4 then
    some (s.flashNat (a + 4) 4, s.flashNat (a + 8) 4, s.flashNat (a + 12) 4)
  else none

/-- The newest valid entry and its slot: the one with the most hours, the later slot of equals (log 48). -/
def Dev.lifeNewest (s : Dev) : Option (Nat × Nat × Nat × Nat) :=
  (List.range 2048).foldl (fun best k =>
    match s.lifeAt k, best with
    | none, b => b
    | some e, none => some (k, e)
    | some e, some b => if b.2.1 ≤ e.1 then some (k, e) else some b) none

/-- LIFE_RECORD_WRITE: an entry under flash lease 1, in the slot after the newest one; a sector is erased before its first entry. -/
def Dev.lifeWrite (s : Dev) : Dev :=
  if !s.pins.mgmtOn || (s.mode == mdKINDLE && s.fv Reg.DEVICE_KINDLE_STATUS_STEP < 7) then s
  else
    let (ok, s) := s.askLease lsFLASH hoTALLY rkINTEGRITY
    if !ok then s
    else
      let k := match s.lifeNewest with
        | some e => (e.1 + 1) % 2048
        | none => 0
      let a := aLIFE + 32 * k
      let s := if k % 128 == 0 then s.flashErase a else s
      (s.flashPut a (lifeBytes (s.fv Reg.TALLY_TIME_HOURS) s.tally.ext s.flushed)).dropLease lsFLASH hoTALLY

def execLifeRecordWrite (s : State) : Host.Outcome State Fault Refusal := s.on fun s => .next s.lifeWrite

/-- Archive sectors that follow ARCH_HEAD, are not erased, and whose first record's HOURS is at least `hours`: their number. -/
def Dev.archMore (s : Dev) (hours : Nat) : Nat → Nat → Nat
  | 0, _ => 0
  | k + 1, b =>
    let a := aARCHIVE + 4096 * (b % 2048)
    let erased := !(s.flash.any (fun e => e.1 / 4096 == a / 4096))
    if erased || s.flashNat (a + 8) 4 / 4096 < hours then 0 else s.archMore hours k (b + 1) + 1

/-- KINDLE step 4 of a cold kindle (R446, R447): hours restored, HEAD and FLUSHED set, the LIFE record written. -/
def Dev.lifeRestore (s : Dev) : Dev :=
  let fuse := 64 * s.hoursThermo.1
  let e := s.lifeNewest
  let flash := (e.map (·.2.1)).getD 0
  let ext := (e.map (·.2.2.1)).getD 0 + b2n (s.fb Reg.FUSES_CYCLES_SATURATED)
  let result := if s.hoursThermo.2 then 3 else if e.isNone then 2 else if flash < fuse then 1 else 0
  let hours := max fuse flash % 2 ^ 20
  let s := (s.modTally (fun t => { t with ext := ext })).wrReg 0x5058 (BitVec.ofNat 32 (hours * 4096))
  let s := match e with
    | some x =>
      let h := (x.2.2.2 + 128 * s.archMore x.2.1 2048 (x.2.2.2 / 128)) % 2 ^ 32
      (s.setF Reg.TALLY_HEAD_SEQ h).setF Reg.TALLY_FLUSHED_SEQ h
    | none => s
  let s := s.wrReg 0x505C (BitVec.ofNat 32 s.powerCycles)
  let s := if result == 2 || result == 3 then s.raise pgTALLY Reg.EV_TALLY_LIFE_BAD else s
  s.record pgTALLY 0x103 (if result == 0 then sevINFO else sevWARNING) [fuse, flash, result, s.powerCycles]

/-- One REFCLK period (R16, R447): the time base counts it, CNT_CREDIT_WAIT's unit goes on (R134), and every 10^8 of them tally time counts a
second. -/
def Dev.tick (s : Dev) : Dev :=
  if !s.pins.refclk || !s.pins.pwrgood then s
  else
    let s := { s with time := s.time + 1 }
    let s := if s.pins.spineOn then s.creditTick else s
    if s.time % 100000000 != 0 then s
    else if s.fv Reg.TALLY_TIME_SEC < 3599 then s.setF Reg.TALLY_TIME_SEC (s.fv Reg.TALLY_TIME_SEC + 1)
    else (s.setF Reg.TALLY_TIME_SEC 0).setF Reg.TALLY_TIME_HOURS ((s.fv Reg.TALLY_TIME_HOURS + 1) % 2 ^ 20)

/-- URG7_TRIGGER (R449): URG7 accepted at level 1 or above after level 0 while EXT_EN is 1; EXT_EN reads 0 while URG7 serves urgency. -/
def execUrg7Trigger (s : State) : Host.Outcome State Fault Refusal := s.on fun s =>
  if s.fb Reg.TALLY_SNAP_CTL_EXT_EN && !(bitN (s.fv Reg.CLASSES_URG_CTL_EN) 7) then .next (s.snapTrigger 2 0) else .next s

end Sys2Proof.Machine
end

