-- ==== Sys2Proof/Machine/Kindle.lean ====
section
/-!
DEFINITION. Machine/Kindle.lean: the levels of reset (R361 to R363), start-up (R364 to R366), the boot stage and recovery (R367 to R369), the
ground-die reset (R370 to R373), and the DEVICE and COLLAR registers' effects (R374 to R378).
-/
namespace Sys2Proof.Machine

def Dev.modKs (s : Dev) (f : KindleSt → KindleSt) : Dev := { s with ks := f s.ks }
def Dev.modMs (s : Dev) (f : ModeSt → ModeSt) : Dev := { s with ms := f s.ms }

def Dev.kstep (s : Dev) : Nat := s.fv Reg.DEVICE_KINDLE_STATUS_STEP
def Dev.phase (s : Dev) : Nat := s.fv Reg.MODES_STATUS_PHASE
def Dev.setPhase (s : Dev) (p : Nat) : Dev := s.setF Reg.MODES_STATUS_PHASE p
/-- The time base as a record carries it. -/
def Dev.timeLo (s : Dev) : Nat := s.time % 2 ^ 32

/-! ### The alarm pins (R354) -/

/-- FAULT_N is asserted while any source asserts (R16, R354, R365, R366, R392, R412). -/
def Dev.faultAsserted (s : Dev) : Bool :=
  s.pins.pwrgood && (!s.pins.refclk || s.ks.halted || s.ks.lateFault || s.fv Reg.DEVICE_KINDLE_STATUS_FAULT != 0 ||
    s.fb Reg.HEAT_STATUS_TRIPPED)
/-- THERM_N (R411). -/
def Dev.thermAsserted (s : Dev) : Bool := s.pins.pwrgood && s.fb Reg.HEAT_STATUS_THERM

/-! ### The save image's blocks (R395) -/

/-- A block that fails: what it covers is marked or lost (R395). `exit`: the whole image is restored, not only what a warm reset keeps. -/
def Dev.blockFail (s : Dev) (exit : Bool) (b : ImgFail) : Dev :=
  let s := s.raiseRec pgMODES Reg.EV_MODES_RESTORE_FAIL sevWARNING []
  match b with
  | .table first count =>
    (List.range count.val).foldl (fun s i =>
      let set := first.toNat + i
      if 32768 ≤ set then s
      else s.modSpace (fun p => { p with ways := p.ways.filter (fun e => e.1 / 18 != set), suspect := iadd p.suspect set set })) s
  | .birth k => s.modSpace (fun p => { p with born := iadd p.born (32768 * k.val) (32768 * k.val + 32767), suspect := [(0, 32767)] })
  | .page p =>
    let page := p.toNat
    if exit then s.resetPage page (fun off => off < 0x14)
    else if page == hauPage then s.resetPage page (fun off => off < 0x40)
    else if page == pgPAIR then s.resetPage page (fun off => off < 0x40)
    else s
  | .slots n => if exit then s.resetPage (enginePage n) (fun off => !(0x140 ≤ off && off < 0x1C0)) else s
  | .taps n => if exit then (s.modShaft n (fun p => { p with taps := [], edges := [] })).enter (shaftPage n) stKINDLING else s
  | .trackers n => if exit then s.modShaft n (fun p => { p with tracker := [], poison := [] }) else s
  | .units => s

/-! ### Completing writes at a warm reset (R363, R372) -/

/-- An atomic that was queued reaches its completion on what the cells and the write buffer hold. -/
def Dev.finishAtom (s : Dev) (n : Nat) (r : Req) : Dev :=
  let d := s.dramLine n r.sline
  let bad := s.dramBadOf n r.sline
  let w := (s.shaft n).wbuf.find? (fun w => w.sline == r.sline)
  let cur := match w with
    | some e => (mergeLine d e.data e.mask, (bad &&& (fullMask ^^^ e.mask)) ||| (e.bad &&& e.mask))
    | none => (d, bad)
  if linePoison cur then s.shaftAnswer n r (.atomData 0 false true)
  else
    let h := UnitLine.apply ⟨cur.1, 0, 0, []⟩ r
    let s := s.modShaft n (fun p => p.bufPut ⟨r.sline, r.line, h.data, h.mask, h.bad, r.cls, r.urg, 0, 0⟩)
    h.answers.foldl (fun s x => s.shaftAnswer n x.1 x.2) (if h.bad == 0 then s else s.signed n)

/-- One access of the collar queue, local path or window is completed; reads leave nothing behind. -/
def Dev.finishReq (s : Dev) (n : Nat) (r : Req) : Dev :=
  match r.op with
  | .wr => s.takeWrite n r 0
  | .wrm => if r.mask == 0 then s.shaftAnswer n r .ack else s.takeWrite n r 0
  | .atom _ => s.finishAtom n r
  | .zfill =>
    let z (s : Dev) : Dev := s.modShaft n (fun p => (List.range 64).foldl (fun p i =>
      p.bufPut ⟨r.sline / 64 * 64 + i, r.line / 64 * 64 + i, 0, fullMask, 0, r.cls, r.urg, 0, 0⟩) p)
    (z s).shaftAnswer n r .ack
  | _ => s

/-- A shaft completes what has reached it, drains its write buffer and enters self-refresh; a shaft that cannot keeps its buffer's
lines, which are lost (R363). What a replay and the atomic units still have to write is in the buffer then. -/
def Dev.finishShaft (s : Dev) (stuck : BitVec 48) (n : Nat) : Dev :=
  let st := s.shaftSt n
  let s := s.modShaft n (fun p => let q := p.endReplay p.replay
    { q.units.foldl ShaftSt.keepUnit q with units := [] })
  let p := s.shaft n
  if bitN stuck.toNat n || p.alertFenced || !(st == stONLINE || st == stEVACUATING || st == stFENCED || st == stTESTING) then
    let s := s.modKs (fun k => { k with leftover := k.leftover ++ p.wbuf.map (fun w => frameOfLine w.host) })
    s.modShaft n (fun p => { p with wbuf := [] })
  else
    let rs := (match p.zin with
      | some z => [z.req]
      | none => []) ++ p.win.map (·.req) ++ p.collar.map (·.1) ++ p.localq
    let s := s.modShaft n (fun p => { p with win := [], collar := [], localq := [], zin := none, fly := [] })
    (rs.foldl (fun s r => s.finishReq n r) s).drainWbuf n

/-! ### Warm device reset (R361, R362) -/

/-- Registers that keep their values across a warm device reset, by page and offset (R362, R374, R398, R401, R450, R44, R330). -/
def warmKeeps (page off : Nat) : Bool :=
  if page == 0 then off == 0x44 || (0x6C ≤ off && off < 0x7C)
  else if page == pgMODES || page == pgTALLY then true
  else if page == pgPOWER then off == 0x40 || off == 0x18 || off == 0x20
  else if page == hauPage then (0x40 ≤ off && off < 0x100) || 0x17C ≤ off
  else if page == pgPAIR then off == Reg.PAIR_CTL_ROLE.off || off == Reg.PAIR_EPOCH_EPOCH.off ||
    0x400 ≤ off
  else false

/-- Step 1 of KINDLE begins. -/
def Dev.kindleStart (s : Dev) : Dev :=
  let s := (s.setF Reg.MODES_STATUS_MODE mdKINDLE).setPhase 0
  let s := s.wrReg 0x0050 (resetWord 0x0050)
  let s := s.modTally (fun t => { t with used := [] })
  s.modKs (fun k => { k with start := s.time, held := false, halted := false, recovery := false, clamp := false })

/-- A warm device reset with its cause (R375): what the always-on island, the DRAM, the stores and the die repairs keep stays, all
else takes its reset value. The reset is held until RESET_N is high. -/
def Dev.warmReset (s : Dev) (cause : Nat) (stuck : BitVec 48) : Dev :=
  let s := (s.setF Reg.DEVICE_RESET_CAUSE_WARM cause).bump Reg.DEVICE_CNT_WARM_VALUE
  let s := match s.ks.refLost with
    | some t => ((s.setF Reg.DEVICE_RESET_CAUSE_REFCLK_LOST 1).record 0 0x102 sevCRITICAL [t]).modKs (fun k => { k with refLost := none })
    | none => s
  let s := s.record 0 0x101 sevCRITICAL [(s.rdReg 0x0044).toNat, s.timeLo]
  let s := if s.phase == 7 || s.phase == 8 then s.setF Reg.MODES_STATUS_SAVE_VALID 0 else s
  let s := if s.mode == mdSHUTTERED then s else (List.range 48).foldl (fun s n => s.finishShaft stuck n) s
  let next := s.fb Reg.DEVICE_KINDLE_CTL_NEXT_LAMPROOM
  let s := (List.range 12).foldl (fun s h => if (s.port h).adapterUp then s.emit (.link h false) else s) s
  let s := s.resyncStop
  let t : Dev := { s with
    regs := s.regs.filter (fun e => warmKeeps (e.1 / 4096) (e.1 % 4096)), hiLatch := [],
    ports := smapv (fun _ => {}) s.ports (fun q => { replTx := q.replTx, replRx := q.replRx }), fabric := {}, classes := [], arb := [],
    haul := {}, fars := [], disp := {}, notice := {}, answers := [], leases := [], calBusy := (0, 0), stest := {}, heat := {}, tap := {},
    engines := smapv (fun _ => {}) s.engines (fun g => { store := g.store }),
    shafts := smapv (fun _ => {}) s.shafts (fun p => { rowMap := p.rowMap, colMap := p.colMap }),
    space := { s.space with resvPend := [], walking := false, clearing := false, lookupQ := [], free := [] },
    pair := s.pair.kept,
    pins := { s.pins with mgmtOn := true, spineOn := true }, impRun := false, wlNow := 64, wlDue := false,
    ms := { ({} : ModeSt) with wakeMv := s.ms.wakeMv, banks := s.ms.banks },
    fuse := { s.fuse with ovr := [], job := none } }
  let t := t.setF Reg.DEVICE_KINDLE_CTL_NEXT_LAMPROOM (b2n next)
  let t := t.modKs (fun k => { k with cold := false, img := [], gdr := none, collar := [] })
  let t := t.kindleStart
  if t.pins.resetN then t else t.modKs (fun k => { k with held := true })

/-- RESET_N_FALL (R361): a warm device reset starts and is held. -/
def execResetNFall (stuck : BitVec 48) (s : State) : Host.Outcome State Fault Refusal := s.on fun s =>
  if !s.pins.resetN then .next s
  else
    let s := { s with pins := { s.pins with resetN := false } }
    if s.pins.pwrgood then .next (s.warmReset 2 stuck) else .next s

/-- RESET_N_RISE (R361): a held reset ends and KINDLE starts. `refclk`: REFCLK runs. -/
def execResetNRise (refclk : Bool) (s : State) : Host.Outcome State Fault Refusal := s.on fun s =>
  if s.pins.resetN then .next s
  else
    let s := { s with pins := { s.pins with resetN := true, refclk := refclk } }
    if s.pins.pwrgood && s.ks.held then .next s.kindleStart else .next s

/-- WATCHDOG_EXPIRY (R375): an armed watchdog expires while the management controller runs. -/
def execWatchdogExpiry (stuck : BitVec 48) (s : State) : Host.Outcome State Fault Refusal := s.on fun s =>
  if s.fb Reg.DEVICE_WDOG_CTL_EN && s.pins.mgmtOn && s.pins.pwrgood && s.pins.refclk && s.mode != mdSHUTTERED then
    .next ((s.record 0 codeOTHER sevWARNING [s.timeLo]).warmReset 4 stuck)
  else .next s

/-- REFCLK_LOST (R16): FAULT_N is asserted, the time base and the PLLs stop, every link with them, and the DRAM is held in self-refresh; nothing
is served. -/
def Dev.refclkLost (s : Dev) : Dev :=
  if !s.pins.refclk || !s.pins.pwrgood then s
  else
    let s := { s with pins := { s.pins with refclk := false } }
    let s := s.modKs (fun k => { k with refLost := some s.timeLo })
    let s := if s.mode == mdSHUTTERED then s
      else (List.range 48).foldl (fun s n => if s.inSR n then s else s.enterSR n) s
    let s := (List.range 12).foldl (fun s h => if (s.port h).adapterUp then s.dropLink h else s) s
    (List.range 4).foldl (fun s f => if s.farLinkUp f then s.farDown f else s) s

def execRefclkLost (s : State) : Host.Outcome State Fault Refusal := s.on fun s => .next s.refclkLost

/-! ### Power (R361, R362) -/

/-- PWRGOOD_FALL: OFF. Everything is lost but the fuses, the flash and what the board holds (R362). -/
def Dev.powerOff (s : Dev) : Dev :=
  let s := (List.range 12).foldl (fun s h => if (s.port h).adapterUp then s.emit (.link h false) else s) s
  { Dev.reset with
    out := s.out, nextId := s.nextId, free := s.free, flash := s.flash, fuse := { array := s.fuse.array },
    ms := { ({} : ModeSt) with wakeMv := s.ms.wakeMv }, tap := s.tap,
    pins := { s.pins with pwrgood := false, mgmtOn := true, spineOn := true } }

def execPwrgoodFall (s : State) : Host.Outcome State Fault Refusal := s.on fun s => if s.pins.pwrgood then .next s.powerOff else .next s

/-- PWRGOOD_RISE: a cold kindle starts, at once when RESET_N is high (R361, R471). -/
def Dev.powerOn (s : Dev) (refclk : Bool) : Dev :=
  if s.pins.pwrgood then s
  else
    let s := { s with pins := { s.pins with pwrgood := true, refclk := refclk } }
    let s := (s.setF Reg.DEVICE_RESET_CAUSE_WARM 1).modKs (fun k => { k with cold := true })
    if s.pins.resetN then s.kindleStart else s.kindleStart.modKs (fun k => { k with held := true })

def execPwrgoodRise (refclk : Bool) (s : State) : Host.Outcome State Fault Refusal := s.on fun s => .next (s.powerOn refclk)

/-! ### The boot stage (R367, R368) -/

/-- The little-endian number at offset `o` of an image read by `rd`. -/
def imgNat (rd : Nat → Nat) (o n : Nat) : Nat := (List.range n).foldr (fun i x => x * 256 + rd (o + i)) 0
def imgBytes (rd : Nat → Nat) (o n : Nat) : List Nat := (List.range n).map (fun i => rd (o + i))

/-- The key digests of the KEYS region: none in alarm, none that is all zero (R425, R428). -/
def Dev.keyDigests (s : Dev) : List (List Nat) :=
  if s.regionBad 3 then []
  else ([0, 12].map (fun k => (List.range 12).flatMap (fun i => bytesLE 4 (s.shadow (wKEYS + k + i)).toNat))).filter (fun d => d.any (· != 0))

/-- The check of an image: the RESULT codes of BOOT_STATUS (R367, R375). -/
def Dev.imageCheck (s : Dev) (rd : Nat → Nat) : Nat :=
  let len := imgNat rd 8 4
  if imgNat rd 0 4 != 0x4E475541 || len < 4 || 8388352 < len || len % 4 != 0 then 2
  else
    let key := imgBytes rd 16 96
    if !(s.keyDigests.contains (sha384 key)) then 3
    else if Config.ecdsaVerifies key (imgBytes rd 112 96) (sha384 (imgBytes rd 0 16 ++ imgBytes rd 256 len)) then 1
    else 4

def Dev.setBoot (s : Dev) (slot result gen : Nat) : Dev :=
  ((s.setF Reg.DEVICE_BOOT_STATUS_SLOT slot).setF Reg.DEVICE_BOOT_STATUS_RESULT result).setF Reg.DEVICE_BOOT_STATUS_GEN (gen % 2 ^ 24)

/-- Every host port with MGMT_EN is trained, and no other (R368, R369). -/
def Dev.trainMgmt (s : Dev) : Dev :=
  (List.range 12).foldl (fun s h =>
    if s.fb Reg.HOSTPORT_MGMT_MGMT_EN h && s.portSt h == stOFFLINE then s.startTraining h else s) s

/-- No image passes: LAMPROOM in recovery (R368). -/
def Dev.enterRecovery (s : Dev) : Dev :=
  let s := (s.setF Reg.MODES_STATUS_MODE mdLAMPROOM).setF Reg.DEVICE_KINDLE_STATUS_ACTIVE 0
  let s := s.setF Reg.DEVICE_KINDLE_STATUS_FAULT 2
  (s.modKs (fun k => { k with recovery := true })).trainMgmt

/-- Step 5: the slot with the higher GEN is tried first, slot 0 when they are equal; a slot that cannot be read fails with 5. -/
def Dev.bootLoad (s : Dev) (bad : BitVec 2) : Dev × Bool :=
  let rd (k o : Nat) : Nat := s.flashByte (k * 0x01000000 + o)
  let gen (k : Nat) : Nat := imgNat (rd k) 4 4
  let first : Nat := if gen 0 < gen 1 then 1 else 0
  let chk (k : Nat) : Nat := if bitN bad.toNat k then 5 else s.imageCheck (rd k)
  let a := chk first
  if a == 1 then (s.setBoot first 1 (gen first), true)
  else
    let s := s.raise 0 Reg.EV_DEVICE_BOOT_FALLBACK
    let b := chk (1 - first)
    if b == 1 then (s.setBoot (1 - first) 1 (gen (1 - first)), true) else (s.setBoot 3 b 0, false)

/-! ### Steps of start-up (R364, R366) -/

/-- A collar port's tile, trained or failed (R377). -/
def Dev.setTile (s : Dev) (lo hi : Fld) (n : Nat) (on : Bool) : Dev :=
  let a := if n < 32 then lo.addr 0 0 else hi.addr 0 0
  s.wrReg a (withBits (s.rdReg a) (n % 32) (n % 32) (b2n on))

/-- A tile that cannot be reached: engine n and shaft n are FAILED, and the engine's jobs leave it (R262). -/
def Dev.failTile (s : Dev) (n : Nat) : Dev := ((s.engLeave n stRESET).enter (enginePage n) stFAILED).failShaft n

/-- All 48 collar ports have trained, but for those that failed three attempts (R364 step 7, R370 step 5, R391 step 4); `again`: as a
retrain, which is counted (R377, R378). -/
def Dev.collarTrain (s : Dev) (fails : BitVec 48) (again : Bool := false) : Dev :=
  let s := if fails == 0 then s else s.raise pgCOLLAR Reg.EV_COLLAR_RETRAIN_FAIL
  (List.range 48).foldl (fun s n =>
    let bad := bitN fails.toNat n
    let s := (s.setTile Reg.COLLAR_TRAINED_LO_TILES Reg.COLLAR_TRAINED_HI_TILES n (!bad)).setTile
      Reg.COLLAR_FAILED_LO_TILES Reg.COLLAR_FAILED_HI_TILES n bad
    let s := s.modKs (fun k => { k with collar := smod (fun _ => (0, false)) k.collar n (fun c => (min 255 (c.1 + b2n again), !bad)) })
    let s := if again then s.bump Reg.COLLAR_CNT_RETRAIN_VALUE else s
    if bad then s.failTile n else s) s

/-- A unit that has not failed enters a state. -/
def Dev.unlessFailed (s : Dev) (page st : Nat) : Dev := if s.ust page == stFAILED then s else s.enter page st

/-- Step 7: the collar trains; the islands of the tiles that trained come up (R366). -/
def Dev.kindleCollar (s : Dev) (fails : BitVec 48) : Dev :=
  let s := s.collarTrain fails
  let s := if fails == BitVec.allOnes 48 then s.setF Reg.DEVICE_KINDLE_STATUS_FAULT 3 else s
  ((List.range 48).foldl (fun s n => s.unlessFailed (shaftPage n) stKINDLING) s).liveChange

/-- Step 8: engines come up with their scratch zeroed (R239). -/
def Dev.kindleEngines (s : Dev) : Dev :=
  ((List.range 48).foldl (fun s n =>
    if s.engSt n == stFAILED then s
    else (((s.enter (enginePage n) stKINDLING).modEng n (fun g => { g.clearRegs with scratch := [], scratchBad := [], fcache := [] })).engLimits
      n).enter (enginePage n) stONLINE) s).liveChange

/-- The references at start-up (R192 to R194, R207): the impedance measurement, the converter's calibration, which comes before the thermal
sequencer starts, and the wake comparator check. -/
def Dev.kindleRefs (s : Dev) (o : RefObs) : Dev :=
  (((s.impFound o.master.toNat).convStart.convFound o.zero o.ref).wakeStart).wakeFound o.wakeMv

/-- Step 9: the DRAM is initialised and repaired; after a warm reset it leaves self-refresh instead. -/
def Dev.kindleDram (s : Dev) (mute : BitVec 48) : Dev :=
  (List.range 48).foldl (fun s n =>
    if s.shaftSt n == stFAILED then s
    else if bitN mute.toNat n then s.failShaft n
    else (s.exitSR n).dieRepair s.ks.cold n) s

/-- Step 10: every shaft is trained; one whose training ends with RESULT 3 is FAILED (R200). -/
def Dev.kindleTrain (s : Dev) (train : List (Fin 48 × List TrainObs)) : Dev :=
  (List.range 48).foldl (fun s n =>
    if s.shaftSt n != stKINDLING then s
    else s.trainRun n (((train.find? (fun x => x.1.val == n)).map (·.2)).getD [])) s

/-- The quick self-test has repaired shaft `n`; one that took a column spare leaves service and is fully trained as a test ends, and then serves
again (R348, R349; the sequence is DEDUCED, log 177). The Bool says that it is usable. -/
def Dev.quickTrain (s : Dev) (n : Nat) (o : SelftestObs) : Dev × Bool :=
  let spared := o.defects.any (fun d => match d with
    | .column _ => true
    | _ => false)
  if !spared then (s, true)
  else
    let page := shaftPage n
    let s := (((s.enter page stFENCED).bufferFirst n).enter page stTESTING).trainRun n o.train
    if s.fv Reg.SHAFT_TRAIN_STATUS_RESULT n == 3 then (s, false) else ((s.enter page stFENCED).enter page stONLINE, true)

/-- Step 11: the quick self-test, COLLAR and COLUMN on all 48 tiles (R349). -/
def Dev.quickTest (s : Dev) (l : List (Fin 48 × SelftestObs)) : Dev :=
  if !(s.fb Reg.SELFTEST_CTL_QUICK_EN) then s
  else
    let s := [0x8054, 0x8058, 0x805C, 0x8060].foldl (fun s a => s.wrReg a 0) s
    l.foldl (fun s x =>
      let n := x.1.val
      if s.shaftSt n == stFAILED || x.2.defects.isEmpty then s else
      let (s, ok) := s.repairAll (.shaft n) x.2.defects
      let bonds := !ok && x.2.defects.any (fun d => match d with
        | .bond _ => true
        | _ => false)
      let (s, ok) := if ok then s.quickTrain n x.2 else (s, false)
      if ok then s.markTarget Reg.SELFTEST_REPAIR_LO_UNITS Reg.SELFTEST_REPAIR_HI_UNITS n
      else
        let s := s.markTarget Reg.SELFTEST_FAIL_LO_UNITS Reg.SELFTEST_FAIL_HI_UNITS n
        if bonds then s.failTile n else s.failShaft n) s

/-- Step 12 of a warm kindle begins: what a save image holds of the kept state is checked, lines left in a write buffer are reported
lost, and the walk starts (R46, R363, R389). -/
def Dev.kindleWalk (s : Dev) (blocks : List ImgFail) : Dev :=
  let saved := s.fb Reg.MODES_STATUS_SAVE_VALID
  let s := if saved then (blocks.foldl (fun s b => s.blockFail false b) s).setF Reg.MODES_STATUS_SAVE_VALID 0 else s
  let s := s.ks.leftover.foldl (fun s f => s.addLost f) s
  let s := s.modKs (fun k => { k with leftover := [] })
  (s.enter hauPage stKINDLING).startWalk

/-- Step 12 ends: haulage and the dispatcher serve. -/
def Dev.spaceReady (s : Dev) : Dev :=
  let s := if s.ks.cold then
      (let s := ({ s with space := { s.space with resv := resvReset, resvPend := [] } }).tableClear
       (List.range 48).foldl (fun s n => if s.shaftUp n then s else s.pendResv n) s)
    else s
  let up (s : Dev) (p : Nat) : Dev := if s.ust p == stONLINE then s else (s.enter p stKINDLING).enter p stONLINE
  up (up s hauPage) dispPage

/-- Step 14 begins: every host port starts training (R364, R478). -/
def Dev.trainHosts (s : Dev) : Dev :=
  (List.range 12).foldl (fun s h =>
    if s.portSt h == stOFFLINE && !(s.fb Reg.HOSTPORT_LINK_CTL_DISABLE h) then s.startTraining h else s) s

/-- Start-up halts (R365, R366, R369). -/
def Dev.kindleHalt (s : Dev) : Dev := s.modKs (fun k => { k with halted := true })

/-- Step 6: the boot stage judges the alarms by policy and arms the watchdog (R369, R428). -/
def Dev.bootStage (s : Dev) : Dev × Bool :=
  let s := (s.setF Reg.DEVICE_WDOG_CTL_EN 1).modKs (fun k => { k with wdogFrom := s.time })
  match s.fuseAction with
  | some 2 => (((s.setF Reg.DEVICE_KINDLE_STATUS_FAULT 4).kindleHalt).trainMgmt, false)
  | some 0 => (s.modKs (fun k => { k with clamp := true }), true)
  | _ => (s, true)

/-- What the end of step `k` does, and whether start-up goes on. -/
def Dev.kindleDo (s : Dev) (k : Nat) (o : KindleObs) : Dev × Bool :=
  match k with
  | 2 => (s.senseFuses o.fuses, true)
  | 3 => ((((s.checkFuses).loadRepairs s.ks.cold).loadConfig s.ks.cold).loadLanes, true)
  | 4 => if !o.selfOk then (s.kindleHalt, false) else ((if s.ks.cold then s.burnCycle.lifeRestore else s).kindleRefs o.refs, true)
  | 5 => let (s, ok) := s.bootLoad o.flashBad; if ok then (s, true) else (s.enterRecovery, false)
  | 6 => s.bootStage
  | 7 => (s.kindleCollar o.ports, true)
  | 8 => (s.kindleEngines, true)
  | 9 => (s.kindleDram o.mute, true)
  | 10 => (s.kindleTrain o.train, true)
  | 11 => let s := s.quickTest o.quick; (if s.ks.cold then s else s.kindleWalk o.blocks, true)
  | 12 => if s.space.walking then (s, false) else (s.spaceReady, true)
  | 13 => (s.trainHosts, true)
  | _ => (s, true)

/-- Does start-up run: power, reset, clock, no halt, no trip (R16, R365, R415)? -/
def Dev.kindleRuns (s : Dev) : Bool :=
  s.pins.pwrgood && s.pins.resetN && s.pins.refclk && !s.ks.halted && !s.ks.held && s.mode == mdKINDLE && !(s.fb Reg.HEAT_STATUS_TRIPPED)

/-- KINDLE_STEP_END (R364): the step in progress ends and the next one begins; the last one ends by KINDLE_CTL.DONE. The pages of the
spine and the management controller come live with steps 2 and 4 (R464, R465). -/
def Dev.kindleStepEnd (s : Dev) (o : KindleObs) : Dev :=
  let k := s.kstep
  if !s.kindleRuns || 16 ≤ k then s
  else
    let (s, on) := s.kindleDo k o
    if !on then s
    else
      let s := s.setF Reg.DEVICE_KINDLE_STATUS_STEP (k + 1)
      if k == 1 || k == 3 then s.liveChange else s

def execKindleStepEnd (o : KindleObs) (s : State) : Host.Outcome State Fault Refusal := s.on fun s => .next (s.kindleStepEnd o)

/-- KINDLE_CTL.DONE (R365): the device enters TARGET, clamped to LAMPROOM in the cases of R365 and R428. Ignored outside KINDLE, in
recovery and under a halt. -/
def Dev.kindleDone (s : Dev) : Dev :=
  if s.mode != mdKINDLE || s.ks.halted || s.ks.recovery then s
  else
    let lamp := s.fb Reg.DEVICE_KINDLE_CTL_TARGET || bitN (s.cfgWord 0).toNat 8 || s.fb Reg.DEVICE_KINDLE_CTL_NEXT_LAMPROOM ||
      s.fv Reg.DEVICE_KINDLE_STATUS_FAULT == 3 || s.ks.clamp
    let s := (s.setF Reg.MODES_STATUS_MODE (if lamp then mdLAMPROOM else mdRUN)).setF Reg.DEVICE_KINDLE_STATUS_ACTIVE 0
    let s := s.modKs (fun k => { k with lateFault := false })
    (s.setF Reg.DEVICE_KINDLE_CTL_NEXT_LAMPROOM 0).raise 0 Reg.EV_DEVICE_KINDLE_DONE

/-- KINDLE_TIMER_EXPIRY (R365). -/
def Dev.kindleTimer (s : Dev) : Dev :=
  if !s.kindleRuns then s
  else if s.kstep < 6 then s.kindleHalt
  else
    let s := (s.setF Reg.MODES_STATUS_MODE mdLAMPROOM).setF Reg.DEVICE_KINDLE_STATUS_ACTIVE 0
    let s := (s.setF Reg.DEVICE_KINDLE_STATUS_FAULT 1).setF Reg.DEVICE_RESET_CAUSE_KINDLE_TIMEOUT 1
    let s := s.modKs (fun k => { k with lateFault := false })
    s.record 0 codeOTHER sevWARNING [s.kstep]

def execKindleTimerExpiry (s : State) : Host.Outcome State Fault Refusal := s.on fun s => .next s.kindleTimer

/-- A word written to IMG_DATA: stored at OFFSET, which advances by 4; discarded unless SLOT reads 3 (R375). -/
def Dev.imgWord (s : Dev) (v : Word32) : Dev :=
  if s.fv Reg.DEVICE_BOOT_STATUS_SLOT != 3 then s
  else
    let o := s.fv Reg.DEVICE_IMG_ADDR_OFFSET
    let s := s.modKs (fun k => { k with img := sset (fun _ => 0) k.img o v })
    s.setF Reg.DEVICE_IMG_ADDR_OFFSET (min (o + 1) 0x1FFFFF)

/-- BOOT_CTL.IMG_GO (R368): the recovery image is checked; if it passes, KINDLE restarts at step 6 with its timer at 0. -/
def Dev.imgGo (s : Dev) : Dev :=
  if !s.ks.recovery then s
  else
    let rd (o : Nat) : Nat := (sget (fun _ => (0 : Word32)) s.ks.img (o / 4)).toNat / 2 ^ (8 * (o % 4)) % 256
    let r := s.imageCheck rd
    if r != 1 then s.setF Reg.DEVICE_BOOT_STATUS_RESULT r
    else
      let s := (s.setBoot 2 1 (imgNat rd 4 4)).setF Reg.MODES_STATUS_MODE mdKINDLE
      let s := ((s.setF Reg.DEVICE_KINDLE_STATUS_ACTIVE 1).setF Reg.DEVICE_KINDLE_STATUS_FAULT 0).setF Reg.DEVICE_KINDLE_STATUS_STEP 6
      s.modKs (fun k => { k with recovery := false, start := s.time })

/-- KINDLE_STATUS with ELAPSED_MS: milliseconds since step 1, saturating. -/
def Dev.kindleStatus (s : Dev) : Word32 :=
  withBits (s.rdReg 0x0050) 15 0 (min 65535 ((s.time - s.ks.start) / ticksPerMs))

/-- A write of WDOG_KICK restarts the watchdog's count. -/
def Dev.wdogKick (s : Dev) : Dev := s.modKs (fun k => { k with wdogFrom := s.time })

/-! ### COLLAR (R377, R378) -/

/-- PORT_STATUS of the tile SEL names. -/
def Dev.portStatus (s : Dev) : Word32 :=
  let n := s.fv Reg.COLLAR_SEL_TILE
  let c := sget (fun _ => (0, false)) s.ks.collar n
  BitVec.ofNat 32 (min 16 (s.sparesUsed 0 n) + min 255 c.1 * 2 ^ 8 + b2n c.2 * 2 ^ 16)

/-- RETRAIN_CTL.GO: one port is retrained, when its engine and shaft are both FENCED or TESTING. A port that fails all three attempts
leaves both FAILED. -/
def Dev.retrainPort (s : Dev) (pass : Bool) : Dev :=
  let n := s.fv Reg.COLLAR_RETRAIN_CTL_TILE
  let free (st : Nat) : Bool := st == stFENCED || st == stTESTING
  if !(free (s.shaftSt n) && free (s.engSt n)) then s
  else
    let s := s.modKs (fun k => { k with collar := smod (fun _ => (0, false)) k.collar n (fun c => (min 255 (c.1 + 1), pass)) })
    let s := s.bump Reg.COLLAR_CNT_RETRAIN_VALUE
    let s := (s.setTile Reg.COLLAR_TRAINED_LO_TILES Reg.COLLAR_TRAINED_HI_TILES n pass).setTile
      Reg.COLLAR_FAILED_LO_TILES Reg.COLLAR_FAILED_HI_TILES n (!pass)
    if pass then s else (s.raise pgCOLLAR Reg.EV_COLLAR_RETRAIN_FAIL).failTile n

/-! ### Ground-die reset (R370 to R372) -/

/-- Is request `id` at a shaft? -/
def Dev.atShaft (s : Dev) (id : Nat) : Bool :=
  s.shafts.any (fun e => e.2.collar.any (fun x => x.1.id == id) || e.2.localq.any (fun r => r.id == id) || e.2.win.any (fun w => w.req.id == id))

/-- Engine `n`'s access is on its own shaft's local path. -/
def Dev.accLocal (s : Dev) (n : Nat) (a : Acc) : Bool :=
  let p := s.shaft n
  let mine (r : Req) : Bool := r.org == .engine n a.id
  p.localq.any mine || p.win.any (fun w => mine w.req)

/-- A tile whose collar is held idle (R371): accesses of its engine that wait for an answer from across the collar are LOST, and the
engine freezes at its next step boundary with its frame cache empty. The number marked is returned. -/
def Dev.tileIdle (s : Dev) (n : Nat) : Dev × Nat :=
  let lost := (s.eng n).acc.filter (fun a => a.sent && !(s.accLocal n a))
  let ids := lost.map (·.id)
  let s := s.modEng n (fun g => { g with acc := g.acc.filter (fun a => !(ids.contains a.id)), fcache := [] })
  (s.engFreeze n 2 true, lost.length)

/-- A correction order that waits on source 3 or 4 when the ground die is reset (R289): unless scrub asked for it, its requester is frozen or
reset, so that the order is abandoned with its access, and nothing is marked. -/
def Dev.dropOrders (s : Dev) (n : Nat) : Dev :=
  let gone := ((s.shaft n).fly.filter (fun f => decide (4 ≤ f.stage) && (match f.req.org with
    | .scrub _ => false
    | _ => true))).map (fun f => f.req)
  if gone.isEmpty then s
  else
    let ids := gone.map (·.id)
    let s := s.modShaft n (fun p => { p with fly := p.fly.filter (fun f => !(ids.contains f.req.id)), win := p.win.filter (fun w => !(ids.contains w.req.id)),
                                             units := p.units.filter (fun u => u.fix || !(ids.contains u.id)) })
    s.modEng n (fun g => { g with acc := g.acc.filter (fun a => !(gone.any (fun r => r.org == .engine n a.id))) })

/-- Haulage is back: the orders that waited for it ask their sources again (R289). -/
def Dev.askAgain (s : Dev) (n : Nat) : Dev :=
  ((s.shaft n).fly.filter (fun f => decide (4 ≤ f.stage))).foldl (fun s f =>
    let g := { f with stage := 3 }
    (((s.dropCorr n f).dropAsked n f).setFly n f g).nextSource n g) s

/-- Step 1: links drop; the spine stops taking cells. -/
def Dev.gdrLinks (s : Dev) : Dev :=
  let s := (List.range 12).foldl (fun s h => if (s.port h).adapterUp then s.dropLink h else s) s
  let s := (List.range 4).foldl (fun s f => s.farDown f) s
  let s := if s.heat.round == 0 then s else s.dropLease lsCONV hoTHERMAL
  { s with fabric := { s.fabric with faulted := true }, heat := { s.heat with round := 0 } }

/-- Step 2: each tile acts under R371; entries marked LOST are counted. -/
def Dev.gdrTiles (s : Dev) : Dev :=
  let (s, k) := (List.range 48).foldl (fun (x : Dev × Nat) n => let y := x.1.tileIdle n; (y.1.dropOrders n, x.2 + y.2)) (s, 0)
  let s := s.bumpBy Reg.COLLAR_CNT_LOST_VALUE k
  let s := if k == 0 then s else s.raise pgCOLLAR Reg.EV_COLLAR_LOST
  s.modKs (fun q => { q with gdr := q.gdr.map (fun (g : Gdr) => { g with lost := g.lost + k }) })

/-- Classes restart (R154): configuration stays; M, deficit state, MISSES, the counters, their latched upper halves too, and the event bits
restart at 0. -/
def Dev.classRestart (s : Dev) : Dev :=
  let tab (page : Nat) : Bool := decide (Reg.CLASSTAB_MISSES_NOW.page ≤ page) && decide (page < Reg.CLASSTAB_MISSES_NOW.page + 4)
  let s := { s with hiLatch := s.hiLatch.filter (fun e => !(tab (e.1 % 2 ^ 26 / 4096))) }
  let s := [0x9014, 0x9060, 0x9064].foldl (fun s a => s.wrReg a 0) (s.setF Reg.CLASSES_CNT_RECOMPUTE_VALUE 0)
  let s := (List.range 64).foldl (fun s c =>
    (((s.setCv Reg.CLASSTAB_STATE_MEASURED c 0).setCv Reg.CLASSTAB_STATE_DEFICIT c 0).setCv Reg.CLASSTAB_MISSES_NOW c 0).setCv
      Reg.CLASSTAB_MISSES_LAST c 0) s
  { s with classes := [] }

/-- COLLAR_CLOSED0 and 1 as the shafts' states make them (log 162). -/
def Dev.showClosed (s : Dev) : Dev :=
  let mask (x : Nat) : Nat := maskOf 32 (fun i => decide (32 * x + i < 48) && collarClosed (s.shaftSt (32 * x + i)))
  (s.wrReg 0xD050 (BitVec.ofNat 32 (mask 0))).wrReg 0xD054 (BitVec.ofNat 32 (mask 1))

/-- Every notice in the spine is discarded with its cell (R133); the blocks that are reset then know the states the units show (log 162). -/
def Dev.dropNotices (s : Dev) : Dev :=
  { s with notice := { s.notice with evtFlight := [], stateFlight := [],
                                     routeView := unitPages.foldl (fun v p => sset (fun _ => (stOFFLINE, 0)) v p (s.ust p, s.epoch p)) [] } }

/-- Work of a block that is reset, or of an engine that has given it up (R371): its answers reach nobody. -/
def Dev.groundWork (s : Dev) (o : Origin) : Bool :=
  match o with
  | .desc _ | .comp _ | .mirror _ _ | .rdata _ _ | .resync _ => true
  | .engine m id => !((s.eng m).acc.any (fun a => a.id == id))
  | _ => false

/-- Step 3: the ground-die islands are held in reset: every cell is discarded, haulage is under function reset, and an admitted request that has
not entered a collar queue is not carried out; one that has is completed, and its answer is discarded (R133, R370 to R372). -/
def Dev.gdrReset (s : Dev) : Dev :=
  let s := s.haulAbandon
  let s := s.disownBy s.groundWork
  let disp : DispSt := { s.disp with fetch := [], recs := s.disp.recs.map (fun (r : Rec) => { r with sent := false }) }
  let s := { s with fabric := {}, space := { s.space with lookupQ := [] }, disp := disp }
  let s := s.modHaul (fun p => { p with zfills := p.zfills.filter (fun z => z.merging.any s.atShaft) })
  let s := (s.resetPage pgFABRIC (fun _ => false)).showClosed.dropNotices.classRestart
  let s := { (s.resyncStop.resetPage pgPAIR (warmKeeps pgPAIR)) with pair := s.pair.kept }
  let s := (s.haulRegs.unlessFailed hauPage stRESETTING).unlessFailed dispPage stRESETTING
  let s := (List.range 12).foldl (fun s h =>
    let p := s.port h
    let old := (p.oldIds ++ p.live).filter s.atShaft
    let q : PortSt := { oldIds := old, replTx := p.replTx, replRx := p.replRx, imp := p.imp }
    let s := (s.hostRegs h).setPort h q
    if s.portSt h == stDARK then s else s.enter (hostPage h) stRESETTING) s
  (List.range 4).foldl (fun s f => if s.farSt f == stDARK then s else (s.farRegs f).enter (farPage f) stRESETTING) s

/-- Step 5 ends and the walk of step 6 starts. -/
def Dev.gdrWalk (s : Dev) (fails : BitVec 48) : Dev :=
  let s := s.collarTrain fails true
  ((s.unlessFailed hauPage stKINDLING).unlessFailed dispPage stKINDLING).startWalk

/-- The dispatcher's recovery (R371): every frozen running job ends ABORTED_BY_RESET, records of jobs that ended before are written
again, and queued jobs start. -/
def Dev.gdrJobs (s : Dev) : Dev :=
  (List.range 48).foldl (fun s n =>
    let s := match (s.eng n).run with
      | some r => (match r.ending with
        | some _ => (s.modRun n (fun r => { r with ending := r.ending.map (fun (e : Nat × Nat × Nat) => (stABORTGD, 0, e.2.2)) })).tryEnd n
        | none => (s.modRun n (fun r => { r with ending := some (stABORTGD, 0, r.pc) })).tryEnd n)
      | none => s
    s.engFreeze n 2 false) s

/-- Step 7: recovery, GROUND_DONE or for a re-kindle the record and RUN; LAST_GDR is written (R370, R383). -/
def Dev.gdrDone (s : Dev) (g : Gdr) : Dev :=
  let s := (s.gdrJobs).setSat Reg.COLLAR_LAST_GDR_LOST g.lost
  let s := s.setSat Reg.COLLAR_LAST_GDR_US ((s.time - g.start) / 100)
  let up (s : Dev) (p : Nat) : Dev := if s.ust p == stKINDLING then s.enter p stONLINE else s
  let s := (up (up s hauPage) dispPage).ringsPump
  let s := (List.range 48).foldl (fun s n => (s.bufferFirst n).askAgain n) s
  if g.rekindle then
    let s := (s.setF Reg.MODES_STATUS_MODE mdRUN).setPhase 0
    let s := s.record 0 0x103 sevINFO [g.start % 2 ^ 32, g.lost]
    (s.setF Reg.MODES_REQ_STATUS_RESULT 1).raise pgMODES Reg.EV_MODES_MODE_DONE
  else s.raise 0 Reg.EV_DEVICE_GROUND_DONE

/-- Step 8: host ports train, far ports come up with the role written (R344, R316). -/
def Dev.gdrPorts (s : Dev) : Dev :=
  let s := (List.range 12).foldl (fun s h =>
    if s.portSt h != stRESETTING then s
    else
      let s := s.enter (hostPage h) stKINDLING
      if s.fb Reg.HOSTPORT_LINK_CTL_DISABLE h then s.enter (hostPage h) stOFFLINE else s.startTraining h) s
  (List.range 4).foldl (fun s f =>
    if s.farSt f != stRESETTING then s
    else ((s.enter (farPage f) stKINDLING).setF Reg.FARPORT_STATUS_ACTIVE_ROLE (s.fv Reg.FARPORT_CTL_ROLE f) f).farBringUp f) s

def Dev.setGdr (s : Dev) (g : Option Gdr) : Dev := s.modKs (fun k => { k with gdr := g })

/-- The steps of R370 begin. -/
def Dev.gdrStart (s : Dev) (rekindle : Bool) : Dev := (s.setGdr (some ⟨1, rekindle, s.time, 0, s.rdReg 0x5058⟩)).gdrLinks

/-- GROUND_DIE_RESET_STEP_END (R370): a step ends and the next one begins. -/
def Dev.gdrStep (s : Dev) (fails : BitVec 48) : Dev :=
  match s.ks.gdr with
  | none => s
  | some g =>
    if !s.pins.refclk then s else
    let next (s : Dev) : Dev := s.modKs (fun k => { k with gdr := k.gdr.map (fun (g : Gdr) => { g with step := g.step + 1 }) })
    match g.step with
    | 1 => next s.gdrTiles
    | 2 => next s.gdrReset
    | 5 => next (s.gdrWalk fails)
    | 6 => if s.space.walking then s else next (s.gdrDone g)
    | 7 => s.gdrPorts.setGdr none
    | _ => next s

def execGroundDieResetStepEnd (fails : BitVec 48) (s : State) : Host.Outcome State Fault Refusal := s.on fun s => .next (s.gdrStep fails)

/-- A ground-die trigger outside KINDLE and SHUTTERED entry (R370, R373): `cause` 1 DEVICE.RESET, 2 spine fault. A second one during a
reset restarts from step 3. -/
def Dev.groundReset (s : Dev) (cause : Nat) : Dev :=
  match s.ks.gdr with
  | some g =>
    let s := s.setF Reg.DEVICE_RESET_CAUSE_GROUND cause
    if g.step < 3 then s
    else
      let s := if 7 ≤ g.step then s.gdrLinks.gdrTiles else s
      (s.setGdr (some { g with step := 3 })).gdrReset
  | none =>
    let s := (s.setF Reg.DEVICE_RESET_CAUSE_GROUND cause).bump Reg.DEVICE_CNT_GROUND_VALUE
    let s := s.record 0 0x101 sevCRITICAL [(s.rdReg 0x0044).toNat, s.timeLo]
    s.gdrStart false

end Sys2Proof.Machine
end

