-- ==== Sys2Proof/Machine/Modes.lean ====
section
/-!
DEFINITION. Machine/Modes.lean: the power sequencer (R379 to R402): mode requests, DIM, LAMPROOM and the logic re-kindle, SHUTTERED entry
with its abort points, the wake comparator and the exit, the power estimate and the cap ladder; and what a ground-die trigger does in
each mode (R373, R389).
-/
namespace Sys2Proof.Machine

/-! ### Results of requests (R380) -/

def mrDONE : Nat := 1
def mrNOT_PERMITTED : Nat := 2
def mrBUSY : Nat := 3
def mrWAKE_ACTIVE : Nat := 4
def mrWOKEN : Nat := 5
def mrDRAIN_LIMIT : Nat := 6
def mrUNWOUND : Nat := 7
def mrIN_PROGRESS : Nat := 8

/-- A request ends with a result: its event, and from 2 upward its record. -/
def Dev.modeResult (s : Dev) (r : Nat) : Dev :=
  let s := s.setF Reg.MODES_REQ_STATUS_RESULT r
  if r == mrDONE then s.raise pgMODES Reg.EV_MODES_MODE_DONE
  else if r == mrIN_PROGRESS then s
  else if r < 5 then s.raiseRec pgMODES Reg.EV_MODES_REQ_REJECT sevNOTICE [s.fv Reg.MODES_REQ_TARGET, r]
  else s.raiseRec pgMODES Reg.EV_MODES_ENTRY_ABORTED sevWARNING [s.fv Reg.MODES_REQ_TARGET, r]

/-! ### Points that the mode and the cap ladder allow (R381, R397) -/

def Dev.ladder (s : Dev) : Nat := s.fv Reg.POWER_LADDER_STEP

/-- Is DIM's ceiling in force: in DIM and on the way into it? -/
def Dev.dimmed (s : Dev) : Bool := s.phase == 1 || (s.mode == mdDIM && s.phase != 2)

/-- The power ceiling of every shaft. -/
def Dev.powerCeil (s : Dev) : Nat :=
  let l := s.ladder
  max (if s.dimmed then 2 else 0) (if 3 ≤ l then 2 else if l == 2 then 1 else 0)

/-- The point of every engine, and the freeze of step P4. -/
def Dev.setEngines (s : Dev) : Dev :=
  let l := s.ladder
  let want := max (if s.dimmed then 2 else 0) (min l 2)
  (List.range 48).foldl (fun s n => (s.modEng n (fun g => { g with want := want })).engFreeze n 3 (l == 4)) s

/-- The next group of shafts takes the power ceiling and changes together. -/
def Dev.nextGroup (s : Dev) : Dev :=
  let k := s.fv Reg.MODES_TRANS_CTL_GROUP
  let g := s.ms.groups.take k
  let s := s.modMs (fun m => { m with group := g, groups := m.groups.drop k })
  let v := s.powerCeil
  g.foldl (fun s n => (s.setCeiling n .power v).ceilingChange n) s

/-- Every shaft takes the power ceiling in groups, in rising order or in reverse; a group under way ends first. -/
def Dev.startGroups (s : Dev) (rev : Bool) : Dev :=
  let l := if rev then (List.range 48).reverse else List.range 48
  let s := s.modMs (fun m => { m with groups := l })
  if s.ms.group.isEmpty then s.nextGroup else s

/-- DIM_GROUP_END (R381): no shaft of the group is changing; the next one starts, or the transition is complete. -/
def Dev.groupEnd (s : Dev) : Dev :=
  if s.ms.group.isEmpty || s.ms.group.any (fun n => s.freqBusy n) then s
  else
    let s := s.nextGroup
    if !s.ms.group.isEmpty then s
    else if s.phase == 1 then (((s.setF Reg.MODES_STATUS_MODE mdDIM).setPhase 0).modeResult mrDONE).wlTrigger
    else if s.phase == 2 then (((s.setF Reg.MODES_STATUS_MODE mdRUN).setPhase 0).modeResult mrDONE).wlTrigger
    else s

def execDimGroupEnd (s : State) : Host.Outcome State Fault Refusal := s.on fun s => .next s.groupEnd

/-! ### The wake comparator (R390) -/

/-- WAKE_CTL as the comparator uses it: from entry on, the value sampled at its start. -/
def Dev.wakeCtl (s : Dev) : Word32 :=
  if 5 ≤ s.phase || s.mode == mdSHUTTERED then s.ms.wakeCfg else s.rdReg 0x1054

/-- Is the comparator in its wake state at `mv` millivolts, being or not being in it before? The hysteresis applies to leaving
(DESIGN CHOICE, log 50). -/
def wakeState (cfg : Word32) (mv : Nat) (was : Bool) : Bool :=
  let t := 100 + 10 * bitsOf cfg 14 8
  let h := if bitN cfg.toNat 2 then 40 else 20
  if bitN cfg.toNat 1 then mv < t || (was && decide (mv ≤ t + h)) else t < mv || (was && decide (t ≤ mv + h))

/-- WAKE_STATUS.LEVEL follows the voltage. -/
def Dev.wakeEval (s : Dev) : Dev :=
  s.setF Reg.MODES_WAKE_STATUS_LEVEL (b2n (wakeState s.wakeCtl s.ms.wakeMv (s.fb Reg.MODES_WAKE_STATUS_LEVEL)))

/-- WAKE_SENSE_CROSSING: the voltage on WAKE_SENSE is now `mv`. -/
def execWakeSenseCrossing (mv : Nat) (s : State) : Host.Outcome State Fault Refusal := s.on fun s =>
  let s := s.modMs (fun m => { m with wakeMv := mv })
  if s.pins.pwrgood then .next s.wakeEval else .next s

/-- The exit starts (R391): its status starts afresh. -/
def Dev.exitStart (s : Dev) : Dev :=
  let s := (s.wrReg 0x1080 0).setPhase 11
  let from_ := s.time - s.fv Reg.MODES_EXIT_Di_DELAY_US 0 0 * 100
  s.modMs (fun m => { m with wake := false, exit := 1, doubled := false, exitFrom := from_ })

/-- WAKE_COMPARATOR_WAKE: the wake state has lasted for EXIT_D0. In an entry it is held for the next abort point, or for the end of
stage 6; in SHUTTERED the exit starts; elsewhere the comparator is not armed. -/
def Dev.wakeUp (s : Dev) : Dev :=
  if !(s.fb Reg.MODES_WAKE_STATUS_LEVEL) then s
  else if 5 ≤ s.phase && s.phase ≤ 10 then s.modMs (fun m => { m with wake := true })
  else if s.mode == mdSHUTTERED && s.phase == 0 then s.exitStart
  else s

def execWakeComparatorWake (s : State) : Host.Outcome State Fault Refusal := s.on fun s => .next s.wakeUp

/-! ### SHUTTERED entry (R384 to R389) -/

/-- A wake holds its lease no longer and admission, placing and evacuation's register view are as before; shafts and engines follow
what the ladder asks, and an engine that the entry froze goes on (R239). -/
def Dev.serveAgain (s : Dev) : Dev :=
  let s := { s with disp := { s.disp with stopped := false } }
  let s := (List.range 48).foldl (fun s n => s.engFreeze n 1 false) s
  let s := (s.dropLease lsWAKE hoWAKE).modMs (fun m => { m with wake := false })
  (s.setEngines.startGroups false).ringsPump

/-- Entry is unwound (R388, R389): `r` its result. Jobs that ended stay ended; runs that stage 1 stopped do not restart. -/
def Dev.unwind (s : Dev) (r : Nat) : Dev :=
  let stage := s.phase - 4
  let s := (s.setF Reg.MODES_STATUS_SAVE_VALID 0).setPhase 0
  let s := ((s.setF Reg.MODES_REQ_STATUS_STAGE stage).bump Reg.MODES_CNT_ABORT_VALUE).modeResult r
  s.serveAgain

/-- A queued job ends ABORTED_BY_MODE without having started. -/
def Dev.abortQueued (s : Dev) (eng : Nat) (j : Job) : Dev :=
  let r : Rec := ⟨eng, j.ring, j.id, j.comp, j.cls,
    recBytes j.id stABORTMODE 0 j.slot 0 0 (if eng < 48 then eng else Config.freeNat s.free) 0 0 0 0, false⟩
  { s with disp := { s.disp with recs := s.disp.recs ++ [r] }, free := s.free + 1 }

/-- Stage 2 begins: running and queued jobs end ABORTED_BY_MODE, and the engines freeze (R239, R262). -/
def Dev.abortJobs (s : Dev) : Dev :=
  let s := (List.range 48).foldl (fun s n =>
    let g := s.eng n
    let s := g.queue.foldl (fun s j => s.abortQueued n j) (s.modEng n (fun g => { g with queue := [] }))
    (s.beginEnd n stABORTMODE 0 ((g.run.map (·.pc)).getD 0)).engFreeze n 1 true) s
  let back := s.disp.back
  back.foldl (fun s j => s.abortQueued 48 j) { s with disp := { s.disp with back := [] } }

/-- Stage 1 begins: admission and placing stop, the fuse word in progress is the last, self-test runs and evacuation stop. -/
def Dev.entryStart (s : Dev) : Dev :=
  let cfg := s.rdReg 0x1054
  let s := ((s.setPhase 5).modeResult mrIN_PROGRESS).setF Reg.MODES_REQ_STATUS_STAGE 0
  let s := { s with disp := { s.disp with stopped := true } }
  let s := s.fuseStop.selftestStop
  let evac := (List.range 48).filter (fun n => s.shaftSt n == stEVACUATING)
  let s := evac.foldl (fun s n => s.evacStop n) s
  s.modMs (fun m => { m with wake := false, wakeCfg := cfg, noEvac := evac })

/-- Stage 1 can end: the fuse word and a wake check are done. -/
def Dev.stage1Over (s : Dev) : Bool := s.fuse.job.isNone && !(bitN s.calBusy.2 1)

/-- The stages a shaft's accesses pass before their completion point are empty. -/
def ShaftSt.drained (p : ShaftSt) : Bool :=
  p.collar.isEmpty && p.localq.isEmpty && p.win.isEmpty && p.fly.isEmpty && p.units.isEmpty && p.zin.isNone

/-- Stage 2 can end: admitted requests are complete, every job has ended and its record is written, haulage has completed its fills,
write-backs and moves, and the mirror queue is empty. -/
def Dev.stage2Over (s : Dev) : Bool :=
  let h := s.haul
  s.ports.all (fun e => e.2.live.isEmpty && e.2.oldIds.isEmpty) && s.fabric.voq.isEmpty && s.space.lookupQ.isEmpty &&
  s.shafts.all (fun e => e.2.drained) && s.engines.all (fun e => e.2.run.isNone && e.2.queue.isEmpty) && s.disp.recs.isEmpty &&
  h.fills.isEmpty && h.wbacks.isEmpty && h.moves.isEmpty && h.held.isEmpty && h.evicts.isEmpty && h.flushes.isEmpty &&
  h.zfills.isEmpty && h.wbJobs.isEmpty && s.pair.lagQ.isEmpty && s.pair.copies.isEmpty && s.pair.await.isEmpty

/-- Banks without a spare row that no repair uses (R387). -/
def Dev.noSentinel (s : Dev) : Nat :=
  (List.range 48).foldl (fun k n => k + countOf 32 (fun b => 64 ≤ s.usedRows n b)) 0

/-- Stage 3: the save image and the sentinel patterns are written (R386, R387). Neither lies in memory that an address reaches: the
image is what this state holds (log 51). -/
def Dev.saveImage (s : Dev) : Dev :=
  let units := unitPages.map (fun p => (p, (s.ust p, s.epoch p)))
  let s := s.modMs (fun m => { m with saved := units })
  (s.setF Reg.MODES_STATUS_SAVE_VALID 1).setF Reg.MODES_SENT_STATUS_NO_SENTINEL s.noSentinel

/-- Shafts that stage 4 takes into self-refresh. -/
def Dev.awake (s : Dev) : List Nat := (List.range 48).filter (fun n => !(s.inSR n) && !(collarClosed (s.shaftSt n)))

/-- Is a change, a replay or a repair still under way in some shaft? Stage 4 lets it end first (R185, R289). -/
def Dev.shaftsBusy (s : Dev) : Bool :=
  (List.range 48).any (fun n => s.freqBusy n) || s.awake.any (fun n => (s.shaft n).rep.isSome || (s.shaft n).colRun.isSome || !((s.shaft n).replay.isEmpty))

/-- Stage 5: links go down and the pads are latched; entry is committed. -/
def Dev.latchPads (s : Dev) : Dev :=
  let s := (List.range 12).foldl (fun s h => if (s.port h).adapterUp then s.dropLink h else s) s
  let s := (List.range 4).foldl (fun s f => s.farDown f) s
  (s.setF Reg.MODES_STATUS_PADS_LATCHED 1).bump Reg.MODES_CNT_SHUTTER_VALUE

/-- Registers of an island that goes off which the save image or retention keeps whole (R44, R207, R290, R385, R386, R389): unit words,
fuse shadows, the managed space and the pair, ring indices, slot halves, timing sets, impedance codes and scrub positions. -/
def imageKeeps (page off : Nat) : Bool :=
  if off == 8 || page == pgFUSES then true
  else if page == hauPage || page == pgPAIR then warmKeeps page off
  else if page == dispPage then 0x400 ≤ off
  else if 0x100 ≤ page && page < 0x130 then (0x140 ≤ off && off < 0x1C0) || off == Reg.ENGINE_SLOT_ACTIVE_HALF.off
  else if 0x200 ≤ page && page < 0x230 then
    (0x100 ≤ off && off < 0x160) || off == Reg.SHAFT_IMP_CODE_PU.off || off == Reg.SHAFT_SCRUB_POS_ROW.off
  else false

/-- A register word across SHUTTERED: the always-on island's stay; elsewhere every RW field is saved, all else takes its reset value. -/
def keptWord (a : Nat) (w : Word32) : Word32 :=
  let page := a / 4096
  let off := a % 4096
  if isAlwaysOn page || imageKeeps page off then w
  else match regAt a with
    | none => resetWord a
    | some r => r.fields.foldl (fun x f => match f.acc with
      | .rw => withBits x f.hi f.lo (bitsOf w f.hi f.lo)
      | _ => x) (resetWord a)

/-- What a shaft keeps across SHUTTERED: repairs in the die and the codes its mode registers hold, taps, trackers and poison list (R207, R290), and
the point it is to run at. -/
def ShaftSt.retained (p : ShaftSt) : ShaftSt :=
  { rowMap := p.rowMap, colMap := p.colMap, taps := p.taps, edges := p.edges, poison := p.poison, tracker := p.tracker, cols := p.cols,
    ceilP := p.ceilP, goPoint := p.goPoint, ceilBy := p.ceilBy, dieImp := p.dieImp }
/-- A port keeps its lane repairs, an engine its program store (R385). -/
def PortSt.retained (p : PortSt) : PortSt := { replTx := p.replTx, replRx := p.replRx }
def EngSt.retained (g : EngSt) : EngSt := { store := g.store }

/-- Stage 6: every island but the always-on island goes off; units are DARK; what the image and retention do not hold is lost. -/
def Dev.islandsOff (s : Dev) : Dev :=
  let s := unitPages.foldl (fun s p => s.enter p stDARK) s
  let pts := (List.range 48).map (fun n => (s.point n, s.fv Reg.SHAFT_STATUS_ACTIVE_SET n))
  let regs := s.regs.filterMap (fun e => let w := keptWord e.1 e.2; if w == resetWord e.1 then none else some (e.1, w))
  let t : Dev := { s with
    regs := regs, hiLatch := [], fabric := {}, classes := [], haul := {}, fars := [], answers := [], calBusy := (0, 0), stest := {},
    leases := s.leases.filter (fun e => e.1 == lsWAKE), heat := {}, notice := {},
    ports := smapv (fun _ => {}) s.ports PortSt.retained, disp := { stopped := true },
    engines := smapv (fun _ => {}) s.engines EngSt.retained, shafts := smapv (fun _ => {}) s.shafts ShaftSt.retained,
    space := { s.space with lookupQ := [] }, pair := s.pair.kept,
    pins := { s.pins with mgmtOn := false, spineOn := false }, ks := { s.ks with collar := [], gdr := none }, arb := [] }
  (List.range 48).foldl (fun (t : Dev) n =>
    let x := pts.getD n (0, 0)
    let t := ((t.setF Reg.SHAFT_STATUS_POINT x.1 n).setF Reg.SHAFT_STATUS_ACTIVE_SET x.2 n).setF Reg.SHAFT_STATUS_SELF_REFRESH 1 n
    ((t.setF Reg.SHAFT_STATUS_CEILING (t.shaft n).ceilP n).showPoison n).showTrack n) t.liveChange

/-- ENTRY_STAGE_END (R384): the stage in progress ends, if its work is done, and the abort point is checked. -/
def Dev.stageEnd (s : Dev) : Dev :=
  let abort := s.ms.wake
  match s.phase with
  | 5 =>
    if !s.stage1Over then s
    else
      let s := (s.askLease lsWAKE hoWAKE rkSERVICE).2
      if abort then s.unwind mrWOKEN else (s.setPhase 6).abortJobs
  | 6 => if !s.stage2Over then s else if abort then s.unwind mrWOKEN else s.setPhase 7
  | 7 =>
    let s := s.saveImage
    if abort then s.unwind mrWOKEN else s.setPhase 8
  | 8 =>
    if s.shaftsBusy then s
    else
      let up := s.awake
      let s := up.foldl (fun s n => (s.drainWbuf n).enterSR n) s
      if abort then (up.foldl (fun s n => s.exitSR n) s).unwind mrWOKEN else s.setPhase 9
  | 9 => s.latchPads.setPhase 10
  | 10 =>
    let s := (((s.islandsOff).setF Reg.MODES_STATUS_MODE mdSHUTTERED).setPhase 0).modeResult mrDONE
    if abort then s.exitStart else s
  | _ => s

def execEntryStageEnd (s : State) : Host.Outcome State Fault Refusal := s.on fun s => .next s.stageEnd

/-- DRAIN_LIMIT (R389): DRAIN_MS is reached in stage 2. -/
def execDrainLimit (s : State) : Host.Outcome State Fault Refusal := s.on fun s =>
  if s.phase == 6 then .next (s.unwind mrDRAIN_LIMIT) else .next s

/-! ### Ground-die triggers (R370, R373, R389) -/

/-- A ground-die trigger in whatever mode it arrives, while the spine has power: a warm reset in KINDLE, the end of an entry before the pad
latch and then the reset, otherwise a ground-die reset, which an exit from SHUTTERED goes on beside (DEDUCED, log 87: R373 has no row for it). Which shafts cannot write their buffers at such a warm reset the command does not say: it is a free value. -/
def Dev.groundTrigger (s : Dev) (cause : Nat) : Dev :=
  if !s.pins.pwrgood || !s.pins.spineOn then s
  else if s.mode == mdKINDLE then s.nextFree.warmReset 5 (BitVec.ofNat 48 (Config.freeNat s.free))
  else if 5 ≤ s.phase && s.phase ≤ 8 then (s.unwind mrUNWOUND).groundReset cause
  else s.groundReset cause

/-- SPINE_FAULT (R132): the spine stops taking cells and writes a record; a ground-die reset starts. -/
def execSpineFault (s : State) : Host.Outcome State Fault Refusal := s.on fun s =>
  if !s.pins.pwrgood || !s.pins.spineOn then .next s
  else
    let s := { s with fabric := { s.fabric with faulted := true } }
    .next ((s.record pgFABRIC codeOTHER sevCRITICAL []).groundTrigger 2)

/-! ### LAMPROOM (R382, R383) -/

/-- LAMPROOM_DRAIN_END: every memory request that was admitted has reached its completion point. -/
def Dev.lampDrained (s : Dev) : Dev :=
  if s.phase != 3 || !(s.ports.all (fun e => e.2.live.isEmpty && e.2.oldIds.isEmpty)) then s
  else
    let s := ((s.setF Reg.MODES_STATUS_MODE mdLAMPROOM).setPhase 0).modeResult mrDONE
    s.modMs (fun m => { m with full := false })

def execLamproomDrainEnd (s : State) : Host.Outcome State Fault Refusal := s.on fun s => .next s.lampDrained

/-- The logic re-kindle starts: the steps of a ground-die reset. -/
def Dev.rekindle (s : Dev) : Dev :=
  let s := (s.trialOff.setF Reg.SELFTEST_TAP_CTL_TEST_EN 0).modMs (fun m => { m with rekindleHeld := false })
  match s.ks.gdr with
  | none => s.gdrStart true
  | some g => s.setGdr (some { g with rekindle := true })

/-- Is a column copy in progress in some shaft (R285)? -/
def Dev.copying (s : Dev) : Bool := s.shafts.any (fun x => x.2.colRun.isSome)

/-- A return from LAMPROOM that waits for a fuse word or a column copy starts when both have ended (R289, R383, R435). -/
def Dev.rekindleNow (s : Dev) : Dev := if s.ms.rekindleHeld && s.fuse.job.isNone && !s.copying then s.rekindle else s

/-- FUSE_WORD_BURN_END (R431, R435). -/
def execFuseWordBurnEnd (weakA weakB : BitVec 32) (s : State) : Host.Outcome State Fault Refusal := s.on fun s =>
  .next (s.fuseWordEnd weakA weakB).rekindleNow

/-- COMMAND_ISSUE (R168, R285, R289). -/
def execCommandIssue (n : Fin 48) (s : State) : Host.Outcome State Fault Refusal := s.on fun s => .next (s.commandIssue n).rekindleNow

/-! ### Requests (R379) -/

/-- A request for SHUTTERED (R384). -/
def Dev.reqShuttered (s : Dev) : Dev :=
  let stuck := s.space.resvPend.any (fun i => !(s.shaftUp (s.space.resv.getD i (0, 0)).1))
  if !(s.fb Reg.MODES_WAKE_CTL_EN) || stuck then s.modeResult mrNOT_PERMITTED
  else if s.fb Reg.MODES_WAKE_STATUS_LEVEL then s.modeResult mrWAKE_ACTIVE
  else s.entryStart

/-- A request for RUN from LAMPROOM (R383). -/
def Dev.reqRekindle (s : Dev) : Dev :=
  if s.fv Reg.DEVICE_KINDLE_STATUS_FAULT != 0 || s.ks.recovery || s.ks.halted || s.ms.full then s.modeResult mrNOT_PERMITTED
  else
    let s := (s.setPhase 4).modeResult mrIN_PROGRESS
    ((if s.fuse.job.isSome then s.fuseStop else s).modMs (fun m => { m with rekindleHeld := true })).rekindleNow

/-- A write of MODES.REQ with GO: BUSY while another transition is in progress or a trip holds, but that a request for RUN in stages 1
to 4 of an entry is a wake. -/
def Dev.modeReq (s : Dev) : Dev :=
  let want := s.fv Reg.MODES_REQ_TARGET
  let now := s.mode
  if s.phase != 0 && 5 ≤ s.phase && s.phase ≤ 8 && want == mdRUN then s.modMs (fun m => { m with wake := true })
  else if s.phase != 0 || s.ks.gdr.isSome || s.fb Reg.HEAT_STATUS_TRIPPED then s.modeResult mrBUSY
  else if now == mdRUN && want == mdDIM then
    (((s.setPhase 1).modeResult mrIN_PROGRESS).setEngines).startGroups false
  else if now == mdDIM && want == mdRUN then
    (((s.setPhase 2).modeResult mrIN_PROGRESS).setEngines).startGroups true
  else if (now == mdRUN || now == mdDIM) && want == mdSHUTTERED then s.reqShuttered
  else if now == mdRUN && want == mdLAMPROOM then (s.setPhase 3).modeResult mrIN_PROGRESS
  else if now == mdLAMPROOM && want == mdRUN then s.reqRekindle
  else s.modeResult mrNOT_PERMITTED

/-! ### Exit (R391 to R395) -/

/-- A unit's word returns from the image: every block that routes work is told. A port's link is down until the pads are released, so
a port that was serving or training returns OFFLINE (DEDUCED, log 52). -/
def Dev.unitBack (s : Dev) (page : Nat) (x : Nat × Nat) : Dev :=
  let linked := 0x10 ≤ page && page < 0x24
  let st := if linked && (x.1 == stONLINE || x.1 == stKINDLING) then stOFFLINE else x.1
  if s.ust page == stFAILED then s
  else
    let s := s.wrReg (page * 4096 + 8) (BitVec.ofNat 32 (x.2 * 65536 + st))
    let s := { s with notice := { s.notice with stateFlight := s.notice.stateFlight ++ [(page, st, x.2)] } }
    s.noteCollar page stDARK st

/-- Step 6: what the image holds returns; blocks that fail lose what they covered (R395). -/
def Dev.imageBack (s : Dev) (blocks : List ImgFail) : Dev :=
  let lost := blocks.contains .units
  let s := unitPages.foldl (fun s p => s.unitBack p (if lost then (stOFFLINE, 0) else sget (fun _ => (stOFFLINE, 0)) s.ms.saved p)) s
  let s := blocks.foldl (fun s b => s.blockFail true b) s
  ((List.range 48).foldl (fun s n => s.engLimits n) s).liveChange

/-- Step 5: shafts leave self-refresh at the point they held, with a short retrain, which finds every stored tap passing where the command says
nothing of the shaft; a FENCED one stays in it (R340). -/
def Dev.exitShafts (s : Dev) (shorts : List (Fin 48 × ShortObs)) : Dev :=
  (List.range 48).foldl (fun s n =>
    let st := (sget (fun _ => (stOFFLINE, 0)) s.ms.saved (shaftPage n)).1
    if s.shaftSt n == stFAILED || !(st == stONLINE || st == stEVACUATING) then s
    else
      (s.exitSR n).shortRetrain n (((shorts.find? (fun x => x.1.val == n)).map (·.2)).getD ⟨true, []⟩)) s

/-- Step 7: banks whose sentinel row differs are retention-suspect (R394); the walk of step 8 starts. -/
def Dev.sentinels (s : Dev) (banks : List (Fin 48 × Fin 32)) : Dev :=
  let bs := ((banks.map (fun x => (x.1.val, x.2.val))).filter (fun x => s.usedRows x.1 x.2 < 64)).eraseDups
  let s := (s.modMs (fun m => { m with banks := bs })).setF Reg.MODES_SENT_STATUS_SUSPECT bs.length
  let s := bs.foldl (fun s x => s.raiseRec pgMODES Reg.EV_MODES_RETENTION_SUSPECT sevERROR [x.1, x.2]) s
  s.startWalk

/-- SENT_BANKS of the shaft SENT_SEL names. -/
def Dev.sentBanks (s : Dev) : Word32 :=
  let n := s.fv Reg.MODES_SENT_SEL_SHAFT
  BitVec.ofNat 32 (maskOf 32 (fun b => s.ms.banks.contains (n, b)))

/-- The walk handles the sectors of a way that have lines in bank `b` of shaft `n` (R394): DIRTY lines take the poison signature, CLEAN
sectors become INVALID. -/
def Dev.suspectWay (s : Dev) (n b k : Nat) : Dev :=
  let e := s.way k
  if !e.valid || e.shaft != n then s
  else (List.range 128).foldl (fun s sec =>
    let lines := ((List.range 64).map (fun i => e.slot * 8192 + sec * 64 + i)).filter (fun l => bankOf l == b)
    if lines.isEmpty then s
    else if e.sec sec == secDIRTY then lines.foldl (fun s l => s.writePoison n l) s
    else if e.sec sec == secCLEAN then s.setWay k ((s.way k).setSec sec secINVALID)
    else s) s

/-- Step 8 ends with the walk: service resumes in RUN. -/
def Dev.exitDone (s : Dev) : Dev :=
  let keys := s.space.ways.map (·.1)
  let s := s.ms.banks.foldl (fun s x => keys.foldl (fun s k => s.suspectWay x.1 x.2 k) s) s
  let s := (s.setF Reg.MODES_STATUS_SAVE_VALID 0).setF Reg.MODES_STATUS_MODE mdRUN
  let us := (s.time - s.ms.exitFrom) / 100
  let s := (s.setPhase 0).setSat Reg.MODES_EXIT_STATUS_ELAPSED_US us
  let s := (s.raise pgMODES Reg.EV_MODES_WAKE).modMs (fun m => { m with exit := 0, saved := [], noEvac := [] })
  s.serveAgain.wlTrigger

/-- A step that has not signalled completion is late (R392): the exit restarts once with doubled delays; the second time the device is
reset. -/
def Dev.exitLate (s : Dev) (k : Nat) : Dev :=
  let s := (s.setF Reg.MODES_EXIT_STATUS_LATE (Nat.lor (s.fv Reg.MODES_EXIT_STATUS_LATE) (2 ^ k))).bump Reg.MODES_CNT_EXIT_LATE_VALUE
  if s.ms.doubled then (s.modKs (fun q => { q with lateFault := true })).warmReset 5 0
  else
    let s := s.raiseRec pgMODES Reg.EV_MODES_EXIT_LATE sevWARNING [k]
    let s := (List.range 48).foldl (fun s n => if s.inSR n then s else s.enterSR n) s
    let s := s.islandsOff.setF Reg.MODES_EXIT_STATUS_RESTARTS 1
    s.modMs (fun m => { m with exit := 1, doubled := true })

/-- EXIT_STEP_END (R391): the delay of the step in progress runs out; step 8 ends with its walk. -/
def Dev.exitStep (s : Dev) (o : ExitObs) : Dev :=
  let k := s.ms.exit
  if s.phase != 11 || k == 0 || !s.pins.refclk then s
  else if k == 8 then (if s.space.walking then s else s.exitDone)
  else if !o.done then s.exitLate k
  else
    let s := s.modMs (fun m => { m with exit := k + 1 })
    match k with
    | 1 => ({ s with pins := { s.pins with spineOn := true } }).liveChange
    | 2 => ((({ s with pins := { s.pins with mgmtOn := true } }).liveChange).wdogKick).compareViews
    | 4 => s.collarTrain o.ports true
    | 5 => s.exitShafts o.shorts
    | 6 => s.imageBack o.blocks
    | 7 => s.sentinels o.banks
    | _ => s

def execExitStepEnd (o : ExitObs) (s : State) : Host.Outcome State Fault Refusal := s.on fun s => .next (s.exitStep o)

/-- PAD_RELEASE.GO (R393): ignored before MODE reads RUN. The host ports train and the far ports come up. -/
def Dev.padRelease (s : Dev) : Dev :=
  if s.mode == mdSHUTTERED || s.mode == mdKINDLE || !(s.fb Reg.MODES_STATUS_PADS_LATCHED) then s
  else
    let s := s.setF Reg.MODES_STATUS_PADS_LATCHED 0
    let s := s.trainHosts
    let s := (List.range 12).foldl (fun s h => if s.portSt h == stFENCED || s.portSt h == stKINDLING then s.startTraining h else s) s
    (List.range 4).foldl (fun s f =>
      let st := s.farSt f
      if st == stOFFLINE || st == stFENCED || st == stKINDLING then
        (s.setF Reg.FARPORT_STATUS_ACTIVE_ROLE (s.fv Reg.FARPORT_CTL_ROLE f) f).farBringUp f
      else s) s

/-! ### Power estimate and cap ladder (R396, R397) -/

/-- The ladder's step changed: engines at once, shafts in groups. -/
def Dev.ladderAct (s : Dev) (old : Nat) : Dev :=
  let ceil (l : Nat) : Nat := if 3 ≤ l then 2 else if l == 2 then 1 else 0
  let s := s.setEngines
  if ceil old == ceil s.ladder then s else s.startGroups false

/-- The ladder rises one step, P4 being the last. -/
def Dev.ladderUp (s : Dev) : Dev :=
  let l := s.ladder
  let s := s.modMs (fun m => { m with low := 0 })
  if 4 ≤ l then s
  else
    let s := (s.setF Reg.POWER_LADDER_STEP (l + 1)).bump Reg.POWER_CNT_STEP_UP_VALUE
    (s.raise pgPOWER Reg.EV_POWER_CAP_STEP).ladderAct l

/-- The ladder falls one step. -/
def Dev.ladderDown (s : Dev) : Dev :=
  let l := s.ladder
  let s := s.modMs (fun m => { m with low := 0 })
  if l == 0 then s
  else
    let s := s.setF Reg.POWER_LADDER_STEP (l - 1)
    let s := if l == 1 then s.raise pgPOWER Reg.EV_POWER_CAP_CLEAR else s
    s.ladderAct l

/-- With CAP_CTL.EN 0 the ladder stays at step 0. -/
def Dev.ladderOff (s : Dev) : Dev :=
  let l := s.ladder
  let s := s.wrReg 0xE050 0
  if l == 0 then s else s.ladderAct l

/-- An estimate above CAP_W: within a burst, starting one, or a rise. -/
def Dev.overCap (s : Dev) (peak : Bool) : Dev :=
  let s := s.modMs (fun m => { m with calm := 0, low := 0 })
  let up (s : Dev) : Dev := if peak then s.ladderUp else s
  if s.fb Reg.POWER_LADDER_BURST then
    let us := s.fv Reg.POWER_LADDER_OVER_US + 100
    let s := s.setSat Reg.POWER_LADDER_OVER_US us
    if s.fv Reg.POWER_CAP_CTL_BURST_MS * 1000 ≤ us then (s.setF Reg.POWER_LADDER_BURST 0).ladderUp else up s
  else if s.fb Reg.POWER_LADDER_REARMED then
    up (((s.setF Reg.POWER_LADDER_REARMED 0).setF Reg.POWER_LADDER_BURST 1).setF Reg.POWER_LADDER_OVER_US 0)
  else s.ladderUp

/-- An estimate at or below CAP_W: a burst ends, another is allowed after BURST_MS of them, and after 1 ms at or below CAP_W − HYST_W the
ladder falls. -/
def Dev.underCap (s : Dev) (low : Bool) : Dev :=
  let s := s.modMs (fun m => { m with calm := m.calm + 1, low := if low then m.low + 1 else 0 })
  let s := (s.setF Reg.POWER_LADDER_BURST 0).setF Reg.POWER_LADDER_OVER_US 0
  let s := if s.fv Reg.POWER_CAP_CTL_BURST_MS * 10 ≤ s.ms.calm then s.setF Reg.POWER_LADDER_REARMED 1 else s
  if 10 ≤ s.ms.low then s.ladderDown else s

/-- Does the ladder act: from the end of KINDLE, but not in SHUTTERED nor during entry, where it holds its step? -/
def Dev.ladderActs (s : Dev) : Bool := s.mode != mdKINDLE && s.mode != mdSHUTTERED && s.phase < 5 && s.fb Reg.POWER_CAP_CTL_EN

/-- POWER_ESTIMATE: one update. -/
def Dev.powerUpdate (s : Dev) (o : PowerObs) : Dev :=
  if !s.pins.pwrgood || s.mode == mdSHUTTERED || (s.mode == mdKINDLE && s.kstep < 7) then s
  else
    let e := min 4095 (o.dram + o.refStatic + o.engine + o.logic + o.host + o.far)
    let w (f : Fld) (x : Nat) (s : Dev) : Dev := s.setSat f (x / 10)
    let s := (s.setF Reg.POWER_EST_TOTAL e).setF Reg.POWER_EST_PEAK (max e (s.fv Reg.POWER_EST_PEAK))
    let s := w Reg.POWER_EST_PARTS0_DRAM o.dram (w Reg.POWER_EST_PARTS0_REF_STATIC o.refStatic s)
    let s := w Reg.POWER_EST_PARTS0_ENGINE o.engine (w Reg.POWER_EST_PARTS0_LOGIC o.logic s)
    let s := w Reg.POWER_EST_PARTS1_HOST o.host (w Reg.POWER_EST_PARTS1_FAR o.far s)
    let cap := 10 * s.fv Reg.POWER_CAP_CTL_CAP_W
    let peak := 10 * s.fv Reg.POWER_CAP_CTL_PEAK_W < e
    let s := if peak then (s.bump Reg.POWER_CNT_PEAK_VALUE).raise pgPOWER Reg.EV_POWER_PEAK else s
    if !s.ladderActs then s
    else if cap < e then s.overCap peak
    else s.underCap (e + 10 * s.fv Reg.POWER_CAP_CTL_HYST_W ≤ cap)

def execPowerEstimate (o : PowerObs) (s : State) : Host.Outcome State Fault Refusal := s.on fun s => .next (s.powerUpdate o)

/-- IDLE_PARK_UNDER_CAP (R397): at step P3 a shaft with no access for 100 µs is parked. -/
def execIdleParkUnderCap (n : Fin 48) (s : State) : Host.Outcome State Fault Refusal := s.on fun s =>
  if s.ladder == 3 && (s.shaft n).collar.isEmpty && (s.shaft n).localq.isEmpty then .next (s.park n) else .next s

end Sys2Proof.Machine
end

