-- ==== Sys2Proof/Machine/Heat.lean ====
section
/-!
DEFINITION. Machine/Heat.lean: thermal control (R403 to R419): rounds and readings, the model, suspect and stale dies, the effective
temperature E, demands, the throttle ladder, the trip and its release. Temperatures are in units of 1/16 °C.
-/
namespace Sys2Proof.Machine

def noDie (_ : Nat) : DieSt := {}
def Dev.die (s : Dev) (i : Nat) : DieSt := sget noDie s.heat.dies i
def Dev.modDie (s : Dev) (i : Nat) (f : DieSt → DieSt) : Dev := { s with heat := { s.heat with dies := smod noDie s.heat.dies i f } }

/-- A signed number in a 16-bit field. -/
def s16 (x : Int) : Nat := ofSigned 16 x

/-- A bit of SUSPECT or STALE. -/
def Dev.dieBit (s : Dev) (f : Fld) (i : Nat) : Bool := bitN (s.fv f) i
def Dev.setDieBit (s : Dev) (f : Fld) (i : Nat) (on : Bool) : Dev :=
  let m := s.fv f
  s.setF f (if on then Nat.lor m (2 ^ i) else if bitN m i then m - 2 ^ i else m)

/-- The model estimate of a die: its raw estimate plus the anchor, once the model has been updated. -/
def Dev.estimate (s : Dev) (i : Nat) : Option Int := (s.heat.raw[i]?).map (· + s.heat.anchor)

/-! ### Where thermal control runs (R415) -/

/-- The management controller's island is on and REFCLK runs. -/
def Dev.heatOn (s : Dev) : Bool :=
  s.pins.pwrgood && s.pins.refclk && s.pins.mgmtOn && !(s.isDark pgHEAT)

/-- Rounds run: not in KINDLE before the end of its step 4, where the converter is calibrated (R193), nor in a ground-die reset before its step 7,
nor in an exit before its step 5. -/
def Dev.roundsRun (s : Dev) : Bool :=
  s.heatOn && (s.mode != mdKINDLE || decide (5 ≤ s.kstep)) && (match s.ks.gdr with
    | some g => decide (7 ≤ g.step)
    | none => true) && (s.phase != 11 || decide (5 ≤ s.ms.exit))

/-! ### Effective temperature (R407) -/

/-- The neighbour bound of a die: the mean of E of the dies directly below and above it, or of its one neighbour. -/
def Dev.neighbours (i : Nat) : List Nat := if i == 0 then [1] else if i == 13 then [12] else [i - 1, i + 1]
def Dev.bound (s : Dev) (i : Nat) : Int :=
  if i == 0 then (s.die 1).e else if i == 13 then (s.die 12).e else ((s.die (i - 1)).e + (s.die (i + 1)).e) / 2

/-- The higher of a temperature and one that may be missing. -/
def hotter (x : Int) : Option Int → Int
  | none => x
  | some y => max x y

/-- E of a die by its condition: what is missing takes no part. -/
def Dev.effective (s : Dev) (i : Nat) : Int :=
  let d := s.die i
  if s.dieBit Reg.HEAT_SUSPECT_DIES i then hotter (hotter (s.bound i) d.reading) (s.estimate i)
  else if s.dieBit Reg.HEAT_STALE_DIES i then (match d.reading, s.estimate i with
    | some r, e => hotter r e
    | none, some e => e
    | none, none => d.e)
  else d.reading.getD d.e

/-! ### Demands and the ladder (R409 to R411) -/

/-- The threshold of step `k` (1 to 4) for a die, in °C. -/
def Dev.limit (s : Dev) (i k : Nat) : Nat :=
  if i < 2 then
    (match k with
     | 1 => s.fv Reg.HEAT_LIM_LOGIC_T1
     | 2 => s.fv Reg.HEAT_LIM_LOGIC_T2
     | 3 => s.fv Reg.HEAT_LIM_LOGIC_T3
     | _ => s.fv Reg.HEAT_LIM_LOGIC_TRIP)
  else
    (match k with
     | 1 => s.fv Reg.HEAT_LIM_DRAM_T1
     | 2 => s.fv Reg.HEAT_LIM_DRAM_T2
     | 3 => s.fv Reg.HEAT_LIM_DRAM_T3
     | _ => s.fv Reg.HEAT_LIM_DRAM_TRIP)

/-- Has E reached the threshold of step `k`? -/
def Dev.reaches (s : Dev) (i k : Nat) : Bool := decide ((16 * s.limit i k : Nat) ≤ (s.die i).e)

/-- The step a die's E, staleness and rate call for. -/
def Dev.callsFor (s : Dev) (i : Nat) : Nat :=
  let byE := if s.reaches i 4 then 4 else if s.reaches i 3 then 3 else if s.reaches i 2 then 2 else if s.reaches i 1 then 1 else 0
  max byE (max (if s.dieBit Reg.HEAT_STALE_DIES i then 1 else 0) (if (s.die i).rateHold then 2 else 0))

/-- The device step that the demands make; T4 stays until the trip is released. -/
def Dev.heatStep (s : Dev) : Nat := (List.range 14).foldl (fun m i => max m (s.die i).demand) 0

/-- Every shaft takes its thermal ceiling: F2 where its die demands T2, everywhere while a logic die does (R411). -/
def Dev.thermalCeilings (s : Dev) : Dev :=
  let all := 2 ≤ (s.die 0).demand || 2 ≤ (s.die 1).demand
  (List.range 48).foldl (fun s n =>
    let v := if all || 2 ≤ (s.die (2 + n / 4)).demand then 2 else 0
    if (s.shaft n).ceilT == v then s else (s.setCeiling n .thermal v).ceilingChange n) s

/-- The trip (R412): an entry to SHUTTERED is unwound first; admission, background work and engines stop, full trainings are abandoned (R206);
shafts enter self-refresh as they drain. -/
def Dev.trip (s : Dev) : Dev :=
  let s := if 5 ≤ s.phase && s.phase ≤ 8 then s.unwind mrUNWOUND else s
  let dies := maskOf 14 (fun i => (s.die i).demand == 4)
  let s := ((s.setF Reg.HEAT_STATUS_TRIPPED 1).setF Reg.HEAT_STATUS_ACK_WAIT 0).bump Reg.HEAT_CNT_TRIP_VALUE
  let s := (s.raiseRec pgHEAT Reg.EV_HEAT_TRIP sevCRITICAL [dies]).selftestStop.fuseStop
  (List.range 48).foldl (fun s n => s.trainAbandon n) s

/-- The device step follows the demands: engines, ceilings, THERM_N, the trip (R411). -/
def Dev.ladderFollow (s : Dev) : Dev :=
  let old := s.fv Reg.HEAT_STATUS_STEP
  let new := s.heatStep
  let s := (List.range 14).foldl (fun s i =>
    let d := (s.die i).demand
    let f : Fld := { Reg.HEAT_DEMAND_D0 with hi := 2 * i + 1, lo := 2 * i }
    let s := if d == 4 then s.setDieBit Reg.HEAT_STATUS_TRIP_DIES i true else s
    s.setF f (min 3 d)) s
  let s := s.thermalCeilings
  if new == old then s
  else
    let s := (s.setF Reg.HEAT_STATUS_STEP new).setF Reg.HEAT_STATUS_THERM (b2n (decide (3 ≤ new)))
    let s := (List.range 48).foldl (fun s n =>
      (s.setF Reg.ENGINE_EXEC_STATUS_THROTTLED (b2n (decide (1 ≤ new))) n).engFreeze n 0 (decide (3 ≤ new))) s
    if old < new then
      let s := (s.bump Reg.HEAT_CNT_STEP_UP_VALUE).raiseRec pgHEAT Reg.EV_HEAT_STEP_UP sevWARNING [new, old]
      if new == 4 then s.trip else s
    else if new == 0 then s.raise pgHEAT Reg.EV_HEAT_STEP_CLEAR
    else s

/-- A die's demand rises as soon as it is called for; a logic die that crosses LOGIC_WARN says so once per crossing (R410). -/
def Dev.demandRise (s : Dev) (i : Nat) : Dev :=
  let c := s.callsFor i
  let hot := decide ((16 * s.fv Reg.HEAT_RATE_LOGIC_WARN : Nat) ≤ (s.die i).e)
  let s := if i < 2 && hot && !(s.die i).warned then s.raise pgHEAT Reg.EV_HEAT_WARN else s
  s.modDie i (fun d => { d with demand := max d.demand c, warned := decide (i < 2) && hot })

/-! ### Release of a trip (R413) -/

/-- Every die is at least 10 °C below its trip threshold. -/
def Dev.cooled (s : Dev) : Bool := (List.range 14).all (fun i => decide ((s.die i).e + 160 ≤ (16 * s.limit i 4 : Nat)))

/-- What the short retrain of shaft `n` finds at a release: the commands do not say, so it is a free value. -/
def freeShort (k : Nat) : ShortObs :=
  { ok := Config.freeFlag k,
    runs := (List.range 18).map (fun j => (Fin.ofNat 9 (j / 2), j % 2 == 1, Fin.ofNat 9 (Config.freeNat (k + 2 * j)),
      Fin.ofNat 9 (Config.freeNat (k + 2 * j + 1)))) }

/-- Shafts that serve leave self-refresh and are retrained. -/
def Dev.releaseShafts (s : Dev) : Dev :=
  (List.range 48).foldl (fun s n =>
    let st := s.shaftSt n
    if !(s.inSR n) || s.isParked n || !(st == stONLINE || st == stEVACUATING) then s
    else
      let k := s.free
      ({ (s.exitSR n) with free := k + 36 }).shortRetrain n (freeShort k)) s

/-- A trip that has been acknowledged is released once the device has cooled: the step becomes T3, and jobs whose timers have expired
end TIMEOUT. -/
def Dev.tripRelease (s : Dev) : Dev :=
  if !(s.fb Reg.HEAT_STATUS_TRIPPED) || !(s.fb Reg.HEAT_STATUS_ACK_WAIT) || !s.cooled then s
  else
    let s := ((s.setF Reg.HEAT_STATUS_TRIPPED 0).setF Reg.HEAT_STATUS_ACK_WAIT 0).setF Reg.HEAT_STATUS_TRIP_DIES 0
    let s := (List.range 14).foldl (fun s i => s.modDie i (fun d => { d with demand := min 3 d.demand })) s
    let s := (s.releaseShafts.ladderFollow).raise pgHEAT Reg.EV_HEAT_TRIP_CLEAR
    (List.range 48).foldl (fun s n => if ((s.eng n).run.map (·.expired)).getD false then s.jobCut n stTIMEOUT else s) s

/-- TRIP_ACK.ACK: kept while a trip is in force, discarded otherwise. -/
def Dev.tripAck (s : Dev) : Dev :=
  if s.fb Reg.HEAT_STATUS_TRIPPED then (s.setF Reg.HEAT_STATUS_ACK_WAIT 1).tripRelease else s

/-! ### Computing E (R407, R408) -/

/-- Is the collar port of a tile trained and running (R408)? -/
def Dev.collarOn (s : Dev) (n : Nat) : Bool :=
  bitN (if n < 32 then s.fv Reg.COLLAR_TRAINED_LO_TILES else s.fv Reg.COLLAR_TRAINED_HI_TILES) (n % 32) && (match s.ks.gdr with
    | some g => decide (6 ≤ g.step)
    | none => true)

/-- After each computation of E for DIEd, floor(E) sets out for its four shaft controllers. -/
def Dev.sendTemp (s : Dev) (i : Nat) : Dev :=
  if i < 2 then s
  else
    let t := (s.die i).e / 16
    [0, 1, 2, 3].foldl (fun s j =>
      let n := 4 * (i - 2) + j
      if s.collarOn n then { s with heat := { s.heat with due := sset (fun _ => none) s.heat.due n (some t) } } else s) s

/-- Compute E of die `i`; a change of it computes the E of suspect neighbours. The list holds the dies still to compute, the first
number bounds the work. -/
def Dev.computeE : Nat → List Nat → Dev → Dev
  | 0, _, s => s
  | _, [], s => s
  | fuel + 1, i :: rest, s =>
    let e := s.effective i
    let changed := e != (s.die i).e
    let s := ((s.modDie i (fun d => { d with e := e })).setF Reg.HEAT_TEMPi_EFFECTIVE (s16 e) 0 i).sendTemp i
    let s := s.demandRise i
    let more := if changed then (Dev.neighbours i).filter (fun j => s.dieBit Reg.HEAT_SUSPECT_DIES j && !(rest.contains j)) else []
    Dev.computeE fuel (rest ++ more) s

/-- Compute E of some dies and act on it. -/
def Dev.recompute14 (s : Dev) (l : List Nat) : Dev := ((Dev.computeE 256 l s).ladderFollow).tripRelease

/-- TEMP_DELIVERY (R408): the temperature on its way to a shaft controller arrives. -/
def Dev.tempArrive (s : Dev) (n : Nat) : Dev :=
  match sget (fun _ => none) s.heat.due n with
  | none => s
  | some t => ({ s with heat := { s.heat with due := sset (fun _ => none) s.heat.due n none } }).tempIn n t

def execTempDelivery (n : Fin 48) (s : State) : Host.Outcome State Fault Refusal := s.on fun s => .next (s.tempArrive n.val)

/-! ### Readings (R403 to R405, R407, R409) -/

/-- A die becomes SENSOR_SUSPECT. -/
def Dev.makeSuspect (s : Dev) (i : Nat) : Dev :=
  if s.dieBit Reg.HEAT_SUSPECT_DIES i then s
  else
    let s := (s.setDieBit Reg.HEAT_SUSPECT_DIES i true).bump Reg.HEAT_CNT_SUSPECT_VALUE
    (s.modDie i (fun d => { d with near := 0 })).raiseRec pgHEAT Reg.EV_HEAT_SUSPECT sevWARNING [i]

/-- A conversion outside −40 °C to 150 °C is a diode fault. -/
def diodeFault (raw : Int) : Bool := raw < -640 || 2400 < raw

/-- A diode fault: the reading is discarded and the die is suspect until a warm device reset. -/
def Dev.diodeFaulted (s : Dev) (i : Nat) : Dev :=
  let s := s.makeSuspect i
  (s.modDie i (fun d => { d with diodeBad := true })).raiseRec pgHEAT Reg.EV_HEAT_DIODE_FAULT sevERROR [i]

/-- A reading is compared with the model estimate: COUNT disagreements in a row make the die suspect, CLEAR agreements in a row within
3 °C make it normal again unless its diode is at fault. -/
def Dev.canary (s : Dev) (i : Nat) (raw : Int) : Dev :=
  match s.estimate i with
  | none => s
  | some est =>
    let gap := (raw - est).natAbs
    let far := 16 * s.fv Reg.HEAT_CANARY_CTL_DISAGREE < gap
    let s := s.modDie i (fun d => { d with differ := if far then d.differ + 1 else 0, near := if gap ≤ 48 then d.near + 1 else 0 })
    let d := s.die i
    if s.dieBit Reg.HEAT_SUSPECT_DIES i then
      (if !d.diodeBad && s.fv Reg.HEAT_CANARY_CTL_CLEAR ≤ d.near then (s.setDieBit Reg.HEAT_SUSPECT_DIES i false).modDie i (fun d => { d with differ := 0 }) else s)
    else if s.fv Reg.HEAT_CANARY_CTL_COUNT ≤ d.differ then s.makeSuspect i
    else s

/-- The rate of rise since the die's computation in the round before, and what two rounds in a row at WARN or ACT do (R409). -/
def Dev.rateOf (s : Dev) (i : Nat) : Dev :=
  let d := s.die i
  match d.prior with
  | none => s.modDie i (fun d => { d with prior := some (d.e, s.time) })
  | some (e0, t0) =>
    let dt := s.time - t0
    let s := s.modDie i (fun d => { d with prior := some (d.e, s.time) })
    if dt == 0 then s
    else
      let de := d.e - e0
      let s := s.setF Reg.HEAT_MODELi_RISE (s16 (de * (ticksPerMs : Int) / (dt : Int))) 0 i
      let at_ (lim : Nat) : Bool := decide (((16 * lim * dt : Nat) : Int) ≤ de * ((10 * ticksPerMs : Nat) : Int))
      let w := if at_ (s.fv Reg.HEAT_RATE_WARN) then d.warnRun + 1 else 0
      let a := if at_ (s.fv Reg.HEAT_RATE_ACT) then d.actRun + 1 else 0
      let s := s.modDie i (fun d => { d with warnRun := min 2 w, actRun := min 2 a, rateHold := d.rateHold || decide (2 ≤ a) })
      let s := if 2 ≤ w then s.raise pgHEAT Reg.EV_HEAT_RATE_WARN else s
      (s.demandRise i).ladderFollow

/-- The die of conversion `k` (1 to 14) of a round: i = 1, 2 to 13, then 0. -/
def roundDie (k : Nat) : Nat := if k == 14 then 0 else k

/-- The median of numbers: of the two middle ones of an even count, their mean rounded down (DESIGN CHOICE, log 53). -/
def insertSorted (x : Int) : List Int → List Int
  | [] => [x]
  | y :: l => if x ≤ y then x :: y :: l else y :: insertSorted x l
def median (l : List Int) : Int :=
  let m := l.foldl (fun m x => insertSorted x m) []
  let k := m.length
  if k == 0 then 0 else if k % 2 == 1 then m.getD (k / 2) 0 else (m.getD (k / 2 - 1) 0 + m.getD (k / 2) 0) / 2

/-- Show every model estimate. -/
def Dev.showModel (s : Dev) : Dev :=
  (List.range 14).foldl (fun s i => match s.estimate i with
    | some e => s.setF Reg.HEAT_MODELi_ESTIMATE (s16 e) 0 i
    | none => s) s

/-- A round ends: the lease is given back and the model is anchored. -/
def Dev.roundEnd (s : Dev) : Dev :=
  let s := (s.dropLease lsCONV hoTHERMAL).bump Reg.HEAT_CNT_ROUNDS_VALUE
  let gaps := (List.range 14).filterMap (fun i => match s.dieBit Reg.HEAT_SUSPECT_DIES i, (s.die i).reading, s.heat.raw[i]? with
    | false, some r, some e => some (r - e)
    | _, _, _ => none)
  let anchor := if gaps.isEmpty then s.heat.anchor else median gaps
  ({ s with heat := { s.heat with round := 0, anchor := anchor } }).showModel

/-- ROUND_START (R404): the sequencer asks for the converter; with the lease a round starts, of T_GROUND alone before KINDLE step 8 has
begun. -/
def Dev.roundStart (s : Dev) (late : Bool) : Dev :=
  if !s.roundsRun || s.heat.round != 0 then s
  else
    let (ok, s) := s.askConverter
    if !ok then s
    else
      let first := if s.mode == mdKINDLE && s.kstep < 8 then 14 else 1
      let s := { s with heat := { s.heat with round := first } }
      if late then (s.bump Reg.HEAT_CNT_ROUND_LATE_VALUE).raise pgHEAT Reg.EV_HEAT_ROUND_LATE else s

def execRoundStart (late : Bool) (s : State) : Host.Outcome State Fault Refusal := s.on fun s => .next (s.roundStart late)

/-- DIODE_CONVERSION (R403): the next conversion of the round ends with a temperature. -/
def Dev.conversion (s : Dev) (raw : Int) : Dev :=
  let k := s.heat.round
  if k == 0 || !s.roundsRun then s
  else
    let i := roundDie k
    let s := if diodeFault raw then (s.diodeFaulted i).recompute14 [i]
      else
        let s := s.modDie i (fun d => { d with reading := some raw, at_ := s.time })
        let s := (s.setF Reg.HEAT_TEMPi_READING (s16 raw) 0 i).setDieBit Reg.HEAT_STALE_DIES i false
        ((s.canary i raw).recompute14 [i]).rateOf i
    if k == 14 then s.roundEnd else { s with heat := { s.heat with round := k + 1 } }

def execDiodeConversion (raw : Int) (s : State) : Host.Outcome State Fault Refusal := s.on fun s => .next (s.conversion raw)

/-- MODEL_UPDATE (R406): new raw estimates; E of suspect and stale dies follows. -/
def Dev.modelUpdate (s : Dev) (est : List Int) : Dev :=
  if !s.heatOn then s
  else
    let s := ({ s with heat := { s.heat with raw := (List.range 14).map (fun i => est.getD i 0) } }).showModel
    s.recompute14 ((List.range 14).filter (fun i => s.dieBit Reg.HEAT_SUSPECT_DIES i || s.dieBit Reg.HEAT_STALE_DIES i))

def execModelUpdate (est : List Int) (s : State) : Host.Outcome State Fault Refusal := s.on fun s => .next (s.modelUpdate est)

/-- STALE_DIE (R405): the last reading of a die has become older than 10 ms. -/
def execStaleDie (i : Fin 14) (s : State) : Host.Outcome State Fault Refusal := s.on fun s =>
  if !s.heatOn then .next s else .next ((s.setDieBit Reg.HEAT_STALE_DIES i.val true).recompute14 [i.val])

/-- DEMAND_HOLD_EXPIRY (R409, R410): HOLD_MS have passed: a rate demand ends once the rate is below WARN; with none holding, a demand falls
by one step when E is more than 2 °C below its threshold and the die is not stale. T4 is left only by release. -/
def Dev.holdExpiry (s : Dev) (i : Nat) : Dev :=
  let d := s.die i
  if !s.heatOn then s
  else if d.rateHold then (if d.warnRun == 0 then s.modDie i (fun d => { d with rateHold := false }) else s)
  else if d.demand == 0 || d.demand == 4 || s.dieBit Reg.HEAT_STALE_DIES i || (16 * s.limit i d.demand : Nat) - (32 : Int) ≤ d.e then s
  else (s.modDie i (fun d => { d with demand := d.demand - 1 })).ladderFollow

def execDemandHoldExpiry (i : Fin 14) (s : State) : Host.Outcome State Fault Refusal := s.on fun s => .next (s.holdExpiry i.val)

/-- READ_REQ.GO (R404): one conversion at service rank, reported in READ_RESULT alone; a held lease is LEASE_BUSY. A result that is a
diode fault acts as R403 says (DEDUCED, log 54). -/
def Dev.readOnDemand (s : Dev) (raw : Int) : Dev :=
  let (ok, s) := s.askLease lsCONV hoTHERMAL rkSERVICE
  if !ok then s.wrReg 0x6060 (BitVec.ofNat 32 (rsLEASE_BUSY * 2 ^ 24))
  else
    let s := s.dropLease lsCONV hoTHERMAL
    let i := s.fv Reg.HEAT_READ_REQ_DIODE
    if diodeFault raw then ((s.wrReg 0x6060 0).diodeFaulted i).recompute14 [i]
    else s.wrReg 0x6060 (BitVec.ofNat 32 (2 ^ 31 + s16 raw))

end Sys2Proof.Machine
end

