-- ==== Sys2Proof/Machine/Pins.lean ====
section
/-!
DEFINITION. Machine/Pins.lean: the test port (R350, R351) and the supplies that may be removed in SHUTTERED (R472, R473). A TAP command
loads its instruction and shifts the bits it carries through the register that the instruction selects, nearest to TDI last.
-/
namespace Sys2Proof.Machine

/-! ### The test port -/

/-- Has the TAP power: not in OFF, and not with the ground die off (R14, R385)? -/
def Dev.tapOn (s : Dev) : Bool := s.pins.pwrgood && s.mode != mdSHUTTERED

/-- Full access reaches everything while RESET_N is low; in LAMPROOM with TEST_EN it reaches wrappers of TESTING units alone (R351). -/
def Dev.tapFull (s : Dev) : Bool := !s.pins.resetN
def Dev.tapTest (s : Dev) : Bool := s.mode == mdLAMPROOM && s.fb Reg.SELFTEST_TAP_CTL_TEST_EN

/-- Dies in the chain, nearest to TDI first: the ground die alone, or all fourteen (R350, R351). -/
def Dev.tapChain (s : Dev) : Nat := if s.tapFull || s.tapTest then 14 else 1

/-- The IDCODE of a die: 0 ground, 1 engine, 2 to 13 DRAM. -/
def Dev.idcode (s : Dev) (die : Nat) : Nat :=
  let part := if die == 0 then 0xC483 else if die == 1 then 0xC484 else 0xC485
  1 * 2 ^ 28 + part * 2 ^ 12 + (s.shadow 0x41).toNat % 2048 * 2 + 1

/-- Shift `ins` through a register, the bit nearest to TDO first: what TDO gives, and what the register then holds. -/
def shiftThrough (reg ins : List Bool) : List Bool × List Bool :=
  let l := reg ++ ins
  (l.take ins.length, l.drop ins.length)

def Dev.emitTdo (s : Dev) (l : List Bool) : Dev := l.foldl (fun s b => s.emit (.tdo b)) s

def Dev.setTap (s : Dev) (f : TapSt → TapSt) : Dev := { s with tap := f s.tap }

/-- BYPASS, and every instruction that acts as it: one bit for each die of the chain, captured as 0. -/
def Dev.tapBypass (s : Dev) (ins : List Bool) : Dev :=
  (s.setTap (fun t => { t with inst := 0 })).emitTdo (shiftThrough (List.replicate s.tapChain false) ins).1

def execTapBypass (bits : List Bool) (s : State) : Host.Outcome State Fault Refusal := s.on fun s => if s.tapOn then .next (s.tapBypass bits) else .next s

/-- The boundary register captures the pads and is shifted; what it then holds is its preload. The other dies of the chain are in
bypass. -/
def Dev.tapBoundary (s : Dev) (inst : Nat) (ins pads : List Bool) : Dev :=
  let (outs, reg) := shiftThrough (List.replicate (s.tapChain - 1) false ++ pads) ins
  let held := reg.drop (reg.length - pads.length)
  (s.setTap (fun t => { t with inst := inst, boundary := held })).emitTdo outs

def execTapSamplePreload (bits pads : List Bool) (s : State) : Host.Outcome State Fault Refusal := s.on fun s =>
  if s.tapOn then .next (s.tapBoundary 1 bits pads) else .next s

/-- EXTEST drives the pads from the boundary register; the pad ring is reached only while RESET_N is low (R351). -/
def execTapExtest (bits pads : List Bool) (s : State) : Host.Outcome State Fault Refusal := s.on fun s =>
  if !s.tapOn then .next s else if s.tapFull then .next (s.tapBoundary 2 bits pads) else .next (s.tapBypass bits)

/-- IDCODE: 32 bits for each die of the chain, the last die of the chain nearest to TDO. -/
def Dev.tapIdcode (s : Dev) (ins : List Bool) : Dev :=
  let k := s.tapChain
  let reg := ((List.range k).reverse).flatMap (fun d => (List.range 32).map (fun i => bitN (s.idcode d) i))
  (s.setTap (fun t => { t with inst := 3 })).emitTdo (shiftThrough reg ins).1

def execTapIdcode (bits : List Bool) (s : State) : Host.Outcome State Fault Refusal := s.on fun s => if s.tapOn then .next (s.tapIdcode bits) else .next s

/-- Dies with a wrapper that a configuration reaches: all, or those with a TESTING unit (ports in the ground die, engines and shaft
controllers in the engine die). -/
def Dev.tapReach (s : Dev) (die : Nat) : Bool :=
  s.tapFull || unitPages.any (fun p => s.ust p == stTESTING && (if p < 0x100 then die == 0 else die == 1))

/-- An IEEE 1838 configuration instruction: the wrappers it reaches take the bits. The spec gives the wrapper registers no length, so
what TDO shows meanwhile is a free value. -/
def Dev.tapConfig (s : Dev) (ins : List Bool) : Dev :=
  let k := s.free
  let dies := (List.range 14).filter (fun d => s.tapReach d)
  let s := s.setTap (fun t => { t with inst := 4, wrappers := dies.foldl (fun w d => sset (fun _ => []) w d ins) t.wrappers })
  ({ s with free := k + ins.length }).emitTdo ((List.range ins.length).map (fun i => Config.freeFlag (k + i)))

def execTap1838Config (bits : List Bool) (s : State) : Host.Outcome State Fault Refusal := s.on fun s =>
  if !s.tapOn then .next s else if s.tapFull || s.tapTest then .next (s.tapConfig bits) else .next (s.tapBypass bits)

/-- TRST_N_LOW: the TAP goes to Test-Logic-Reset, where IDCODE is in force. The table has no event for its rise: the command is a low
pulse (DESIGN CHOICE, log 55). -/
def execTrstNLow (s : State) : Host.Outcome State Fault Refusal := s.on fun s => .next { s with tap := {} }

/-! ### Supplies (R472, R473) -/

/-- SUPPLY_RAIL_CHANGE: VDD_UCIE or VDDA_FAR is removed or restored. Removing one while PWRGOOD is high outside SHUTTERED stops the device
with its data paths undefined (R472). -/
def execSupplyRailChange (far on : Bool) (s : State) : Host.Outcome State Fault Refusal := s.on fun s =>
  let was := if far then s.pins.vddaFar else s.pins.vddUcie
  if !on && was && s.pins.pwrgood && s.mode != mdSHUTTERED then .fault .supplyUndefined
  else .next { s with pins := if far then { s.pins with vddaFar := on } else { s.pins with vddUcie := on } }

/-! ### The state of the bumps (R477) -/

/-- What the device does with a far lane in service: ROLE 0 leaves it idle and unterminated, as does a port not brought up (R295). -/
def Dev.farLanesOn (s : Dev) (f : Nat) : Bool := s.fv Reg.FARPORT_CTL_ROLE f != 0 && s.farSt f != stOFFLINE && s.farSt f != stDARK

/-- The bumps by column of R477: PWRGOOD low, reset, KINDLE before link-up, SHUTTERED, and the three modes of service. RESET_N low outranks
every mode, pads stay latched until they are released (R394), and the pads of a rail that the board has removed are high-impedance (R473). -/
def Dev.bumpState (s : Dev) (b : Bump) : BumpState :=
  let reset := !s.pins.resetN || s.ks.gdr.isSome
  let latched := s.mode == mdSHUTTERED || s.fb Reg.MODES_STATUS_PADS_LATCHED
  let early := s.mode == mdKINDLE && decide (s.kstep < 14)
  let off := !s.pins.pwrgood
  match b with
  | .ucieTx | .ucieSide =>
    if !s.pins.vddUcie then .highZ else if off || reset then .low else if latched then .latchedLow else if early then .low else .standard
  | .ucieRx => if !s.pins.vddUcie || off || reset || latched || early then .highZ else .standard
  | .farTx f =>
    if !s.pins.vddaFar then .highZ else if off || reset then .idle else if latched then .latchedIdle
    else if s.farLanesOn f then .standard else .idle
  | .farRx f =>
    if !s.pins.vddaFar then .highZ else if off || reset || latched || !(s.farLanesOn f) then .unterminated else .terminated
  | .alarm => if off then .undriven else .bySource
  | .mflCs => if off || reset then .high else if latched then .latchedHigh else .driven
  | .mflClk => if off || reset then .low else if latched then .latchedLow else .driven
  | .mflIo => if off || reset || latched then .highZ else .driven
  | .tdo => .highZ

end Sys2Proof.Machine
end

