-- ==== Sys2Proof/Machine/RegRead.lean ====
section
/-!
DEFINITION. Machine/RegRead.lean: what a register reads as (R452, R462). Most registers read as they stand in the file; those the spec
defines as a count or a picture of other state are computed here, and so are the reads with side effects.
-/
namespace Sys2Proof.Machine

/-- A word made of fields (value, lowest bit). -/
def wordOf (fs : List (Nat × Nat)) : Word32 := BitVec.ofNat 32 (fs.foldl (fun n f => n + f.1 * 2 ^ f.2) 0)

/-! ### The header and PAGES (R455, R465) -/

/-- Leases a page's unit holds: the helper a shaft holds for training, retraining or scrub, the samplers a far port holds for adaptation
or an eye scan (DEDUCED, log 57). -/
def Dev.unitLeases (s : Dev) (page : Nat) : List Nat :=
  if 0x200 ≤ page && page < 0x230 then
    [lsHelper (page - 0x200)].filter (fun i => (s.lease i).holder == hoTRAIN || (s.lease i).holder == hoSCRUB)
  else if 0x20 ≤ page && page < 0x24 then
    ((List.range 8).map (lsSampler (page - 0x20))).filter (fun i => (s.lease i).holder == hoADAPT || (s.lease i).holder == hoSCAN)
  else []

/-- LEASE_HELD (R455). -/
def Dev.leaseHeldWord (s : Dev) (page : Nat) : Word32 :=
  match s.unitLeases page with
  | [] => 0
  | i :: l => wordOf [(1, 31), (i, 16), (l.length + 1, 0)]

/-- Pages that are live, as bits of page indexes. -/
def Dev.liveMask (s : Dev) (x : Nat) : Nat := maskOf 32 (fun i => decide (32 * x + i < 144) && !(s.isDark (pageOfIndex (32 * x + i))))

/-- Pages whose EVT_STATUS is not 0. -/
def Dev.pendMask (s : Dev) (x : Nat) : Nat :=
  maskOf 32 (fun i => decide (32 * x + i < 144) && s.rdReg (pageOfIndex (32 * x + i) * 4096 + 0x14) != 0)

/-- A register of PAGES. -/
def Dev.readPages (s : Dev) (off : Nat) : Word32 :=
  if off == 0x40 then wordOf [(144, 0), (countOf 144 (fun i => !(s.isDark (pageOfIndex i))), 8)]
  else if off < 0x58 then BitVec.ofNat 32 (s.liveMask ((off - 0x44) / 4))
  else if off < 0x6C then BitVec.ofNat 32 (s.pendMask ((off - 0x58) / 4))
  else wordOf [(maskOf 12 (fun h => s.portSt h == stONLINE), 0), (maskOf 12 (fun h => s.fb Reg.HOSTPORT_MGMT_MGMT_EN h), 16)]

/-! ### Registers of the units -/

/-- HAULAGE registers that picture the managed space (R50) and the buffers of haulage (R75). -/
def Dev.readHaul (s : Dev) (off : Nat) : Option Word32 :=
  match off with
  | 0x44 => some (wordOf [(b2n s.space.clearing, 0), (b2n s.space.walking, 1),
      (b2n ((List.range 64).any (fun k => s.fb Reg.HAULAGE_FWk_CTL_OVERLAP 0 k) || (List.range 16).any (fun j => s.fb Reg.HAULAGE_SWj_CTL_OVERLAP 0 j)), 2),
      (b2n (!s.space.suspect.isEmpty), 3),
      (b2n ((List.range 64).any (fun k => s.fb Reg.HAULAGE_FWk_CTL_DRAINING 0 k) || (List.range 16).any (fun j => s.fb Reg.HAULAGE_SWj_CTL_DRAINING 0 j)), 4)])
  | 0x48 => some (BitVec.ofNat 32 s.usableSlots)
  | 0x4C => some (BitVec.ofNat 32 s.freeSlots)
  | 0x50 => some (BitVec.ofNat 32 s.resident)
  | 0x54 => some (BitVec.ofNat 32 s.pinCount)
  | 0x5C => some (BitVec.ofNat 32 s.soTotal)
  | 0x64 => some (wordOf [(icount s.space.suspect, 16), (s.space.lost.length, 0)])
  | 0x6C => some (match s.space.lost[s.fv Reg.HAULAGE_LOST_IDX_IDX]? with
      | some f => wordOf [(1, 31), (f, 0)]
      | none => 0)
  | 0x78 => some (match s.space.resv[s.fv Reg.HAULAGE_RESV_IDX_IDX]? with
      | some r => wordOf [(r.1, 16), (r.2, 0)]
      | none => 0)
  | 0x104 => some (wordOf [((s.haul.wbacks.filter (fun e => e.2.isSome)).length, 16), ((s.haul.fills.filter (fun e => e.2.isSome)).length, 0)])
  | 0x150 => some (BitVec.ofNat 32 s.blockedMask)
  | _ => none

/-- HOSTPORT registers that picture the port's credits and tags (R116). -/
def Dev.readHost (s : Dev) (h off : Nat) : Option Word32 :=
  let p := s.port h
  match off with
  | 0x54 => some (wordOf [(min 65535 p.have1, 0), (min 255 p.have2, 16), (min 255 p.have3, 24)])
  | 0x58 => some (wordOf [(p.outst.length, 0), (p.resv1, 16)])
  | _ => none

/-- The taps that CALSEL selects (R195, R196, R210): BITDLY, whose receive half of a CA bit reads 0, and BYTEb_TAP. -/
def Dev.readTaps (s : Dev) (n off : Nat) : Word32 :=
  let t := s.taps n (s.fv Reg.SHAFT_CALSEL_POINT n)
  if off == 0x220 then
    let i := s.fv Reg.SHAFT_CALSEL_INDEX n
    wordOf [(if i < 72 then (t.bit i).1 else 0, 0), ((t.bit i).2, 8)]
  else
    let l := t.lane ((off - 0x240) / 4)
    wordOf [(l.rd, 0), (l.wr, 8), (l.rdV, 16), (l.wrV, 24)]

/-- SHAFT registers that picture the taps, the repeat tracker and the poison list (R210, R292). -/
def Dev.readShaft (s : Dev) (n off : Nat) : Option Word32 :=
  if off == 0x220 || (0x240 ≤ off && off < 0x264) then some (s.readTaps n off)
  else if off == 0x318 then some (match (s.shaft n).tracker[s.fv Reg.SHAFT_TRACK_IDX_IDX n]? with
    | some t => wordOf [(1, 31), (t.st, 29), (min 15 t.count, 22), (t.bank, 17), (t.row, 0)]
    | none => 0)
  else if off == 0x324 then some (match (s.shaft n).poison[s.fv Reg.SHAFT_POISON_IDX_IDX n]? with
    | some l => wordOf [(1, 31), (l, 0)]
    | none => 0)
  else if off == 0x304 then some (withBits (s.rdReg (shaftPage n * 4096 + 0x304)) 31 31 (b2n (s.scrubs n)))
  else none

/-- ENGINE registers that picture the engine. -/
def Dev.readEngine (s : Dev) (n off : Nat) : Option Word32 :=
  match off with
  | 0x58 => some (s.fcacheStatus n)
  | 0x64 => some (s.dbgData n)
  | 0x108 => some (s.jobTime n)
  | _ => none

/-- DIE registers that picture its spares (R283, R285, R294): the shafts of DIEd are 4d to 4d + 3. -/
def Dev.readDie (s : Dev) (d off : Nat) : Option Word32 :=
  let q := 4 * d + s.fv Reg.DIE_BANK_SEL_CHANNEL d
  let b := s.fv Reg.DIE_BANK_SEL_BANK d
  match off with
  | 0x44 => some (wordOf [((List.range 4).foldl (fun k c => k + (s.shaft (4 * d + c)).rowMap.length) 0, 0),
      ((List.range 4).foldl (fun k c => k + (s.shaft (4 * d + c)).colMap.length) 0, 16)])
  | 0x4C => some (wordOf [(64 - s.usedRows q b, 0), (4 - s.usedCols q b, 8)])
  | _ => none

/-- Registers of the pages with one instance that are computed. -/
def Dev.readSingle (s : Dev) (a : Nat) : Option Word32 :=
  match a with
  | 0x0050 => some s.kindleStatus
  | 0x006C => some (BitVec.ofNat 32 s.time)
  | 0x1088 => some s.sentBanks
  | 0x3044 => some s.reqStatus
  | 0x304C => some s.selStatus
  | 0x3060 => some (s.heldMask 0)
  | 0x3064 => some (s.heldMask 1)
  | 0x3068 => some (s.heldMask 2)
  | 0x306C => some (s.heldMask 3)
  | 0x404C => some s.regionStatus
  | 0x4054 => some s.margWord
  | 0x405C => some (s.shadow (s.fv Reg.FUSES_SHADOW_ADDR_ADDR))
  | 0xB044 => some s.dispStatus
  | 0xC05C => some s.lagAge
  | 0xD05C => some (withBits (s.rdReg 0xD05C) 15 0 s.poolNow)
  | 0xC064 => some s.cfgCrc
  | 0xF058 => some s.portStatus
  | _ => none

/-- The low and high halves of the counter that a LO register begins (R152, R375): the offset is that of the LO register. -/
def Dev.pairCount (s : Dev) (a : Nat) : Option Nat :=
  let page := a / 4096
  let off := a % 4096
  if a == 0x006C then some (s.time % 2 ^ 64)
  else if 0x40 ≤ page && page < 0x44 && 0x40 ≤ off && off < 0x440 then
    let k := s.cls ((page - 0x40) * 16 + (off - 0x40) / 64)
    match (off - 0x40) % 64 with
    | 0x28 => some (k.cntBytes % 2 ^ 48)
    | 0x30 => some (k.cntReq % 2 ^ 48)
    | 0x38 => some (k.cntLat % 2 ^ 48)
    | _ => none
  else none

/-- Is the register the HI half of such a counter? -/
def isHiHalf (a : Nat) : Bool :=
  let off := a % 4096
  a == 0x0070 || (decide (0x40 ≤ a / 4096) && decide (a / 4096 < 0x44) && decide (0x40 ≤ off) && decide (off < 0x440) &&
    ((off - 0x40) % 64 == 0x2C || (off - 0x40) % 64 == 0x34 || (off - 0x40) % 64 == 0x3C))

/-- What a defined register reads as, side effects aside. -/
def Dev.regValue (s : Dev) (a : Nat) : Word32 :=
  let page := a / 4096
  let off := a % 4096
  let v : Option Word32 :=
    if off == 0x24 then some (s.leaseHeldWord page)
    else if off < 0x40 then none
    else if page == 2 then some (s.readPages off)
    else if page == 0x0A then s.readHaul off
    else if page < 0x10 then s.readSingle a
    else if page < 0x1C then s.readHost (page - 0x10) off
    else if page < 0x100 then (s.pairCount a).map (BitVec.ofNat 32)
    else if page < 0x130 then s.readEngine (page - 0x100) off
    else if page < 0x230 then s.readShaft (page - 0x200) off
    else s.readDie (page - 0x300) off
  v.getD (s.rdReg a)

/-- The latch of the HI register at `a` for a reader: host port 0 to 11, or 12 for Nguane firmware (R462). -/
def latchKey (reader a : Nat) : Nat := reader * 2 ^ 26 + a

/-- A read of a defined register by a reader, with its side effects (R462): a LO read latches HI, a HI read shows the latch, a read of
EST clears PEAK. -/
def Dev.readReg (s : Dev) (reader a : Nat) : Word32 × Dev :=
  match s.pairCount a with
  | some x => (BitVec.ofNat 32 x, { s with hiLatch := sset (fun _ => 0) s.hiLatch (latchKey reader (a + 4)) (BitVec.ofNat 32 (x / 2 ^ 32)) })
  | none =>
    if isHiHalf a then (sget (fun _ => 0) s.hiLatch (latchKey reader a), s)
    else if a == 0xE044 then (s.regValue a, s.setF Reg.POWER_EST_PEAK 0)
    else (s.regValue a, s)

end Sys2Proof.Machine
end

