-- ==== Sys2Proof/Machine/RegWrite.lean ====
section
/-!
DEFINITION. Machine/RegWrite.lean: register requests. What a write stores and does (R6, R459 to R463), how a request is judged (R453, R464),
how a port's VC2 requests arrive, are admitted and answered (R92, R93, R96, R99, R103, R122), and what Nguane firmware's requests do.
-/
namespace Sys2Proof.Machine

/-! ### What a write finds outside the registers -/

/-- Outcomes that the write of a register may need: a shaft's short retrain, shafts that miss the limit of a warm reset, a raw diode
count, whether a collar port's or a lane's training passes, the impedance found, and how a repair at the die ends. -/
structure WObs where
  short : ShortObs
  stuck : BitVec 48
  raw : Int
  pass : Bool
  imp : Nat
  repair : RepairObs
  deriving DecidableEq, Repr

/-- The outcomes of a command that names none of them. -/
def noObs : WObs := ⟨⟨true, []⟩, 0, 0, true, 0, ⟨true⟩⟩

/-- Outcomes that no command names: free values numbered from `k` (log 31). -/
def freeObs (k : Nat) : WObs :=
  ⟨⟨Config.freeFlag k, (List.range 18).map (fun i => (Fin.ofNat 9 (i / 2), i % 2 == 1, Fin.ofNat 9 (Config.freeNat (k + 8 + 2 * i)),
      Fin.ofNat 9 (Config.freeNat (k + 9 + 2 * i))))⟩,
    BitVec.ofNat 48 (Config.freeNat (k + 1)), Config.freeNat (k + 2), Config.freeFlag (k + 3), Config.freeNat (k + 4) % 32, ⟨Config.freeFlag (k + 5)⟩⟩

/-- Does the write of register `a` need an outcome? -/
def needsObs (a : Nat) : Bool :=
  a == 0x0048 || a == 0x605C || a == 0x7040 || a == 0xF050 ||
  (decide (0x20 ≤ a / 4096) && decide (a / 4096 < 0x24) && a % 4096 == 0x50) ||
  (decide (0x200 ≤ a / 4096) && decide (a / 4096 < 0x230) && (a % 4096 == 0x00C || a % 4096 == 0x328))

/-- A write that names no outcome takes free values, if it needs any. -/
def Dev.takeObs (s : Dev) (a : Nat) (o : Option WObs) : WObs × Dev :=
  match o with
  | some x => (x, s)
  | none => if needsObs a then (freeObs s.free, { s with free := s.free + 64 }) else (noObs, s)

/-! ### Storing -/

/-- Is the write of register `a` discarded whole: the header of a page with no unit (R335), the fields of an enabled window (R29) or ring
(R265), an active timing set (R189), the active half of a program slot (R261)? -/
def Dev.discards (s : Dev) (a : Nat) : Bool :=
  let page := a / 4096
  let off := a % 4096
  if off == 0x0C || off == 0x10 then !(isUnitPage page)
  else if page == 0x0A then
    (0x400 ≤ off && off < 0x800 && off % 16 < 12 && s.fb Reg.HAULAGE_FWk_CTL_EN 0 ((off - 0x400) / 16)) ||
    (0x800 ≤ off && off < 0x900 && off % 16 < 8 && s.fb Reg.HAULAGE_SWj_CTL_EN 0 ((off - 0x800) / 16))
  else if page == 0x0B then 0x400 ≤ off && off < 0x800 && off % 16 < 8 && s.fb Reg.DISPATCH_RINGk_CTL_EN 0 ((off - 0x400) / 16)
  else if 0x100 ≤ page && page < 0x130 then
    0x140 ≤ off && off < 0x1C0 && bitN (s.rdReg a).toNat 31 &&
      bitN (s.fv Reg.ENGINE_SLOT_ACTIVE_HALF (page - 0x100)) ((off - 0x140) / 8) == (off % 8 == 4)
  else if 0x200 ≤ page && page < 0x230 then
    (0x100 ≤ off && off < 0x120 && s.fb Reg.SHAFT_SETA_CTL_ACTIVE (page - 0x200)) ||
    (0x140 ≤ off && off < 0x160 && s.fb Reg.SHAFT_SETB_CTL_ACTIVE (page - 0x200))
  else false

/-- A write with the fields it may not change now replaced by what they hold: LOG2 of a ring that is served (R265). -/
def Dev.keepFields (s : Dev) (a : Nat) (v : Word32) : Word32 :=
  let old := s.rdReg a
  if a / 4096 == 0x0B && 0x400 ≤ a % 4096 && a % 4096 < 0x800 && a % 16 == 8 && bitN old.toNat 0 then withBits v 12 8 (bitsOf old 12 8)
  else v

/-- Store what a write leaves in the register file, clamped (R460, R461). -/
def Dev.storeReg (s : Dev) (a : Nat) (v : Word32) : Dev :=
  match regAt a with
  | some r => if s.discards a then s else (s.wrReg a (applyWrite r (s.rdReg a) (s.keepFields a v))).reclamp a
  | none => s

/-! ### Effects, page by page; `v` is what was written, `old` what the register held -/

/-- DEVICE (R375). -/
def Dev.effDevice (s : Dev) (off : Nat) (v : Word32) (o : WObs) : Dev :=
  match off with
  | 0x48 => if bitN v.toNat 0 then s.warmReset 3 o.stuck else if bitN v.toNat 1 then s.groundTrigger 1 else s
  | 0x4C => if bitN v.toNat 0 then s.kindleDone else s
  | 0x5C => s.imgWord v
  | 0x60 => if bitN v.toNat 0 then s.imgGo else s
  | 0x68 => s.wdogKick
  | _ => s

/-- MODES (R399). A new WAKE_CTL is looked at outside an entry; in one, the copy taken at its start stands. -/
def Dev.effModes (s : Dev) (off : Nat) (v : Word32) : Dev :=
  match off with
  | 0x44 => if bitN v.toNat 31 then s.modeReq else s
  | 0x4C => if bitN v.toNat 0 then s.padRelease else s
  | 0x54 => if s.phase < 5 then s.wakeEval else s
  | _ => s

/-- LEASES (R360). -/
def Dev.effLeases (s : Dev) (off : Nat) (v : Word32) : Dev := if off == 0x40 then s.leaseReq v else s

/-- FUSES (R437). -/
def Dev.effFuses (s : Dev) (off : Nat) (v : Word32) : Dev :=
  match off with
  | 0x5C => s.shadowWrite v
  | 0x60 => if s.fb Reg.FUSES_TRIAL_EN_EN then s else s.trialOff
  | 0x68 => if bitN v.toNat 31 then s.burnGo else s
  | 0x70 => if bitN v.toNat 31 then s.lockGo else s
  | 0x78 => if bitN v.toNat 0 then s.resenseGo else s
  | _ => s

/-- TALLY (R451). -/
def Dev.effTally (s : Dev) (off : Nat) (v : Word32) : Dev :=
  match off with
  | 0x4C => if bitN v.toNat 0 then s.padStart else s
  | 0x50 =>
    let s := s.urgConflict
    if bitN v.toNat 0 then s.snapTrigger 1 0 else s
  | _ => s

/-- HEAT (R418). -/
def Dev.effHeat (s : Dev) (off : Nat) (v : Word32) (o : WObs) : Dev :=
  match off with
  | 0x5C => if bitN v.toNat 31 then s.readOnDemand o.raw else s
  | 0x64 => if bitN v.toNat 0 then s.tripAck else s
  | _ => s

/-- CALREF (R212). -/
def Dev.effCalref (s : Dev) (off : Nat) (v : Word32) (o : WObs) : Dev :=
  if off != 0x40 then s
  else
    let s := if bitN v.toNat 0 then s.impFound o.imp else s
    let s := if bitN v.toNat 1 then s.convStart else s
    if bitN v.toNat 2 then s.wakeStart else s

/-- SELFTEST (R357): a full run that starts has a clear or walk to be followed by (R382). -/
def Dev.effSelftest (s : Dev) (off : Nat) (v : Word32) : Dev :=
  if off == 0x44 && bitN v.toNat 31 then
    let t := s.selftestGo
    if s.stest.kind != 7 && t.stest.kind == 7 then t.modMs (fun m => { m with full := true }) else t
  else s

/-- CLASSES (R156): a write of CTL, which holds BUDGET_EFF, triggers a recompute (R150). -/
def Dev.effClasses (s : Dev) (off : Nat) : Dev := if off == 0x48 then s.urgCtlWritten else if off == 0x40 then s.wlTrigger else s

/-- CLASSTAB (R160): a write of a class's FLOOR and RANK triggers a recompute (R150). -/
def Dev.effClasstab (s : Dev) (tab off : Nat) : Dev :=
  let k := (off - 0x40) % 64
  if k == 0x04 then s.wlTrigger else if k == 0x14 then s.monWritten (tab * 16 + (off - 0x40) / 64) else s

/-- SPACE_CTL acts in LAMPROOM only (R49). -/
def Dev.spaceCtl (s : Dev) (v : Word32) : Dev :=
  if s.mode != mdLAMPROOM then s
  else
    let s := if bitN v.toNat 0 then s.tableClear.modMs (fun m => { m with full := false }) else s
    if bitN v.toNat 1 then s.startWalk.modMs (fun m => { m with full := false }) else s

/-- HAULAGE (R49, R76). -/
def Dev.effHaulage (s : Dev) (off : Nat) (old v : Word32) : Dev :=
  if off == 0x40 then s.spaceCtl v
  else if off == 0x70 then s.suspectClear v
  else if off == 0x7C then s.lookupFrame
  else if off == 0x144 then (if bitN v.toNat 31 then s.migGo else s)
  else if 0x400 ≤ off && off < 0x800 && off % 16 == 12 then s.fwCtlWritten ((off - 0x400) / 16) old v
  else if 0x800 ≤ off && off < 0x900 && off % 16 == 8 then s.swCtlWritten ((off - 0x800) / 16) old v
  else s

/-- DISPATCH (R265). -/
def Dev.effDispatch (s : Dev) (off : Nat) (v : Word32) : Dev :=
  if 0x400 ≤ off && off < 0x800 && off % 16 == 8 then s.ringCtl ((off - 0x400) / 16) v
  else if 0x800 ≤ off && off < 0x900 then s.ringBell ((off - 0x800) / 4) v
  else s

/-- POWER (R402): with EN 0 the ladder is at its lowest step (R397). -/
def Dev.effPower (s : Dev) (off : Nat) : Dev :=
  if off == 0x40 && !(s.fb Reg.POWER_CAP_CTL_EN) then s.ladderOff else s

/-- COLLAR (R378). -/
def Dev.effCollar (s : Dev) (off : Nat) (v : Word32) (o : WObs) : Dev :=
  if off == 0x50 && bitN v.toNat 31 then s.retrainPort o.pass else s

/-- HOSTPORTh (R116). -/
def Dev.effHost (s : Dev) (h off : Nat) (old v : Word32) : Dev :=
  match off with
  | 0x44 => s.linkCtlWritten h (bitsOf old 9 9) v
  | 0x4C => s.mgmtWritten h
  | 0x5C => if bitN v.toNat 12 then s.laneApply h else s
  | _ => s

/-- ENGINEn (R241, R268). -/
def Dev.effEngine (s : Dev) (n off : Nat) (v : Word32) : Dev :=
  match off with
  | 0x54 => if bitN v.toNat 0 then s.fcacheDrop n else s
  | 0x5C => s.debugCtl n v
  | 0x10C => if bitN v.toNat 0 then s.jobAbort n else s
  | 0x114 => s.slotFlip n v
  | _ => s

/-- The byte lane `b`, at point `p`, is the one whose touch comes next at the active point: a write of its taps while the touch runs stands against
the touch's result (R206). -/
def Dev.noteTap (s : Dev) (n p b : Nat) : Dev :=
  let t := (s.shaft n).touchAt
  if (s.shaft n).roundOn && p == s.point n && decide (t < 36) && t / 4 == b then s.modShaft n (fun q => { q with tapHit := true }) else s

/-- BITDLY and BYTEb_TAP change the taps that CALSEL selects (R210); the receive half of a CA bit is discarded. -/
def Dev.tapsWritten (s : Dev) (n off : Nat) (v : Word32) : Dev :=
  let p := s.fv Reg.SHAFT_CALSEL_POINT n
  let t := s.taps n p
  if off == 0x220 then
    let i := s.fv Reg.SHAFT_CALSEL_INDEX n
    s.setTaps n p (t.setBit i (if i < 72 then bitsOf v 6 0 else (t.bit i).1, bitsOf v 14 8))
  else (s.noteTap n p ((off - 0x240) / 4)).setTaps n p (t.setLane ((off - 0x240) / 4) ⟨bitsOf v 7 0, bitsOf v 15 8, bitsOf v 21 16, bitsOf v 29 24⟩)

/-- REPAIR_CTL.GO (R282, R285): ignored while BUSY. -/
def Dev.repairGo (s : Dev) (n : Nat) (o : RepairObs) : Dev :=
  let b := s.fv Reg.SHAFT_REPAIR_CTL_BANK n
  let t := s.fv Reg.SHAFT_REPAIR_CTL_TARGET n
  if s.fb Reg.SHAFT_REPAIR_STATUS_BUSY n then s
  else if s.fb Reg.SHAFT_REPAIR_CTL_KIND n then s.colRepair n b (t % 32) o
  else s.rowRepair n b t true o

/-- SHAFTn (R188, R210, R292). Where one write sets several bits that act, they act in bit order. -/
def Dev.effShaft (s : Dev) (n off : Nat) (v : Word32) (o : WObs) : Dev :=
  if off == 0x48 then s.showRate n
  else if off == 0x54 then
    let s := if bitN v.toNat 0 then s.park n else s
    if bitN v.toNat 1 then s.wakeShaft n else s
  else if off == 0x58 then (if bitN v.toNat 0 then s.freqGo n else s)
  else if off == 0x200 then
    let s := if bitN v.toNat 0 then s.trainStart n else s
    if bitN v.toNat 1 then s.trainAbandon n else s
  else if off == 0x220 || (0x240 ≤ off && off < 0x264) then s.tapsWritten n off v
  else if off == 0x224 then (if bitN v.toNat 0 then s.helperStart n else s)
  else if off == 0x328 then (if bitN v.toNat 31 then s.repairGo n o.repair else s)
  else s

/-- EVT_SET (R456): each defined bit written 1 is set as its happening would set it; no record. -/
def Dev.evtSetWritten (s : Dev) (page : Nat) (v : Word32) : Dev :=
  (List.range 32).foldl (fun s i => if bitN v.toNat i && bitN (evMaskOf page) i then s.raise page i else s) s

/-- The effects of the header registers (R455). -/
def Dev.effHeader (s : Dev) (page off : Nat) (v : Word32) (o : WObs) : Dev :=
  match off with
  | 0x0C => s.unitReqWritten page v o.short
  | 0x10 => if bitN v.toNat 0 then s.funcReset page else s
  | 0x1C => s.evtSetWritten page v
  | _ => s

/-- The effect of a write of register `a`. -/
def Dev.regEffect (s : Dev) (a : Nat) (old oldSize v : Word32) (o : WObs) : Dev :=
  let page := a / 4096
  let off := a % 4096
  if off < 0x40 then s.effHeader page off v o
  else if page == 0 then s.effDevice off v o
  else if page == 1 then s.effModes off v
  else if page == 3 then s.effLeases off v
  else if page == 4 then s.effFuses off v
  else if page == 5 then s.effTally off v
  else if page == 6 then s.effHeat off v o
  else if page == 7 then s.effCalref off v o
  else if page == 8 then s.effSelftest off v
  else if page == 9 then s.effClasses off
  else if page == 0x0A then s.effHaulage off old v
  else if page == 0x0B then s.effDispatch off v
  else if page == 0x0C then s.pairWritten off old oldSize v
  else if page == 0x0D then (if off == 0x58 then s.selWritten else s)
  else if page == 0x0E then s.effPower off
  else if page == 0x0F then s.effCollar off v o
  else if page < 0x1C then s.effHost (page - 0x10) off old v
  else if page < 0x24 then s.farWritten (page - 0x20) off old v o.pass
  else if page < 0x44 then s.effClasstab (page - 0x40) off
  else if page < 0x130 then s.effEngine (page - 0x100) off v
  else if page < 0x230 then s.effShaft (page - 0x200) off v o
  else s

/-- The SIZE register beside a mirror window's BASE or SIZE, as it stands. -/
def Dev.sizeBeside (s : Dev) (a : Nat) : Word32 := s.rdReg (a / 16 * 16 + 4)

/-- A write of a defined register: it is stored, has its effect, and goes to the pair partner where the register is mirrored (R319). -/
def Dev.writeReg (s : Dev) (a : Nat) (v : Word32) (o : WObs) : Dev :=
  ((s.storeReg a v).regEffect a (s.rdReg a) (s.sizeBeside a) v o).mirrorReg a

/-! ### Judging (R453, R459, R464) -/

/-- The page whose island a request needs: a program store's is that of its engine (R458). -/
def unitPageOf (page : Nat) : Nat := if 0x2000 ≤ page then enginePage ((page - 0x2000) / 16) else page

/-- Registers of its own page that a port without MGMT_EN may write (R459): FUNC_RESET, EVT_STATUS, EVT_ENABLE, EVT_ROUTE, LINK_CTL,
TAG_LIMIT, CREDIT_CTL and EVT_OVF. -/
def ownRegs : List Nat := [0x10, 0x14, 0x18, 0x20, 0x44, 0x48, 0x50, 0x60]

/-- May a requester write register `a` (R459)? 0 to 11 is a host port, 12 is Nguane firmware; `mgmt` is MGMT_EN as a port's request found it
when it was admitted, if that was earlier. -/
def Dev.mayWrite (s : Dev) (reader a : Nat) (mgmt : Option Bool := none) : Bool :=
  let page := a / 4096
  let off := a % 4096
  reader == 12 || mgmt.getD (s.fb Reg.HOSTPORT_MGMT_MGMT_EN reader) ||
  (page == 0x0B && decide (0x800 ≤ off) && decide (off < 0x900)) || (page == hostPage reader && ownRegs.contains off)

/-- A unit that UNIT_REQ made DARK can be asked back (R336): the islands of its page have power (DEDUCED, log 58). -/
def Dev.canAsk (s : Dev) (page : Nat) : Bool :=
  isUnitPage page && !(s.notYetUp page) && s.mode != mdSHUTTERED && s.phase != 11 && s.phase != 10

/-- The answer of the first four rows of R453, none where they let the request through; a FUNC_RESET of a dark page is discarded like any
other write. -/
def Dev.judge (s : Dev) (reader a : Nat) (write : Bool) (mgmt : Option Bool := none) : Option (RegAns × Dev) :=
  let page := a / 4096
  let off := a % 4096
  let pg := unitPageOf page
  if !(isRegPage page) && !(isWinPage page) then some (.error 1 0, s)
  else if a % 4 != 0 then some (.error 3 7, s)
  else if write && !(s.mayWrite reader a mgmt) then some (.error 4 2, s)
  else if isWinPage page && page < 0x2000 then none
  else if !(s.isDark pg) then none
  else if write && off == 0x0C && s.canAsk page then none
  else
    let t := s.darkRecord pg a write (if reader == 12 then 0xFF else reader)
    if !write && isRegPage page && off == 0 then some (.value (s.rdReg a), t)
    else if !write && isRegPage page && off == 8 then some (.value (withBits (if isUnitPage page then s.rdReg a else 0) 3 0 stDARK), t)
    else some (.dark 0 pg, t)

/-- A request that row 8 of R453 carries out, or rows 6 and 7 answer. -/
def Dev.carryOut (s : Dev) (reader a : Nat) (w : Option Word32) (o : Option WObs) : RegAns × Dev :=
  let page := a / 4096
  match w with
  | some v =>
    if isWinPage page then
      (.done, if page < 0x2000 then s else s.storeWrite ((page - 0x2000) / 16) ((page - 0x2000) % 16 * 4096 + a % 4096) v)
    else if (regAt a).isNone then (.done, s)
    else
      let (x, s) := s.takeObs a o
      (.done, s.writeReg a v x)
  | none =>
    if isWinPage page then
      (.value (if page < 0x2000 then s.ringWord a else s.storeRead ((page - 0x2000) / 16) ((page - 0x2000) % 16 * 4096 + a % 4096)), s)
    else if a == 0x5064 then
      match s.flashRead with
      | (t, some v) => (.value v, t)
      | (t, none) => (.retry 10, t)
    else if (regAt a).isNone then (.value 0, s)
    else
      let (v, s) := s.readReg reader a
      (.value v, s)

/-- Row 5 of R453 (R129): the page gives no answer in time. Whether a write has taken effect all the same is a free value. -/
def Dev.noAnswer (s : Dev) (reader a : Nat) (w : Option Word32) : RegAns × Dev :=
  let pg := unitPageOf (a / 4096)
  let s := (s.bump Reg.FABRIC_CNT_REG_TIMEOUT_VALUE).raiseRec pgFABRIC Reg.EV_FABRIC_REG_TIMEOUT sevWARNING [a, b2n w.isSome, pg]
  let s := if w.isSome && Config.freeFlag s.free then (s.nextFree.carryOut reader a w none).2 else s.nextFree
  (.dark 0 pg, s)

/-- The attachment of a requester: a host port's, or the management controller's. -/
def readerAtt (reader : Nat) : Nat := if reader < 12 then reader else 0x4A

/-- A register request is judged and answered: rows 1 to 4 first, then row 5 where `late`, then the rest. A request that reaches its page is one
cell of the MGT network, and so is its answer (R121, R134). -/
def Dev.serveReg (s : Dev) (reader a : Nat) (w : Option Word32) (o : Option WObs) (late : Bool) (mgmt : Option Bool := none) :
    RegAns × Dev :=
  match s.judge reader a w.isSome mgmt with
  | some r => r
  | none =>
    let att := attOfPage (unitPageOf (a / 4096))
    let s := s.countCell (readerAtt reader) att 2
    if late then s.noAnswer reader a w
    else
      let (ans, s) := s.carryOut reader a w o
      (ans, s.countCell att (readerAtt reader) 2)

/-! ### A port's VC2 requests -/

/-- The response that carries an answer (R92, R93). -/
def regResp (tag : Nat) (write owns : Bool) (ans : RegAns) : Resp :=
  let base : Resp := ⟨0, 0x22, 63, tag, 0, false, 0, 0, 1, 0, false, false, false, owns, false⟩
  match ans with
  | .value v => { base with w := BitVec.ofNat 64 (v.toNat + parityOf 4 v.toNat * 2 ^ 32) }
  | .done => base
  | .retry us => { base with opc := 0x24, addr := us }
  | .dark us page => { base with opc := 0x25, addr := us + page * 65536, w := if write then 0 else BitVec.ofNat 64 (0xF * 2 ^ 32) }
  | .error reason detail => { base with opc := 0x26, addr := reason + detail * 16 }

/-- A REGWR follows a FENCE of its port that has no answer yet (R103). -/
def fenceBefore (p : PortSt) (q : RegReq) : Bool :=
  q.write && (p.fences.any (fun f => f.1.id < q.before) || p.ingress0.any (fun r => r.op == .fence && decide (r.id < q.before)))

/-- A VC2 request that was admitted is carried out and answered (R103 to R105): its tag and parity are judged first. -/
def Dev.carryReg (s : Dev) (h : Nat) (q : RegReq) (o : Option WObs) (late : Bool) : Dev :=
  let reply (s : Dev) (ans : RegAns) : Dev :=
    s.modPort h (fun p => { p with resp2 := p.resp2 ++ [regResp q.tag q.write (q.tagErr == 0) ans] })
  if q.tagErr != 0 then reply s (.error 3 q.tagErr)
  else if q.write && !q.parOk then reply s (.error 3 6)
  else
    let (ans, s) := s.serveReg h q.addr (if q.write then some q.v else none) o late (some q.mgmt)
    if (s.port h).out2.contains q.tag then reply s ans else s

/-- A VC2 request is admitted (R98, R99, R106): its credit returns and its response slot is reserved. It is carried out at once, unless an
earlier one waits or a FENCE holds it back (R103). -/
def Dev.admitReg (s : Dev) (h : Nat) (q : RegReq) (o : Option WObs) (late : Bool) : Dev :=
  let p := s.port h
  let q := { q with mgmt := s.fb Reg.HOSTPORT_MGMT_MGMT_EN h }
  let s := (s.setPort h { p with cr2 := p.cr2 + 1, resv2 := p.resv2 + 1 }).sendCredits h 0 1
  let s := s.creditCheck h p.have2 (p.resv2 + 1)
  let s := if q.write && !q.parOk then (s.bump Reg.HOSTPORT_CNT_PARITY_VALUE h).raise (hostPage h) Reg.EV_HOSTPORT_PARITY_IN else s
  if !p.wait2.isEmpty || fenceBefore p q then s.modPort h (fun p => { p with wait2 := p.wait2 ++ [q] })
  else s.carryReg h q o late

/-- May a VC2 request be admitted: its response slot can be reserved, and the host's grants are no less than the minima (R97, R98)? -/
def mayAdmit2 (p : PortSt) : Bool := decide (p.resv2 < 32) && decide (5 ≤ p.grant1) && decide (1 ≤ p.grant2)

/-- What is wrong with a VC2 request's tag when it arrives (R94, R105). -/
def tagErr2 (p : PortSt) (tag : Nat) : Nat := if 32 ≤ tag then 2 else if p.out2.contains tag then 3 else 0

/-- A VC2 request arrives (R96, R103, R111): it is admitted at once unless it must wait in the ingress buffer. -/
def Dev.arriveReg (s : Dev) (h : Nat) (q : RegReq) (o : Option WObs) (late : Bool) (slot : Nat := 1) : Dev :=
  let p := s.port h
  let opc := if q.write then 0x11 else 0x10
  if !p.adapterUp then s
  else if !(s.fb Reg.HOSTPORT_LINK_STATUS_INIT_DONE h) then s.protocolError h slot opc
  else if p.cr2 < 1 then s.protocolError h slot opc
  else
    let e := tagErr2 p q.tag
    let q := { q with tagErr := e }
    let s := s.setPort h { p with cr2 := p.cr2 - 1, out2 := if e == 0 then p.out2 ++ [q.tag] else p.out2 }
    if !p.ingress2.isEmpty || !(mayAdmit2 p) then s.modPort h (fun p => { p with ingress2 := p.ingress2 ++ [q] })
    else s.admitReg h q o late

/-- A register request of a link that has gone down, whose FENCE has been answered, is carried out without a response; the last of them lets
the new link end its initialisation (R110). -/
def Dev.carryOld (s : Dev) (h : Nat) (q : RegReq) : Dev :=
  let s := s.modPort h (fun p => { p with oldWait2 := p.oldWait2.drop 1 })
  let s := if q.tagErr != 0 || (q.write && !q.parOk) then s else (s.serveReg h q.addr (if q.write then some q.v else none) none false (some q.mgmt)).2
  (s.sendInit h).endInit h

/-- REQUEST_ADMIT on VC2: the first admitted request that no FENCE holds back any more is carried out; else the oldest one in the ingress
buffer is admitted once it may be. -/
def Dev.admit2 (s : Dev) (h : Nat) : Dev :=
  let p := s.port h
  match p.oldWait2, p.wait2, p.ingress2 with
  | q :: _, _, _ => if p.oldFences.any (fun f => f.1.id < q.before) then s else s.carryOld h q
  | [], q :: rest, l =>
    if !(fenceBefore p q) then (s.setPort h { p with wait2 := rest }).carryReg h q none false
    else match l with
    | x :: l => if mayAdmit2 p then (s.setPort h { p with ingress2 := l }).admitReg h x none false else s
    | [] => s
  | [], [], x :: l => if mayAdmit2 p then (s.setPort h { p with ingress2 := l }).admitReg h x none false else s
  | [], [], [] => s

/-! ### Register requests from either side -/

/-- Does Nguane firmware run (R364): power, no reset, REFCLK, the management controller on and its image started (DEDUCED, log 56)? -/
def Dev.fwRuns (s : Dev) : Bool := s.pins.pwrgood && s.pins.resetN && s.pins.refclk && s.pins.mgmtOn && decide (6 ≤ s.kstep)

/-- A register request of a requester: a read, or a write of a value with the outcomes it meets. -/
def Dev.regReq (s : Dev) (w : Who) (a : Nat) (v : Option Word32) (o : Option WObs) (late : Bool) : Dev :=
  match w with
  | .firmware =>
    if s.fwRuns then
      let (ans, s) := s.serveReg 12 a v o late
      s.emit (.fw a ans)
    else s
  | .port h tag parityOk =>
    s.arriveReg h ⟨tag.toNat, a, v.isSome, v.getD 0, parityOk, s.nextId, 0, false⟩ o late

/-- A REGRD. -/
def Dev.regRead (s : Dev) (w : Who) (a : Nat) : Dev := s.regReq w a none none false

/-- A REGWR with the outcomes it meets. -/
def Dev.regWrite (s : Dev) (w : Who) (a : Nat) (v : Word32) (o : WObs := noObs) : Dev := s.regReq w a (some v) (some o) false

end Sys2Proof.Machine
end

