-- ==== Sys2Proof/Machine/Flits.lean ====
section
/-!
DEFINITION. Machine/Flits.lean: the messages of a received flit (R82 to R92): their fields are read out of the header slot, the mask slot
and the data slots, and each message arrives in slot order (R101).
-/
namespace Sys2Proof.Machine

/-- Slot `i` of a flit, 16 bytes, byte 0 in bits 7..0 (R82). -/
def flitSlot (flit i : Nat) : Nat := flit / 2 ^ (128 * i) % 2 ^ 128

/-- Bits `hi` to `lo` of a number. -/
def bitsIn (x hi lo : Nat) : Nat := x / 2 ^ lo % 2 ^ (hi + 1 - lo)

/-- The fields CLASS, TAG and ADDR of the header word `h`, with the port and the URG level of the flit (R85, R95). -/
def memReqOf (h : Fin 12) (urg hw : Nat) : MemReq :=
  { port := h, cls := BitVec.ofNat 6 (bitsIn hw 57 52), tag := BitVec.ofNat 12 (bitsIn hw 51 40), urg := BitVec.ofNat 2 urg,
    line := BitVec.ofNat 39 (bitsIn hw 39 1) }

/-- The line in the four data slots from slot `i` on (R86). -/
def lineIn (flit i : Nat) : Line := BitVec.ofNat 512 (flit / 2 ^ (128 * i))

/-- Slots from header slot `i` up to the next SMAP bit or the end of the flit (R87). -/
def runLen (smap i : Nat) : Nat := (((List.range (15 - i)).find? (fun k => bitN smap (i + k))).getD (15 - i)) + 1

/-- The message whose header stands in slot `i` arrives: its opcode decides how FLAG, W and the slots that follow are read (R88 to R92). -/
def Dev.message (s : Dev) (h : Fin 12) (flit i : Nat) : Dev :=
  let fh := flit / 2 ^ 16 % 2 ^ 80
  let hw := flitSlot flit i % 2 ^ 64
  let w := flitSlot flit i / 2 ^ 64
  let m := memReqOf h (fhBits fh 47 46) hw
  let opc := bitsIn hw 63 58
  let arg := flitSlot flit (i + 1)
  let reg (write : Bool) : RegReq :=
    { tag := bitsIn hw 51 40, addr := bitsIn w 61 36, write := write, v := BitVec.ofNat 32 w,
      parOk := parityOf 4 (w % 2 ^ 32) == bitsIn w 35 32, before := s.nextId }
  match opc with
  | 0x01 => s.arrive m .rd opc id i
  | 0x02 => s.arrive m .rdNa opc id i
  | 0x03 => s.arrive m .wr opc (writeReq (lineIn flit (i + 1)) (BitVec.ofNat 64 w)) i
  | 0x04 => s.arrive m .wrm opc (maskedReq (lineIn flit (i + 2)) (BitVec.ofNat 64 w) (BitVec.ofNat 64 arg) (BitVec.ofNat 8 (arg / 2 ^ 64))) i
  | 0x07 => s.arrive m (.flush (hw % 2 == 1)) opc id i
  | 0x08 => s.arrive m .fence opc id i
  | 0x10 => s.arriveReg h (reg false) none false i
  | 0x11 => s.arriveReg h (reg true) none false i
  | _ => s.arriveOther m opc (runLen (fhBits fh 14 0) i) w arg i

/-- The messages of a flit that breaks no rule, in slot order. -/
def Dev.messages (s : Dev) (h : Fin 12) (flit : Nat) : Dev :=
  (List.range 15).foldl (fun s k => if bitN (fhBits (flit / 2 ^ 16 % 2 ^ 80) 14 0) k then s.message h flit (k + 1) else s) s

/-- Does the flit bring its messages: the link is up, initialisation has ended, it is no INIT flit, and lengths agree with SMAP? -/
def Dev.flitOk (s : Dev) (h : Nat) (flit : Nat) : Bool :=
  let fh := flit / 2 ^ 16 % 2 ^ 80
  (s.port h).adapterUp && s.fb Reg.HOSTPORT_LINK_STATUS_INIT_DONE h && fhBits fh 45 45 == 0 &&
    (checkSlots flit (fhBits fh 14 0) (0, 0) 15 1 0).isNone

/-- CREDIT_RETURN: a flit reaches the Ozkor layer: its header first, then its messages. `replays` adapter replays are counted (R115). -/
def Dev.flitArrives (s : Dev) (h : Fin 12) (flit replays : Nat) : Dev :=
  let s := if (s.port h).adapterUp then s.bumpBy Reg.HOSTPORT_CNT_REPLAY_VALUE replays h else s
  let s := s.flitIn h flit
  if s.flitOk h flit then s.messages h flit else s

def execCreditReturn (h : Fin 12) (flit : FlitSeen) (s : State) : Host.Outcome State Fault Refusal := s.on fun s =>
  .next (s.flitArrives h flit.bits.toNat flit.replays)

end Sys2Proof.Machine
end

