-- ==== Sys2Proof/Machine/RegRows.lean ====
section
/-!
DEFINITION. Machine/RegRows.lean: the commands that are register requests. Each row of the table that names a register's bit is a write of
that register with the bit as the row names it; the other bits are the writer's.
-/
namespace Sys2Proof.Machine

/-! ### Plain requests and admission -/

/-- REGRD (R453). -/
def execRegrd (w : Who) (a : BitVec 26) (s : State) : Host.Outcome State Fault Refusal := s.on fun s =>
  .next (s.regRead w a.toNat)

/-- REGWR (R453): a write whose register needs an outcome takes a free one (log 31). -/
def execRegwr (w : Who) (a : BitVec 26) (v : BitVec 32) (s : State) : Host.Outcome State Fault Refusal := s.on fun s =>
  .next (s.regReq w a.toNat (some v) none false)

/-- REQUEST_ADMIT (R94, R96, R103): the oldest request waiting in a port's ingress buffer of VC0, or of VC2. -/
def execRequestAdmit (h : Fin 12) (vc2 : Bool) (s : State) : Host.Outcome State Fault Refusal := s.on fun s =>
  .next (if vc2 then s.admit2 h else s.admit0 h)

/-- REG_TIMEOUT (R129): the page gives no answer in time; `v` is the value of a write. -/
def execRegTimeout (w : Who) (a : BitVec 26) (v : Option (BitVec 32)) (s : State) : Host.Outcome State Fault Refusal := s.on fun s =>
  .next (s.regReq w a.toNat v none true)

/-- COUNTER_LO_READ (R152): a read of a LO half latches HI for its reader. -/
def execCounterLoRead (w : Who) (a : BitVec 26) (s : State) : Host.Outcome State Fault Refusal := s.on fun s =>
  .next (s.regRead w a.toNat)

/-- TIME_LO_READ (R375). -/
def execTimeLoRead (w : Who) (s : State) : Host.Outcome State Fault Refusal := s.on fun s =>
  .next (s.regRead w 0x006C)

/-- EST_READ (R402). -/
def execEstRead (w : Who) (s : State) : Host.Outcome State Fault Refusal := s.on fun s =>
  .next (s.regRead w 0xE044)

/-- FLASH_DATA_READ (R451, R453). -/
def execFlashDataRead (w : Who) (s : State) : Host.Outcome State Fault Refusal := s.on fun s =>
  .next (s.regRead w 0x5064)

/-! ### The header (R455, R456) -/

/-- FUNC_RESET (R344). -/
def execFuncReset (page : BitVec 14) (w : Who) (v : BitVec 32) (s : State) : Host.Outcome State Fault Refusal := s.on fun s =>
  .next (s.regWrite w (page.toNat * 4096 + 0x010) (withBits v 0 0 1))

/-- UNIT_REQ (R337). -/
def execUnitReq (page : BitVec 14) (w : Who) (v : BitVec 32) (r : ShortObs) (s : State) : Host.Outcome State Fault Refusal := s.on fun s =>
  .next (s.regWrite w (page.toNat * 4096 + 0x00C) v { noObs with short := r })

/-- EVT_SET (R456). -/
def execEvtSet (page : BitVec 14) (w : Who) (v : BitVec 32) (s : State) : Host.Outcome State Fault Refusal := s.on fun s =>
  .next (s.regWrite w (page.toNat * 4096 + 0x01C) v)

/-! ### DEVICE and COLLAR (R375, R378) -/

/-- KINDLE_CTL.DONE (R365). -/
def execKindleDone (w : Who) (v : BitVec 32) (s : State) : Host.Outcome State Fault Refusal := s.on fun s =>
  .next (s.regWrite w 0x004C (withBits v 0 0 1))

/-- IMG_DATA (R368). -/
def execImgData (w : Who) (v : BitVec 32) (s : State) : Host.Outcome State Fault Refusal := s.on fun s =>
  .next (s.regWrite w 0x005C v)

/-- BOOT_CTL.IMG_GO (R368). -/
def execImgGo (w : Who) (v : BitVec 32) (s : State) : Host.Outcome State Fault Refusal := s.on fun s =>
  .next (s.regWrite w 0x0060 (withBits v 0 0 1))

/-- RESET.WARM (R361, R363). -/
def execWarm (w : Who) (v : BitVec 32) (stuck : BitVec 48) (s : State) : Host.Outcome State Fault Refusal := s.on fun s =>
  .next (s.regWrite w 0x0048 (withBits v 0 0 1) { noObs with stuck := stuck })

/-- RESET.GROUND (R370). -/
def execGround (w : Who) (v : BitVec 32) (s : State) : Host.Outcome State Fault Refusal := s.on fun s =>
  .next (s.regWrite w 0x0048 (withBits v 1 0 2))

/-- WDOG_KICK. -/
def execWdogKick (w : Who) (v : BitVec 32) (s : State) : Host.Outcome State Fault Refusal := s.on fun s =>
  .next (s.regWrite w 0x0068 v)

/-- COLLAR.RETRAIN_CTL.GO. -/
def execRetrainCtlGo (w : Who) (v : BitVec 32) (pass : Bool) (s : State) : Host.Outcome State Fault Refusal := s.on fun s =>
  .next (s.regWrite w 0xF050 (withBits v 31 31 1) { noObs with pass := pass })

/-! ### HOSTPORTh (R116) -/

/-- LINK_CTL.RETRAIN (R110). -/
def execRetrain (h : Fin 12) (w : Who) (v : BitVec 32) (s : State) : Host.Outcome State Fault Refusal := s.on fun s =>
  .next (s.regWrite w ((0x010 + h.val) * 4096 + 0x044) (withBits v 8 8 1))

/-- LINK_CTL.DISABLE. -/
def execLinkDisable (h : Fin 12) (w : Who) (v : BitVec 32) (s : State) : Host.Outcome State Fault Refusal := s.on fun s =>
  .next (s.regWrite w ((0x010 + h.val) * 4096 + 0x044) (withBits v 9 9 1))

/-- LANE_REPAIR.APPLY (R80). -/
def execApply (h : Fin 12) (w : Who) (v : BitVec 32) (s : State) : Host.Outcome State Fault Refusal := s.on fun s =>
  .next (s.regWrite w ((0x010 + h.val) * 4096 + 0x05C) (withBits v 12 12 1))

/-! ### HAULAGE (R49, R76) -/

/-- MIG_CTL.GO (R70). -/
def execMigGo (w : Who) (v : BitVec 32) (s : State) : Host.Outcome State Fault Refusal := s.on fun s =>
  .next (s.regWrite w 0xA144 (withBits v 31 31 1))

/-- SPACE_CTL.TABLE_CLEAR (R39). -/
def execSpaceTableClear (w : Who) (v : BitVec 32) (s : State) : Host.Outcome State Fault Refusal := s.on fun s =>
  .next (s.regWrite w 0xA040 (withBits v 1 0 1))

/-- SPACE_CTL.WALK (R46). -/
def execSpaceWalk (w : Who) (v : BitVec 32) (s : State) : Host.Outcome State Fault Refusal := s.on fun s =>
  .next (s.regWrite w 0xA040 (withBits v 1 0 2))

/-- SUSPECT_CLEAR (R47). -/
def execSuspectClear (w : Who) (v : BitVec 32) (s : State) : Host.Outcome State Fault Refusal := s.on fun s =>
  .next (s.regWrite w 0xA070 v)

/-- LOOKUP_FRAME (R52). -/
def execLookupFrame (w : Who) (v : BitVec 32) (s : State) : Host.Outcome State Fault Refusal := s.on fun s =>
  .next (s.regWrite w 0xA07C v)

/-- A far window is enabled (R29). -/
def execFarWindowEnable (k : Fin 64) (w : Who) (v : BitVec 32) (s : State) : Host.Outcome State Fault Refusal := s.on fun s =>
  .next (s.regWrite w (0xA40C + 16 * k.val) (withBits v 0 0 1))

/-- A far window is disabled (R29). -/
def execFarWindowDisable (k : Fin 64) (w : Who) (v : BitVec 32) (s : State) : Host.Outcome State Fault Refusal := s.on fun s =>
  .next (s.regWrite w (0xA40C + 16 * k.val) (withBits v 0 0 0))

/-- A stack-only window is enabled (R29, R43). -/
def execSoWindowEnable (j : Fin 16) (w : Who) (v : BitVec 32) (s : State) : Host.Outcome State Fault Refusal := s.on fun s =>
  .next (s.regWrite w (0xA808 + 16 * j.val) (withBits v 0 0 1))

/-- A stack-only window is disabled (R29). -/
def execSoWindowDisable (j : Fin 16) (w : Who) (v : BitVec 32) (s : State) : Host.Outcome State Fault Refusal := s.on fun s =>
  .next (s.regWrite w (0xA808 + 16 * j.val) (withBits v 0 0 0))

/-! ### SHAFTn (R188, R210, R292) -/

/-- PARK_CTL.PARK (R180). -/
def execPark (n : Fin 48) (w : Who) (v : BitVec 32) (s : State) : Host.Outcome State Fault Refusal := s.on fun s =>
  .next (s.regWrite w ((0x200 + n.val) * 4096 + 0x054) (withBits v 1 0 1))

/-- PARK_CTL.WAKE (R180). -/
def execWake (n : Fin 48) (w : Who) (v : BitVec 32) (s : State) : Host.Outcome State Fault Refusal := s.on fun s =>
  .next (s.regWrite w ((0x200 + n.val) * 4096 + 0x054) (withBits v 1 0 2))

/-- FREQ_CTL.GO (R184). -/
def execFreqGo (n : Fin 48) (w : Who) (v : BitVec 32) (s : State) : Host.Outcome State Fault Refusal := s.on fun s =>
  .next (s.regWrite w ((0x200 + n.val) * 4096 + 0x058) (withBits v 0 0 1))

/-- TRAIN_CTL.START (R199). -/
def execTrainStart (n : Fin 48) (w : Who) (v : BitVec 32) (s : State) : Host.Outcome State Fault Refusal := s.on fun s =>
  .next (s.regWrite w ((0x200 + n.val) * 4096 + 0x200) (withBits v 1 0 1))

/-- TRAIN_CTL.ABORT (R206). -/
def execTrainAbort (n : Fin 48) (w : Who) (v : BitVec 32) (s : State) : Host.Outcome State Fault Refusal := s.on fun s =>
  .next (s.regWrite w ((0x200 + n.val) * 4096 + 0x200) (withBits v 1 0 2))

/-- HELPER_CTL.START (R197). -/
def execHelperStart (n : Fin 48) (w : Who) (v : BitVec 32) (s : State) : Host.Outcome State Fault Refusal := s.on fun s =>
  .next (s.regWrite w ((0x200 + n.val) * 4096 + 0x224) (withBits v 0 0 1))

/-- ROW_REPAIR (R282): the write of REPAIR_CTL KIND 0, or with no write the repair of a row the tracker holds WEAK. -/
def execRowRepair (n : Fin 48) (src : Option (Who × BitVec 32)) (o : RepairObs) (s : State) : Host.Outcome State Fault Refusal := s.on fun s =>
  match src with
  | some (w, v) => .next (s.regWrite w ((0x200 + n.val) * 4096 + 0x328) (withBits (withBits v 31 31 1) 24 24 0) { noObs with repair := o })
  | none => .next (s.autoRepair n o)

/-- COLUMN_REPAIR (R285): the write of REPAIR_CTL KIND 1. -/
def execColumnRepair (n : Fin 48) (w : Who) (v : BitVec 32) (o : RepairObs) (s : State) : Host.Outcome State Fault Refusal := s.on fun s =>
  .next (s.regWrite w ((0x200 + n.val) * 4096 + 0x328) (withBits (withBits v 31 31 1) 24 24 1) { noObs with repair := o })

/-! ### CALREF (R192 to R194, R212) -/

/-- START_IMP (R192): a write of CTL.START_IMP, or with no write the 100 ms period; `master` is the code found. -/
def execStartImp (src : Option (Who × BitVec 32)) (master : BitVec 5) (s : State) : Host.Outcome State Fault Refusal := s.on fun s =>
  match src with
  | some (w, v) => .next (s.regWrite w 0x7040 (withBits v 2 0 1) { noObs with imp := master.toNat })
  | none => if s.calMode then .next (s.impFound master.toNat) else .next s

/-- START_CONV (R193): a write of CTL.START_CONV, or with no write the period CONV_PERIOD_MS. -/
def execStartConv (src : Option (Who × BitVec 32)) (s : State) : Host.Outcome State Fault Refusal := s.on fun s =>
  match src with
  | some (w, v) => .next (s.regWrite w 0x7040 (withBits v 2 0 2))
  | none => if s.calMode then .next s.convStart else .next s

/-- START_WAKE (R194). -/
def execStartWake (w : Who) (v : BitVec 32) (s : State) : Host.Outcome State Fault Refusal := s.on fun s =>
  .next (s.regWrite w 0x7040 (withBits v 2 0 4))

/-! ### ENGINEn and DISPATCH (R241, R246, R255, R260, R261, R265) -/

/-- DEBUG_CTL.HALT. -/
def execHalt (n : Fin 48) (w : Who) (v : BitVec 32) (s : State) : Host.Outcome State Fault Refusal := s.on fun s =>
  .next (s.regWrite w ((0x100 + n.val) * 4096 + 0x05C) (withBits v 1 0 1))

/-- DEBUG_CTL.STEP. -/
def execStepDebug (n : Fin 48) (w : Who) (v : BitVec 32) (s : State) : Host.Outcome State Fault Refusal := s.on fun s =>
  .next (s.regWrite w ((0x100 + n.val) * 4096 + 0x05C) (withBits v 1 1 1))

/-- FCACHE_CTL.INVALIDATE (R238). -/
def execInvalidate (n : Fin 48) (w : Who) (v : BitVec 32) (s : State) : Host.Outcome State Fault Refusal := s.on fun s =>
  .next (s.regWrite w ((0x100 + n.val) * 4096 + 0x054) (withBits v 0 0 1))

/-- A write into a program store (R243, R261). -/
def execProgramStoreWrite (w : Who) (a : BitVec 26) (v : BitVec 32) (s : State) : Host.Outcome State Fault Refusal := s.on fun s =>
  .next (s.regWrite w a.toNat v)

/-- DOORBELLk (R245). -/
def execDoorbell (k : Fin 64) (w : Who) (v : BitVec 32) (s : State) : Host.Outcome State Fault Refusal := s.on fun s =>
  .next (s.regWrite w (0xB800 + 4 * k.val) v)

/-- JOB_CTL.ABORT (R255). -/
def execAbort (n : Fin 48) (w : Who) (v : BitVec 32) (s : State) : Host.Outcome State Fault Refusal := s.on fun s =>
  .next (s.regWrite w ((0x100 + n.val) * 4096 + 0x10C) (withBits v 0 0 1))

/-- RINGk_CTL.RESUME (R247). -/
def execResume (k : Fin 64) (w : Who) (v : BitVec 32) (s : State) : Host.Outcome State Fault Refusal := s.on fun s =>
  .next (s.regWrite w (0xB408 + 16 * k.val) (withBits v 3 3 1))

/-- SLOT_FLIP (R260). -/
def execSlotFlip (n : Fin 48) (w : Who) (v : BitVec 32) (s : State) : Host.Outcome State Fault Refusal := s.on fun s =>
  .next (s.regWrite w ((0x100 + n.val) * 4096 + 0x114) v)

/-! ### FARPORTf (R317) -/

/-- CTL.ROLE (R295). -/
def execRole (f : Fin 4) (w : Who) (v : BitVec 32) (s : State) : Host.Outcome State Fault Refusal := s.on fun s =>
  .next (s.regWrite w ((0x020 + f.val) * 4096 + 0x040) v)

/-- CTL.DISABLE. -/
def execFarPortDisable (f : Fin 4) (w : Who) (v : BitVec 32) (s : State) : Host.Outcome State Fault Refusal := s.on fun s =>
  .next (s.regWrite w ((0x020 + f.val) * 4096 + 0x040) (withBits v 16 16 1))

/-- SLIP_CTL.GO (R309); `good`: whether the lane locks after it. -/
def execSlipGo (f : Fin 4) (w : Who) (v : BitVec 32) (good : Bool) (s : State) : Host.Outcome State Fault Refusal := s.on fun s =>
  .next (s.regWrite w ((0x020 + f.val) * 4096 + 0x050) (withBits v 31 31 1) { noObs with pass := good })

/-- SCAN_CTL.GO (R311). -/
def execScanGo (f : Fin 4) (w : Who) (v : BitVec 32) (s : State) : Host.Outcome State Fault Refusal := s.on fun s =>
  .next (s.regWrite w ((0x020 + f.val) * 4096 + 0x054) (withBits v 31 31 1))

/-- LOOP_CTL.GO with MODE 1, the near-end serial loop (R313). -/
def execLoopNearEndSerial (f : Fin 4) (w : Who) (v : BitVec 32) (s : State) : Host.Outcome State Fault Refusal := s.on fun s =>
  .next (s.regWrite w ((0x020 + f.val) * 4096 + 0x05C) (withBits (withBits v 1 0 1) 31 31 1))

/-- LOOP_CTL.GO with MODE 2, the near-end parallel loop (R313). -/
def execLoopNearEndParallel (f : Fin 4) (w : Who) (v : BitVec 32) (s : State) : Host.Outcome State Fault Refusal := s.on fun s =>
  .next (s.regWrite w ((0x020 + f.val) * 4096 + 0x05C) (withBits (withBits v 1 0 2) 31 31 1))

/-- LOOP_CTL.GO with MODE 3, the far-end loop (R313). -/
def execLoopFarEnd (f : Fin 4) (w : Who) (v : BitVec 32) (s : State) : Host.Outcome State Fault Refusal := s.on fun s =>
  .next (s.regWrite w ((0x020 + f.val) * 4096 + 0x05C) (withBits (withBits v 1 0 3) 31 31 1))

/-- HDMk_CTL.COMMIT (R301). -/
def execCommit (f : Fin 4) (k : Fin 8) (w : Who) (v : BitVec 32) (s : State) : Host.Outcome State Fault Refusal := s.on fun s =>
  .next (s.regWrite w ((0x020 + f.val) * 4096 + 0x108 + 16 * k.val) (withBits v 0 0 1))

/-! ### PAIR (R319, R321, R327) -/

/-- TAKEOVER.GO. -/
def execTakeover (w : Who) (v : BitVec 32) (s : State) : Host.Outcome State Fault Refusal := s.on fun s =>
  .next (s.regWrite w 0xC04C (withBits v 31 31 1))

/-- MWj_CTL.EN. -/
def execMwEnable (j : Fin 16) (w : Who) (v : BitVec 32) (s : State) : Host.Outcome State Fault Refusal := s.on fun s =>
  .next (s.regWrite w (0xC408 + 16 * j.val) (withBits v 0 0 1))

/-- A write of CTL.ROLE, or of EPOCH. -/
def execPairRoleWrite (w : Who) (epochReg : Bool) (v : BitVec 32) (s : State) : Host.Outcome State Fault Refusal := s.on fun s =>
  .next (s.regWrite w (if epochReg then 0xC044 else 0xC040) v)

/-! ### SELFTEST and LEASES (R346, R353) -/

/-- RUN.GO with KIND 1: collar bonds. -/
def execSelftestCollar (w : Who) (v : BitVec 32) (s : State) : Host.Outcome State Fault Refusal := s.on fun s =>
  .next (s.regWrite w 0x8044 (withBits (withBits v 2 0 1) 31 31 1))

/-- RUN.GO with KIND 2: column signals. -/
def execSelftestColumn (w : Who) (v : BitVec 32) (s : State) : Host.Outcome State Fault Refusal := s.on fun s =>
  .next (s.regWrite w 0x8044 (withBits (withBits v 2 0 2) 31 31 1))

/-- RUN.GO with KIND 3: array. -/
def execSelftestArray (w : Who) (v : BitVec 32) (s : State) : Host.Outcome State Fault Refusal := s.on fun s =>
  .next (s.regWrite w 0x8044 (withBits (withBits v 2 0 3) 31 31 1))

/-- RUN.GO with KIND 4: engines. -/
def execSelftestEngine (w : Who) (v : BitVec 32) (s : State) : Host.Outcome State Fault Refusal := s.on fun s =>
  .next (s.regWrite w 0x8044 (withBits (withBits v 2 0 4) 31 31 1))

/-- RUN.GO with KIND 5: host bumps. -/
def execSelftestHostbump (w : Who) (v : BitVec 32) (s : State) : Host.Outcome State Fault Refusal := s.on fun s =>
  .next (s.regWrite w 0x8044 (withBits (withBits v 2 0 5) 31 31 1))

/-- RUN.GO with KIND 6: far pads. -/
def execSelftestFarpad (w : Who) (v : BitVec 32) (s : State) : Host.Outcome State Fault Refusal := s.on fun s =>
  .next (s.regWrite w 0x8044 (withBits (withBits v 2 0 6) 31 31 1))

/-- RUN.GO with KIND 7: whole device. -/
def execSelftestFull (w : Who) (v : BitVec 32) (s : State) : Host.Outcome State Fault Refusal := s.on fun s =>
  .next (s.regWrite w 0x8044 (withBits (withBits v 2 0 7) 31 31 1))

/-- REQ.GO. -/
def execLeaseRequest (w : Who) (v : BitVec 32) (s : State) : Host.Outcome State Fault Refusal := s.on fun s =>
  .next (s.regWrite w 0x3040 (withBits v 31 30 2))

/-- REQ.RELEASE. -/
def execLeaseRelease (w : Who) (v : BitVec 32) (s : State) : Host.Outcome State Fault Refusal := s.on fun s =>
  .next (s.regWrite w 0x3040 (withBits v 31 30 1))

/-! ### MODES, HEAT, FUSES, TALLY (R380, R393, R404, R413, R422, R430 to R433, R446, R448) -/

/-- REQ.GO with TARGET 2. -/
def execModeReqRun (w : Who) (v : BitVec 32) (s : State) : Host.Outcome State Fault Refusal := s.on fun s =>
  .next (s.regWrite w 0x1044 (withBits (withBits v 2 0 2) 31 31 1))

/-- REQ.GO with TARGET 3. -/
def execModeReqDim (w : Who) (v : BitVec 32) (s : State) : Host.Outcome State Fault Refusal := s.on fun s =>
  .next (s.regWrite w 0x1044 (withBits (withBits v 2 0 3) 31 31 1))

/-- REQ.GO with TARGET 4. -/
def execModeReqShuttered (w : Who) (v : BitVec 32) (s : State) : Host.Outcome State Fault Refusal := s.on fun s =>
  .next (s.regWrite w 0x1044 (withBits (withBits v 2 0 4) 31 31 1))

/-- REQ.GO with TARGET 5. -/
def execModeReqLamproom (w : Who) (v : BitVec 32) (s : State) : Host.Outcome State Fault Refusal := s.on fun s =>
  .next (s.regWrite w 0x1044 (withBits (withBits v 2 0 5) 31 31 1))

/-- PAD_RELEASE.GO. -/
def execPadRelease (w : Who) (v : BitVec 32) (s : State) : Host.Outcome State Fault Refusal := s.on fun s =>
  .next (s.regWrite w 0x104C (withBits v 0 0 1))

/-- TRIP_ACK.ACK. -/
def execTripAck (w : Who) (v : BitVec 32) (s : State) : Host.Outcome State Fault Refusal := s.on fun s =>
  .next (s.regWrite w 0x6064 (withBits v 0 0 1))

/-- READ_REQ.GO; `raw` is the count read. -/
def execOnDemandReading (w : Who) (v : BitVec 32) (raw : Int) (s : State) : Host.Outcome State Fault Refusal := s.on fun s =>
  .next (s.regWrite w 0x605C (withBits v 31 31 1) { noObs with raw := raw })

/-- RESENSE.GO. -/
def execResense (w : Who) (v : BitVec 32) (s : State) : Host.Outcome State Fault Refusal := s.on fun s =>
  .next (s.regWrite w 0x4078 (withBits v 0 0 1))

/-- BURN_CTL.GO. -/
def execBurn (w : Who) (v : BitVec 32) (s : State) : Host.Outcome State Fault Refusal := s.on fun s =>
  .next (s.regWrite w 0x4068 (withBits v 31 31 1))

/-- LOCK_CTL.GO. -/
def execLock (w : Who) (v : BitVec 32) (s : State) : Host.Outcome State Fault Refusal := s.on fun s =>
  .next (s.regWrite w 0x4070 (withBits v 31 31 1))

/-- SHADOW_DATA. -/
def execShadowDataWrite (w : Who) (v : BitVec 32) (s : State) : Host.Outcome State Fault Refusal := s.on fun s =>
  .next (s.regWrite w 0x405C v)

/-- FLUSH_CTL.NOW. -/
def execNow (w : Who) (v : BitVec 32) (s : State) : Host.Outcome State Fault Refusal := s.on fun s =>
  .next (s.regWrite w 0x504C (withBits v 0 0 1))

/-- SNAP_CTL.GO, trigger 1. -/
def execSnapshot (w : Who) (v : BitVec 32) (s : State) : Host.Outcome State Fault Refusal := s.on fun s =>
  .next (s.regWrite w 0x5050 (withBits v 0 0 1))

/-- SNAP_STATUS.FROZEN is cleared. -/
def execFrozenClear (w : Who) (v : BitVec 32) (s : State) : Host.Outcome State Fault Refusal := s.on fun s =>
  .next (s.regWrite w 0x5054 (withBits v 0 0 1))

end Sys2Proof.Machine
end

