-- ==== Sys2Proof/Machine/Dispatch.lean ====
section
/-!
DEFINITION. Machine/Dispatch.lean: which meaning each command has. One arm per constructor of Instr, in the table's order.
-/
namespace Sys2Proof.Machine

def exec (i : Instr) (s : State) : Host.Outcome State Fault Refusal :=
  match i with
  | .pwrgoodRise refclk => Sys2Proof.Machine.execPwrgoodRise refclk s
  | .pwrgoodFall => Sys2Proof.Machine.execPwrgoodFall s
  | .resetNFall stuck => Sys2Proof.Machine.execResetNFall stuck s
  | .resetNRise refclk => Sys2Proof.Machine.execResetNRise refclk s
  | .refclkLost => Sys2Proof.Machine.execRefclkLost s
  | .kindleStepEnd o => Sys2Proof.Machine.execKindleStepEnd o s
  | .kindleDone w v => Sys2Proof.Machine.execKindleDone w v s
  | .kindleTimerExpiry => Sys2Proof.Machine.execKindleTimerExpiry s
  | .imgData w v => Sys2Proof.Machine.execImgData w v s
  | .imgGo w v => Sys2Proof.Machine.execImgGo w v s
  | .warm w v stuck => Sys2Proof.Machine.execWarm w v stuck s
  | .ground w v => Sys2Proof.Machine.execGround w v s
  | .groundDieResetStepEnd fails => Sys2Proof.Machine.execGroundDieResetStepEnd fails s
  | .wdogKick w v => Sys2Proof.Machine.execWdogKick w v s
  | .watchdogExpiry stuck => Sys2Proof.Machine.execWatchdogExpiry stuck s
  | .retrainCtlGo w v pass => Sys2Proof.Machine.execRetrainCtlGo w v pass s
  | .adapterLinkUp h => Sys2Proof.Machine.execAdapterLinkUp h s
  | .initFlit h fh => Sys2Proof.Machine.execInitFlit h fh s
  | .creditInitTimeout h => Sys2Proof.Machine.execCreditInitTimeout h s
  | .creditReturn h flit => Sys2Proof.Machine.execCreditReturn h flit s
  | .rd64 m => Sys2Proof.Machine.execRd64 m s
  | .rd64Na m => Sys2Proof.Machine.execRd64Na m s
  | .wr64 m data par => Sys2Proof.Machine.execWr64 m data par s
  | .wrm64 m data par mask mpar => Sys2Proof.Machine.execWrm64 m data par mask mpar s
  | .atomFetchAdd m q => Sys2Proof.Machine.execAtomFetchAdd m q s
  | .atomSwap m q => Sys2Proof.Machine.execAtomSwap m q s
  | .atomCompareSwap m q => Sys2Proof.Machine.execAtomCompareSwap m q s
  | .atomSignedMinimum m q => Sys2Proof.Machine.execAtomSignedMinimum m q s
  | .atomSignedMaximum m q => Sys2Proof.Machine.execAtomSignedMaximum m q s
  | .atomUnsignedMinimum m q => Sys2Proof.Machine.execAtomUnsignedMinimum m q s
  | .atomUnsignedMaximum m q => Sys2Proof.Machine.execAtomUnsignedMaximum m q s
  | .hintPrefetch m countM1 => Sys2Proof.Machine.execHintPrefetch m countM1 s
  | .hintPin m countM1 => Sys2Proof.Machine.execHintPin m countM1 s
  | .hintUnpin m countM1 => Sys2Proof.Machine.execHintUnpin m countM1 s
  | .hintDemote m countM1 => Sys2Proof.Machine.execHintDemote m countM1 s
  | .hintRelease m countM1 => Sys2Proof.Machine.execHintRelease m countM1 s
  | .hintMigrate m countM1 target => Sys2Proof.Machine.execHintMigrate m countM1 target s
  | .flushSector m => Sys2Proof.Machine.execFlushSector m s
  | .flushFrame m => Sys2Proof.Machine.execFlushFrame m s
  | .fence m => Sys2Proof.Machine.execFence m s
  | .unknownOpc m opc slots rest => Sys2Proof.Machine.execUnknownOpc m opc slots rest s
  | .regrd w a => Sys2Proof.Machine.execRegrd w a s
  | .regwr w a v => Sys2Proof.Machine.execRegwr w a v s
  | .requestAdmit h vc2 => Sys2Proof.Machine.execRequestAdmit h vc2 s
  | .responseSend h vc2 ns => Sys2Proof.Machine.execResponseSend h vc2 ns s
  | .eventSend h => Sys2Proof.Machine.execEventSend h s
  | .eventNotice page => Sys2Proof.Machine.execEventNotice page s
  | .creditTimeout h => Sys2Proof.Machine.execCreditTimeout h s
  | .linkDown h => Sys2Proof.Machine.execLinkDown h s
  | .retrain h w v => Sys2Proof.Machine.execRetrain h w v s
  | .linkDisable h w v => Sys2Proof.Machine.execLinkDisable h w v s
  | .apply h w v => Sys2Proof.Machine.execApply h w v s
  | .hostPortTrainingEnd h o => Sys2Proof.Machine.execHostPortTrainingEnd h o s
  | .funcReset page w v => Sys2Proof.Machine.execFuncReset page w v s
  | .funcResetEnd page o r => Sys2Proof.Machine.execFuncResetEnd page o r s
  | .unitReq page w v r => Sys2Proof.Machine.execUnitReq page w v r s
  | .stateNotice lost => Sys2Proof.Machine.execStateNotice lost s
  | .viewComparison => Sys2Proof.Machine.execViewComparison s
  | .evtSet page w v => Sys2Proof.Machine.execEvtSet page w v s
  | .counterLoRead w a => Sys2Proof.Machine.execCounterLoRead w a s
  | .timeLoRead w => Sys2Proof.Machine.execTimeLoRead w s
  | .estRead w => Sys2Proof.Machine.execEstRead w s
  | .flashDataRead w => Sys2Proof.Machine.execFlashDataRead w s
  | .regTimeout w a v => Sys2Proof.Machine.execRegTimeout w a v s
  | .stallDetect src dst mgt => Sys2Proof.Machine.execStallDetect src dst mgt s
  | .cellDelivery dst net oneBit => Sys2Proof.Machine.execCellDelivery dst net oneBit s
  | .spineFault => Sys2Proof.Machine.execSpineFault s
  | .frameTableLookup bank => Sys2Proof.Machine.execFrameTableLookup bank s
  | .holdTimeout idx => Sys2Proof.Machine.execHoldTimeout idx s
  | .heldRequestServe => Sys2Proof.Machine.execHeldRequestServe s
  | .fillLineArrival f => Sys2Proof.Machine.execFillLineArrival f s
  | .fillCommit idx ns => Sys2Proof.Machine.execFillCommit idx ns s
  | .fillAbandon idx => Sys2Proof.Machine.execFillAbandon idx s
  | .writebackCapture idx => Sys2Proof.Machine.execWritebackCapture idx s
  | .writebackCommit idx ns => Sys2Proof.Machine.execWritebackCommit idx ns s
  | .writebackCplError idx => Sys2Proof.Machine.execWritebackCplError idx s
  | .blockMarkExpiry f => Sys2Proof.Machine.execBlockMarkExpiry f s
  | .evictionStep frame => Sys2Proof.Machine.execEvictionStep frame s
  | .shootdownAck frame => Sys2Proof.Machine.execShootdownAck frame s
  | .shootdownTimeout frame n => Sys2Proof.Machine.execShootdownTimeout frame n s
  | .writeRevoke n => Sys2Proof.Machine.execWriteRevoke n s
  | .shootdown n => Sys2Proof.Machine.execShootdown n s
  | .agePeriod => Sys2Proof.Machine.execAgePeriod s
  | .usedFrameReport n => Sys2Proof.Machine.execUsedFrameReport n s
  | .preclean set => Sys2Proof.Machine.execPreclean set s
  | .globalEviction => Sys2Proof.Machine.execGlobalEviction s
  | .reservedSlotMove idx => Sys2Proof.Machine.execReservedSlotMove idx s
  | .moveStart => Sys2Proof.Machine.execMoveStart s
  | .moveCopyEnd ch => Sys2Proof.Machine.execMoveCopyEnd ch s
  | .moveCommit ch => Sys2Proof.Machine.execMoveCommit ch s
  | .moveAbandon ch => Sys2Proof.Machine.execMoveAbandon ch s
  | .migGo w v => Sys2Proof.Machine.execMigGo w v s
  | .spaceTableClear w v => Sys2Proof.Machine.execSpaceTableClear w v s
  | .spaceWalk w v => Sys2Proof.Machine.execSpaceWalk w v s
  | .tableWalk set bad => Sys2Proof.Machine.execTableWalk set bad s
  | .walkEnd => Sys2Proof.Machine.execWalkEnd s
  | .suspectClear w v => Sys2Proof.Machine.execSuspectClear w v s
  | .lookupFrame w v => Sys2Proof.Machine.execLookupFrame w v s
  | .farWindowEnable k w v => Sys2Proof.Machine.execFarWindowEnable k w v s
  | .farWindowDisable k w v => Sys2Proof.Machine.execFarWindowDisable k w v s
  | .soWindowEnable j w v => Sys2Proof.Machine.execSoWindowEnable j w v s
  | .soWindowDisable j w v => Sys2Proof.Machine.execSoWindowDisable j w v s
  | .drainEnd win => Sys2Proof.Machine.execDrainEnd win s
  | .commandIssue n => Sys2Proof.Machine.execCommandIssue n s
  | .readDataReturn n o => Sys2Proof.Machine.execReadDataReturn n o s
  | .correctionSourceTimeout n => Sys2Proof.Machine.execCorrectionSourceTimeout n s
  | .farFixArrival n l x => Sys2Proof.Machine.execFarFixArrival n l x s
  | .rowIdleExpiry n bank => Sys2Proof.Machine.execRowIdleExpiry n bank s
  | .refreshSlot n => Sys2Proof.Machine.execRefreshSlot n s
  | .tempDelivery n => Sys2Proof.Machine.execTempDelivery n s
  | .refreshRateLower n => Sys2Proof.Machine.execRefreshRateLower n s
  | .tempStale n => Sys2Proof.Machine.execTempStale n s
  | .alertN n o => Sys2Proof.Machine.execAlertN n o s
  | .park n w v => Sys2Proof.Machine.execPark n w v s
  | .wake n w v => Sys2Proof.Machine.execWake n w v s
  | .autoParkExpiry n => Sys2Proof.Machine.execAutoParkExpiry n s
  | .parkedAccessWake n => Sys2Proof.Machine.execParkedAccessWake n s
  | .freqGo n w v => Sys2Proof.Machine.execFreqGo n w v s
  | .ceilingChange n => Sys2Proof.Machine.execCeilingChange n s
  | .freqChangeStepEnd n ok ns o => Sys2Proof.Machine.execFreqChangeStepEnd n ok ns o s
  | .trainStart n w v => Sys2Proof.Machine.execTrainStart n w v s
  | .trainAbort n w v => Sys2Proof.Machine.execTrainAbort n w v s
  | .trainStepEnd n o => Sys2Proof.Machine.execTrainStepEnd n o s
  | .retrainRound n => Sys2Proof.Machine.execRetrainRound n s
  | .touch n o => Sys2Proof.Machine.execTouch n o s
  | .gapWaitExpiry n => Sys2Proof.Machine.execGapWaitExpiry n s
  | .helperStart n w v => Sys2Proof.Machine.execHelperStart n w v s
  | .startImp src master => Sys2Proof.Machine.execStartImp src master s
  | .startConv src => Sys2Proof.Machine.execStartConv src s
  | .startWake w v => Sys2Proof.Machine.execStartWake w v s
  | .calibrationLeaseRetry => Sys2Proof.Machine.execCalibrationLeaseRetry s
  | .stepIssue n parity => Sys2Proof.Machine.execStepIssue n parity s
  | .eAdd n f => Sys2Proof.Machine.execEAdd n f s
  | .eSub n f => Sys2Proof.Machine.execESub n f s
  | .eMul n f => Sys2Proof.Machine.execEMul n f s
  | .eMulh n f => Sys2Proof.Machine.execEMulh n f s
  | .eFma n f => Sys2Proof.Machine.execEFma n f s
  | .eFms n f => Sys2Proof.Machine.execEFms n f s
  | .eFnma n f => Sys2Proof.Machine.execEFnma n f s
  | .eRcp n f => Sys2Proof.Machine.execERcp n f s
  | .eMin n f => Sys2Proof.Machine.execEMin n f s
  | .eMax n f => Sys2Proof.Machine.execEMax n f s
  | .eAbs n f => Sys2Proof.Machine.execEAbs n f s
  | .eNeg n f => Sys2Proof.Machine.execENeg n f s
  | .eAdds n f => Sys2Proof.Machine.execEAdds n f s
  | .eSubs n f => Sys2Proof.Machine.execESubs n f s
  | .eDot4 n f => Sys2Proof.Machine.execEDot4 n f s
  | .eDot2 n f => Sys2Proof.Machine.execEDot2 n f s
  | .eAnd n f => Sys2Proof.Machine.execEAnd n f s
  | .eOr n f => Sys2Proof.Machine.execEOr n f s
  | .eXor n f => Sys2Proof.Machine.execEXor n f s
  | .eAndn n f => Sys2Proof.Machine.execEAndn n f s
  | .eNot n f => Sys2Proof.Machine.execENot n f s
  | .eShl n f => Sys2Proof.Machine.execEShl n f s
  | .eShr n f => Sys2Proof.Machine.execEShr n f s
  | .eSar n f => Sys2Proof.Machine.execESar n f s
  | .eRotl n f => Sys2Proof.Machine.execERotl n f s
  | .ePopc n f => Sys2Proof.Machine.execEPopc n f s
  | .eClz n f => Sys2Proof.Machine.execEClz n f s
  | .eRsq n f => Sys2Proof.Machine.execERsq n f s
  | .eMov n f => Sys2Proof.Machine.execEMov n f s
  | .eSaluAdd n f => Sys2Proof.Machine.execESaluAdd n f s
  | .eSaluSub n f => Sys2Proof.Machine.execESaluSub n f s
  | .eSaluMul n f => Sys2Proof.Machine.execESaluMul n f s
  | .eSaluAnd n f => Sys2Proof.Machine.execESaluAnd n f s
  | .eSaluOr n f => Sys2Proof.Machine.execESaluOr n f s
  | .eSaluXor n f => Sys2Proof.Machine.execESaluXor n f s
  | .eSaluShl n f => Sys2Proof.Machine.execESaluShl n f s
  | .eSaluShr n f => Sys2Proof.Machine.execESaluShr n f s
  | .eSaluSignedMin n f => Sys2Proof.Machine.execESaluSignedMin n f s
  | .eSaluSignedMax n f => Sys2Proof.Machine.execESaluSignedMax n f s
  | .eSli n f => Sys2Proof.Machine.execESli n f s
  | .eBcast n f => Sys2Proof.Machine.execEBcast n f s
  | .eCmpeq n f => Sys2Proof.Machine.execECmpeq n f s
  | .eCmpne n f => Sys2Proof.Machine.execECmpne n f s
  | .eCmplt n f => Sys2Proof.Machine.execECmplt n f s
  | .eCmple n f => Sys2Proof.Machine.execECmple n f s
  | .eCmpgt n f => Sys2Proof.Machine.execECmpgt n f s
  | .eCmpge n f => Sys2Proof.Machine.execECmpge n f s
  | .eCmpnan n f => Sys2Proof.Machine.execECmpnan n f s
  | .eSel n f => Sys2Proof.Machine.execESel n f s
  | .eMand n f => Sys2Proof.Machine.execEMand n f s
  | .eMor n f => Sys2Proof.Machine.execEMor n f s
  | .eMxor n f => Sys2Proof.Machine.execEMxor n f s
  | .eMnot n f => Sys2Proof.Machine.execEMnot n f s
  | .eMsum n f => Sys2Proof.Machine.execEMsum n f s
  | .eMfirst n f => Sys2Proof.Machine.execEMfirst n f s
  | .eMld n f => Sys2Proof.Machine.execEMld n f s
  | .eMst n f => Sys2Proof.Machine.execEMst n f s
  | .eRsum n f => Sys2Proof.Machine.execERsum n f s
  | .eRmin n f => Sys2Proof.Machine.execERmin n f s
  | .eRmax n f => Sys2Proof.Machine.execERmax n f s
  | .eRor n f => Sys2Proof.Machine.execERor n f s
  | .ePerm n f => Sys2Proof.Machine.execEPerm n f s
  | .eShuf n f => Sys2Proof.Machine.execEShuf n f s
  | .eCompress n f => Sys2Proof.Machine.execECompress n f s
  | .eExpand n f => Sys2Proof.Machine.execEExpand n f s
  | .eExtr n f => Sys2Proof.Machine.execEExtr n f s
  | .eInsr n f => Sys2Proof.Machine.execEInsr n f s
  | .eHash n f => Sys2Proof.Machine.execEHash n f s
  | .eCrc n f => Sys2Proof.Machine.execECrc n f s
  | .eCvt n f => Sys2Proof.Machine.execECvt n f s
  | .ePack n f => Sys2Proof.Machine.execEPack n f s
  | .eUnpk n f => Sys2Proof.Machine.execEUnpk n f s
  | .ePrefix n f => Sys2Proof.Machine.execEPrefix n f s
  | .eSopen n f => Sys2Proof.Machine.execESopen n f s
  | .eSrd n f => Sys2Proof.Machine.execESrd n f s
  | .eSwr n f => Sys2Proof.Machine.execESwr n f s
  | .eSclose n f => Sys2Proof.Machine.execESclose n f s
  | .eScrld n f => Sys2Proof.Machine.execEScrld n f s
  | .eScrst n f => Sys2Proof.Machine.execEScrst n f s
  | .eScrgath n f => Sys2Proof.Machine.execEScrgath n f s
  | .eScrscat n f => Sys2Proof.Machine.execEScrscat n f s
  | .eScradd n f => Sys2Proof.Machine.execEScradd n f s
  | .eSskip n f => Sys2Proof.Machine.execESskip n f s
  | .eSpos n f => Sys2Proof.Machine.execESpos n f s
  | .eLdg n f => Sys2Proof.Machine.execELdg n f s
  | .eStg n f => Sys2Proof.Machine.execEStg n f s
  | .eScrz n f => Sys2Proof.Machine.execEScrz n f s
  | .eAadd n f => Sys2Proof.Machine.execEAadd n f s
  | .eAswap n f => Sys2Proof.Machine.execEAswap n f s
  | .eAcas n f => Sys2Proof.Machine.execEAcas n f s
  | .eAmins n f => Sys2Proof.Machine.execEAmins n f s
  | .eAmaxs n f => Sys2Proof.Machine.execEAmaxs n f s
  | .eAminu n f => Sys2Proof.Machine.execEAminu n f s
  | .eAmaxu n f => Sys2Proof.Machine.execEAmaxu n f s
  | .eAvadd n f => Sys2Proof.Machine.execEAvadd n f s
  | .eFence n f => Sys2Proof.Machine.execEFence n f s
  | .eFencew n f => Sys2Proof.Machine.execEFencew n f s
  | .eHintPrefetch n f => Sys2Proof.Machine.execEHintPrefetch n f s
  | .eHintPin n f => Sys2Proof.Machine.execEHintPin n f s
  | .eHintUnpin n f => Sys2Proof.Machine.execEHintUnpin n f s
  | .eHintDemote n f => Sys2Proof.Machine.execEHintDemote n f s
  | .eHintRelease n f => Sys2Proof.Machine.execEHintRelease n f s
  | .eHintMigrate n f => Sys2Proof.Machine.execEHintMigrate n f s
  | .eFlushSector n f => Sys2Proof.Machine.execEFlushSector n f s
  | .eFlushFrame n f => Sys2Proof.Machine.execEFlushFrame n f s
  | .eNop n f => Sys2Proof.Machine.execENop n f s
  | .eLoop n f => Sys2Proof.Machine.execELoop n f s
  | .eBrk n f => Sys2Proof.Machine.execEBrk n f s
  | .eBr n f => Sys2Proof.Machine.execEBr n f s
  | .eWait n f => Sys2Proof.Machine.execEWait n f s
  | .eEnd n f => Sys2Proof.Machine.execEEnd n f s
  | .eParam n f => Sys2Proof.Machine.execEParam n f s
  | .eTrap n f => Sys2Proof.Machine.execETrap n f s
  | .eIllegalOp n op f => Sys2Proof.Machine.execEIllegalOp n op f s
  | .streamLineArrival n => Sys2Proof.Machine.execStreamLineArrival n s
  | .engineRetryExpiry n => Sys2Proof.Machine.execEngineRetryExpiry n s
  | .engineFreqChange n => Sys2Proof.Machine.execEngineFreqChange n s
  | .halt n w v => Sys2Proof.Machine.execHalt n w v s
  | .stepDebug n w v => Sys2Proof.Machine.execStepDebug n w v s
  | .invalidate n w v => Sys2Proof.Machine.execInvalidate n w v s
  | .programStoreWrite w a v => Sys2Proof.Machine.execProgramStoreWrite w a v s
  | .doorbell k w v => Sys2Proof.Machine.execDoorbell k w v s
  | .descriptorFetchReturn k => Sys2Proof.Machine.execDescriptorFetchReturn k s
  | .jobPlacement => Sys2Proof.Machine.execJobPlacement s
  | .jobStart n => Sys2Proof.Machine.execJobStart n s
  | .jobTimeout n => Sys2Proof.Machine.execJobTimeout n s
  | .jobEndTimeoutReset n => Sys2Proof.Machine.execJobEndTimeoutReset n s
  | .abort n w v => Sys2Proof.Machine.execAbort n w v s
  | .completionRecordWrite n => Sys2Proof.Machine.execCompletionRecordWrite n s
  | .completionWriteAnswer n => Sys2Proof.Machine.execCompletionWriteAnswer n s
  | .resume k w v => Sys2Proof.Machine.execResume k w v s
  | .slotFlip n w v => Sys2Proof.Machine.execSlotFlip n w v s
  | .scrubVisit die q => Sys2Proof.Machine.execScrubVisit die q s
  | .trackerEntryExpiry n idx => Sys2Proof.Machine.execTrackerEntryExpiry n idx s
  | .rowRepair n src o => Sys2Proof.Machine.execRowRepair n src o s
  | .columnRepair n w v o => Sys2Proof.Machine.execColumnRepair n w v o s
  | .role f w v => Sys2Proof.Machine.execRole f w v s
  | .farPortDisable f w v => Sys2Proof.Machine.execFarPortDisable f w v s
  | .pairStageEnd f o => Sys2Proof.Machine.execPairStageEnd f o s
  | .cap f row seen => Sys2Proof.Machine.execCap f row seen s
  | .idle f row seen => Sys2Proof.Machine.execIdle f row seen s
  | .msg f row rows seen => Sys2Proof.Machine.execMsg f row rows seen s
  | .nak f row seen => Sys2Proof.Machine.execNak f row seen s
  | .uncorrectableCodeword f => Sys2Proof.Machine.execUncorrectableCodeword f s
  | .replayAckTimeout f => Sys2Proof.Machine.execReplayAckTimeout f s
  | .blockLockLoss f lane => Sys2Proof.Machine.execBlockLockLoss f lane s
  | .lossOfSignal f lane => Sys2Proof.Machine.execLossOfSignal f lane s
  | .lossOfLock f lane => Sys2Proof.Machine.execLossOfLock f lane s
  | .adaptation f lane ctle dfe => Sys2Proof.Machine.execAdaptation f lane ctle dfe s
  | .slipGo f w v good => Sys2Proof.Machine.execSlipGo f w v good s
  | .scanGo f w v => Sys2Proof.Machine.execScanGo f w v s
  | .scanPointEnd f errors retrain => Sys2Proof.Machine.execScanPointEnd f errors retrain s
  | .loopNearEndSerial f w v => Sys2Proof.Machine.execLoopNearEndSerial f w v s
  | .loopNearEndParallel f w v => Sys2Proof.Machine.execLoopNearEndParallel f w v s
  | .loopFarEnd f w v => Sys2Proof.Machine.execLoopFarEnd f w v s
  | .loopEnd f failLanes errors => Sys2Proof.Machine.execLoopEnd f failLanes errors s
  | .cxlLinkTrained f o => Sys2Proof.Machine.execCxlLinkTrained f o s
  | .enumerationEnd f o => Sys2Proof.Machine.execEnumerationEnd f o s
  | .enumerationTimeout f => Sys2Proof.Machine.execEnumerationTimeout f s
  | .commit f k w v => Sys2Proof.Machine.execCommit f k w v s
  | .cxlCompletion f tag o => Sys2Proof.Machine.execCxlCompletion f tag o s
  | .farTimeout f tag => Sys2Proof.Machine.execFarTimeout f tag s
  | .mwrite f => Sys2Proof.Machine.execMwrite f s
  | .mrelease f => Sys2Proof.Machine.execMrelease f s
  | .mack f => Sys2Proof.Machine.execMack f s
  | .mrefuse f => Sys2Proof.Machine.execMrefuse f s
  | .candle f => Sys2Proof.Machine.execCandle f s
  | .candleSend => Sys2Proof.Machine.execCandleSend s
  | .partnerDark => Sys2Proof.Machine.execPartnerDark s
  | .rreq f => Sys2Proof.Machine.execRreq f s
  | .rdata f => Sys2Proof.Machine.execRdata f s
  | .cfgwr f => Sys2Proof.Machine.execCfgwr f s
  | .handover f => Sys2Proof.Machine.execHandover f s
  | .handoverTimeout => Sys2Proof.Machine.execHandoverTimeout s
  | .takeover w v => Sys2Proof.Machine.execTakeover w v s
  | .strictCopyTimeout mseq => Sys2Proof.Machine.execStrictCopyTimeout mseq s
  | .laggedCopySend => Sys2Proof.Machine.execLaggedCopySend s
  | .mwEnable j w v => Sys2Proof.Machine.execMwEnable j w v s
  | .mwBirthCheckEnd j => Sys2Proof.Machine.execMwBirthCheckEnd j s
  | .resync => Sys2Proof.Machine.execResync s
  | .resyncEnd => Sys2Proof.Machine.execResyncEnd s
  | .pairRoleWrite w epochReg v => Sys2Proof.Machine.execPairRoleWrite w epochReg v s
  | .evacuationEnd n => Sys2Proof.Machine.execEvacuationEnd n s
  | .fencedHoldTimeout n => Sys2Proof.Machine.execFencedHoldTimeout n s
  | .shaftFailed n => Sys2Proof.Machine.execShaftFailed n s
  | .selftestCollar w v => Sys2Proof.Machine.execSelftestCollar w v s
  | .selftestColumn w v => Sys2Proof.Machine.execSelftestColumn w v s
  | .selftestArray w v => Sys2Proof.Machine.execSelftestArray w v s
  | .selftestEngine w v => Sys2Proof.Machine.execSelftestEngine w v s
  | .selftestHostbump w v => Sys2Proof.Machine.execSelftestHostbump w v s
  | .selftestFarpad w v => Sys2Proof.Machine.execSelftestFarpad w v s
  | .selftestFull w v => Sys2Proof.Machine.execSelftestFull w v s
  | .selftestTargetEnd page o => Sys2Proof.Machine.execSelftestTargetEnd page o s
  | .leaseRequest w v => Sys2Proof.Machine.execLeaseRequest w v s
  | .leaseRelease w v => Sys2Proof.Machine.execLeaseRelease w v s
  | .longHold idx => Sys2Proof.Machine.execLongHold idx s
  | .tapBypass bits => Sys2Proof.Machine.execTapBypass bits s
  | .tapSamplePreload bits pads => Sys2Proof.Machine.execTapSamplePreload bits pads s
  | .tapExtest bits pads => Sys2Proof.Machine.execTapExtest bits pads s
  | .tapIdcode bits => Sys2Proof.Machine.execTapIdcode bits s
  | .tap1838Config bits => Sys2Proof.Machine.execTap1838Config bits s
  | .trstNLow => Sys2Proof.Machine.execTrstNLow s
  | .modeReqRun w v => Sys2Proof.Machine.execModeReqRun w v s
  | .modeReqDim w v => Sys2Proof.Machine.execModeReqDim w v s
  | .modeReqShuttered w v => Sys2Proof.Machine.execModeReqShuttered w v s
  | .modeReqLamproom w v => Sys2Proof.Machine.execModeReqLamproom w v s
  | .dimGroupEnd => Sys2Proof.Machine.execDimGroupEnd s
  | .lamproomDrainEnd => Sys2Proof.Machine.execLamproomDrainEnd s
  | .entryStageEnd => Sys2Proof.Machine.execEntryStageEnd s
  | .drainLimit => Sys2Proof.Machine.execDrainLimit s
  | .wakeComparatorWake => Sys2Proof.Machine.execWakeComparatorWake s
  | .exitStepEnd o => Sys2Proof.Machine.execExitStepEnd o s
  | .padRelease w v => Sys2Proof.Machine.execPadRelease w v s
  | .powerEstimate o => Sys2Proof.Machine.execPowerEstimate o s
  | .roundStart late => Sys2Proof.Machine.execRoundStart late s
  | .diodeConversion raw => Sys2Proof.Machine.execDiodeConversion raw s
  | .modelUpdate est => Sys2Proof.Machine.execModelUpdate est s
  | .staleDie idx => Sys2Proof.Machine.execStaleDie idx s
  | .demandHoldExpiry idx => Sys2Proof.Machine.execDemandHoldExpiry idx s
  | .tripAck w v => Sys2Proof.Machine.execTripAck w v s
  | .onDemandReading w v raw => Sys2Proof.Machine.execOnDemandReading w v raw s
  | .resense w v => Sys2Proof.Machine.execResense w v s
  | .burn w v => Sys2Proof.Machine.execBurn w v s
  | .lock w v => Sys2Proof.Machine.execLock w v s
  | .shadowDataWrite w v => Sys2Proof.Machine.execShadowDataWrite w v s
  | .hoursBitDue => Sys2Proof.Machine.execHoursBitDue s
  | .tallyRecordArrival => Sys2Proof.Machine.execTallyRecordArrival s
  | .tallyRecordWrite => Sys2Proof.Machine.execTallyRecordWrite s
  | .tokenRefill => Sys2Proof.Machine.execTokenRefill s
  | .blockFlush => Sys2Proof.Machine.execBlockFlush s
  | .flashOperationEnd ok => Sys2Proof.Machine.execFlashOperationEnd ok s
  | .now w v => Sys2Proof.Machine.execNow w v s
  | .snapshot w v => Sys2Proof.Machine.execSnapshot w v s
  | .urg7Trigger => Sys2Proof.Machine.execUrg7Trigger s
  | .frozenClear w v => Sys2Proof.Machine.execFrozenClear w v s
  | .lifeRecordWrite => Sys2Proof.Machine.execLifeRecordWrite s
  | .urgencyAccept idx code => Sys2Proof.Machine.execUrgencyAccept idx code s
  | .levelRecompute => Sys2Proof.Machine.execLevelRecompute s
  | .mDecay c => Sys2Proof.Machine.execMDecay c s
  | .deficitInterval => Sys2Proof.Machine.execDeficitInterval s
  | .waterlineRecompute => Sys2Proof.Machine.execWaterlineRecompute s
  | .starveExpiry p idx => Sys2Proof.Machine.execStarveExpiry p idx s
  | .monWindowEnd c => Sys2Proof.Machine.execMonWindowEnd c s
  | .wakeSenseCrossing mv => Sys2Proof.Machine.execWakeSenseCrossing mv s
  | .helperRunEnd n fail errors => Sys2Proof.Machine.execHelperRunEnd n fail errors s
  | .converterCalibrationEnd zero ref => Sys2Proof.Machine.execConverterCalibrationEnd zero ref s
  | .wakeCheckEnd errMv => Sys2Proof.Machine.execWakeCheckEnd errMv s
  | .fuseWordBurnEnd weakA weakB => Sys2Proof.Machine.execFuseWordBurnEnd weakA weakB s
  | .resenseEnd flaky => Sys2Proof.Machine.execResenseEnd flaky s
  | .lagTimeLimit => Sys2Proof.Machine.execLagTimeLimit s
  | .deviceInitiatedRequest f => Sys2Proof.Machine.execDeviceInitiatedRequest f s
  | .cxlReceiverDetected f found => Sys2Proof.Machine.execCxlReceiverDetected f found s
  | .idleParkUnderCap n => Sys2Proof.Machine.execIdleParkUnderCap n s
  | .supplyRailChange far on => Sys2Proof.Machine.execSupplyRailChange far on s

end Sys2Proof.Machine
end

