-- ==== Sys2Proof/WellFormed.lean ====
section
/-!
DEFINITION. WellFormed.lean: which commands can occur. Most operands are bounded by their types; what the types leave open is checked here:
a page that has the register a row names, an address of the kind a row names, the number of rows a message may have, and the like. The
meanings are total all the same: an ill-formed command is a register request to an absent page, or has no occasion.
-/
namespace Sys2Proof
open Sys2Proof.Machine

/-- Is `a` the address of a LO half (R152, R375)? -/
def isLoHalf (a : Nat) : Bool := isHiHalf (a + 4)

/-- Is `a` the address of a word of a program store (R458)? -/
def isStoreAddr (a : Nat) : Bool := isWinPage (a / 4096) && decide (0x2000 ≤ a / 4096) && a % 4 == 0

/-- A 16-bit two's complement number. -/
def isS16 (x : Int) : Bool := decide (-32768 ≤ x) && decide (x < 32768)

/-- Can the command occur? A row not listed has operands that its types bound. -/
def Instr.wellFormed : Instr → Bool
  | .unknownOpc _ opc _ rest =>
    match opcSlots opc.toNat with
    | none => true
    | some none => true
    | some (some _) => (opc.toNat == 5 && rest.w2.toNat / 2 ^ 20 % 8 == 7) || (opc.toNat == 6 && decide (6 ≤ rest.w2.toNat % 8))
  | .eventNotice page => isRegPage page.toNat
  | .funcReset page _ _ => isRegPage page.toNat
  | .unitReq page _ _ _ => isRegPage page.toNat
  | .evtSet page _ _ => isRegPage page.toNat
  | .funcResetEnd page _ _ => isUnitPage page.toNat
  | .selftestTargetEnd page _ => isUnitPage page.toNat
  | .counterLoRead _ a => isLoHalf a.toNat
  | .programStoreWrite _ a _ => isStoreAddr a.toNat
  | .stallDetect src dst _ => isAtt src.toNat && isAtt dst.toNat
  | .cellDelivery dst _ _ => isAtt dst.toNat
  | .longHold i => isLease i.toNat
  | .eIllegalOp _ op f => (opOf op.toNat f.ext.toNat).isNone
  | .msg _ row rows _ => decide (rows.length ≤ 1) && rows.length == row.toNat / 256 % 8
  | .modelUpdate est => est.length == 14
  | .diodeConversion raw => isS16 raw
  | .onDemandReading _ _ raw => isS16 raw
  | .converterCalibrationEnd zero ref => isS16 zero && decide (ref < 65536)
  | _ => true

end Sys2Proof
end

