-- ==== Sys2Proof/Safety.lean ====
section
/-!
DEFINITION. Safety.lean: the terms in which statements about the Colax are made: the canonical form of its memories, which step of an engine
program and which register write a row of the opcode table is, when an engine issues a step, and the word of a stored step.
-/
namespace Sys2Proof.Machine

/-! ### Memories -/

/-- The canonical form of a memory of bytes: addresses rising, and no entry equal to what an unlisted address reads as. -/
abbrev Memory.wf (m : List Host.Cell) : Bool := swf zeroByte m

/-- The DRAM, the scratch memories and the register file are in their canonical form. -/
def Dev.memoriesWf (d : Dev) : Bool :=
  Memory.wf d.dram && d.engines.all (fun e => Memory.wf e.2.scratch) && swf resetWord d.regs

/-- The block with another device and the same queue. -/
abbrev State.put (s : State) (d : Dev) : State := { s with dev := d }

/-! ### Rows that are steps of an engine program (R223) -/

/-- The engine, the operation and the fields of a row that is a step. -/
def stepRow : Instr → Option (Fin 48 × EOp × StepF)
  | .eAdd n f => some (n, .lane .add, f)
  | .eSub n f => some (n, .lane .sub, f)
  | .eMul n f => some (n, .lane .mul, f)
  | .eMulh n f => some (n, .lane .mulh, f)
  | .eFma n f => some (n, .lane .fma, f)
  | .eFms n f => some (n, .lane .fms, f)
  | .eFnma n f => some (n, .lane .fnma, f)
  | .eRcp n f => some (n, .lane .rcp, f)
  | .eMin n f => some (n, .lane .min, f)
  | .eMax n f => some (n, .lane .max, f)
  | .eAbs n f => some (n, .lane .abs, f)
  | .eNeg n f => some (n, .lane .neg, f)
  | .eAdds n f => some (n, .lane .adds, f)
  | .eSubs n f => some (n, .lane .subs, f)
  | .eDot4 n f => some (n, .dot4, f)
  | .eDot2 n f => some (n, .dot2, f)
  | .eAnd n f => some (n, .lane .and, f)
  | .eOr n f => some (n, .lane .or, f)
  | .eXor n f => some (n, .lane .xor, f)
  | .eAndn n f => some (n, .lane .andn, f)
  | .eNot n f => some (n, .lane .not, f)
  | .eShl n f => some (n, .lane .shl, f)
  | .eShr n f => some (n, .lane .shr, f)
  | .eSar n f => some (n, .lane .sar, f)
  | .eRotl n f => some (n, .lane .rotl, f)
  | .ePopc n f => some (n, .lane .popc, f)
  | .eClz n f => some (n, .lane .clz, f)
  | .eRsq n f => some (n, .lane .rsq, f)
  | .eMov n f => some (n, .lane .mov, f)
  | .eSaluAdd n f => some (n, .salu .add, f)
  | .eSaluSub n f => some (n, .salu .sub, f)
  | .eSaluMul n f => some (n, .salu .mul, f)
  | .eSaluAnd n f => some (n, .salu .and, f)
  | .eSaluOr n f => some (n, .salu .or, f)
  | .eSaluXor n f => some (n, .salu .xor, f)
  | .eSaluShl n f => some (n, .salu .shl, f)
  | .eSaluShr n f => some (n, .salu .shr, f)
  | .eSaluSignedMin n f => some (n, .salu .smin, f)
  | .eSaluSignedMax n f => some (n, .salu .smax, f)
  | .eSli n f => some (n, .sli, f)
  | .eBcast n f => some (n, .bcast, f)
  | .eCmpeq n f => some (n, .cmp .eq, f)
  | .eCmpne n f => some (n, .cmp .ne, f)
  | .eCmplt n f => some (n, .cmp .lt, f)
  | .eCmple n f => some (n, .cmp .le, f)
  | .eCmpgt n f => some (n, .cmp .gt, f)
  | .eCmpge n f => some (n, .cmp .ge, f)
  | .eCmpnan n f => some (n, .cmp .nan, f)
  | .eSel n f => some (n, .sel, f)
  | .eMand n f => some (n, .mlog .and, f)
  | .eMor n f => some (n, .mlog .or, f)
  | .eMxor n f => some (n, .mlog .xor, f)
  | .eMnot n f => some (n, .mnot, f)
  | .eMsum n f => some (n, .msum, f)
  | .eMfirst n f => some (n, .mfirst, f)
  | .eMld n f => some (n, .mld, f)
  | .eMst n f => some (n, .mst, f)
  | .eRsum n f => some (n, .red .sum, f)
  | .eRmin n f => some (n, .red .min, f)
  | .eRmax n f => some (n, .red .max, f)
  | .eRor n f => some (n, .red .or, f)
  | .ePerm n f => some (n, .perm, f)
  | .eShuf n f => some (n, .shuf, f)
  | .eCompress n f => some (n, .compress, f)
  | .eExpand n f => some (n, .expand, f)
  | .eExtr n f => some (n, .extr, f)
  | .eInsr n f => some (n, .insr, f)
  | .eHash n f => some (n, .hash, f)
  | .eCrc n f => some (n, .crc, f)
  | .eCvt n f => some (n, .cvt, f)
  | .ePack n f => some (n, .pack, f)
  | .eUnpk n f => some (n, .unpk, f)
  | .ePrefix n f => some (n, .prefixSum, f)
  | .eSopen n f => some (n, .sopen, f)
  | .eSrd n f => some (n, .srd, f)
  | .eSwr n f => some (n, .swr, f)
  | .eSclose n f => some (n, .sclose, f)
  | .eScrld n f => some (n, .scrld, f)
  | .eScrst n f => some (n, .scrst, f)
  | .eScrgath n f => some (n, .scrgath, f)
  | .eScrscat n f => some (n, .scrscat, f)
  | .eScradd n f => some (n, .scradd, f)
  | .eSskip n f => some (n, .sskip, f)
  | .eSpos n f => some (n, .spos, f)
  | .eLdg n f => some (n, .ldg, f)
  | .eStg n f => some (n, .stg, f)
  | .eScrz n f => some (n, .scrz, f)
  | .eAadd n f => some (n, .atom 0, f)
  | .eAswap n f => some (n, .atom 1, f)
  | .eAcas n f => some (n, .atom 2, f)
  | .eAmins n f => some (n, .atom 3, f)
  | .eAmaxs n f => some (n, .atom 4, f)
  | .eAminu n f => some (n, .atom 5, f)
  | .eAmaxu n f => some (n, .atom 6, f)
  | .eAvadd n f => some (n, .avadd, f)
  | .eFence n f => some (n, .fence false, f)
  | .eFencew n f => some (n, .fence true, f)
  | .eHintPrefetch n f => some (n, .hint 0, f)
  | .eHintPin n f => some (n, .hint 1, f)
  | .eHintUnpin n f => some (n, .hint 2, f)
  | .eHintDemote n f => some (n, .hint 3, f)
  | .eHintRelease n f => some (n, .hint 4, f)
  | .eHintMigrate n f => some (n, .hint 5, f)
  | .eFlushSector n f => some (n, .flush false, f)
  | .eFlushFrame n f => some (n, .flush true, f)
  | .eNop n f => some (n, .nop, f)
  | .eLoop n f => some (n, .loop, f)
  | .eBrk n f => some (n, .brk, f)
  | .eBr n f => some (n, .br, f)
  | .eWait n f => some (n, .wait, f)
  | .eEnd n f => some (n, .fin, f)
  | .eParam n f => some (n, .param, f)
  | .eTrap n f => some (n, .trap, f)
  | _ => none

/-- The engine runs a job and issues a step in this cycle: REFCLK runs, nothing ends or freezes the job, it is not halted or a debug step is
asked for, no WAIT counts, the cycle is not the fourth of a throttled engine, no fence holds it, it does not meet its breakpoint, and PC lies in
the program (R16, R215, R225, R234, R241, R411). -/
def Dev.issues (d : Dev) (n : Nat) (r : Run) : Prop :=
  d.pins.refclk = true ∧ (d.eng n).run = some r ∧ r.ending = none ∧ (d.eng n).frozen = 0 ∧
  (d.fb Reg.ENGINE_EXEC_STATUS_HALTED n = false ∨ (d.eng n).stepReq = true) ∧ r.wait = 0 ∧
  (d.fb Reg.ENGINE_EXEC_STATUS_THROTTLED n = false ∨ r.cycles % 4 ≠ 3) ∧ (d.eng n).fenced r = false ∧
  (d.fb Reg.ENGINE_DEBUG_CTL_BP_EN n = false ∨ d.fv Reg.ENGINE_DEBUG_CTL_BP_PC n ≠ r.pc ∨ (d.eng n).passBp = true ∨ (d.eng n).stepReq = true) ∧
  r.pc < r.len

/-- The cycle is counted, by the engine and by the job, and a fence that holds no more is gone. -/
def Dev.cycled (d : Dev) (n : Nat) : Dev :=
  ((d.bump Reg.ENGINE_CNT_CYCLES_VALUE n).modRun n (fun r => { r with cycles := r.cycles + 1 })).modRun n (fun r => { r with fence := 0 })

/-- The registers a step names exist, its TYPE is one the operation takes, no result it needs is on its way, and no scalar it takes as an
address is poisoned (R215, R220, R223, R235). -/
def EngSt.accepts (g : EngSt) (o : EOp) (f : StepF) (t : Ty) : Prop :=
  (o.uses f).legal = true ∧
  (match o.types with
    | some l => if l.contains f.typ.toNat then tyOf f.typ.toNat else none
    | none => some ⟨8, .sint⟩) = some t ∧
  g.waitsFor (o.uses f) = false ∧ (o.uses f).addr.any (fun i => g.spr i) = false

/-- A step of a program store as it is encoded (R219): OP in bits 127..120, then TYPE, DST, SRCA, SRCB, SRCC, MASK, INV, COND, EXT, IMM. -/
def stepWord (op : BitVec 8) (f : StepF) : BitVec 128 :=
  op ++ f.typ ++ f.dst ++ f.srcA ++ f.srcB ++ f.srcC ++ f.mask ++ BitVec.ofBool f.inv ++ f.cond ++ f.ext ++ f.imm

/-! ### Rows that are memory requests of a host port (R87 to R91) -/

/-- The header operands, the operation, the opcode, the slots (R87) and what the message adds to the request, for a row that is a memory
request. -/
def memRow : Instr → Option (MemReq × MOp × Nat × Nat × (Req → Req))
  | .rd64 m => some (m, .rd, 0x01, 1, id)
  | .rd64Na m => some (m, .rdNa, 0x02, 1, id)
  | .wr64 m data par => some (m, .wr, 0x03, 5, fun r => { r with data := data, par := par, mask := fullMask, parOk := badBytes data par == 0 })
  | .wrm64 m data par mask mpar => some (m, .wrm, 0x04, 6, fun r =>
      { r with data := data, par := par, mask := mask, parOk := badBytes data par == 0 && parityOf 8 mask.toNat == mpar.toNat })
  | .atomFetchAdd m q => some (m, .atom 0, 0x05, 2, atomReq q)
  | .atomSwap m q => some (m, .atom 1, 0x05, 2, atomReq q)
  | .atomCompareSwap m q => some (m, .atom 2, 0x05, 2, atomReq q)
  | .atomSignedMinimum m q => some (m, .atom 3, 0x05, 2, atomReq q)
  | .atomSignedMaximum m q => some (m, .atom 4, 0x05, 2, atomReq q)
  | .atomUnsignedMinimum m q => some (m, .atom 5, 0x05, 2, atomReq q)
  | .atomUnsignedMaximum m q => some (m, .atom 6, 0x05, 2, atomReq q)
  | .hintPrefetch m c => some (m, .hint 0 (c.toNat + 1) 0, 0x06, 1, id)
  | .hintPin m c => some (m, .hint 1 (c.toNat + 1) 0, 0x06, 1, id)
  | .hintUnpin m c => some (m, .hint 2 (c.toNat + 1) 0, 0x06, 1, id)
  | .hintDemote m c => some (m, .hint 3 (c.toNat + 1) 0, 0x06, 1, id)
  | .hintRelease m c => some (m, .hint 4 (c.toNat + 1) 0, 0x06, 1, id)
  | .hintMigrate m c t => some (m, .hint 5 (c.toNat + 1) t.toNat, 0x06, 1, id)
  | .flushSector m => some (m, .flush false, 0x07, 1, id)
  | .flushFrame m => some (m, .flush true, 0x07, 1, id)
  | .fence m => some (m, .fence, 0x08, 1, id)
  | _ => none

/-- Bits `hi` to `lo` of a flit header (R83). -/
def bitsAt (x : BitVec 80) (hi lo : Nat) : Nat := x.toNat / 2 ^ lo % 2 ^ (hi + 1 - lo)

/-! ### Rows that are register writes -/

/-- Who writes, the register's address, the word written, and the outcomes the write meets, for a row that is a register write. -/
def regRow : Instr → Option (Who × Nat × Word32 × WObs)
  | .funcReset page w v => some (w, (page.toNat * 4096 + 0x010), (withBits v 0 0 1), noObs)
  | .unitReq page w v r => some (w, (page.toNat * 4096 + 0x00C), v, { noObs with short := r })
  | .evtSet page w v => some (w, (page.toNat * 4096 + 0x01C), v, noObs)
  | .kindleDone w v => some (w, 0x004C, (withBits v 0 0 1), noObs)
  | .imgData w v => some (w, 0x005C, v, noObs)
  | .imgGo w v => some (w, 0x0060, (withBits v 0 0 1), noObs)
  | .warm w v stuck => some (w, 0x0048, (withBits v 0 0 1), { noObs with stuck := stuck })
  | .ground w v => some (w, 0x0048, (withBits v 1 0 2), noObs)
  | .wdogKick w v => some (w, 0x0068, v, noObs)
  | .retrainCtlGo w v pass => some (w, 0xF050, (withBits v 31 31 1), { noObs with pass := pass })
  | .retrain h w v => some (w, ((0x010 + h.val) * 4096 + 0x044), (withBits v 8 8 1), noObs)
  | .linkDisable h w v => some (w, ((0x010 + h.val) * 4096 + 0x044), (withBits v 9 9 1), noObs)
  | .apply h w v => some (w, ((0x010 + h.val) * 4096 + 0x05C), (withBits v 12 12 1), noObs)
  | .migGo w v => some (w, 0xA144, (withBits v 31 31 1), noObs)
  | .spaceTableClear w v => some (w, 0xA040, (withBits v 1 0 1), noObs)
  | .spaceWalk w v => some (w, 0xA040, (withBits v 1 0 2), noObs)
  | .suspectClear w v => some (w, 0xA070, v, noObs)
  | .lookupFrame w v => some (w, 0xA07C, v, noObs)
  | .farWindowEnable k w v => some (w, (0xA40C + 16 * k.val), (withBits v 0 0 1), noObs)
  | .farWindowDisable k w v => some (w, (0xA40C + 16 * k.val), (withBits v 0 0 0), noObs)
  | .soWindowEnable j w v => some (w, (0xA808 + 16 * j.val), (withBits v 0 0 1), noObs)
  | .soWindowDisable j w v => some (w, (0xA808 + 16 * j.val), (withBits v 0 0 0), noObs)
  | .park n w v => some (w, ((0x200 + n.val) * 4096 + 0x054), (withBits v 1 0 1), noObs)
  | .wake n w v => some (w, ((0x200 + n.val) * 4096 + 0x054), (withBits v 1 0 2), noObs)
  | .freqGo n w v => some (w, ((0x200 + n.val) * 4096 + 0x058), (withBits v 0 0 1), noObs)
  | .trainStart n w v => some (w, ((0x200 + n.val) * 4096 + 0x200), (withBits v 1 0 1), noObs)
  | .trainAbort n w v => some (w, ((0x200 + n.val) * 4096 + 0x200), (withBits v 1 0 2), noObs)
  | .helperStart n w v => some (w, ((0x200 + n.val) * 4096 + 0x224), (withBits v 0 0 1), noObs)
  | .rowRepair n (some (w, v)) o => some (w, ((0x200 + n.val) * 4096 + 0x328), (withBits (withBits v 31 31 1) 24 24 0), { noObs with repair := o })
  | .columnRepair n w v o => some (w, ((0x200 + n.val) * 4096 + 0x328), (withBits (withBits v 31 31 1) 24 24 1), { noObs with repair := o })
  | .startImp (some (w, v)) master => some (w, 0x7040, (withBits v 2 0 1), { noObs with imp := master.toNat })
  | .startConv (some (w, v)) => some (w, 0x7040, (withBits v 2 0 2), noObs)
  | .startWake w v => some (w, 0x7040, (withBits v 2 0 4), noObs)
  | .halt n w v => some (w, ((0x100 + n.val) * 4096 + 0x05C), (withBits v 1 0 1), noObs)
  | .stepDebug n w v => some (w, ((0x100 + n.val) * 4096 + 0x05C), (withBits v 1 1 1), noObs)
  | .invalidate n w v => some (w, ((0x100 + n.val) * 4096 + 0x054), (withBits v 0 0 1), noObs)
  | .doorbell k w v => some (w, (0xB800 + 4 * k.val), v, noObs)
  | .abort n w v => some (w, ((0x100 + n.val) * 4096 + 0x10C), (withBits v 0 0 1), noObs)
  | .resume k w v => some (w, (0xB408 + 16 * k.val), (withBits v 3 3 1), noObs)
  | .slotFlip n w v => some (w, ((0x100 + n.val) * 4096 + 0x114), v, noObs)
  | .role f w v => some (w, ((0x020 + f.val) * 4096 + 0x040), v, noObs)
  | .farPortDisable f w v => some (w, ((0x020 + f.val) * 4096 + 0x040), (withBits v 16 16 1), noObs)
  | .slipGo f w v good => some (w, ((0x020 + f.val) * 4096 + 0x050), (withBits v 31 31 1), { noObs with pass := good })
  | .scanGo f w v => some (w, ((0x020 + f.val) * 4096 + 0x054), (withBits v 31 31 1), noObs)
  | .loopNearEndSerial f w v => some (w, ((0x020 + f.val) * 4096 + 0x05C), (withBits (withBits v 1 0 1) 31 31 1), noObs)
  | .loopNearEndParallel f w v => some (w, ((0x020 + f.val) * 4096 + 0x05C), (withBits (withBits v 1 0 2) 31 31 1), noObs)
  | .loopFarEnd f w v => some (w, ((0x020 + f.val) * 4096 + 0x05C), (withBits (withBits v 1 0 3) 31 31 1), noObs)
  | .commit f k w v => some (w, ((0x020 + f.val) * 4096 + 0x108 + 16 * k.val), (withBits v 0 0 1), noObs)
  | .takeover w v => some (w, 0xC04C, (withBits v 31 31 1), noObs)
  | .mwEnable j w v => some (w, (0xC408 + 16 * j.val), (withBits v 0 0 1), noObs)
  | .pairRoleWrite w epochReg v => some (w, (if epochReg then 0xC044 else 0xC040), v, noObs)
  | .selftestCollar w v => some (w, 0x8044, (withBits (withBits v 2 0 1) 31 31 1), noObs)
  | .selftestColumn w v => some (w, 0x8044, (withBits (withBits v 2 0 2) 31 31 1), noObs)
  | .selftestArray w v => some (w, 0x8044, (withBits (withBits v 2 0 3) 31 31 1), noObs)
  | .selftestEngine w v => some (w, 0x8044, (withBits (withBits v 2 0 4) 31 31 1), noObs)
  | .selftestHostbump w v => some (w, 0x8044, (withBits (withBits v 2 0 5) 31 31 1), noObs)
  | .selftestFarpad w v => some (w, 0x8044, (withBits (withBits v 2 0 6) 31 31 1), noObs)
  | .selftestFull w v => some (w, 0x8044, (withBits (withBits v 2 0 7) 31 31 1), noObs)
  | .leaseRequest w v => some (w, 0x3040, (withBits v 31 30 2), noObs)
  | .leaseRelease w v => some (w, 0x3040, (withBits v 31 30 1), noObs)
  | .modeReqRun w v => some (w, 0x1044, (withBits (withBits v 2 0 2) 31 31 1), noObs)
  | .modeReqDim w v => some (w, 0x1044, (withBits (withBits v 2 0 3) 31 31 1), noObs)
  | .modeReqShuttered w v => some (w, 0x1044, (withBits (withBits v 2 0 4) 31 31 1), noObs)
  | .modeReqLamproom w v => some (w, 0x1044, (withBits (withBits v 2 0 5) 31 31 1), noObs)
  | .padRelease w v => some (w, 0x104C, (withBits v 0 0 1), noObs)
  | .tripAck w v => some (w, 0x6064, (withBits v 0 0 1), noObs)
  | .onDemandReading w v raw => some (w, 0x605C, (withBits v 31 31 1), { noObs with raw := raw })
  | .resense w v => some (w, 0x4078, (withBits v 0 0 1), noObs)
  | .burn w v => some (w, 0x4068, (withBits v 31 31 1), noObs)
  | .lock w v => some (w, 0x4070, (withBits v 31 31 1), noObs)
  | .shadowDataWrite w v => some (w, 0x405C, v, noObs)
  | .now w v => some (w, 0x504C, (withBits v 0 0 1), noObs)
  | .snapshot w v => some (w, 0x5050, (withBits v 0 0 1), noObs)
  | .frozenClear w v => some (w, 0x5054, (withBits v 0 0 1), noObs)
  | _ => none

/-- What the write of a row does beside storing the register: `d` is the device with the register stored, `b` the device before. -/
def rowEffect (b d : Dev) : Instr → Dev
  | .funcReset page _ _ => d.funcReset page.toNat
  | .unitReq page _ v r => d.unitReqWritten page.toNat v r
  | .evtSet page _ v => d.evtSetWritten page.toNat v
  | .kindleDone _ _ => d.kindleDone
  | .imgData _ v => d.imgWord v
  | .imgGo _ _ => d.imgGo
  | .warm _ _ stuck => d.warmReset 3 stuck
  | .ground _ _ => d.groundTrigger 1
  | .wdogKick _ _ => d.wdogKick
  | .retrainCtlGo _ _ pass => d.retrainPort pass
  | .retrain h _ v => d.linkCtlWritten h (b.fv Reg.HOSTPORT_LINK_CTL_DISABLE h) (withBits v 8 8 1)
  | .linkDisable h _ v => d.linkCtlWritten h (b.fv Reg.HOSTPORT_LINK_CTL_DISABLE h) (withBits v 9 9 1)
  | .apply h _ _ => d.laneApply h
  | .migGo _ _ => d.migGo
  | .spaceTableClear _ v => d.spaceCtl (withBits v 1 0 1)
  | .spaceWalk _ v => d.spaceCtl (withBits v 1 0 2)
  | .suspectClear _ v => d.suspectClear v
  | .lookupFrame _ _ => d.lookupFrame
  | .farWindowEnable k _ v => d.fwCtlWritten k (b.rdReg (0xA40C + 16 * k.val)) (withBits v 0 0 1)
  | .farWindowDisable k _ v => d.fwCtlWritten k (b.rdReg (0xA40C + 16 * k.val)) (withBits v 0 0 0)
  | .soWindowEnable j _ v => d.swCtlWritten j (b.rdReg (0xA808 + 16 * j.val)) (withBits v 0 0 1)
  | .soWindowDisable j _ v => d.swCtlWritten j (b.rdReg (0xA808 + 16 * j.val)) (withBits v 0 0 0)
  | .park n _ _ => d.park n
  | .wake n _ _ => d.wakeShaft n
  | .freqGo n _ _ => d.freqGo n
  | .trainStart n _ _ => d.trainStart n
  | .trainAbort n _ _ => d.trainAbandon n
  | .helperStart n _ _ => d.helperStart n
  | .rowRepair n _ o => d.repairGo n o
  | .columnRepair n _ _ o => d.repairGo n o
  | .startImp _ master => d.impFound master.toNat
  | .startConv _ => d.convStart
  | .startWake _ _ => d.wakeStart
  | .halt n _ v => d.debugCtl n (withBits v 1 0 1)
  | .stepDebug n _ v => d.debugCtl n (withBits v 1 1 1)
  | .invalidate n _ _ => d.fcacheDrop n
  | .doorbell k _ v => d.ringBell k v
  | .abort n _ _ => d.jobAbort n
  | .resume k _ v => d.ringCtl k (withBits v 3 3 1)
  | .slotFlip n _ v => d.slotFlip n v
  | .role f _ v => d.farWritten f 0x40 (b.rdReg ((0x020 + f.val) * 4096 + 0x040)) v true
  | .farPortDisable f _ v => d.farWritten f 0x40 (b.rdReg ((0x020 + f.val) * 4096 + 0x040)) (withBits v 16 16 1) true
  | .slipGo f _ v good => d.farWritten f 0x50 (b.rdReg ((0x020 + f.val) * 4096 + 0x050)) (withBits v 31 31 1) good
  | .scanGo f _ v => d.farWritten f 0x54 (b.rdReg ((0x020 + f.val) * 4096 + 0x054)) (withBits v 31 31 1) true
  | .loopNearEndSerial f _ v => d.farWritten f 0x5C (b.rdReg ((0x020 + f.val) * 4096 + 0x05C)) (withBits (withBits v 1 0 1) 31 31 1) true
  | .loopNearEndParallel f _ v => d.farWritten f 0x5C (b.rdReg ((0x020 + f.val) * 4096 + 0x05C)) (withBits (withBits v 1 0 2) 31 31 1) true
  | .loopFarEnd f _ v => d.farWritten f 0x5C (b.rdReg ((0x020 + f.val) * 4096 + 0x05C)) (withBits (withBits v 1 0 3) 31 31 1) true
  | .commit f k _ v => d.farWritten f (0x108 + 16 * k.val) (b.rdReg ((0x020 + f.val) * 4096 + 0x108 + 16 * k.val)) (withBits v 0 0 1) true
  | .takeover _ v => d.pairWritten 0x4C (b.rdReg 0xC04C) (b.sizeBeside 0xC04C) (withBits v 31 31 1)
  | .mwEnable j _ v => d.pairWritten (0x408 + 16 * j.val) (b.rdReg (0xC408 + 16 * j.val)) (b.sizeBeside (0xC408 + 16 * j.val)) (withBits v 0 0 1)
  | .pairRoleWrite _ e v => if e then d.pairWritten 0x44 (b.rdReg 0xC044) (b.sizeBeside 0xC044) v
      else d.pairWritten 0x40 (b.rdReg 0xC040) (b.sizeBeside 0xC040) v
  | .selftestCollar _ v => d.effSelftest 0x44 (withBits (withBits v 2 0 1) 31 31 1)
  | .selftestColumn _ v => d.effSelftest 0x44 (withBits (withBits v 2 0 2) 31 31 1)
  | .selftestArray _ v => d.effSelftest 0x44 (withBits (withBits v 2 0 3) 31 31 1)
  | .selftestEngine _ v => d.effSelftest 0x44 (withBits (withBits v 2 0 4) 31 31 1)
  | .selftestHostbump _ v => d.effSelftest 0x44 (withBits (withBits v 2 0 5) 31 31 1)
  | .selftestFarpad _ v => d.effSelftest 0x44 (withBits (withBits v 2 0 6) 31 31 1)
  | .selftestFull _ v => d.effSelftest 0x44 (withBits (withBits v 2 0 7) 31 31 1)
  | .leaseRequest _ v => d.leaseReq (withBits v 31 30 2)
  | .leaseRelease _ v => d.leaseReq (withBits v 31 30 1)
  | .modeReqRun _ _ => d.modeReq
  | .modeReqDim _ _ => d.modeReq
  | .modeReqShuttered _ _ => d.modeReq
  | .modeReqLamproom _ _ => d.modeReq
  | .padRelease _ _ => d.padRelease
  | .tripAck _ _ => d.tripAck
  | .onDemandReading _ _ raw => d.readOnDemand raw
  | .resense _ _ => d.resenseGo
  | .burn _ _ => d.burnGo
  | .lock _ _ => d.lockGo
  | .shadowDataWrite _ v => d.shadowWrite v
  | .now _ _ => d.padStart
  | .snapshot _ _ => d.urgConflict.snapTrigger 1 0
  | _ => d

end Sys2Proof.Machine
end

