-- ==== Sys2Proof/Certificates/Slice0/Obligations.lean ====
section
/-!
DEFINITION. Certificates/Slice0/Obligations.lean: the statements about the Colax that the provers prove or refute.
-/
section
open Sys2Proof
open Sys2Proof.Machine

/-- For every command c, device d and queue rest: a step of the block with c at the front of its queue is exec of c on the block with that
device and the rest of the queue. (Derived from 95_what_each_step_holds.md.) -/
def Obligations.StepRunsFrontCommand : Prop :=
  ∀ (c : Instr) (d : Dev) (rest : List Instr), step { dev := d, pending := c :: rest } = exec c { dev := d, pending := rest }

/-- The model's choice (log 1): with an empty queue a step lets one period of REFCLK pass. While REFCLK runs and PWRGOOD is high the time base
counts it, and with the spine powered the unit of CNT_CREDIT_WAIT goes on by 10 ns (R134, log 160); tally time counts a second at every
10^8th period, and an hour at every 3600th of those; nothing else changes. Without REFCLK or PWRGOOD the step changes nothing. (Derived
from R16, R134, R447.) -/
def Obligations.IdleStepIsOneClockPeriod : Prop :=
  ∀ (d : Dev),
    let v : Dev := { d with time := d.time + 1 }
    let u := if d.pins.spineOn then v.creditTick else v
    let sec := u.fv Reg.TALLY_TIME_SEC
    (d.pins.refclk = false ∨ d.pins.pwrgood = false → step { dev := d, pending := [] } = .next { dev := d, pending := [] }) ∧
    (d.pins.refclk = true → d.pins.pwrgood = true → v.time % 100000000 ≠ 0 →
      step { dev := d, pending := [] } = .next { dev := u, pending := [] }) ∧
    (d.pins.refclk = true → d.pins.pwrgood = true → v.time % 100000000 = 0 → sec < 3599 →
      step { dev := d, pending := [] } = .next { dev := u.setF Reg.TALLY_TIME_SEC (sec + 1), pending := [] }) ∧
    (d.pins.refclk = true → d.pins.pwrgood = true → v.time % 100000000 = 0 → 3599 ≤ sec →
      step { dev := d, pending := [] } = .next
        { dev := (u.setF Reg.TALLY_TIME_SEC 0).setF Reg.TALLY_TIME_HOURS ((u.fv Reg.TALLY_TIME_HOURS + 1) % 2 ^ 20), pending := [] })

/-- For every state whose waiting commands are all well formed: when a step answers a next state, the commands that wait are those that
waited, in order, without the one at the front, all of them well formed. No command of the table can add to the queue, drop from it or
reorder it. (Derived from 95_what_each_step_holds.md.) -/
def Obligations.QueueStaysWellFormed : Prop :=
  ∀ (s t : State), (∀ c ∈ s.pending, c.wellFormed = true) → step s = .next t →
    (∀ c ∈ t.pending, c.wellFormed = true) ∧ t.pending = s.pending.tail

/-- For every command and state: exec never refuses, and it faults exactly where SUPPLY_RAIL_CHANGE removes VDD_UCIE or VDDA_FAR while that
rail stands and PWRGOOD is high, outside SHUTTERED (R472 calls what follows undefined); every other command answers a next state in every
state. (Derived from R472.) -/
def Obligations.OnlyALostRailStops : Prop :=
  ∀ (i : Instr) (s : State),
    (∀ r, exec i s ≠ .refused r) ∧
    ((∃ f, exec i s = .fault f) ↔ ∃ far, i = .supplyRailChange far false ∧ (if far then s.dev.pins.vddaFar else s.dev.pins.vddUcie) = true ∧
      s.dev.pins.pwrgood = true ∧ s.dev.mode ≠ mdSHUTTERED)

/-- In the state after reset no command waits, every memory is empty, the time base is 0, and every register address holds the reset word of
its table but RESET_CAUSE, whose WARM field is 1. Samples written out from the tables: IDENT 0xC4830EA1, KINDLE_STATUS 0x80010000, CAP_CTL
0x850AD2AA, PAGE_ID of HOSTPORT3 0x00100003, UNIT_STATE of a page without a unit ONLINE and of a shaft OFFLINE, MGMT_EN 1 at host port 0
and 0 at host port 1. (Derived from R7, R158, R361, R364, R375, R401, R455.) -/
def Obligations.ResetRegisterValues : Prop :=
  State.reset.pending = [] ∧ State.reset.dev.dram = [] ∧ State.reset.dev.time = 0 ∧ State.reset.dev.memoriesWf = true ∧
  (∀ a, State.reset.dev.rdReg a = if a = 0x0044 then 1 else resetWord a) ∧
  resetWord 0x0040 = 0xC4830EA1 ∧ resetWord 0x0050 = 0x80010000 ∧ resetWord 0xE040 = 0x850AD2AA ∧ resetWord 0x13000 = 0x00100003 ∧
  resetWord 0x2008 = 2 ∧ resetWord 0x205008 = 0 ∧ State.reset.dev.fv Reg.HOSTPORT_MGMT_MGMT_EN 0 = 1 ∧
  State.reset.dev.fv Reg.HOSTPORT_MGMT_MGMT_EN 1 = 0 ∧ State.reset.dev.mode = mdKINDLE ∧ State.reset.dev.kstep = 1

/-- The page POWER defines, from offset 0x040, exactly the seven registers of R401 at their offsets: CAP_CTL, which a write changes, resets to
0x850AD2AA; the other six reset to 0 and keep their value when written; CNT_STEP_UP and CNT_PEAK are 32 bits wide and wrap at 2^32.
(Stated: R401.) -/
def Obligations.PowerPageRegisters : Prop :=
  (∀ off, 0x40 ≤ off → off < 4096 → ((regAt (0xE000 + off)).isSome = true ↔ off ∈ [0x40, 0x44, 0x48, 0x4C, 0x50, 0x54, 0x58])) ∧
  resetWord 0xE040 = 0x850AD2AA ∧ (∀ off ∈ [0x44, 0x48, 0x4C, 0x50, 0x54, 0x58], resetWord (0xE000 + off) = 0) ∧
  (∀ (d : Dev) (v : Word32), ∀ off ∈ [0x44, 0x48, 0x4C, 0x50, 0x54, 0x58],
    (d.storeReg (0xE000 + off) v).rdReg (0xE000 + off) = d.rdReg (0xE000 + off)) ∧
  (∃ (d : Dev) (v : Word32), (d.storeReg 0xE040 v).rdReg 0xE040 ≠ d.rdReg 0xE040) ∧
  (∀ d : Dev, (d.bump Reg.POWER_CNT_STEP_UP_VALUE).rdReg 0xE054 = d.rdReg 0xE054 + 1 ∧
    (d.bump Reg.POWER_CNT_PEAK_VALUE).rdReg 0xE058 = d.rdReg 0xE058 + 1)

/-- The pages CLASSES, DISPATCH and DEVICE have three, five and three events, at the bit positions of R157, R266 and R376: the bits are 0
after reset; a write of EVT_STATUS clears exactly the bits written 1; a write of EVT_ENABLE stores those positions and 0 in every other; a
write of EVT_SET sets those positions written 1 and no other bit of EVT_STATUS. (Stated: R157, R266, R376.) -/
def Obligations.EventRegistersOfThreePages : Prop :=
  Reg.EV_CLASSES_WATERLINE = 0 ∧ Reg.EV_CLASSES_MISS = 1 ∧ Reg.EV_CLASSES_URG_CONFLICT = 2 ∧
  Reg.EV_DISPATCH_JOB_DONE = 0 ∧ Reg.EV_DISPATCH_RING_ERR = 1 ∧ Reg.EV_DISPATCH_COMP_LOST = 2 ∧ Reg.EV_DISPATCH_REFUSED = 3 ∧
  Reg.EV_DISPATCH_TIMEOUT = 4 ∧ Reg.EV_DEVICE_KINDLE_DONE = 0 ∧ Reg.EV_DEVICE_GROUND_DONE = 1 ∧ Reg.EV_DEVICE_BOOT_FALLBACK = 2 ∧
  ∀ page mask, (page, mask) ∈ [(9, 0x7), (0xB, 0x1F), (0, 0x7)] → evMaskOf page = mask ∧ resetWord (page * 4096 + 0x14) = 0 ∧
    ∀ (d : Dev) (v : Word32),
      (d.storeReg (page * 4096 + 0x14) v).rdReg (page * 4096 + 0x14) = d.rdReg (page * 4096 + 0x14) &&& ~~~v ∧
      (d.storeReg (page * 4096 + 0x18) v).rdReg (page * 4096 + 0x18) = v &&& BitVec.ofNat 32 mask ∧
      (d.evtSetWritten page v).rdReg (page * 4096 + 0x14) = d.rdReg (page * 4096 + 0x14) ||| (v &&& BitVec.ofNat 32 mask)

/-- PWRGOOD_FALL, with PWRGOOD high, gives the state of a cold reset with PWRGOOD low: only the fuse array, the flash, the test port, the
level of WAKE_SENSE, the pins the board drives and the record of what left the device stay, and every link that was up goes down.
PWRGOOD_RISE, with PWRGOOD low, sets RESET_CAUSE.WARM to power-up and starts KINDLE at step 1, held while RESET_N is low. With the pin
already at its level nothing changes. (Derived from R39, R361, R362, R471.) -/
def Obligations.PowerEdges : Prop :=
  ∀ (s : State) (refclk : Bool),
    (s.dev.pins.pwrgood = true →
      let links := (List.range 12).foldl (fun d h => if (d.port h).adapterUp then d.emit (.link h false) else d) s.dev
      exec .pwrgoodFall s = .next { s with dev := { Dev.reset with
        out := links.out, nextId := s.dev.nextId, free := s.dev.free, flash := s.dev.flash, fuse := { array := s.dev.fuse.array },
        ms := { ({} : ModeSt) with wakeMv := s.dev.ms.wakeMv }, tap := s.dev.tap,
        pins := { s.dev.pins with pwrgood := false, mgmtOn := true, spineOn := true } } } ∧
      exec (.pwrgoodRise refclk) s = .next s) ∧
    (s.dev.pins.pwrgood = false →
      let d : Dev := { s.dev with pins := { s.dev.pins with pwrgood := true, refclk := refclk } }
      let c := ((d.setF Reg.DEVICE_RESET_CAUSE_WARM 1).modKs (fun k => { k with cold := true })).kindleStart
      exec .pwrgoodFall s = .next s ∧
      exec (.pwrgoodRise refclk) s = .next { s with dev := if s.dev.pins.resetN then c else c.modKs (fun k => { k with held := true }) })

/-- RESET_N_FALL, with RESET_N high, lowers the pin and under PWRGOOD carries out a warm device reset with cause RESET_N (2), which is held;
RESET_N_RISE, with RESET_N low, raises it and starts KINDLE where a reset is held; WATCHDOG_EXPIRY, with the watchdog enabled and the
management controller running outside SHUTTERED, writes a record and carries out a warm reset with cause 4; REFCLK_LOST, with REFCLK
running under PWRGOOD, records the time of the loss, brings every shaft that is not there into self-refresh outside SHUTTERED and takes
down every host link and every far link. (Derived from R16, R361, R375.) -/
def Obligations.WarmResetCauses : Prop :=
  ∀ (s : State) (stuck : BitVec 48) (refclk : Bool),
    let d := s.dev
    (d.pins.resetN = true →
      (let l : Dev := { d with pins := { d.pins with resetN := false } };
        exec (.resetNFall stuck) s = .next { s with dev := if d.pins.pwrgood then l.warmReset 2 stuck else l }) ∧
      exec (.resetNRise refclk) s = .next s) ∧
    (d.pins.resetN = false →
      (let u : Dev := { d with pins := { d.pins with resetN := true, refclk := refclk } };
        exec (.resetNRise refclk) s = .next { s with dev := if d.pins.pwrgood && d.ks.held then u.kindleStart else u }) ∧
      exec (.resetNFall stuck) s = .next s) ∧
    exec (.watchdogExpiry stuck) s = .next (s.put (
      if d.fb Reg.DEVICE_WDOG_CTL_EN && d.pins.mgmtOn && d.pins.pwrgood && d.pins.refclk && d.mode != mdSHUTTERED then
        (d.record 0 0x1FF 2 [d.time % 2 ^ 32]).warmReset 4 stuck else d)) ∧
    (d.pins.refclk = true → d.pins.pwrgood = true →
      let l : Dev := { d with pins := { d.pins with refclk := false }, ks := { d.ks with refLost := some (d.time % 2 ^ 32) } }
      let r := if d.mode = mdSHUTTERED then l else (List.range 48).foldl (fun e n => if e.inSR n then e else e.enterSR n) l
      let p := (List.range 12).foldl (fun e h => if (e.port h).adapterUp then e.dropLink h else e) r
      exec .refclkLost s = .next { s with dev := (List.range 4).foldl (fun e f => if e.farLinkUp f then e.farDown f else e) p }) ∧
    (d.pins.refclk = false ∨ d.pins.pwrgood = false → exec .refclkLost s = .next s)

/-- A warm device reset, whatever its cause and whichever shafts miss its limit, keeps the frame table with the sector vectors, but that a
sector whose first write after a zero-fill the reset completes becomes DIRTY, the birth map, the lost list, the suspect map, the time
base, the hours and seconds of tally time, the tally ring, the fuse array, the flash, the repair list, the program store of every engine
and the rows and columns mapped onto spares of every shaft; it zeroes the scratch of every engine, empties every queue of the host ports,
which keep their lane repairs, makes every unit OFFLINE with epoch 0, and starts KINDLE at step 1. (Derived from R44, R362.) -/
def Obligations.WarmResetKeepsTheSpace : Prop :=
  ∀ (d : Dev) (cause : Nat) (stuck : BitVec 48),
    let t := d.warmReset cause stuck
    (d.haul.zfills = [] → t.space.ways = d.space.ways) ∧
    (∀ k, t.way k = { d.way k with vec := (t.way k).vec, dcount := (t.way k).dcount } ∧
      ∀ i < 128, (t.way k).sec i = (d.way k).sec i ∨ (t.way k).sec i = secDIRTY) ∧
    t.space.born = d.space.born ∧ t.space.lost = d.space.lost ∧ t.space.suspect = d.space.suspect ∧
    t.time = d.time ∧ t.rdReg 0x5058 = d.rdReg 0x5058 ∧ t.tally.ring = d.tally.ring ∧ t.fuse.array = d.fuse.array ∧ t.flash = d.flash ∧
    t.repairs = d.repairs ∧
    (∀ n, (t.eng n).store = (d.eng n).store ∧ (t.eng n).scratch = [] ∧ (t.shaft n).rowMap = (d.shaft n).rowMap ∧
      (t.shaft n).colMap = (d.shaft n).colMap) ∧
    (∀ h, t.port h = { replTx := (d.port h).replTx, replRx := (d.port h).replRx }) ∧ (∀ p ∈ unitPages, t.ust p = stOFFLINE ∧ t.epoch p = 0) ∧ t.mode = mdKINDLE ∧ t.kstep = 1 ∧ t.phase = 0

/-- For each of the 20 memory requests of R87 with its slots: while the link is up, initialised and the host holds that many VC0 credits, exec
answers the next state in which the port holds the request, last in its ingress buffer, with a new request number, its tag, line, urgency
and class (60 to 63 become 59), and the credits are taken; its tag becomes outstanding, unless it is at or above TAG_LIMIT (2) or
outstanding already (3), which the request then carries to its admission; before initialisation or without the credits it is a protocol
error: PROTOCOL_ERR and its record, which names slot 1 of a message whose flit is not given (log 16), and a counted retrain; on a link
that is down it is lost. UNKNOWN_OPC with the credits: an opcode R87 does not list waits with the slots SMAP gives it (at least 1), an
ATOM with AOP 7 and a HINT with KIND 6 or 7 wait as such, with the operands of the ATOM and the verdict on their parity, to be refused at
admission; an opcode of a response or an event from the host is a protocol error that names it. (Derived from R87, R88, R89, R90, R91,
R94, R95, R96, R97, R105, R110, R111.) -/
def Obligations.MemoryRequestsArrive : Prop :=
  (∀ (i : Instr) (s : State) (m : MemReq) (op : MOp) (opc slots : Nat) (fill : Req → Req), memRow i = some (m, op, opc, slots, fill) →
    let d := s.dev
    let p := d.port m.port
    let e := if d.fv Reg.HOSTPORT_TAG_LIMIT_LIMIT m.port ≤ m.tag.toNat then 2 else if m.tag.toNat ∈ p.outst then 3 else 0
    let r := fill { id := d.nextId, org := .host m.port m.tag.toNat, op := op, cls := min 59 m.cls.toNat, urg := m.urg.toNat, line := m.line.toNat,
                    tagErr := e }
    (p.adapterUp = false → exec i s = .next s) ∧
    (p.adapterUp = true → d.fb Reg.HOSTPORT_LINK_STATUS_INIT_DONE m.port = true → slots ≤ p.cr0 →
      exec i s = .next (s.put (d.setPort m.port { p with cr0 := p.cr0 - slots, ingress0 := p.ingress0 ++ [r],
                                                         outst := if e = 0 then p.outst ++ [m.tag.toNat] else p.outst }).fresh)) ∧
    (p.adapterUp = true → d.fb Reg.HOSTPORT_LINK_STATUS_INIT_DONE m.port = false ∨ p.cr0 < slots →
      exec i s = .next (s.put ((d.raiseRec (hostPage m.port) Reg.EV_HOSTPORT_PROTOCOL_ERR 2 [1, opc]).retrainLink m.port)))) ∧
  (∀ (s : State) (m : MemReq) (opc : BitVec 6) (slots : Fin 16) (w2 : BitVec 64) (arg : BitVec 128),
    let d := s.dev
    let p := d.port m.port
    let e := if d.fv Reg.HOSTPORT_TAG_LIMIT_LIMIT m.port ≤ m.tag.toNat then 2 else if m.tag.toNat ∈ p.outst then 3 else 0
    let waits := fun (op : MOp) (n : Nat) (fill : Req → Req) => (Host.Outcome.next (s.put (d.setPort m.port { p with
      cr0 := p.cr0 - n,
      ingress0 := p.ingress0 ++ [fill { id := d.nextId, org := .host m.port m.tag.toNat, op := op, cls := min 59 m.cls.toNat, urg := m.urg.toNat,
                                        line := m.line.toNat, tagErr := e }],
      outst := if e = 0 then p.outst ++ [m.tag.toNat] else p.outst }).fresh) : Host.Outcome State Fault Refusal)
    (p.adapterUp = false → exec (.unknownOpc m opc slots ⟨w2, arg⟩) s = .next s) ∧
    (p.adapterUp = true → opc.toNat ∈ [0x20, 0x21, 0x22, 0x23, 0x24, 0x25, 0x26, 0x30] → exec (.unknownOpc m opc slots ⟨w2, arg⟩) s =
      .next (s.put ((d.raiseRec (hostPage m.port) Reg.EV_HOSTPORT_PROTOCOL_ERR 2 [1, opc.toNat]).retrainLink m.port))) ∧
    (p.adapterUp = true → d.fb Reg.HOSTPORT_LINK_STATUS_INIT_DONE m.port = true → 15 ≤ p.cr0 →
      (opc.toNat ∉ [1, 2, 3, 4, 5, 6, 7, 8, 0x10, 0x11, 0x20, 0x21, 0x22, 0x23, 0x24, 0x25, 0x26, 0x30] →
        exec (.unknownOpc m opc slots ⟨w2, arg⟩) s = waits (.unknown opc.toNat (max 1 slots.val)) (max 1 slots.val) id) ∧
      (opc.toNat = 5 → w2.toNat / 2 ^ 20 % 8 = 7 → exec (.unknownOpc m opc slots ⟨w2, arg⟩) s = waits (.atom 7) 2 (fun r =>
        { r with a := arg.extractLsb' 0 64, b := arg.extractLsb' 64 64, off := w2.toNat / 2 ^ 16 % 8,
                 parOk := parityOf 16 arg.toNat == w2.toNat % 65536 })) ∧
      (∀ k ∈ [6, 7], opc.toNat = 6 → w2.toNat % 8 = k → exec (.unknownOpc m opc slots ⟨w2, arg⟩) s =
        waits (.hint k (w2.toNat / 256 % 64 + 1) (w2.toNat / 65536 % 64)) 1 id)))

/-- REQUEST_ADMIT on VC0, with a request waiting, host grants of at least 5 and 1 slots, room for its response in 20,480 slots, a free cell of
the 1,024, no thermal trip, and within the rate that T3 or P4 leaves the port (log 174): the request leaves the ingress buffer, its
credits return, its response slots are reserved, CNT_REQ counts it and the credit check is made; bad parity is counted and raised; then
the first that applies: a tag found at or above TAG_LIMIT or outstanding at its arrival, bad parity, an unknown opcode, a reserved AOP, a
reserved KIND answer NACK_ERROR with the details 2 or 3, 6, 1, 4, 5, the last three before the mode is looked at (log 155); mode, walk or
state answer NACK_RETRY; otherwise the request, with the lines it touches, waits for its lookup, or a FENCE for the earlier requests of
its port. The queue stays. (Derived from R92, R98, R99, R101, R104, R105, R106, R112, R122.) -/
def Obligations.RequestsAreAdmitted : Prop :=
  ∀ (s : State) (h : Fin 12) (r : Req) (rest : List Req) (tag : Nat),
    let p := s.dev.port h
    p.ingress0 = r :: rest → r.org = .host h tag → 5 ≤ p.grant1 → 1 ≤ p.grant2 → p.resv1 + respSlots r.op ≤ 20480 →
    p.store.length + (s.dev.fabric.voq.filter (fun c => c.src == h.val && c.net == 0)).length < 1024 →
    s.dev.fb Reg.HEAT_STATUS_TRIPPED = false →
    let load := (if p.paid.1 = s.dev.time then p.paid.2 else 0) + (match r.op with
      | .rd | .rdNa | .wr | .wrm => 64
      | .atom _ => 16
      | _ => 0)
    (s.dev.fv Reg.HEAT_STATUS_STEP = 3 → load ≤ 10 * s.dev.fv Reg.HEAT_HOST_LIMIT_GBPS) → (s.dev.fv Reg.POWER_LADDER_STEP = 4 → load ≤ 960) →
    let a := (((s.dev.setPort h { p with ingress0 := rest, cr0 := p.cr0 + msgSlots r.op, resv1 := p.resv1 + respSlots r.op,
                                         paid := (s.dev.time, load) }).sendCredits h (msgSlots r.op) 0).bump Reg.HOSTPORT_CNT_REQ_VALUE h).creditCheck h p.have1 (p.resv1 + respSlots r.op)
    let c := if r.parOk then a else (a.bump Reg.HOSTPORT_CNT_PARITY_VALUE h).raise (hostPage h) Reg.EV_HOSTPORT_PARITY_IN
    let refuses := fun (detail : Nat) (owns : Bool) => (Host.Outcome.next (s.put (c.modPort h (fun q => { q with
      resp1 := q.resp1 ++ [{ respOf r tag (.error 3 detail) false with owns := owns }] }))) : Host.Outcome State Fault Refusal)
    (if r.tagErr ≠ 0 then exec (.requestAdmit h false) s = refuses r.tagErr false
    else if r.parOk = false then exec (.requestAdmit h false) s = refuses 6 true
    else match r.op with
      | .unknown _ _ => exec (.requestAdmit h false) s = refuses 1 true
      | .atom 7 => exec (.requestAdmit h false) s = refuses 4 true
      | .hint 6 _ _ => exec (.requestAdmit h false) s = refuses 5 true
      | .hint 7 _ _ => exec (.requestAdmit h false) s = refuses 5 true
      | _ => exec (.requestAdmit h false) s = .next (s.put (c.modPort h (fun q =>
          match c.memRefusal h with
          | some (us, quiet) => { q with resp1 := q.resp1 ++ [{ respOf r tag (.retry us) quiet with owns := true }] }
          | none =>
            if r.op = .fence then settleFences { q with live := q.live ++ [r.id], fences := q.fences ++ [(r, q.live)] }
            else { q with live := q.live ++ [r.id], spans := q.spans ++ [(r.id, r.span)], store := q.store ++ [r] })))) ∧
    (∀ u : State, (u.dev.port h).ingress0 = [] ∨ (u.dev.port h).grant1 < 5 ∨ (u.dev.port h).grant2 < 1 →
      exec (.requestAdmit h false) u = .next u)

/-- A memory request is refused with RETRY_US 10,000 in LAMPROOM, while its entry from RUN drains (phase 3 or 4) and under a halt of start-up;
with 1,000 while haulage is FAILED; with 100 during a table clear or walk, while haulage is in no state for it, and in KINDLE before step
14; with 1,000 in SHUTTERED and from phase 5 of its entry; with 1,000 while the port is FENCED; in RUN and DIM outside all of these it is
not refused. (Derived from R107, R112, R113, R151, R368, R382.) -/
def Obligations.ModeRefusalsOfMemoryRequests : Prop :=
  ∀ (d : Dev) (h : Fin 12),
    (d.mode = mdLAMPROOM ∨ d.ks.halted = true ∨ d.phase = 3 ∨ d.phase = 4 → d.memRefusal h = some (10000, true)) ∧
    (d.mode ≠ mdLAMPROOM → d.ks.halted = false → d.phase ≠ 3 → d.phase ≠ 4 →
      (d.ust hauPage = stFAILED → d.memRefusal h = some (1000, false)) ∧
      (d.ust hauPage ≠ stFAILED →
        (d.space.walking = true ∨ d.space.clearing = true ∨ d.ust hauPage = stKINDLING → d.memRefusal h = some (100, true)) ∧
        (d.space.walking = false → d.space.clearing = false → d.ust hauPage ∈ [stOFFLINE, stDARK, stRESETTING] →
          d.memRefusal h = some (100, false)) ∧
        (d.space.walking = false → d.space.clearing = false → d.ust hauPage ∉ [stOFFLINE, stDARK, stRESETTING, stKINDLING] →
          d.mode = mdKINDLE → d.kstep < 14 → d.memRefusal h = some (100, true)) ∧
        (d.space.walking = false → d.space.clearing = false → d.ust hauPage ∉ [stOFFLINE, stDARK, stRESETTING, stKINDLING] → d.mode = mdRUN ∨ d.mode = mdDIM ∨ d.mode = mdSHUTTERED →
          (d.mode = mdSHUTTERED ∨ 5 ≤ d.phase → d.memRefusal h = some (1000, true)) ∧
          (d.mode ≠ mdSHUTTERED → d.phase < 5 →
            d.memRefusal h = if d.portSt h = stFENCED then some (1000, false) else none))))

/-- With the link initialised: RESPONSE_SEND on VC1 takes, of the responses that may go (the ACK of a FENCE after those of all earlier
requests), one whose key, with the rotation of the classes at equal keys, no other exceeds, and with its slots of credit held sends it in
a flit of its own (log 153), its header word in slot 1, takes the credits, frees the reserved slots and, where the response holds it, the
tag; NACKs are counted, the others sampled where R141 samples them, with the term of the link rate, and a NACK_RETRY that counts as a miss
counts one. On VC2 the oldest register answer leaves for one credit, and a NACK_RETRY is a miss of class 63. With no response, without the
credits, or before initialisation nothing changes. (Derived from R85, R92, R93, R96, R102, R103, R139, R141, R151.) -/
def Obligations.ResponsesLeave : Prop :=
  ∀ (s : State) (h : Fin 12) (ns : Nat),
    let d := s.dev
    let p := d.port h
    let ready := p.resp1.filter (fun r => !r.fence || !(p.resp1.any (fun q => q.id < r.id)))
    let key := fun (r : Resp) => d.key r.cls r.urg r.starved * 128 + turn (d.lastAt (arbResp h)) r.cls
    let flit := fun (r : Resp) (data : Line) (n : Nat) => flitOf (fhOf 0 0 0 0 false 1)
      (msgSlotsOf (headerWord r.opc r.cls r.tag r.addr r.flag) r.w data n)
    (d.fb Reg.HOSTPORT_LINK_STATUS_INIT_DONE h = true →
      (ready ≠ [] → ∃ r ∈ ready, (∀ q ∈ ready, key q ≤ key r) ∧
        let a := ((d.setPort h { p with
                                       have1 := p.have1 - respLen r.opc, resv1 := p.resv1 - r.slots,
                                       resp1 := dropFirst (fun q => q.id == r.id) p.resp1,
                                       outst := if r.owns then p.outst.filter (· != r.tag) else p.outst }).granted (arbResp h) r.cls).emit
          (.flit h (flit r r.data (respLen r.opc)))
        let b := if isNack r.opc then a.bump Reg.HOSTPORT_CNT_NACK_VALUE h else a
        let c := if r.sample && !(isNack r.opc) then b.sample r.cls (ns + linkTerm (d.fv Reg.HOSTPORT_LINK_STATUS_RATE h)) else b
        exec (.responseSend h false ns) s = if p.have1 < respLen r.opc then .next s
          else .next (s.put (if r.opc == 0x24 && r.miss then c.miss r.cls else c))) ∧
      (∀ r rest, p.resp2 = r :: rest → 1 ≤ p.have2 →
        let a := (d.setPort h { p with have2 := p.have2 - 1, resv2 := p.resv2 - 1, resp2 := rest,
                                       out2 := if r.owns then p.out2.filter (· != r.tag) else p.out2 }).emit
          (.flit h (flit r 0 1))
        let b := if isNack r.opc then a.bump Reg.HOSTPORT_CNT_NACK_VALUE h else a
        exec (.responseSend h true ns) s = .next (s.put (if r.opc == 0x24 then b.miss 63 else b)))) ∧
    (∀ r data n, (flit r data n).toNat / 2 ^ 128 % 2 ^ 64 = (headerWord r.opc r.cls r.tag r.addr r.flag).toNat ∧
      (flit r data n).toNat / 2 ^ 192 % 2 ^ 64 = r.w.toNat ∧ (flit r data n).toNat / 2 ^ 16 % 2 ^ 15 = 1) ∧
    (ready = [] → exec (.responseSend h false ns) s = .next s) ∧
    (p.resp2 = [] ∨ p.have2 = 0 → exec (.responseSend h true ns) s = .next s) ∧
    (d.fb Reg.HOSTPORT_LINK_STATUS_INIT_DONE h = false → exec (.responseSend h false ns) s = .next s ∧ exec (.responseSend h true ns) s = .next s)

/-- EVENT_NOTICE with a notice of the page in flight: it is in flight no more and counted, and it is one cell of the EVT network to its port;
the port is the one EVT_ROUTE names if ONLINE, else the lowest ONLINE port with MGMT_EN; there an event of the page that waits takes the
new status and is marked coalesced, else it joins the queue, which holds 64, else EVT_OVF is set and raised. EVENT_SEND on an initialised
link with a VC3 credit sends the oldest event with its page, vector, counter, time and status. With nothing to do nothing changes. The
port of a page's event is none only where no port is ONLINE with MGMT_EN and the routed one is not ONLINE. (Derived from R93, R109, R130.) -/
def Obligations.EventsReachTheHost : Prop :=
  (∀ (s : State) (page : BitVec 14) (h : Fin 12),
    let d := s.dev
    (d.notice.evtFlight.find? (fun e => e.1 == page.toNat) = none → exec (.eventNotice page) s = .next s) ∧
    (∀ k v, d.notice.evtFlight.find? (fun e => e.1 == page.toNat) = some (k, v) →
      let e : Dev := { d with notice := { d.notice with evtFlight := d.notice.evtFlight.filter (fun e => e.1 != page.toNat) } }
      let c := e.bump Reg.FABRIC_CNT_EVT_NOTICE_VALUE
      (c.evtPort page.toNat = none → exec (.eventNotice page) s = .next (s.put c)) ∧
      (∀ g, c.evtPort page.toNat = some g →
        let e := c.countCell (attOfPage page.toNat) g 3
        let p := e.port g
        exec (.eventNotice page) s = .next (s.put (
          if p.evq.any (fun e => e.page == page.toNat) then
            e.setPort g { p with evq := p.evq.map (fun e => if e.page == page.toNat then ⟨page.toNat, v, true⟩ else e) }
          else if p.evq.length < 64 then e.setPort g { p with evq := p.evq ++ [⟨page.toNat, v, false⟩] }
          else (e.setF Reg.HOSTPORT_EVT_OVF_OVF 1 g).raise (hostPage g) Reg.EV_HOSTPORT_EVT_OVF)))) ∧
    (∀ e rest, (d.port h).evq = e :: rest → 1 ≤ (d.port h).have3 → d.fb Reg.HOSTPORT_LINK_STATUS_INIT_DONE h = true →
      let p := d.port h
      let vec := bitsOf (d.rdReg (e.page * 4096 + 0x20)) 11 0
      exec (.eventSend h) s = .next (s.put ((d.setPort h { p with have3 := p.have3 - 1, evq := rest, evtCount := p.evtCount + 1 }).emit
        (.flit h (flitOf (fhOf 0 0 0 0 false 1) (msgSlotsOf (headerWord 0x30 63 (p.evtCount % 4096) (e.page * 2 ^ 25 + vec * 2 ^ 13) e.coalesced)
          (BitVec.ofNat 64 (d.time % 2 ^ 32 * 2 ^ 32 + e.status.toNat)) 0 1)))))) ∧
    ((d.port h).evq = [] ∨ (d.port h).have3 = 0 ∨ d.fb Reg.HOSTPORT_LINK_STATUS_INIT_DONE h = false → exec (.eventSend h) s = .next s)) ∧
  (∀ (d : Dev) (page : Nat),
    let p := bitsOf (d.rdReg (page * 4096 + 0x20)) 19 16
    let both := fun (h : Nat) => d.portSt h = stONLINE ∧ d.fb Reg.HOSTPORT_MGMT_MGMT_EN h = true
    (d.portSt p = stONLINE → d.evtPort page = some p) ∧
    (d.portSt p ≠ stONLINE → (∀ h, d.evtPort page = some h ↔ (h < 12 ∧ both h ∧ ∀ g < h, ¬both g)) ∧
      (d.evtPort page = none ↔ ∀ h < 12, ¬both h)))

/-- HOST_PORT_TRAINING_END of a port in KINDLING or FENCED that is not up, with its pads released, its rail present, DISABLE 0 and REFCLK
running: without a partner a KINDLING port goes OFFLINE; a failed attempt is counted and the eighth in a row makes the port FAILED with a
record; a passing one stores the rate, at most MAX_RATE, the impedance code in force and the lanes replaced, those of the repair list
among them, where redundant lanes are left, and else the port is FAILED with REPAIR_FAIL. ADAPTER_LINK_UP of a trained port that is not up
brings the link up with fresh counts. INIT_FLIT adds its grants; a flit with INIT 0 ends the host's side; one with INIT 1 that carries
messages is a protocol error. CREDIT_INIT_TIMEOUT of a link that is up and not initialised retrains it. (Derived from R80, R81, R96, R97,
R113, R473.) -/
def Obligations.LinksComeUp : Prop :=
  ∀ (s : State) (h : Fin 12),
    let d := s.dev
    let p := d.port h
    (d.portSt h = stKINDLING ∨ d.portSt h = stFENCED → p.adapterUp = false → d.fb Reg.MODES_STATUS_PADS_LATCHED = false →
      d.pins.vddUcie = true → d.fb Reg.HOSTPORT_LINK_CTL_DISABLE h = false → d.pins.refclk = true →
      exec (.hostPortTrainingEnd h .noPartner) s = .next (s.put (if d.portSt h = stKINDLING then d.enter (hostPage h) stOFFLINE else d)) ∧
      (let c := d.setPort h { p with trainFails := p.trainFails + 1 };
        exec (.hostPortTrainingEnd h .failed) s = .next (s.put (
          if p.trainFails < 7 then c else (c.enter (hostPage h) stFAILED).record (hostPage h) 0x1FF 4 [p.trainFails + 1]))) ∧
      (∀ rate tx rx,
        (∀ t r, addLanes p.replTx (d.laneEntries h 1 ++ tx.map (·.val)) = some t →
          addLanes p.replRx (d.laneEntries h 0 ++ rx.map (·.val)) = some r →
          let top := d.fv Reg.HOSTPORT_LINK_CTL_MAX_RATE h
          let got := min (rate.val + 1) top
          let a := (((d.setPort h { p with
                                         trainFails := 0, replTx := t, replRx := r,
                                         imp := d.fv Reg.CALREF_IMP_MASTER }).setF Reg.HOSTPORT_LINK_STATUS_RATE got h).setF
            Reg.HOSTPORT_LINK_STATUS_REPAIRED_TX t.length h).setF Reg.HOSTPORT_LINK_STATUS_REPAIRED_RX r.length h
          let b := if p.replTx.length < t.length ∨ p.replRx.length < r.length then a.raise (hostPage h) Reg.EV_HOSTPORT_LANE_REPAIRED else a
          exec (.hostPortTrainingEnd h (.trained rate tx rx)) s =
            .next (s.put (if got < top then b.raise (hostPage h) Reg.EV_HOSTPORT_RATE_LOW else b))) ∧
        (addLanes p.replTx (d.laneEntries h 1 ++ tx.map (·.val)) = none ∨ addLanes p.replRx (d.laneEntries h 0 ++ rx.map (·.val)) = none →
          exec (.hostPortTrainingEnd h (.trained rate tx rx)) s =
            .next (s.put ((d.raiseRec (hostPage h) Reg.EV_HOSTPORT_REPAIR_FAIL 4 []).enter (hostPage h) stFAILED))))) ∧
    (exec (.adapterLinkUp h) s = .next (s.put (if d.fv Reg.HOSTPORT_LINK_STATUS_RATE h = 0 ∨ p.adapterUp = true then d else
      ((d.setPort h { p with
        adapterUp := true, initSent := false, initRecv := false, grant1 := 0, grant2 := 0, have1 := 0, have2 := 0, have3 := 0 }).setF Reg.HOSTPORT_LINK_STATUS_UP 1 h).sendInit h))) ∧
    (∀ fh : BitVec 80, p.adapterUp = true → p.initRecv = false →
      let c : PortSt := { p with have1 := min 65535 (p.have1 + bitsAt fh 71 64), have2 := min 65535 (p.have2 + bitsAt fh 63 56),
                                 have3 := min 65535 (p.have3 + bitsAt fh 55 48) }
      let q : PortSt := { c with grant1 := c.have1, grant2 := c.have2 }
      exec (.initFlit h fh) s = .next (s.put (
        if bitsAt fh 45 45 = 0 then (d.setPort h { q with initRecv := true }).endInit h
        else if bitsAt fh 14 0 = 0 then d.setPort h q
        else (d.raiseRec (hostPage h) Reg.EV_HOSTPORT_PROTOCOL_ERR 2 [firstSlot (bitsAt fh 14 0), 0]).retrainLink h))) ∧
    exec (.creditInitTimeout h) s = .next (s.put (
      if p.adapterUp = true ∧ d.fb Reg.HOSTPORT_LINK_STATUS_INIT_DONE h = false then d.retrainLink h else d))

/-- CREDIT_RETURN on an initialised link whose host side has ended initialisation: a flit whose slots agree with SMAP adds its CR counts, each
saturating at 65,535, sets the urgency of the port, and brings its messages in slot order (of a flit with one RD64 in slot 1: the request
with the CLASS, TAG and ADDR of its header word and the URG of the flit); adapter replays are counted; one whose slots disagree is a
protocol error that names slot and opcode. CREDIT_TIMEOUT with a response waiting on a link that is up raises CREDIT_TIMEOUT, drops the
link and trains it; LINK_DOWN drops a link that is up and trains it. A dropped link keeps the admitted requests, which go on without
answer, its FENCEs and register requests, the lines they touch, the store and the lanes replaced; everything else of the port is as new.
(Derived from R84, R96, R97, R99, R110, R111, R113.) -/
def Obligations.CreditFlitsAndLostLinks : Prop :=
  ∀ (s : State) (h : Fin 12) (flit : BitVec 2048) (replays : Nat),
    let d := s.dev
    let b := d.bumpBy Reg.HOSTPORT_CNT_REPLAY_VALUE replays h
    let p := d.port h
    let fh : BitVec 80 := BitVec.ofNat 80 (flit.toNat / 2 ^ 16)
    (p.adapterUp = true → p.initRecv = true → d.fb Reg.HOSTPORT_LINK_STATUS_INIT_DONE h = true → bitsAt fh 45 45 = 0 →
      (checkSlots flit.toNat (bitsAt fh 14 0) (0, 0) 15 1 0 = none → exec (.creditReturn h ⟨flit, replays⟩) s = .next (s.put ((b.setPort h { p with
        have1 := min 65535 (p.have1 + bitsAt fh 71 64), have2 := min 65535 (p.have2 + bitsAt fh 63 56),
        have3 := min 65535 (p.have3 + bitsAt fh 55 48), urg := bitsAt fh 47 46 }).messages h flit.toNat))) ∧
      (∀ slot opc, checkSlots flit.toNat (bitsAt fh 14 0) (0, 0) 15 1 0 = some (slot, opc) →
        exec (.creditReturn h ⟨flit, replays⟩) s = .next (s.put ((b.raiseRec (hostPage h) Reg.EV_HOSTPORT_PROTOCOL_ERR 2 [slot, opc]).retrainLink h)))) ∧
    (bitsAt fh 14 0 = 0 → ∀ e : Dev, e.messages h flit.toNat = e) ∧
    (∀ e : Dev, flitOpc flit.toNat 1 = 0x01 → bitsAt fh 14 0 = 1 → e.messages h flit.toNat = e.arrive
      ⟨h, flit.extractLsb' 168 12, flit.extractLsb' 180 6, flit.extractLsb' 62 2, flit.extractLsb' 129 39⟩ .rd 1 id 1) ∧
    (p.adapterUp = false → exec (.creditReturn h ⟨flit, replays⟩) s = .next s) ∧
    exec (.creditTimeout h) s = .next (s.put (if p.adapterUp = true ∧ (p.resp1 ≠ [] ∨ p.resp2 ≠ []) then
      ((d.raise (hostPage h) Reg.EV_HOSTPORT_CREDIT_TIMEOUT).dropLink h).startTraining h else d)) ∧
    exec (.linkDown h) s = .next (s.put (if p.adapterUp = true then (d.dropLink h).startTraining h else d)) ∧
    (d.dropLink h).port h = { oldIds := p.oldIds ++ p.live, oldFences := p.oldFences ++ p.fences, oldWait2 := p.oldWait2 ++ p.wait2,
                              spans := p.spans, store := p.store, replTx := p.replTx, replRx := p.replRx, evtCount := p.evtCount, trainFails := p.trainFails } ∧
    (d.dropLink h).fv Reg.HOSTPORT_LINK_STATUS_UP h = 0 ∧ (d.dropLink h).fv Reg.HOSTPORT_LINK_STATUS_INIT_DONE h = 0

/-- For every requester (host port 0 to 11, or 12 for Nguane firmware) and register address: an absent page answers NACK_ERROR address hole;
an address that is no multiple of 4 NACK_ERROR unsupported, DETAIL 7; a write not permitted to a port NACK_ERROR permission, DETAIL 2,
which firmware never meets; a dark page its stub's answer or NACK_DARK; no answer in time NACK_DARK with RETRY_US 0; an undefined offset
reads 0, a write of it writes nothing, both with ACK; FLASH_DATA while another holds flash lease 1 NACK_RETRY, RETRY_US 10, with
FLASH_ADDR unchanged; every other request is carried out with ACK. A request that no earlier row answers is a cell of the MGT network, as
is its answer. Each row holds where no earlier one does. (Stated: R453.) -/
def Obligations.RegisterRequestsAreJudged : Prop :=
  ∀ (d : Dev) (reader a : Nat) (w : Option Word32) (o : Option WObs) (late : Bool),
    let page := a / 4096
    let pg := unitPageOf page
    let absent := !(isRegPage page) && !(isWinPage page)
    let forbidden := w.isSome && !(d.mayWrite reader a)
    let dark := !(isWinPage page && decide (page < 0x2000)) && d.isDark pg && !(w.isSome && a % 4096 == 0x0C && d.canAsk page)
    (absent = true → d.serveReg reader a w o late = (.error 1 0, d)) ∧
    (absent = false → a % 4 ≠ 0 → d.serveReg reader a w o late = (.error 3 7, d)) ∧
    (absent = false → a % 4 = 0 → forbidden = true → d.serveReg reader a w o late = (.error 4 2, d)) ∧
    (d.mayWrite 12 a = true) ∧
    (absent = false → a % 4 = 0 → forbidden = false → dark = true →
      let t := d.darkRecord pg a w.isSome (if reader = 12 then 0xFF else reader)
      d.serveReg reader a w o late =
        (if w = none ∧ isRegPage page = true ∧ a % 4096 = 0 then (.value (d.rdReg a), t)
         else if w = none ∧ isRegPage page = true ∧ a % 4096 = 8 then
          (.value (withBits (if isUnitPage page then d.rdReg a else 0) 3 0 stDARK), t)
         else (.dark 0 pg, t))) ∧
    (absent = false → a % 4 = 0 → forbidden = false → dark = false →
      let b := d.countCell (readerAtt reader) (attOfPage pg) 2
      let back := fun (e : Dev) => e.countCell (attOfPage pg) (readerAtt reader) 2
      (late = true → (d.serveReg reader a w o late).1 = .dark 0 pg) ∧
      (late = false →
        (isWinPage page = false → regAt a = none →
          d.serveReg reader a w o late = (if w = none then .value 0 else .done, back b)) ∧
        (w = none → a = 0x5064 → (b.flashRead).2 = none → d.serveReg reader a w o late = (.retry 10, back (b.flashRead).1) ∧
          (back (b.flashRead).1).rdReg 0x5060 = d.rdReg 0x5060) ∧
        (isWinPage page = false → (regAt a).isSome = true →
          (∀ v, w = some v → (d.serveReg reader a w o late).1 = .done ∧
            (d.serveReg reader a w o late).2 = back (((b.takeObs a o).2).writeReg a v (b.takeObs a o).1)) ∧
          (w = none → a ≠ 0x5064 → d.serveReg reader a w o late = (.value (b.readReg reader a).1, back (b.readReg reader a).2))) ∧
        (isWinPage page = true → (∀ v, w = some v → (d.serveReg reader a w o late).1 = .done) ∧
          (w = none → ∃ v, d.serveReg reader a w o late = (.value v, back b)))))

/-- Nguane firmware may write everything. A port with MGMT_EN may write everything. A port without MGMT_EN may write DOORBELLk, and of its own
page FUNC_RESET, EVT_STATUS, EVT_ENABLE, EVT_ROUTE, LINK_CTL, TAG_LIMIT, CREDIT_CTL and EVT_OVF, and nothing else: a forbidden write
changes nothing. (Derived from R116, R246, R459.) -/
def Obligations.PortsMayWrite : Prop :=
  ∀ (d : Dev) (h : Fin 12) (a : Nat) (v : Word32) (o : Option WObs) (late : Bool),
    d.mayWrite 12 a = true ∧
    (d.fb Reg.HOSTPORT_MGMT_MGMT_EN h = true → d.mayWrite h a = true) ∧
    (d.fb Reg.HOSTPORT_MGMT_MGMT_EN h = false →
      (d.mayWrite h a = true ↔ (a / 4096 = 0x0B ∧ 0x800 ≤ a % 4096 ∧ a % 4096 < 0x900) ∨
        (a / 4096 = 0x10 + h ∧ a % 4096 ∈ [0x10, 0x14, 0x18, 0x20, 0x44, 0x48, 0x50, 0x60]))) ∧
    (d.mayWrite h a = false → (d.serveReg h a (some v) o late).2 = d)

/-- For every register of every page, header included, and every word written: a configuration field takes the value written, clamped into its
range; a W1C field loses the bits written 1; a field of any other access keeps its value; and so does every bit outside the fields.
(Derived from R6, R460, R462.) -/
def Obligations.FieldsTakeTheirWrites : Prop :=
  ∀ (g : GroupD) (r : RegD) (old v : Word32), g ∈ pageGroups → r ∈ regsHeader ++ g.regs →
    (∀ f ∈ r.fields, bitsOf (applyWrite r old v) f.hi f.lo =
      match f.acc with
      | .rw => clampTo f.min f.max (bitsOf v f.hi f.lo)
      | .w1c => bitsOf (old &&& ~~~v) f.hi f.lo
      | _ => bitsOf old f.hi f.lo) ∧
    (∀ i < 32, (∀ f ∈ r.fields, ¬(f.lo ≤ i ∧ i ≤ f.hi)) → (applyWrite r old v).toNat.testBit i = old.toNat.testBit i)

/-- For each of the 74 rows that are register writes, well formed, written by Nguane firmware while it runs, to a page that is not dark: exec
answers the next state in which the register holds the word as R460 and R461 leave it, the row's own effect has happened (rowEffect names
it), a mirrored register has gone to the pair partner, and firmware has its ACK; request and answer are cells of the MGT network (R134);
the queue stays. (Derived from R453, R459, R460, R463.) -/
def Obligations.RegisterRowsAsFirmware : Prop :=
  ∀ (i : Instr) (s : State) (a : Nat) (v : Word32) (o : WObs), regRow i = some (.firmware, a, v, o) → i.wellFormed = true →
    s.dev.fwRuns = true → s.dev.isDark (a / 4096) = false →
    let att := attOfPage (a / 4096)
    let b := s.dev.countCell 0x4A att 2
    exec i s = .next (s.put ((((rowEffect b (b.storeReg a v) i).mirrorReg a).countCell att 0x4A 2).emit (.fw a .done)))

/-- For each of the 74 rows that are register writes, well formed, sent by a port whose link is up and initialised, with a credit, host grants
of at least 5 and 1 slots, no request of VC2 waiting, no FENCE unanswered or waiting, a free response slot, a tag below 32 that is not
outstanding and good parity, where R459 permits the write and the page is not dark: its credit returns, its response slot and tag are
taken, it and its answer are cells of the MGT network, the register is stored, the row has its effect, and the ACK waits for its port
unless the write itself took the link down. (Derived from R92, R96, R99, R103, R104, R453, R459.) -/
def Obligations.RegisterRowsAsPort : Prop :=
  ∀ (i : Instr) (s : State) (h : Fin 12) (tag : BitVec 12) (a : Nat) (v : Word32) (o : WObs),
    regRow i = some (.port h tag true, a, v, o) → i.wellFormed = true →
    let d := s.dev
    let p := d.port h
    p.adapterUp = true → d.fb Reg.HOSTPORT_LINK_STATUS_INIT_DONE h = true → 1 ≤ p.cr2 → p.ingress2 = [] → p.wait2 = [] → 5 ≤ p.grant1 → 1 ≤ p.grant2 →
    p.fences = [] → p.ingress0.all (fun r => r.op != .fence) = true → p.resv2 < 32 → tag.toNat < 32 → tag.toNat ∉ p.out2 →
    let b := ((d.setPort h { p with resv2 := p.resv2 + 1, out2 := p.out2 ++ [tag.toNat] }).sendCredits h 0 1).creditCheck h p.have2 (p.resv2 + 1)
    b.mayWrite h a = true → b.isDark (a / 4096) = false →
    let att := attOfPage (a / 4096)
    let e := b.countCell h att 2
    let c := ((rowEffect e (e.storeReg a v) i).mirrorReg a).countCell att h 2
    exec i s = .next (s.put (if (c.port h).out2.contains tag.toNat then
      c.modPort h (fun q => { q with resp2 := q.resp2 ++ [regResp tag.toNat true true .done] }) else c))

/-- By Nguane firmware while it runs, on a page that is not dark, at a multiple of 4: REGRD of a defined register with no side effect answers
its value and changes nothing else; COUNTER_LO_READ and TIME_LO_READ answer the low 32 bits and latch the high ones for this reader alone;
EST_READ answers EST and clears PEAK; FLASH_DATA_READ answers the word the flash gives; REGWR of a defined register that needs no outcome
stores it and has its effect; PROGRAM_STORE_WRITE writes the word into the store of its engine; REG_TIMEOUT answers NACK_DARK with
RETRY_US 0, counts, raises REG_TIMEOUT and writes a record, and whether a write has its effect all the same is a free value. Each is a
cell of the MGT network, as is its answer. REQUEST_ADMIT on VC2: a request that a FENCE held back is carried out when the FENCE has its
answer; otherwise the oldest one in the ingress buffer is admitted, unless all 32 response slots are taken or the host granted too few
credits; with nothing to do nothing changes; the requests of a link that has gone down come first. (Derived from R96, R99, R103, R129,
R152, R243, R375, R402, R444, R451, R458, R462.) -/
def Obligations.RegisterReadsAndPlainWrites : Prop :=
  (∀ (s : State), s.dev.fwRuns = true →
    let d := s.dev
    let sent := fun (page : Nat) => d.countCell 0x4A (attOfPage page) 2
    let back := fun (page : Nat) (e : Dev) (a : Nat) (x : RegAns) => (Host.Outcome.next (s.put ((e.countCell (attOfPage page) 0x4A 2).emit (.fw a x))) :
      Host.Outcome State Fault Refusal)
    (∀ a : BitVec 26, a.toNat % 4 = 0 → isRegPage (a.toNat / 4096) = true → d.isDark (a.toNat / 4096) = false →
      let page := a.toNat / 4096
      let b := sent page
      ((regAt a.toNat).isSome = true → d.pairCount a.toNat = none → isHiHalf a.toNat = false → a.toNat ≠ 0xE044 → a.toNat ≠ 0x5064 →
        exec (.regrd .firmware a) s = back page b a.toNat (.value (b.regValue a.toNat))) ∧
      (∀ x, (regAt a.toNat).isSome = true → d.pairCount a.toNat = some x →
        let l : Dev := { b with hiLatch := sset (fun _ => 0) d.hiLatch (12 * 2 ^ 26 + (a.toNat + 4)) (BitVec.ofNat 32 (x / 2 ^ 32)) }
        exec (.counterLoRead .firmware a) s = back page l a.toNat (.value (BitVec.ofNat 32 x))) ∧
      (∀ v, (regAt a.toNat).isSome = true → needsObs a.toNat = false →
        exec (.regwr .firmware a v) s = back page (b.writeReg a.toNat v noObs) a.toNat .done) ∧
      (let c := fun (w : Nat) => ((b.bump Reg.FABRIC_CNT_REG_TIMEOUT_VALUE).raiseRec pgFABRIC Reg.EV_FABRIC_REG_TIMEOUT 2 [a.toNat, w, page]).nextFree;
        exec (.regTimeout .firmware a none) s = .next (s.put ((c 0).emit (.fw a.toNat (.dark 0 page)))) ∧
        ∀ v, exec (.regTimeout .firmware a (some v)) s = .next (s.put ((if Config.freeFlag d.free then
          ((c 1).carryOut 12 a.toNat (some v) none).2 else c 1).emit (.fw a.toNat (.dark 0 page)))))) ∧
    (let l : Dev := { sent 0 with hiLatch := sset (fun _ => 0) d.hiLatch (12 * 2 ^ 26 + 0x70) (BitVec.ofNat 32 (d.time % 2 ^ 64 / 2 ^ 32)) };
      exec (.timeLoRead .firmware) s = back 0 l 0x6C (.value (BitVec.ofNat 32 (d.time % 2 ^ 64)))) ∧
    exec (.estRead .firmware) s = back 0xE ((sent 0xE).setF Reg.POWER_EST_PEAK 0) 0xE044 (.value (d.rdReg 0xE044)) ∧
    (∀ t v, (sent 5).flashRead = (t, some v) → d.isDark 5 = false → exec (.flashDataRead .firmware) s = back 5 t 0x5064 (.value v)) ∧
    (∀ (n : Fin 48) (off : Nat) (v : Word32), off < 65536 → off % 4 = 0 → d.isDark (0x100 + n) = false →
      let a : BitVec 26 := BitVec.ofNat 26 ((0x2000 + 16 * n.val) * 4096 + off)
      exec (.programStoreWrite .firmware a v) s = back (0x100 + n) ((sent (0x100 + n)).storeWrite n off v) a.toNat .done)) ∧
  (∀ (s : State) (h : Fin 12),
    let d := s.dev
    let p := d.port h
    let room := p.resv2 < 32 ∧ 5 ≤ p.grant1 ∧ 1 ≤ p.grant2
    (∀ q rest, p.oldWait2 = q :: rest → exec (.requestAdmit h true) s = .next (s.put (
      if p.oldFences.any (fun f => f.1.id < q.before) then d else d.carryOld h q))) ∧
    (p.oldWait2 = [] →
      (∀ q rest, p.wait2 = q :: rest → fenceBefore p q = false →
        exec (.requestAdmit h true) s = .next (s.put ((d.setPort h { p with wait2 := rest }).carryReg h q none false))) ∧
      (p.wait2 = [] ∨ (∃ q rest, p.wait2 = q :: rest ∧ fenceBefore p q = true) →
        (p.ingress2 = [] ∨ ¬room → exec (.requestAdmit h true) s = .next s) ∧
        (∀ q rest, p.ingress2 = q :: rest → room →
          exec (.requestAdmit h true) s = .next (s.put ((d.setPort h { p with ingress2 := rest }).admitReg h q none false))))))

/-- For every row of R223 but ILLEGAL_OP: when engine n issues a step in the cycle, exec answers the next state in which the cycle is counted
and the step of the row, with its fields, is carried out; the queue stays. (Derived from R215, R223.) -/
def Obligations.EngineRowsIssueTheirStep : Prop :=
  ∀ (i : Instr) (s : State) (n : Fin 48) (o : EOp) (f : StepF) (r : Run), stepRow i = some (n, o, f) → s.dev.issues n r →
    exec i s = .next { s with dev := (s.dev.cycled n).runStep n r o f }

/-- For every row of R223 but ILLEGAL_OP, in a cycle in which its engine issues and with registers, TYPE and operands in order: where the step
computes registers, or changes memory accesses and streams, or moves the sequencer, without a poisoned byte under poison policy 0, exec
answers the next state with exactly that effect, the poison met counted, the step counted and PC moved; where it uses a poisoned byte
under policy 0, fault 11 is recorded; where it meets a fault, the fault is recorded and the job ends; where it must wait, only the stall
is counted. (Derived from R215, R223, R235, R236.) -/
def Obligations.EngineStepsComplete : Prop :=
  ∀ (i : Instr) (s : State) (n : Fin 48) (o : EOp) (f : StepF) (r : Run) (t : Ty), stepRow i = some (n, o, f) → s.dev.issues n r →
    (s.dev.eng n).accepts o f t →
    let c := s.dev.cycled n
    (∀ g met used, c.stepOf n r o f t = (.regs g used, met) → (used = true → r.job.poison ≠ 0) →
      exec i s = .next { s with dev := (((c.modEng n (fun _ => g)).notePoison n met).stepDone n .next).engShow n }) ∧
    (∀ d met used, c.stepOf n r o f t = (.mem d used, met) → (used = true → r.job.poison ≠ 0) →
      exec i s = .next { s with dev := (d.stepDone n .next).engShow n }) ∧
    (∀ d met go, c.stepOf n r o f t = (.seq d go, met) → exec i s = .next { s with dev := (d.stepDone n go).engShow n }) ∧
    (∀ g met, c.stepOf n r o f t = (.regs g true, met) → r.job.poison = 0 →
      exec i s = .next { s with dev := ((c.notePoison n met).engFault n 11 0 r.pc none).engShow n }) ∧
    (∀ d met, c.stepOf n r o f t = (.mem d true, met) → r.job.poison = 0 →
      exec i s = .next { s with dev := (c.engFault n 11 0 r.pc none).engShow n }) ∧
    (∀ code addr detail met, c.stepOf n r o f t = (.fault code addr detail, met) →
      exec i s = .next { s with dev := (c.engFault n code addr r.pc detail).engShow n }) ∧
    (∀ met, c.stepOf n r o f t = (.stall, met) → exec i s = .next { s with dev := (c.stepStall n).engPump n })

/-- For the rows ADD to CLZ, RSQ and MOV that work lane by lane, when no active lane read is poisoned or the poison policy is not 0: exec
answers the next state in which the destination vector holds, in every active lane, the result of the operation on the lanes of A, B (or
IMM) and C, and in every other lane what it held; poison follows lane by lane; no other register of the engine is written. (Derived from
R217, R221, R223, R235.) -/
def Obligations.LaneStepsWriteActiveLanes : Prop :=
  ∀ (i : Instr) (s : State) (n : Fin 48) (l : LOp) (f : StepF) (r : Run) (t : Ty), stepRow i = some (n, .lane l, f) →
    s.dev.issues n r → (s.dev.eng n).accepts (.lane l) f t →
    let g := s.dev.eng n
    let vs := ((EOp.lane l).uses f).vs
    (r.job.poison ≠ 0 ∨ ∀ j < t.lanes, g.active f j = true → g.badLane vs t.w j = false) →
    ∃ (x : BitVec 512) (p : BitVec 64),
      exec i s = .next { s with dev := (((s.dev.cycled n).modEng n (fun h => h.setV f.dst.toNat x p)).stepDone n .next).engShow n } ∧
      ∀ j < t.lanes,
        elem t.w x j = (if g.active f j then
            t.op (s.dev.fv Reg.ENGINE_FP_CTL_ROUND n) (s.dev.free + j) l (elem t.w (g.vr f.srcA.toNat) j)
              (g.opB f t (s.dev.fv Reg.ENGINE_FP_CTL_ROUND n) j) (elem t.w (g.vr f.srcC.toNat) j) % 2 ^ t.bits
          else elem t.w (g.vr f.dst.toNat) j) ∧
        elemBad t.w p j = (if g.active f j then g.badLane vs t.w j else elemBad t.w (g.vpr f.dst.toNat) j)

/-- For every integer TYPE and elements a, b and c of its width: ADD, SUB, MUL, FMA, FMS, FNMA and NEG wrap modulo the width; ADDS and SUBS
saturate the exact result into the type; MIN and MAX give the smaller and the larger number; AND, OR, XOR, ANDN and NOT act bit by bit;
SHL, SHR and ROTL shift by B modulo the width; MOV gives A. (Derived from R217, R218, R223.) -/
def Obligations.IntegerElementResults : Prop :=
  ∀ (c : Nat) (t : Ty) (m k a b z : Nat), tyOf c = some t → t.isInt = true → a < 2 ^ t.bits → b < 2 ^ t.bits → z < 2 ^ t.bits →
    t.op m k .add a b z = (a + b) % 2 ^ t.bits ∧
    t.op m k .sub a b z = (a + 2 ^ t.bits - b) % 2 ^ t.bits ∧
    t.op m k .mul a b z = a * b % 2 ^ t.bits ∧
    t.op m k .fma a b z = (a * b + z) % 2 ^ t.bits ∧
    t.op m k .fms a b z = (a * b + (2 ^ t.bits - z)) % 2 ^ t.bits ∧
    (t.op m k .fnma a b z + a * b) % 2 ^ t.bits = z ∧
    (t.op m k .neg a b z + a) % 2 ^ t.bits = 0 ∧
    t.toI (t.op m k .adds a b z) = max t.minI (min t.maxI (t.toI a + t.toI b)) ∧
    t.toI (t.op m k .subs a b z) = max t.minI (min t.maxI (t.toI a - t.toI b)) ∧
    t.toI (t.op m k .min a b z) = min (t.toI a) (t.toI b) ∧
    t.toI (t.op m k .max a b z) = max (t.toI a) (t.toI b) ∧
    (∀ i < t.bits, (t.op m k .and a b z).testBit i = (a.testBit i && b.testBit i) ∧
      (t.op m k .or a b z).testBit i = (a.testBit i || b.testBit i) ∧
      (t.op m k .xor a b z).testBit i = (a.testBit i != b.testBit i) ∧
      (t.op m k .andn a b z).testBit i = (a.testBit i && !b.testBit i) ∧
      (t.op m k .not a b z).testBit i = (!a.testBit i) ∧
      (t.op m k .shl a b z).testBit i = (decide (b % t.bits ≤ i) && a.testBit (i - b % t.bits)) ∧
      (t.op m k .shr a b z).testBit i = a.testBit (i + b % t.bits) ∧
      (t.op m k .rotl a b z).testBit i = a.testBit ((i + (t.bits - b % t.bits)) % t.bits)) ∧
    t.op m k .mov a b z = a

/-- For the rows CMPEQ to CMPNAN, when no active lane read is poisoned or the poison policy is not 0: exec answers the next state in which the
mask destination has bit j set exactly where lane j is active, not poisoned and the comparison of A and B holds there, bits from the lane
count on being 0, ANY says whether a bit is set and ALL whether the comparison holds in every active lane; no other register of the engine
is written. (Derived from R221, R222, R223.) -/
def Obligations.CompareStepsSetMaskAndFlags : Prop :=
  ∀ (i : Instr) (s : State) (n : Fin 48) (q : COp) (f : StepF) (r : Run) (t : Ty), stepRow i = some (n, .cmp q, f) →
    s.dev.issues n r → (s.dev.eng n).accepts (.cmp q) f t →
    let g := s.dev.eng n
    let vs := ((EOp.cmp q).uses f).vs
    let holds := fun j => g.active f j && !(g.badLane vs t.w j) && t.cmp q (elem t.w (g.vr f.srcA.toNat) j)
      (g.opB f t (s.dev.fv Reg.ENGINE_FP_CTL_ROUND n) j)
    (r.job.poison ≠ 0 ∨ ∀ j < t.lanes, g.active f j = true → g.badLane vs t.w j = false) →
    ∃ (m : BitVec 64) (any all : Bool),
      exec i s = .next { s with dev := (((s.dev.cycled n).modEng n (fun h =>
        { h.setM f.dst.toNat m with sfAny := any, sfAll := all })).stepDone n .next).engShow n } ∧
      (∀ j < 64, mbit m j = (decide (j < t.lanes) && holds j)) ∧
      (any = true ↔ ∃ j < t.lanes, g.active f j = true ∧ holds j = true) ∧
      (all = true ↔ ∀ j < t.lanes, g.active f j = true → holds j = true)

/-- When the engine issues a legal step and no scalar read is poisoned: the ten SALU rows write S[DST] with the 64-bit result of the operation
on S[SRCA] and S[SRCB] or IMM; SLI writes IMM; MLD and MST copy between a scalar and a mask; MAND, MOR, MXOR and MNOT write the mask; the
step is counted and PC moves, and no other register of the engine is written. (Derived from R214, R222, R223, R235.) -/
def Obligations.ScalarAndMaskSteps : Prop :=
  ∀ (i : Instr) (s : State) (n : Fin 48) (o : EOp) (f : StepF) (r : Run) (t : Ty), stepRow i = some (n, o, f) →
    s.dev.issues n r → (s.dev.eng n).accepts o f t → (o.uses f).ss.any (fun k => (s.dev.eng n).spr k) = false →
    let g := s.dev.eng n
    let ends := fun (w : EngSt → EngSt) =>
      (Host.Outcome.next { s with dev := (((s.dev.cycled n).modEng n w).stepDone n .next).engShow n } : Host.Outcome State Fault Refusal)
    (∀ q, o = .salu q → exec i s = ends (fun h => h.setS f.dst.toNat
      (scalarOp q (g.sr f.srcA.toNat).toNat (if StepFext f 4 then f.imm.toNat else (g.sr f.srcB.toNat).toNat)) false)) ∧
    (o = .sli → exec i s = ends (fun h => h.setS f.dst.toNat f.imm.toNat false)) ∧
    (o = .mld → exec i s = ends (fun h => h.setM f.dst.toNat (g.sr f.srcA.toNat))) ∧
    (o = .mst → exec i s = ends (fun h => h.setS f.dst.toNat (g.mr f.srcA.toNat).toNat false)) ∧
    (o = .mlog .and → exec i s = ends (fun h => h.setM f.dst.toNat (g.mr f.srcA.toNat &&& g.mr f.srcB.toNat))) ∧
    (o = .mlog .or → exec i s = ends (fun h => h.setM f.dst.toNat (g.mr f.srcA.toNat ||| g.mr f.srcB.toNat))) ∧
    (o = .mlog .xor → exec i s = ends (fun h => h.setM f.dst.toNat (g.mr f.srcA.toNat ^^^ g.mr f.srcB.toNat))) ∧
    (o = .mnot → exec i s = ends (fun h => h.setM f.dst.toNat (fullMask ^^^ g.mr f.srcA.toNat)))

/-- When the engine issues: NOP goes on; WAIT stores the cycles to wait and goes on; BR jumps to its target where its condition holds and goes
on where it does not; BRK leaves the innermost loop where its condition holds; a condition code R224 does not list faults with ILLEGAL_OP;
LOOP faults with ILLEGAL_OP when its counter is in use, its body is empty or it reaches beyond the innermost body, goes past its body with
count 0, and else loads the counter and enters the body; PARAM writes a parameter of the job, its id, the engine or its class to S[DST];
END where its condition holds writes out the partial lines and ends the job with DONE; TRAP faults with code 14 and its detail; a FENCE
writes out the partial lines and holds the next step. (Derived from R223, R224, R225, R234, R236.) -/
def Obligations.SequencerSteps : Prop :=
  ∀ (s : State) (n : Fin 48) (f : StepF) (r : Run), s.dev.issues n r →
    let c := s.dev.cycled n
    let g := s.dev.eng n
    let ends := fun (d : Dev) (go : Seq) => (Host.Outcome.next { s with dev := (d.stepDone n go).engShow n } : Host.Outcome State Fault Refusal)
    let fails := (Host.Outcome.next { s with dev := (c.engFault n 1 0 r.pc none).engShow n } : Host.Outcome State Fault Refusal)
    exec (.eNop n f) s = ends c .next ∧
    exec (.eWait n f) s = ends (c.modRun n (fun q => { q with wait := immBits f 31 0 })) .next ∧
    (∀ b, g.cond f.cond.toNat = some b →
      exec (.eBr n f) s = ends c (if b then .jump (immBits f 11 0) else .next) ∧
      exec (.eBrk n f) s = ends c (if b then .leave else .next) ∧
      exec (.eEnd n f) s = (if b then ends ((c.flushParts n).modRun n (fun q => { q with ending := some (stDONE, 0, r.pc) })) .next
        else ends c .next)) ∧
    (g.cond f.cond.toNat = none → exec (.eBr n f) s = fails ∧ exec (.eBrk n f) s = fails ∧ exec (.eEnd n f) s = fails) ∧
    (∀ t, g.accepts .loop f t →
      let k := extBits f 1 0
      let cnt := if StepFext f 4 then (g.sr f.srcA.toNat).toNat % 2 ^ 32 else immBits f 31 0
      let stop := r.pc + immBits f 43 32
      exec (.eLoop n f) s = (if g.loopOn k = true ∨ immBits f 43 32 = 0 ∨ (∃ l, g.loops.head? = some l ∧ l.2.2 < stop) then fails
        else if cnt = 0 then ends c (.past stop)
        else ends (c.modEng n (fun h => { h.setL k cnt with loops := (k, r.pc + 1, stop) :: h.loops })) .next)) ∧
    (∀ t, g.accepts .param f t → extBits f 2 0 < 7 →
      let v := [r.job.params.getD 0 0, r.job.params.getD 1 0, r.job.params.getD 2 0, r.job.params.getD 3 0, r.job.id, n.val,
        r.job.cls].getD (extBits f 2 0) 0
      exec (.eParam n f) s = ends (c.modEng n (fun h => h.setS f.dst.toNat v false)) .next) ∧
    exec (.eTrap n f) s = .next { s with dev := (c.engFault n 14 0 r.pc (some (immBits f 15 0))).engShow n } ∧
    exec (.eFence n f) s = ends ((c.flushParts n).modRun n (fun q => { q with fence := 1 })) .next ∧
    exec (.eFencew n f) s = ends ((c.flushParts n).modRun n (fun q => { q with fence := 2 })) .next

/-- When the engine issues a legal step whose address scalar is not poisoned: the seven scalar atomics add one access to the host address
S[SRCA] plus the signed 32-bit offset, with the operands of S[SRCB] and S[SRCC], and fault with code 8 outside the 45-bit space and 6 when
not 8-byte aligned; the six hints and the two flushes add one access to S[SRCA] with their kind, count and target, and fault with code 8
outside the space. (Derived from R223, R232, R233, R236.) -/
def Obligations.EngineMemoryStepsAccess : Prop :=
  ∀ (i : Instr) (s : State) (n : Fin 48) (o : EOp) (f : StepF) (r : Run) (t : Ty), stepRow i = some (n, o, f) →
    s.dev.issues n r → (s.dev.eng n).accepts o f t → (o.uses f).ss.any (fun k => (s.dev.eng n).spr k) = false →
    let c := s.dev.cycled n
    let g := s.dev.eng n
    let y := g.base f (ofSigned 64 (toSigned 32 (immBits f 31 0)))
    let x := (g.sr f.srcA.toNat).toNat
    let ends := fun (d : Dev) => (Host.Outcome.next { s with dev := (d.stepDone n .next).engShow n } : Host.Outcome State Fault Refusal)
    let fails := fun (code addr : Nat) =>
      (Host.Outcome.next { s with dev := (c.engFault n code addr r.pc none).engShow n } : Host.Outcome State Fault Refusal)
    (∀ aop, o = .atom aop → exec i s = (if 2 ^ 45 ≤ y then fails 8 (y % 2 ^ 45) else if y % 8 ≠ 0 then fails 6 y
      else ends (c.addAcc n ⟨0, .scalar f.dst.toNat, .atom aop, y / 64, 0, 0, 0, g.sr f.srcB.toNat, g.sr f.srcC.toNat, y % 64 / 8,
        false, false, r.pc, y⟩))) ∧
    (∀ kind, o = .hint kind → exec i s = (if 2 ^ 45 ≤ x then fails 8 (x % 2 ^ 45)
      else ends (c.addAcc n ⟨0, .none, .hint kind (immBits f 5 0 + 1) (immBits f 13 8), x / 64, 0, 0, 0, 0, 0, x % 64 / 8,
        false, false, r.pc, x⟩))) ∧
    (∀ frame, o = .flush frame → exec i s = (if 2 ^ 45 ≤ x then fails 8 (x % 2 ^ 45)
      else ends (c.addAcc n ⟨0, .none, .flush frame, x / 64, 0, 0, 0, 0, 0, x % 64 / 8, false, false, r.pc, x⟩)))

/-- For every engine state, element width of at most 8 bytes, address, value and poison bits: storing an element makes the bytes of that
element read back as the value, each poisoned exactly where its poison bit was 1, leaves every other byte and its parity as they were, and
keeps the scratch in canonical form. (Derived from R229.) -/
def Obligations.ScratchElementsReadBack : Prop :=
  ∀ (g : EngSt) (w i x bits : Nat), 0 < w → w ≤ 8 →
    let h := g.setScrElem w i x bits
    h.scrElem w i = x % 2 ^ (8 * w) ∧ h.scrElemBits w i = bits % 2 ^ w ∧ (h.scrElemBad w i = true ↔ bits % 2 ^ w ≠ 0) ∧
    (∀ a, a < i ∨ i + w ≤ a → h.scr a = g.scr a ∧ h.scrBad a = g.scrBad a) ∧
    (Memory.wf g.scratch = true → Memory.wf h.scratch = true)

/-- SCRLD and SCRST take the scratch address S[SRCA] plus the 21-bit offset: when it is not 64-byte aligned the step faults with code 6 and
that address, when the line lies outside the 2 MiB scratch it faults with code 7; otherwise SCRLD completes with a vector destination
whose active lanes are the elements at the address and SCRST completes with the active lanes stored there, where no poisoned byte is met.
(Derived from R223, R229, R236.) -/
def Obligations.ScratchStepsAddressRules : Prop :=
  ∀ (s : State) (n : Fin 48) (f : StepF) (r : Run) (t : Ty), s.dev.issues n r →
    let c := s.dev.cycled n
    let g := s.dev.eng n
    let x := g.base f (immBits f 20 0)
    let ends := fun (w : EngSt → EngSt) =>
      (Host.Outcome.next { s with dev := (((c.modEng n w)).stepDone n .next).engShow n } : Host.Outcome State Fault Refusal)
    let fails := fun (code : Nat) =>
      (Host.Outcome.next { s with dev := (c.engFault n code x r.pc none).engShow n } : Host.Outcome State Fault Refusal)
    (g.accepts .scrld f t →
      (x % 64 ≠ 0 → exec (.eScrld n f) s = fails 6) ∧
      (x % 64 = 0 → 2097152 < x + 64 → exec (.eScrld n f) s = fails 7) ∧
      (x % 64 = 0 → x + 64 ≤ 2097152 → (∀ i < 64, g.scrBad (x + i) = false) → r.job.poison ≠ 2 →
        exec (.eScrld n f) s = ends (fun h => h.putLanes f t.w f.dst.toNat (fun j => g.scrElem t.w (x + t.w * j)) (fun _ => false)))) ∧
    (g.accepts .scrst f t →
      (x % 64 ≠ 0 → exec (.eScrst n f) s = fails 6) ∧
      (x % 64 = 0 → 2097152 < x + 64 → exec (.eScrst n f) s = fails 7) ∧
      (x % 64 = 0 → x + 64 ≤ 2097152 → (∀ j < t.lanes, elemBad t.w (g.vpr f.srcA.toNat) j = false) →
        exec (.eScrst n f) s = ends (fun h => (g.actives f t.lanes).foldl
          (fun k j => k.setScrElem t.w (x + t.w * j) (elem t.w (g.vr f.srcA.toNat) j) 0) h)))

/-- When the engine issues: an OP the table does not list, a step that names a scalar register from 16 or a mask register from 8, fault with
code 1; a TYPE the operation does not take faults with code 2; a poisoned scalar taken as an address faults with code 12; each fault is
recorded at PC and nothing else of the step happens. (Derived from R220, R223, R235, R236.) -/
def Obligations.EngineFaultsOnIllegalSteps : Prop :=
  ∀ (s : State) (n : Fin 48) (f : StepF) (r : Run), s.dev.issues n r →
    let fails := fun (code : Nat) =>
      (Host.Outcome.next { s with dev := ((s.dev.cycled n).engFault n code 0 r.pc none).engShow n } : Host.Outcome State Fault Refusal)
    (∀ op : BitVec 8, opOf op.toNat f.ext.toNat = none → exec (.eIllegalOp n op f) s = fails 1) ∧
    (∀ i o, stepRow i = some (n, o, f) →
      ((o.uses f).legal = false → exec i s = fails 1) ∧
      ((o.uses f).legal = true → (∃ l, o.types = some l ∧ (l.contains f.typ.toNat = false ∨ tyOf f.typ.toNat = none)) → exec i s = fails 2) ∧
      (∀ t, (o.uses f).legal = true →
        (match o.types with
          | some l => if l.contains f.typ.toNat then tyOf f.typ.toNat else none
          | none => some ⟨8, .sint⟩) = some t →
        (s.dev.eng n).waitsFor (o.uses f) = false → (o.uses f).addr.any (fun k => (s.dev.eng n).spr k) = true → exec i s = fails 12))

/-- A cycle of an engine without a job, or while REFCLK is lost, changes nothing. Of one whose job is ending, that is frozen, or that is
halted with no debug step asked for, it counts the cycle and nothing else; of one that waits, it counts the cycle and one wait cycle; the
fourth cycle of a throttled engine is only counted; one a FENCE holds counts a stall; one that meets its breakpoint is halted and raises
HALTED; one whose PC lies past the program faults with code 3. The same for the row that takes the step from the program store. (Derived
from R16, R215, R225, R234, R236, R241, R411.) -/
def Obligations.EngineHoldsItsStep : Prop :=
  ∀ (s : State) (n : Fin 48) (i : Instr), ((∃ o f, stepRow i = some (n, o, f)) ∨ ∃ parity, i = .stepIssue n parity) →
    ((s.dev.eng n).run = none ∨ s.dev.pins.refclk = false → exec i s = .next s) ∧
    (∀ r, (s.dev.eng n).run = some r → s.dev.pins.refclk = true →
      let c := (s.dev.bump Reg.ENGINE_CNT_CYCLES_VALUE n).modRun n (fun q => { q with cycles := q.cycles + 1 })
      let g := s.dev.eng n
      let held := r.ending ≠ none ∨ g.frozen ≠ 0 ∨ (s.dev.fb Reg.ENGINE_EXEC_STATUS_HALTED n = true ∧ g.stepReq = false)
      let idle := s.dev.fb Reg.ENGINE_EXEC_STATUS_THROTTLED n = true ∧ r.cycles % 4 = 3
      let met := s.dev.fb Reg.ENGINE_DEBUG_CTL_BP_EN n = true ∧ s.dev.fv Reg.ENGINE_DEBUG_CTL_BP_PC n = r.pc ∧ g.passBp = false ∧
        g.stepReq = false
      (held → exec i s = .next { s with dev := c }) ∧
      (¬ held → r.wait ≠ 0 → exec i s = .next { s with dev := c.modRun n (fun q => { q with wait := q.wait - 1 }) }) ∧
      (¬ held → r.wait = 0 → idle → exec i s = .next { s with dev := c }) ∧
      (¬ held → r.wait = 0 → ¬ idle → g.fenced r = true →
        exec i s = .next { s with dev := c.bump Reg.ENGINE_CNT_STALL_VALUE n }) ∧
      (¬ held → r.wait = 0 → ¬ idle → g.fenced r = false → met →
        exec i s = .next { s with dev :=
          ((s.dev.cycled n).setF Reg.ENGINE_EXEC_STATUS_HALTED 1 n).raise (enginePage n) Reg.EV_ENGINE_HALTED }) ∧
      (¬ held → r.wait = 0 → ¬ idle → g.fenced r = false → ¬ met → r.len ≤ r.pc →
        exec i s = .next { s with dev := ((s.dev.cycled n).engFault n 3 0 r.pc none).engShow n }))

/-- For every OP value and every value of every field, the 128-bit word of R219 made of them decodes to exactly that OP and those fields, and
every 128-bit word is the word of the OP and the fields it decodes to. (Derived from R219, R243.) -/
def Obligations.StepWordsDecodeToTheirFields : Prop :=
  (∀ (op : BitVec 8) (f : StepF), fieldsOf (stepWord op f) = f ∧ (stepWord op f).toNat / 2 ^ 120 = op.toNat) ∧
  (∀ x : BitVec 128, stepWord (BitVec.ofNat 8 (x.toNat / 2 ^ 120)) (fieldsOf x) = x)

/-- For every row of R223 but ILLEGAL_OP and every OP value that stands for its operation: when the word at PC of the engine's program store
is the word of that OP and the row's fields and passes its parity, STEP_ISSUE and the row answer the same outcome in every state in which
the engine issues; a word that fails its parity faults with code 15. (Derived from R215, R219, R223, R261.) -/
def Obligations.StoredStepRunsAsItsRow : Prop :=
  ∀ (i : Instr) (s : State) (n : Fin 48) (o : EOp) (f : StepF) (r : Run) (op : BitVec 8), stepRow i = some (n, o, f) →
    opOf op.toNat f.ext.toNat = some o → s.dev.issues n r → (s.dev.eng n).fetch r = stepWord op f →
    exec (.stepIssue n true) s = exec i s ∧
    exec (.stepIssue n false) s = .next { s with dev := ((s.dev.cycled n).engFault n 15 0 r.pc none).engShow n }

/-- STREAM_LINE_ARRIVAL takes the oldest answer to an access of the engine off the way, gives it to the access it names, sends what may then
go and ends a job that waited for it; ENGINE_RETRY_EXPIRY lets every access that met NACK_RETRY go again; ENGINE_FREQ_CHANGE shows the
point that power has set; the queue stays. (Derived from R216, R228, R237.) -/
def Obligations.EngineArrivalsAndPoints : Prop :=
  ∀ (s : State) (n : Fin 48),
    (∀ slot res a, s.dev.answers.find? (fun x => match x.1 with
        | .engine m _ => m == n.val
        | _ => false) = some (.engine n slot, res) →
      (s.dev.eng n).acc.find? (fun y => y.id == slot) = some a →
      let d : Dev := { s.dev with answers := dropFirst (fun x => x.1 == Origin.engine n slot) s.dev.answers }
      exec (.streamLineArrival n) s = .next { s with dev := ((d.engAnswer n a res).engPump n).tryEnd n }) ∧
    (let d := s.dev.modEng n (fun g => { g with acc := g.acc.map (fun y => { y with again := false }) });
      exec (.engineRetryExpiry n) s = .next { s with dev := d.engPump n }) ∧
    exec (.engineFreqChange n) s = .next { s with dev := s.dev.setF Reg.ENGINE_EXEC_STATUS_POINT (s.dev.eng n).want n }

/-- FRAME_TABLE_LOOKUP: of the requests its bank may serve (the first stored one of each port, and those of the other attachments) one whose
key, with its place in the rotation, no other exceeds is taken and looked up; while haulage does not serve it gets NACK_RETRY, 1,000 µs
where haulage is FAILED and else 100. HELD_REQUEST_SERVE: of the held requests that can go on, the first of each line and attachment, one
of the greatest key is looked up again; one that waits on while the eviction of a way has been started for it keeps its place.
HOLD_TIMEOUT of a request in the held queue: it leaves with NACK_RETRY (100 µs where it waits for a fill, else 20) and is counted; of an
access that waits on a fill NACK_RETRY with 100 µs, what is merged staying merged; of a waiting FLUSH 20 µs. With nothing to serve, and
while REFCLK is lost, nothing is served. (Derived from R16, R32, R46, R55, R58, R74, R101, R138, R139, R71.) -/
def Obligations.LookupsAreServedInOrderOfKey : Prop :=
  ∀ (s : State),
    let d := s.dev
    (∀ bank : Fin 32,
      let l := (List.range 12).filterMap (fun h => d.bankHead h bank) ++
        d.space.lookupQ.filter (fun r => setOf (frameOfLine r.line) % 32 == bank.val && d.copyNext r)
      (l = [] ∨ d.pins.refclk = false → exec (.frameTableLookup bank) s = .next s) ∧
      (l ≠ [] → d.pins.refclk = true → ∃ r ∈ l,
        (∀ q ∈ l, d.keyAt (arbBank bank) (srcAtt q) q.cls q.urg q.starved ≤ d.keyAt (arbBank bank) (srcAtt r) r.cls r.urg r.starved) ∧
        let b := (d.granted (arbBank bank) (srcAtt r)).countCell (srcAtt r) 0x48 0
        let c := match r.org with
          | .host h _ => b.modPort h (fun p => { p with store := p.store.filter (fun q => q.id != r.id) })
          | _ => b.modSpace (fun p => { p with lookupQ := p.lookupQ.filter (fun q => q.id != r.id) })
        (d.haulServes = true → exec (.frameTableLookup bank) s = .next (s.put ((c.lookup { r with starved := false }).countAns c r))) ∧
        (d.haulServes = false → d.ust hauPage = stFAILED →
          exec (.frameTableLookup bank) s = .next (s.put ((c.answer r (.retry 1000)).countAns c r))) ∧
        (d.haulServes = false → d.ust hauPage ≠ stFAILED → exec (.frameTableLookup bank) s = .next (s.put ((c.answer r (.retry 100)
          (d.space.walking || d.space.clearing || d.ust hauPage == stKINDLING)).countAns c r))))) ∧
    (let l := d.haul.held.filter (fun x => !(d.haul.held.any (fun y => spansMeet y.req.span x.req.span && srcAtt y.req == srcAtt x.req &&
        decide (y.req.id < x.req.id))) && (d.tryHeld x).isSome);
      let key := fun (x : Held) => d.keyAt arbHeld (srcAtt x.req) x.req.cls x.req.urg x.req.starved
      (d.haulServes = false ∨ d.pins.refclk = false ∨ l = [] → exec .heldRequestServe s = .next s) ∧
      (d.haulServes = true → d.pins.refclk = true → l ≠ [] → ∃ x ∈ l, (∀ y ∈ l, key y ≤ key x) ∧
        let b := d.granted arbHeld (srcAtt x.req)
        let t := (b.modHaul (fun p => { p with held := dropFirst (fun y => y == x) p.held })).lookup x.req
        exec .heldRequestServe s = .next (s.put (
          if t.haul.held.any (fun y => y.req == x.req) = false then t
          else if d.haul.evicts.length < t.haul.evicts.length then t.modHaul (fun p => { p with held := d.haul.held })
          else d)))) ∧
    (∀ (i : Fin 1024),
      let waits := d.fillWaiters
      (∀ x, d.haul.held[i.val]? = some x →
        let c := d.modHaul (fun p => { p with held := dropFirst (fun y => y == x) p.held })
        exec (.holdTimeout i) s = .next (s.put
          ((c.answer x.req (.retry (if x.why = .fill then 100 else 20))).bump Reg.HAULAGE_CNT_HOLD_NACK_VALUE))) ∧
      (∀ k r b, d.haul.held.length ≤ i.val → waits[i.val - d.haul.held.length]? = some (k, r) → d.fill k = some b →
        let off := fun (q : Req) => if q.id = r.id then { q with org := .hint } else q
        let c := d.setFill k (some { b with ops := (b.ops.filter (fun q => q.id != r.id || isWrite q.op)).map off,
                                            writes := b.writes.map (fun w => (off w.1, w.2)) })
        exec (.holdTimeout i) s = .next (s.put (if r.org = .hint then c
          else (c.answer r (.retry 100)).bump Reg.HAULAGE_CNT_HOLD_NACK_VALUE))) ∧
      (∀ w, d.haul.held.length + waits.length ≤ i.val → d.haul.flushes[i.val - d.haul.held.length - waits.length]? = some w →
        let c := d.modHaul (fun p => { p with flushes := dropFirst (fun y => y == w) p.flushes })
        exec (.holdTimeout i) s = .next (s.put ((c.answer w.req (.retry 20)).bump Reg.HAULAGE_CNT_HOLD_NACK_VALUE))) ∧
      (d.haul.held.length + waits.length + d.haul.flushes.length ≤ i.val → exec (.holdTimeout i) s = .next s))

/-- A read, write or atomic of a hole answers NACK_ERROR address hole; of a draining part NACK_RETRY with 100 µs; of a lost frame NACK_ERROR
permission, DETAIL 1, for a write or atomic and DATA_POISON for a read. Where the pair serves it: a read of an unborn frame answers zeros;
a masked write of no byte changes no line, sets AGE 0 where the frame is resident, and answers ACK, after the earlier requests of its port
to the line, which it is held for. A host access to a resident frame sets AGE to 0, and a write sets CLASS: a read answers zeros where the
sector is ZERO, whatever the state of its shaft, and goes to the slot's line in its shaft where it is CLEAN or DIRTY; a write there makes
the sector DIRTY, goes to its shaft, and to the destination of a move that has passed the line; a write to a ZERO sector of a shaft that
takes it starts a zero-fill. (Derived from R28, R29, R34, R36, R47, R59, R61, R68, R89, R104, R341, R485.) -/
def Obligations.FrameTableAnswersAccesses : Prop :=
  ∀ (d : Dev) (r : Req), r.op = .rd ∨ r.op = .rdNa ∨ r.op = .wr ∨ r.op = .wrm ∨ (∃ k, r.op = .atom k) →
    let f := frameOfLine r.line
    let w := isWrite r.op
    (d.isHole f = true → d.lookup r = d.answer r (.error 1 0)) ∧
    (d.isHole f = false → d.isDraining f = true → d.lookup r = d.answer r (.retry 100)) ∧
    (d.isHole f = false → d.isDraining f = false → d.isLost f = true → d.lookup r = d.answer r (if w then .error 4 1 else .poison)) ∧
    (d.isHole f = false → d.isDraining f = false → d.isLost f = false → d.pairJudge r w = .serve →
      (d.findWay f = none → d.isBorn f = false → w = false → d.lookup r = d.answer r (.data 0 0)) ∧
      (∀ h tag, r.org = .host h tag → r.op = .wrm → r.mask = 0 → d.stranded f = false →
        let c := d.modEntry f (fun e => { e with age := 0 })
        d.lookup r = if d.earlierLive r then c.hold r .order else c.answer r .ack) ∧
      (∀ k h tag, d.findWay f = some k → r.org = .host h tag →
        let sec := sectorOfLine r.line
        let e : Entry := { d.way k with age := 0, cls := if w then r.cls else (d.way k).cls }
        let c := d.setWay k e
        let q : Req := { r with shaft := e.shaft, sline := e.slot * 8192 + r.line % 8192 }
        let free := d.haul.zfills.find? (fun z => z.frame == f && z.sector == sec) = none
        (w = false → free → e.sec sec = secZERO → d.lookup r = c.answer r (.data 0 0)) ∧
        (d.shaftSt e.shaft ≠ stFAILED → free →
          (w = false → e.sec sec = secCLEAN ∨ e.sec sec = secDIRTY → d.lookup r = c.sendShaft q) ∧
          (w = true → emptyMask r = false →
            (e.sec sec = secCLEAN ∨ e.sec sec = secDIRTY →
              d.lookup r = (((c.setWay k (e.setSec sec secDIRTY)).redirty f sec).sendShaft q).moveWrite q) ∧
            (e.sec sec = secZERO → d.moving f = none → d.shaftShut e.shaft = none →
              let z : Req := { q with id := d.nextId, org := .zfillFor d.nextId, op := .zfill, sline := q.sline / 64 * 64 }
              d.lookup r = ((c.modHaul (fun p => { p with zfills := p.zfills ++ [⟨d.nextId, f, sec, z, [q], none⟩] })).fresh).sendShaft z)))))

/-- FILL_LINE_ARRIVAL: the oldest line come in on its port enters its buffer, the accesses that wait for it are carried out in order, and with
the 64th the lines go to the slot; an error fails the fill. FILL_COMMIT with every line sent acknowledged makes the sector DIRTY where a
write was merged and else CLEAN, frees the buffer, counts it, answers the merged writes and samples class 60; with fewer the
acknowledgements are kept; a dropped fill that has its lines only frees its buffer. FILL_ABANDON of a failed fill frees the buffer,
answers waiting reads with poison and writes with NACK_RETRY, and writes the record. WRITEBACK_CAPTURE puts the 64 lines into the buffer
and sends them to far memory. WRITEBACK_COMMIT, all 64 acknowledged and none failed, frees the buffer, makes a sector not written again
CLEAN (of a first write-back with its frame), answers the FLUSHes that waited for it and counts it; WRITEBACK_CPL_ERROR of a failed one
frees the buffer, marks the port where a line write failed, and writes the record. BLOCK_MARK_EXPIRY ends the mark. Without a buffer to
act on nothing changes. (Derived from R45, R56, R57, R58, R59, R67.) -/
def Obligations.FillsAndWriteBacks : Prop :=
  ∀ (s : State),
    let d := s.dev
    (∀ (f : Fin 4),
      (d.haul.farArrived.find? (fun y => y.1 == f.val) = none → exec (.fillLineArrival f) s = .next s) ∧
      (∀ x i l res, d.haul.farArrived.find? (fun y => y.1 == f.val) = some x → x.2 = (i, l, res) →
        let c := d.modHaul (fun p => { p with farArrived := dropFirst (fun y => y == x) p.farArrived })
        (d.fill i = none → exec (.fillLineArrival f) s = .next (s.put c)) ∧
        (∀ b, d.fill i = some b →
          (∀ y bad, res = .data y bad ∨ (res = .poison ∧ y = 0 ∧ bad = poisonBad) →
            let g : Fill := { b.setLine l y bad with got := b.got ++ [l], ops := b.ops.filter (fun r => r.line % 64 != l) }
            let t := (b.ops.filter (fun r => r.line % 64 == l)).foldl (fun u r => u.fillOp i r) (c.setFill i (some g))
            exec (.fillLineArrival f) s = .next (s.put (if g.got.length = 64 ∧ b.drop = false then
              (List.range 64).foldl (fun u j => u.fillPut i j) (t.setFill i ((t.fill i).map (fun b => { b with sent := true }))) else t))) ∧
          ((∀ y bad, res ≠ .data y bad) → res ≠ .poison →
            exec (.fillLineArrival f) s = .next (s.put (c.setFill i (some { b with failed := true }))))))) ∧
    (∀ (i : Fin 512) (ns : Nat),
      (d.fill i = none → exec (.fillCommit i ns) s = .next s ∧ exec (.fillAbandon i) s = .next s) ∧
      (∀ b, d.fill i = some b →
        (b.drop = true → exec (.fillCommit i ns) s = .next (s.put (if b.got.length = 64 then
          b.writes.foldl (fun t w => t.answer w.1 (.retry 100)) (d.setFill i none) else d))) ∧
        (b.drop = false →
          let n := b.acks + (d.answers.filter (fun x => x.1 == Origin.fill i && x.2 == .ack)).length
          let c : Dev := { d with answers := d.answers.filter (fun x => !(x.1 == Origin.fill i && x.2 == .ack)) }
          let e := ((c.modEntry b.frame (fun e => e.setSec b.sector (if b.dirty then secDIRTY else secCLEAN))).setFill i none).settleBusy b.frame
          (n < b.need → exec (.fillCommit i ns) s = .next (s.put (c.setFill i (some { b with acks := n })))) ∧
          (b.need ≤ n → exec (.fillCommit i ns) s = .next (s.put
            ((b.writes.foldl (fun t w => t.finish w.1 w.2) (e.bump Reg.HAULAGE_CNT_FILL_VALUE)).sample 60 ns)))) ∧
        (b.failed = false → d.nacked (.fill i) = false → exec (.fillAbandon i) s = .next s) ∧
        (b.failed = true ∨ d.nacked (.fill i) = true →
          let c := (((d.setFill i none).disown (.fill i)).forgetFar (isFillOrg i)).modHaul (fun p => { p with
            farArrived := p.farArrived.filter (fun x => x.2.1 != i.val) })
          exec (.fillAbandon i) s = .next (s.put ((((b.writes.map (·.1) ++ b.ops).foldl
            (fun t r => t.answer r (if isWrite r.op then .retry 100 else .poison)) c).settleBusy b.frame).record hauPage 0x102 3
              [b.frame, b.sector, b.port, 0]))))) ∧
    (∀ (i : Fin 128) (ns : Nat),
      (d.wback i = none → exec (.writebackCapture i) s = .next s ∧ exec (.writebackCommit i ns) s = .next s ∧
        exec (.writebackCplError i) s = .next s) ∧
      (∀ w, d.wback i = some w →
        (w.captured = true ∨ d.takeAnswer (.wback i) = none → exec (.writebackCapture i) s = .next s) ∧
        (∀ res t, w.captured = false → d.takeAnswer (.wback i) = some (res, t) →
          (∀ ls, res = .lines ls → exec (.writebackCapture i) s = .next (s.put ((List.range 64).foldl (fun u l =>
            u.farIssue w.port (.wback i l) true (t.farLineOf (w.frame * 8192 + w.sector * 64) + l) (ls.getD l (0, 0)).1 (ls.getD l (0, 0)).2)
            (t.setWback i (some { w with lines := ls, captured := true }))))) ∧
          ((∀ ls, res ≠ .lines ls) → exec (.writebackCapture i) s = .next (s.put (t.setWback i (some { w with failed := true }))))) ∧
        (w.acks < 64 ∨ w.failed = true → exec (.writebackCommit i ns) s = .next s) ∧
        (64 ≤ w.acks → w.failed = false →
          let whole := (d.jobOf w.frame).any (fun j => j.whole)
          let b := d.setWback i none
          let c := if whole = true ∨ w.redirty = true then b
            else b.modEntry w.frame (fun e => if e.sec w.sector == secDIRTY then e.setSec w.sector secCLEAN else e)
          let e := (c.jobDone w true).settleBusy w.frame
          let again := (e.jobOf w.frame).any (fun j => j.todo.contains w.sector)
          exec (.writebackCommit i ns) s = .next (s.put ((((if whole = true ∨ again = true then e else e.settleFlush w.frame w.sector).bump
            Reg.HAULAGE_CNT_WBACK_VALUE).sample 61 ns).pump))) ∧
        (w.failed = false → exec (.writebackCplError i) s = .next s) ∧
        (w.failed = true →
          let c := (d.setWback i none).modHaul (fun p => { p with
            marks := if w.captured then Nat.lor p.marks (2 ^ w.port) else p.marks,
            shoots := p.shoots.filter (fun h => !(h.sector.isSome && h.wb == i.val)) })
          exec (.writebackCplError i) s = .next (s.put
            ((((((c.disown (.wback i)).forgetFar (isWbackOrg i)).jobDone w false).settleBusy w.frame).noteBlocked).record
              hauPage 0x102 3 [w.frame, w.sector, w.port, 1]))))) ∧
    (∀ f : Fin 4, exec (.blockMarkExpiry f) s = .next (s.put
      ((d.modHaul (fun p => { p with marks := if bitN p.marks f then p.marks - 2 ^ f.val else p.marks })).noteBlocked).pump))

/-- EVICTION_STEP: an eviction whose frame has DIRTY sectors writes them back; with nothing to write, no job and no mirror copy waiting it
sends the shootdown; once that has ended, with a quiet slot, the entry is freed; a frame written meanwhile goes back, three times at most,
and then another victim of its set is taken; a release only waits for its shootdown and its slot. SHOOTDOWN and WRITE_REVOKE make the
engine drop the frame's entry, or the WRITABLE bit of its sector, and acknowledge once no access of it to the slot is under way;
SHOOTDOWN_ACK completes what every collar port has acknowledged, and a completed revoke lets the capture be read. AGE_PERIOD raises every
valid AGE by 1 up to 255; USED_FRAME_REPORT gives the frames an engine used AGE 0, and those a job wrote its class. PRECLEAN writes back
the victim of a full set short of clean ways; GLOBAL_EVICTION starts below FREE_CTL.LOW, evicts the victim of the next set, and ends at
LOW + 256; RESERVED_SLOT_MOVE gives a pending reserved slot its new place, or evicts a frame for it. (Derived from R37, R40, R60, R61,
R62, R63, R64, R66, R74, R231.) -/
def Obligations.EvictionsShootdownsAndAges : Prop :=
  ∀ (s : State),
    let d := s.dev
    (∀ (frame : BitVec 26),
      let f := frame.toNat
      let shooting := d.haul.shoots.any (fun h => h.frame == f && h.sector.isNone)
      (d.haul.evicts.find? (fun x => x.frame == f) = none → exec (.evictionStep frame) s = .next s) ∧
      (∀ x, d.haul.evicts.find? (fun x => x.frame == f) = some x →
        let set := fun (y : Evict) => d.modHaul (fun p => { p with evicts := p.evicts.map (fun z => if z == x then y else z) })
        (x.release = true → exec (.evictionStep frame) s = .next (s.put
          (if shooting = true ∨ d.slotQuiet x.shaft x.slot = false then d else d.freeEvicted x))) ∧
        (x.release = false → d.entry f = none → exec (.evictionStep frame) s = .next (s.put (d.freeEvicted x))) ∧
        (∀ e, x.release = false → d.entry f = some e →
          (x.step = 2 → exec (.evictionStep frame) s = .next (s.put (
            if (d.jobOf f).isSome = true ∨ d.mirrorPending f = true then d
            else if e.needsWb = true then d.addJob f e.dirties .evict
            else (set { x with step := 3 }).sendShoot f none 0))) ∧
          (x.step ≠ 2 → shooting = true → exec (.evictionStep frame) s = .next s) ∧
          (x.step ≠ 2 → shooting = false → e.needsWb = true → x.repeats < 3 →
            exec (.evictionStep frame) s = .next (s.put ((set { x with step := 2, repeats := x.repeats + 1 }).addJob f e.dirties .evict))) ∧
          (x.step ≠ 2 → shooting = false → e.needsWb = true → 3 ≤ x.repeats →
            let t := (d.modHaul (fun p => { p with evicts := p.evicts.filter (fun z => z != x) })).settleBusy x.frame
            exec (.evictionStep frame) s = .next (s.put (
              if d.isDraining x.frame = true ∨ d.shaftSt x.shaft = stEVACUATING then t
              else match t.victim (setOf x.frame) (fun k => t.frameOfWay k != x.frame) with
                | some k => t.startEvict (t.frameOfWay k)
                | none => t))) ∧
          (x.step ≠ 2 → shooting = false → e.needsWb = false → exec (.evictionStep frame) s = .next (s.put
            (if d.slotQuiet e.shaft e.slot = true then d.freeEvicted x else d)))))) ∧
    (∀ (n : Fin 48) (revoke : Bool),
      let i : Instr := if revoke then .writeRevoke n else .shootdown n
      let next := d.haul.shoots.find? (fun h => h.waiting.contains n.val && h.sector.isSome == revoke)
      (next = none → exec i s = .next s) ∧
      (∀ h, next = some h →
        let c := d.modEng n (fun g => { g with fcache := match h.sector with
          | none => g.fcache.filter (fun x => x.frame != h.frame)
          | some i => g.fcache.map (fun x => if x.frame == h.frame then
              { x with writable := x.writable &&& (BitVec.allOnes 128 ^^^ BitVec.ofNat 128 (2 ^ i)) } else x) })
        exec i s = .next (s.put (if c.engBusyOn n h.frame h.sector = true then c else
          ((c.bump Reg.ENGINE_CNT_SHOOTDOWN_VALUE n).countCell (0x10 + n.val) 0x48 1).modHaul (fun p => { p with
            shoots := p.shoots.map (fun k => if k == h then { k with waiting := k.waiting.filter (· != n.val) } else k) }))))) ∧
    (∀ frame : BitVec 26,
      let done := d.haul.shoots.filter (fun h => h.frame == frame.toNat && h.waiting.isEmpty)
      let c := d.modHaul (fun p => { p with shoots := p.shoots.filter (fun h => !(h.frame == frame.toNat && h.waiting.isEmpty)) })
      exec (.shootdownAck frame) s = .next (s.put (done.foldl (fun t h => if h.sector.isSome = true then
        (match t.wback h.wb with
          | none => t
          | some w => match t.entry w.frame with
            | none => t.setWback h.wb (some { w with failed := true })
            | some e => (t.sendShaft { id := t.nextId, org := .wback h.wb, op := .capture, cls := 61,
                                       line := w.frame * 8192 + w.sector * 64, shaft := e.shaft, sline := e.slot * 8192 + w.sector * 64 }).fresh)
        else t) c))) ∧
    exec .agePeriod s = .next (s.put (d.modSpace (fun p => { p with
      ways := p.ways.map (fun x => (x.1, { x.2 with age := if x.2.valid then min 255 (x.2.age + 1) else x.2.age })) }))) ∧
    (∀ n : Fin 48, exec (.usedFrameReport n) s = .next (s.put
      ((((d.eng n).fcache.filter (fun x => x.used)).foldl (fun t x => t.modEntry x.frame (fun e =>
        { e with age := 0, cls := x.cls.getD e.cls })) d).modEng n
        (fun g => { g with fcache := g.fcache.map (fun x => { x with used := false }) })))) ∧
    (∀ (set : BitVec 15),
      let ways := (List.range 18).map (wayKey set.toNat)
      let clean := (ways.filter (fun k => d.evictable k && (d.way k).dcount == 0)).length
      let idle := d.workStops = true ∨ d.haulServes = false ∨ d.fb Reg.HAULAGE_FREE_CTL_PRECLEAN = false ∨
        ways.all (fun k => (d.way k).valid) = false ∨ 2 ≤ clean ∨ 96 < d.haul.wbacks.length
      (idle → exec (.preclean set) s = .next s) ∧
      (¬ idle → exec (.preclean set) s = .next (s.put (match d.victim set.toNat (fun k => (d.way k).dcount != 0) with
        | some k => d.addJob (d.frameOfWay k) (d.way k).dirties .preclean
        | none => d)))) ∧
    (d.workStops = true ∨ d.haulServes = false → exec .globalEviction s = .next s) ∧
    (d.workStops = false → d.haulServes = true →
      let low := d.fv Reg.HAULAGE_FREE_CTL_LOW
      let b := if d.haul.geOn = false ∧ d.freeSlots < low then
        (d.modHaul (fun p => { p with geOn := true })).raise hauPage Reg.EV_HAULAGE_FREE_LOW else d
      let c := b.modHaul (fun p => { p with gePtr := (p.gePtr + 1) % 32768 })
      exec .globalEviction s = .next (s.put (if b.haul.geOn = false then b
        else if low + 256 ≤ d.freeSlots then b.modHaul (fun p => { p with geOn := false })
        else match c.victim d.haul.gePtr (fun _ => true) with
          | some k => c.startEvict (c.frameOfWay k)
          | none => c))) ∧
    (∀ (i : Fin 64),
      (d.space.resvPend.contains i.val = false ∨ d.haulServes = false → exec (.reservedSlotMove i) s = .next s) ∧
      (∀ n k, d.space.resvPend.contains i.val = true → d.haulServes = true → d.space.resv.getD i (0, 0) = (n, k) →
        (∀ m slot t, d.mostFree (fun m => m != n) = some m → d.takeSlot m = some (slot, t) →
          exec (.reservedSlotMove i) s = .next (s.put ((t.modSpace (fun p => { p with
            resv := setAt p.resv i (m, slot), resvPend := p.resvPend.filter (· != i.val) })).giveSlot n k))) ∧
        (d.mostFree (fun m => m != n) = none → exec (.reservedSlotMove i) s = .next (s.put (
          if d.haul.evicts.any (fun x => !x.release) = true then d
          else match d.resvVictim n with
            | some w => d.startEvict (d.frameOfWay w)
            | none => d)))))

/-- MOVE_START, while background work runs and haulage serves: an evacuating shaft's next frame is taken up where no move waits; the first
waiting move that can go takes a free channel: a resident frame with a slot of an ONLINE target begins its copy, one not resident is
allocated there, one that cannot be moved ends with its REASON. MOVE_COPY_END lets the copy go on, and once every line read has been
written and acknowledged sends the shootdown. MOVE_COMMIT of a copied move whose shootdown has ended and whose slots are quiet makes the
entry name the new slot, frees the old one and counts the move; MOVE_ABANDON of a move that cannot go on gives the destination up, at once
where it is quiet. TABLE_WALK of the next set judges its 18 ways and goes on. DRAIN_END of a drain with no frame left ends it with
DRAIN_DONE, the window enabled or disabled; with frames left it goes on. WALK_END after the last set ends the walk, and haulage and a
waiting dispatcher serve again. (Derived from R29, R46, R65, R68, R69, R70, R74, R76, R123, R370, R412.) -/
def Obligations.MovesDrainsAndWalks : Prop :=
  ∀ (s : State),
    let d := s.dev
    (d.workStops = true ∨ d.haulServes = false → exec .moveStart s = .next s) ∧
    (d.workStops = false → d.haulServes = true →
      let b := match (List.range 48).find? (fun n => d.shaftSt n == stEVACUATING && (d.evacNext n).isSome) with
        | some n => if d.haul.moveQ.isEmpty then d.evacStep n else d
        | none => d
      let next := b.haul.moveQ.find? (fun q => !(((b.entry q.1).map (·.busy)).getD false) && !(b.mirrorPending q.1) &&
        !(b.haul.zfills.any (fun z => z.frame == q.1)))
      let free := (List.range (b.fv Reg.HAULAGE_MOVE_CTL_MAX_MOVES)).find? (fun c => (b.mv c).isNone)
      (next = none ∨ free = none → exec .moveStart s = .next (s.put b)) ∧
      (∀ f n cause ch, next = some (f, n, cause) → free = some ch →
        let c := b.modHaul (fun p => { p with moveQ := dropFirst (fun y => y == (f, n, cause)) p.moveQ })
        (∀ why, c.moveBar f = some why → exec .moveStart s = .next (s.put (c.moveEnd cause false why))) ∧
        (c.moveBar f = none → c.entry f = none → exec .moveStart s = .next (s.put (
          if cause = .evac then c
          else if c.shaftUp n = false then c.moveEnd cause false 3
          else match c.allocate f (match cause with
              | .hint k => k
              | _ => 61) bornEntry (fun m => m == n) with
            | .inl .victim => c.moveEnd cause false 7
            | .inl _ => c.moveEnd cause false 4
            | .inr (_, t) => t.moveEnd cause true 0))) ∧
        (∀ e, c.moveBar f = none → c.entry f = some e →
          (e.shaft = n → exec .moveStart s = .next (s.put (c.moveEnd cause true 0))) ∧
          (e.shaft ≠ n → c.shaftUp n = false → exec .moveStart s = .next (s.put (c.moveEnd cause false 3))) ∧
          (e.shaft ≠ n → c.shaftUp n = true → unreadable (c.shaftSt e.shaft) = true →
            exec .moveStart s = .next (s.put (c.moveEnd cause false 6))) ∧
          (e.shaft ≠ n → c.shaftUp n = true → unreadable (c.shaftSt e.shaft) = false →
            (c.takeSlot n = none → exec .moveStart s = .next (s.put (c.moveEnd cause false 4))) ∧
            (∀ slot t, c.takeSlot n = some (slot, t) →
              let m : Mv := { frame := f, target := n, srcShaft := e.shaft, srcSlot := e.slot, dstSlot := slot, step := 3, cause := cause,
                              id := t.nextId }
              exec .moveStart s = .next (s.put ((((t.setMv ch (some m)).fresh).modEntry f (fun e => { e with busy := true, age := 0 })).moveRead
                ch))))))) ∧
    (∀ (ch : Fin 4),
      let c := d.moveRead ch
      (c.mv ch = none → exec (.moveCopyEnd ch) s = .next (s.put c)) ∧
      (∀ m, c.mv ch = some m → exec (.moveCopyEnd ch) s = .next (s.put (
        if m.step = 3 ∧ m.failed = 0 ∧ 8192 ≤ m.next ∧ m.out = [] ∧ m.again = [] ∧ m.wr = 0
        then (c.setMv ch (some { m with step := 4 })).sendShoot m.frame none 0 else c)))) ∧
    (∀ (ch : Fin 4), d.mv ch = none → exec (.moveCommit ch) s = .next s ∧ exec (.moveAbandon ch) s = .next s) ∧
    (∀ (ch : Fin 4) m, d.mv ch = some m →
      let ready := m.step = 4 ∧ m.failed = 0 ∧ d.haul.shoots.any (fun h => h.frame == m.frame) = false ∧
        d.slotQuiet m.srcShaft m.srcSlot = true ∧ d.slotQuiet m.target m.dstSlot = true ∧ unreadable (d.shaftSt m.srcShaft) = false
      (¬ ready → exec (.moveCommit ch) s = .next s) ∧
      (ready →
        let c := (d.setMv ch none).modEntry m.frame (fun e => { e with shaft := m.target, slot := m.dstSlot })
        exec (.moveCommit ch) s = .next (s.put
          ((((c.giveSlot m.srcShaft m.srcSlot).settleBusy m.frame).bump Reg.HAULAGE_CNT_MOVE_VALUE).moveEnd m.cause true 0))) ∧
      (d.moveFail m = none → exec (.moveAbandon ch) s = .next s) ∧
      (∀ why, d.moveFail m = some why →
        let b := d.setMv ch none
        let c : Dev := { b with fabric := { b.fabric with voq := b.fabric.voq.filter (fun c => c.req.org != Origin.move m.id) } }
        let e := if c.slotQuiet m.target m.dstSlot = true then c.giveSlot m.target m.dstSlot
          else c.modHaul (fun p => { p with evicts := p.evicts ++ [⟨m.frame, 3, 0, true, m.target, m.dstSlot⟩] })
        exec (.moveAbandon ch) s = .next (s.put ((e.settleBusy m.frame).moveEnd m.cause false why)))) ∧
    (∀ (set : BitVec 15) bad,
      (d.space.walking = false ∨ set.toNat ≠ d.space.walkFrom → exec (.tableWalk set bad) s = .next s) ∧
      (d.space.walking = true → set.toNat = d.space.walkFrom →
        let c := bad.foldl (fun t b => t.upset (wayKey set.toNat b.1.val) (upsetOf b.2)) d
        exec (.tableWalk set bad) s = .next (s.put
          (((List.range 18).foldl (fun t w => t.walkWay (wayKey set.toNat w)) c).modSpace (fun p => { p with walkFrom := p.walkFrom + 1 }))))) ∧
    (∀ (win : Fin 80),
      (d.space.drains.find? (fun y => y.win == win.val) = none → exec (.drainEnd win) s = .next s) ∧
      (∀ x, d.space.drains.find? (fun y => y.win == win.val) = some x →
        ((∃ p ∈ x.parts, d.framesIn p.lo p.hi ≠ []) → exec (.drainEnd win) s = .next (s.put (d.drainKick x))) ∧
        ((∀ p ∈ x.parts, d.framesIn p.lo p.hi = []) →
          let c := d.modSpace (fun p => { p with
            drains := (p.drains.filter (fun y => y.win != win.val)).map (fun y => if x.enable then y.less x.parts else y),
            born := x.parts.foldl (fun b q => idel b q.lo q.hi) p.born,
            lost := p.lost.filter (fun f => !(x.parts.any (fun q => q.lo ≤ f && f ≤ q.hi))) })
          let e := winSetDraining c win 0
          exec (.drainEnd win) s = .next (s.put (((if x.enable then e.enableRow win else winSetEn e win 0).setOverlaps.setSoTotal).raise
            hauPage Reg.EV_HAULAGE_DRAIN_DONE))))) ∧
    (d.space.walking = true → 32768 ≤ d.space.walkFrom →
      let w := d.walkEnd
      let u := if w.ust hauPage = stKINDLING then w.enter hauPage stONLINE else w
      let v := if u.ust dispPage = stKINDLING ∧ u.ks.gdr = none ∧ u.mode ≠ mdKINDLE then (u.enter dispPage stONLINE).ringsPump else u
      w.space.walking = false ∧ exec .walkEnd s = .next (s.put (v.space.drains.foldl (fun t x => t.drainKick x) v))) ∧
    (d.space.walking = false ∨ d.space.walkFrom < 32768 → exec .walkEnd s = .next s)

/-- COMMAND_ISSUE without REFCLK, or at a shaft whose controller is not clocked, issues nothing. Else it counts the CK, takes work as space
frees, answers reads from full writes in the buffer, and issues: the next command of a replay once ALERT_N is high again and it is legal;
else the command that is due; else, for some piece of work that wants the cells, its bank not held for a refresh, its column command where
the row is open and the command legal, an ACT where the bank is closed and an ACT legal, or the PRE of a row that has had its hits or is
to be re-sensed, where that is legal; no column command that could go has a greater key. With none of these a row that has been idle is
closed, or nothing is issued. ROW_IDLE_EXPIRY closes a bank whose open row no work wants when nothing else goes, and else notes it.
REFRESH_SLOT makes the next bank's REFpb and the oldest queued RFM due. REFRESH_RATE_LOWER takes the lower rate; TEMP_STALE sets the bit,
raises the event and shows the rate. (Derived from R16, R164, R165, R168, R169, R170, R173, R174, R175, R177, R178, R412.) -/
def Obligations.ShaftControllersIssueCommands : Prop :=
  ∀ (s : State) (n : Fin 48),
    let d := s.dev
    let p := d.shaft n
    let b := d.fencedSR n
    let fin := fun (t : Dev) => s.put (((t.parkTry n).tripSR n).rekindleNow)
    (d.pins.refclk = false → exec (.commandIssue n) s = .next (s.put d.rekindleNow)) ∧
    (d.pins.refclk = true → b.ckRuns n = false → exec (.commandIssue n) s = .next (s.put b.rekindleNow)) ∧
    (d.pins.refclk = true → b.ckRuns n = true →
      let c := ((b.modShaft n (fun p => { p with ck := p.ck + 1 })).cleanCmd n).colStep n
      let e := if c.mayTake n then (c.modShaft n (fun p => { p with first := false })).intake n
        else if c.freqBusy n then c.takeRepair n else c
      let a := (e.serveBuffered n).noteDrain n
      (∀ x l, (a.shaft n).replay = x :: l →
        ((a.shaft n).ck < (a.shaft n).replayAt ∨ a.replayLegal n x.cmd = false → exec (.commandIssue n) s = .next (fin a)) ∧
        ((a.shaft n).replayAt ≤ (a.shaft n).ck → a.replayLegal n x.cmd = true →
          exec (.commandIssue n) s = .next (fin ((a.modShaft n (fun p => { p with replay := l })).reissue n x)))) ∧
      ((a.shaft n).replay = [] → ∀ t, a.dueCmd n = some t → exec (.commandIssue n) s = .next (fin t)) ∧
      ((a.shaft n).replay = [] → a.dueCmd n = none → a.accessCmd n = none →
        exec (.commandIssue n) s = .next (fin ((a.idleCmd n).getD a))) ∧
      ((a.shaft n).replay = [] → a.dueCmd n = none → a.accessCmd n ≠ none →
        let ws := if (a.shaft n).freq.isSome then (a.shaft n).wants.filter Want.quiesces else (a.shaft n).wants
        let kd := ws.map (fun w => (w, a.wantKey n w))
        ∃ w ∈ ws, (a.shaft n).bankHeld (bankOf w.line) = false ∧
          (∀ v ∈ ws, a.nextOf n kd v (a.wantKey n v) = some .col →
            (v.isAgain = true ∨ ∀ u ∈ ws, u.isAgain = true → bankOf u.line ≠ bankOf v.line) → a.wantKey n v ≤ a.wantKey n w) ∧
          (((a.bank n (bankOf w.line)).row = some (rowOf w.line) ∧ a.colLegal n (bankOf w.line) w.isW = true ∧
              exec (.commandIssue n) s = .next (fin (a.doCol n w))) ∨
           ((a.bank n (bankOf w.line)).row = none ∧ a.actLegal n (bankOf w.line) = true ∧
              exec (.commandIssue n) s = .next (fin ((a.markShut n w).doAct n (bankOf w.line) (rowOf w.line)))) ∨
           (∃ r, (a.bank n (bankOf w.line)).row = some r ∧ a.preLegal n (bankOf w.line) = true ∧
              ((r ≠ rowOf w.line ∧ a.fv Reg.SHAFT_SCHED_CTL_ROW_HIT_MAX n ≤ (a.bank n (bankOf w.line)).hits) ∨
               (∃ f, w = .again f ∧ f.stage = 3 ∧ f.shut = false)) ∧
              exec (.commandIssue n) s = .next (fin ((a.markShut n w).doPre n (bankOf w.line))))))) ∧
    (∀ b : Fin 32,
      let idle := d.preLegal n b = true ∧ p.replay = [] ∧ d.dueCmd n = none ∧ d.accessCmd n = none
      ((d.bank n b).row = none ∨ d.rowWanted n b = true → exec (.rowIdleExpiry n b) s = .next s) ∧
      ((d.bank n b).row ≠ none → d.rowWanted n b = false → idle → exec (.rowIdleExpiry n b) s = .next (s.put (d.doPre n b))) ∧
      ((d.bank n b).row ≠ none → d.rowWanted n b = false → ¬ idle → exec (.rowIdleExpiry n b) s = .next (s.put
        (d.modShaft n (fun p => { p with idleDue := p.idleDue.filter (· != b.val) ++ [b.val] }))))) ∧
    (d.refreshes n = false → exec (.refreshSlot n) s = .next s) ∧
    (d.refreshes n = true →
      let all := d.fb Reg.SHAFT_REF_CTL_ALL_BANK n || p.subst
      exec (.refreshSlot n) s = .next (s.put ((d.modShaft n (fun p => { p with
        rfmQ := p.rfmQ.tail, rfmDue := p.rfmDue ++ p.rfmQ.take 1,
        refAll := p.refAll || (all && p.slotBank == 0),
        refDue := if all then p.refDue else p.refDue ++ [p.slotBank],
        slotBank := (p.slotBank + 1) % 32 })).showRfm n))) ∧
    (p.lowering = none ∨ p.temp = none → exec (.refreshRateLower n) s = .next s) ∧
    (∀ r t, p.lowering = some r → p.temp = some t → exec (.refreshRateLower n) s = .next (s.put
      ((d.modShaft n (fun p => { p with
        rate := r, lowering := if rateBelow t < r then some (rateBelow t) else none })).showRate n))) ∧
    (d.fb Reg.SHAFT_STATUS_TEMP_STALE n = true → exec (.tempStale n) s = .next s) ∧
    (d.fb Reg.SHAFT_STATUS_TEMP_STALE n = false → exec (.tempStale n) s = .next (s.put
      ((((d.setF Reg.SHAFT_STATUS_TEMP_STALE 1 n).raise (shaftPage n) Reg.EV_SHAFT_TEMP_STALE).modShaft n
        (fun p => { p with lowering := none })).showRate n)))

/-- ALERT_N of a command in the retry buffer counts its cause and takes the banks back to before it; below three in a row the failing command
and all after it wait to be issued again, behind an MRR and 4 CK; at three the shaft is fenced, what it had to write kept.
AUTO_PARK_EXPIRY with nothing waiting parks an ONLINE shaft that is empty, once it is empty, or once a frequency change has ended.
PARKED_ACCESS_WAKE of a parked shaft with an access waiting wakes it, outside a trip, a change that waits running first. CEILING_CHANGE
starts a change to the point called for, notes it for a parked shaft, and waits for a running change. FREQ_CHANGE_STEP_END takes the steps
of R182, and R183 where one fails; step 1 waits for the quiesce, step 6 for the helper. FENCED_HOLD_TIMEOUT gives the oldest held request
NACK_RETRY, 100 µs. SHAFT_FAILED of a shaft that is up ends its work, loses the frames of its write buffer and of lent training rows, and
is recorded; of one that is DARK, FAILED, OFFLINE or RESETTING it changes nothing. (Derived from R16, R165, R178, R179, R180, R182, R183,
R184, R185, R197, R341, R342.) -/
def Obligations.ShaftsParkChangeSpeedAndFail : Prop :=
  ∀ (s : State) (n : Fin 48),
    let d := s.dev
    let p := d.shaft n
    let st := d.shaftSt n
    (∀ o : AlertObs,
      (p.retry.length ≤ o.pos.val ∨ d.inSR n = true → exec (.alertN n o) s = .next s) ∧
      (∀ c, d.inSR n = false → o.pos.val < p.retry.length → p.retry[p.retry.length - 1 - o.pos.val]? = some c →
        let i := p.retry.length - 1 - o.pos.val
        let clean := !p.alerted || (p.retry.take i).any (fun x => x.again)
        let old := d.fv Reg.SHAFT_ALERT_STATUS_CONSEC n
        let k := if p.probesCa then old else (if clean then 0 else old) + b2n c.again
        let e := ((((d.setF Reg.SHAFT_ALERT_STATUS_LAST_CAUSE (if o.data then 2 else 1) n).bump
          (if o.data then Reg.SHAFT_CNT_ALERT_WD_VALUE else Reg.SHAFT_CNT_ALERT_CA_VALUE) n).setF Reg.SHAFT_ALERT_STATUS_CONSEC (min 3 k) n).modShaft n
          (fun p => { p with alerted := true, banks := c.was }))
        let lost := (p.retry.drop i).filter (fun x => x.cmd != .mrr) ++ p.replay.filter (fun x => x.cmd != .mrr)
        let reads := lost.filterMap (·.read)
        (3 ≤ k → exec (.alertN n o) s = .next (s.put
          (let f := ((e.enter (shaftPage n) stFENCED).raiseRec (shaftPage n) Reg.EV_SHAFT_ALERT_FENCE sevWARNING []).modShaft n
            (fun p => { p.endReplay lost with alertFenced := true, first := true, freq := none, parking := false, parkHeld := false });
           let g := (f.setF Reg.SHAFT_STATUS_FREQ_BUSY 0 n).setF Reg.SHAFT_FREQ_STATUS_BUSY 0 n;
           if o.sreFails.val < 3 then g.enterSR n else g.failShaft n))) ∧
        (k < 3 → exec (.alertN n o) s = .next (s.put ((e.bump Reg.SHAFT_CNT_REPLAY_VALUE n).modShaft n (fun q => { q with
          retry := (p.retry.take i).map (fun x => { x with again := false, old := true }),
          replay := { c with cmd := .mrr, read := none, wd := none } :: lost,
          replayAt := p.ck + 4,
          fly := p.fly.map (fun f => if reads.contains (f.req.id, f.idx) && f.wait == 0 && f.stage ≤ 3 then { f with wait := 2 } else f) })))))) ∧
    (d.fb Reg.SHAFT_PARK_CTL_AUTO n = false ∨ p.collar ≠ [] ∨ p.localq ≠ [] ∨ st ≠ stONLINE ∨ d.isParked n = true →
      exec (.autoParkExpiry n) s = .next s) ∧
    (d.fb Reg.SHAFT_PARK_CTL_AUTO n = true → p.collar = [] → p.localq = [] → st = stONLINE → d.isParked n = false →
      (p.freq ≠ none → exec (.autoParkExpiry n) s = .next (s.put (d.modShaft n (fun q => { q with parkHeld := true })))) ∧
      (p.freq = none → p.empty = false → exec (.autoParkExpiry n) s = .next (s.put (d.modShaft n (fun q => { q with parking := true })))) ∧
      (p.freq = none → p.empty = true →
        let c := ((d.modShaft n (fun q => { q with parking := true })).enterSR n).modShaft n (fun q => { q with parking := false })
        exec (.autoParkExpiry n) s = .next (s.put (((c.setF Reg.SHAFT_STATUS_PARKED 1 n).bump Reg.SHAFT_CNT_PARK_VALUE n).wlTrigger)))) ∧
    (p.collar = [] ∧ p.localq = [] ∨ d.fb Reg.HEAT_STATUS_TRIPPED = true ∨ d.isParked n = false ∨ d.pins.refclk = false →
      exec (.parkedAccessWake n) s = .next s) ∧
    (p.collar ≠ [] ∨ p.localq ≠ [] → d.fb Reg.HEAT_STATUS_TRIPPED = false → d.isParked n = true → d.pins.refclk = true →
      let e := ((d.setF Reg.SHAFT_STATUS_PARKED 0 n).wlTrigger).modShaft n (fun q => { q with changeOnWake := false })
      (p.changeOnWake = false ∨ d.wantPoint n = d.point n → exec (.parkedAccessWake n) s = .next (s.put (e.exitSR n))) ∧
      (p.changeOnWake = true → d.wantPoint n ≠ d.point n → exec (.parkedAccessWake n) s = .next (s.put
        ((((e.autoChange n).setF Reg.SHAFT_STATUS_FREQ_BUSY 1 n).setF Reg.SHAFT_FREQ_STATUS_BUSY 1 n).modShaft n (fun p =>
          { p with freq := p.freq.map (fun c => { c with step := 3 }) }))))) ∧
    (d.wantPoint n = d.point n ∨ p.freq ≠ none → exec (.ceilingChange n) s = .next s) ∧
    (d.wantPoint n ≠ d.point n → p.freq = none →
      (d.isParked n = true → exec (.ceilingChange n) s = .next (s.put (d.modShaft n (fun q => { q with changeOnWake := true })))) ∧
      (d.isParked n = false → (st ≠ stONLINE ∧ st ≠ stEVACUATING) ∨ d.inSR n = true → exec (.ceilingChange n) s = .next s) ∧
      (d.isParked n = false → st = stONLINE ∨ st = stEVACUATING → d.inSR n = false →
        let e := if d.point n < d.wantPoint n ∨ d.idlePoint n ≠ d.wantPoint n then d.loadSet n (d.wantPoint n) else d
        exec (.ceilingChange n) s = .next (s.put (e.startChange n (d.wantPoint n) (e.shaft n).ceilBy)))) ∧
    (∀ (ok : Bool) (ns : Nat) (o : ShortObs),
      let go := fun (t : Dev) (c : FreqCh) => exec (.freqChangeStepEnd n ok ns o) s =
        .next (s.put (t.modShaft n (fun q => { q with freq := some c })))
      (p.freq = none ∨ d.pins.refclk = false → exec (.freqChangeStepEnd n ok ns o) s = .next s) ∧
      (∀ c0, p.freq = some c0 → d.pins.refclk = true →
        let c : FreqCh := { c0 with ns := c0.ns + ns }
        let lost := fun (t : Dev) => exec (.freqChangeStepEnd n ok ns o) s = .next (s.put
          ((((t.changeFail n).setF Reg.SHAFT_STATUS_SELF_REFRESH 1 n).changeEnd n { c with result := 4 }).failShaft n))
        let failed := d.shortRetrain n { o with ok := false }
        (c.step = 1 → p.quiesced = false → exec (.freqChangeStepEnd n ok ns o) s = .next s) ∧
        (c.step = 1 → p.quiesced = true →
          go (((d.issueRfms n).setF Reg.SHAFT_STATUS_FREQ_BUSY 1 n).setF Reg.SHAFT_FREQ_STATUS_BUSY 1 n) { c with step := 2 }) ∧
        (c.step = 2 → go (d.enterSR n) { c with step := if c.target = c.old then 4 else 3 }) ∧
        (c.step = 3 → ok = true → c.back = false → go d { c with step := 4 }) ∧
        (c.step = 3 → ok = true → c.back = true →
          go (if d.fv Reg.SHAFT_STATUS_ACTIVE_SET n = c.oldSet then d else d.flipSet n c.old) { c with step := 5 }) ∧
        (c.step = 3 → ok = false → c.back = false → go (d.changeFail n) { c with back := true, result := 2 }) ∧
        (c.step = 3 → ok = false → c.back = true → lost d) ∧
        (c.step = 4 → go (d.flipSet n c.target) { c with step := 5 }) ∧
        (c.step = 5 → go (d.exitSR n) { c with step := 6 }) ∧
        (c.step = 6 → d.helperTaken n = true → exec (.freqChangeStepEnd n ok ns o) s = .next s) ∧
        (c.step = 6 → d.helperTaken n = false → ok = true → o.ok = true →
          exec (.freqChangeStepEnd n ok ns o) s = .next (s.put ((d.shortRetrain n o).changeEnd n c))) ∧
        (c.step = 6 → d.helperTaken n = false → ok = false ∨ o.ok = false → c.back = true → lost failed) ∧
        (c.step = 6 → d.helperTaken n = false → ok = false ∨ o.ok = false → c.back = false →
          go ((failed.changeFail n).enterSR n) { c with back := true, result := 3, step := 3 }))) ∧
    (st ≠ stFENCED → st ≠ stTESTING → exec (.fencedHoldTimeout n) s = .next s) ∧
    (st = stFENCED ∨ st = stTESTING →
      let held := p.win.find? (fun w => !(fencedWork w.req) &&
        (!w.issued || p.fly.any (fun f => f.req.id == w.req.id && f.wait != 0 && f.stage == 0)))
      let outside := (p.collar.map (·.1) ++ p.localq).find? (fun r => !(fencedWork r))
      (∀ w, held = some w → exec (.fencedHoldTimeout n) s = .next (s.put ((d.modShaft n (fun p => { p with
        win := dropFirst (fun x => x == w) p.win, fly := p.fly.filter (fun f => f.req.id != w.req.id),
        units := p.units.filter (fun u => u.id != w.req.id || u.value.isSome) })).shaftAnswer n w.req (.retry 100)))) ∧
      (∀ r, held = none → outside = some r → exec (.fencedHoldTimeout n) s = .next (s.put ((d.modShaft n (fun p => { p with
        collar := dropFirst (fun x => x.1 == r) p.collar, localq := dropFirst (fun x => x == r) p.localq })).shaftAnswer n r (.retry 100)))) ∧
      (held = none → outside = none → exec (.fencedHoldTimeout n) s = .next s)) ∧
    (st = stDARK ∨ st = stFAILED ∨ st = stOFFLINE ∨ st = stRESETTING → exec (.shaftFailed n) s = .next s) ∧
    (st ≠ stDARK → st ≠ stFAILED → st ≠ stOFFLINE → st ≠ stRESETTING →
      let e := (d.enter (shaftPage n) stFAILED).closeShaft n stFAILED
      let lost := ((e.shaft n).wbuf.map (fun w => frameOfLine w.host)).filter (fun f => (e.entry f).any (fun x => x.shaft == n.val)) ++
        (if d.rowsLent n then (d.frameAt n 12287).toList else [])
      let c := (((e.cutHelper n).modShaft n (fun q => { q with
        wbuf := [], freq := none, parking := false, parkHeld := false, retry := [] })).setF Reg.SHAFT_STATUS_FREQ_BUSY 0 n).setF
        Reg.SHAFT_FREQ_STATUS_BUSY 0 n
      exec (.shaftFailed n) s = .next (s.put ((lost.foldl (fun t f => t.addLost f) c).record (shaftPage n) codeOTHER sevCRITICAL [])))

/-- Writing line l of shaft n under a byte mask leaves that line with the bytes written where the mask selects and its old bytes elsewhere,
and its parity with it; every other line of every shaft reads as before, data and parity; and the memories keep their canonical form.
(Derived from R161, R162, R165, R269, R272.) -/
def Obligations.DramLinesReadBackWhatWasWritten : Prop :=
  ∀ (d : Dev) (n l : Nat) (data : Line) (mask bad : BitVec 64), l < 100663296 →
    let e := d.dramWrite n l data mask bad
    e.dramLine n l = mergeLine (d.dramLine n l) data mask ∧
    e.dramBadOf n l = ((d.dramBadOf n l &&& ~~~mask) ||| (bad &&& mask)) ∧
    (∀ m k, k < 100663296 → (m ≠ n ∨ k ≠ l) → e.dramLine m k = d.dramLine m k ∧ e.dramBadOf m k = d.dramBadOf m k) ∧
    (d.memoriesWf = true → e.memoriesWf = true) ∧
    e.regs = d.regs ∧ e.engines = d.engines

/-- READ_DATA_RETURN of the burst whose data are next counts its words; the signature read without a fault is answered poisoned; good data
goes to its requester, from source 2 on written back; failing bytes take the read to the next source, a re-read by the scheduler, far
memory or the partner, and past the last it is poisoned. CORRECTION_SOURCE_TIMEOUT moves the oldest read of source 3 or 4 on, but in a
ground-die reset; FAR_FIX_ARRIVAL gives the read of its line the line far memory or the partner holds, or moves it on. SCRUB_VISIT, its
lease given and the last visit over, reads the row at SCRUB_POS. TRACKER_ENTRY_EXPIRY drops an entry that is not WEAK. ROW_REPAIR of a
WEAK row takes a spare and reads the row, or says why not. CELL_DELIVERY to a collar queue grants a cell of the greatest key among the
heads with a credit; elsewhere only the correction of a control word shows. STALL_DETECT observes. (Derived from R124, R125, R132, R135,
R170, R272, R273, R274, R278, R281, R282, R289.) -/
def Obligations.ReadsReturnOrAreCorrected : Prop :=
  ∀ (s : State) (n : Fin 48),
    let d := s.dev
    let p := d.shaft n
    let poison := fun (t : Dev) (f : RdFly) =>
      ((((t.dropFly n f).writeBack n f (0, poisonBad)).signed n).corrRecord n f 5).deliverLine n f (0, poisonBad)
    let ask := fun (t : Dev) (f : RdFly) (q : Nat) => ((t.setFly n f { f with stage := 5 }).modPair (fun x => { x with
      asked := x.asked ++ [(n.val, f.sline, t.pair.mseq)], mseq := (t.pair.mseq + 1) % 65536 })).sendPair q
        { mtype := 6, addr := f.host, mseq := t.pair.mseq, cls := 60 }
    let give := fun (t : Dev) (f : RdFly) (y : Line) (scrub back : Bool) =>
      let u := if scrub then t.bump Reg.SHAFT_CNT_SCRUB_WB_VALUE n else t
      match f.req.op with
        | .atom _ => u.deliverLine n f (f.merged y 0) back
        | _ => (if scrub || back then u.writeBack n f (f.merged y 0) else u).deliverLine n f (f.merged y 0)
    (∀ o : ReadObs,
      (d.nextBurst n = none → exec (.readDataReturn n o) s = .next s) ∧
      (∀ f, d.nextBurst n = some f →
        let c := d.countWords n o
        let e := if o.corr = 0 ∨ f.req.org = .scrub 1 ∨ f.req.org = .scrub 2 then c else c.trackCorr n f.sline
        let sig := isPoison f.data f.bad && o.bad == 0 && o.unc == 0 && o.corr == 0 && f.ovm != fullMask
        let bad := (f.bad ||| readFails o) &&& (fullMask ^^^ f.ovm)
        let t := e.dropFly n f
        let scrub := (f.req.org == .scrub 0 && o.corr != 0) || f.req.org == .scrub 1
        let next := fun (t : Dev) => exec (.readDataReturn n o) s = .next (s.put t)
        (sig = true → next ((t.listPoison n f.sline).deliverLine n f (0, poisonBad))) ∧
        (sig = false → bad = 0 →
          (f.stage = 0 → next (give t f f.data scrub false)) ∧
          (f.stage = 1 ∨ f.stage = 2 → next (give (t.bump Reg.SHAFT_CNT_REREAD_OK_VALUE n) f f.data scrub false)) ∧
          (f.stage = 3 → next (give (t.bump Reg.SHAFT_CNT_RESENSE_OK_VALUE n) f f.data scrub true))) ∧
        (sig = false → bad ≠ 0 →
          let again := fun (t : Dev) (k : Nat) => t.setFly n f { f with stage := k, wait := 1, shut := false }
          (f.stage = 0 → e.scrubIgnores n f = true →
            next ((t.bump Reg.SHAFT_CNT_SCRUB_IGNORED_VALUE n).deliverLine n f (f.data, 0))) ∧
          (f.stage = 0 → e.scrubIgnores n f = false →
            next ((again (e.bump Reg.SHAFT_CNT_PARITY_RD_VALUE n) 1).modShaft n (fun p => { p with
              fly := p.fly.map (fun g => if g.sline == f.sline && decide (f.age < g.age) then { g with wait := 1 } else g) }))) ∧
          (f.stage = 1 → next (again e 2)) ∧
          (f.stage = 2 → next (again e 3)) ∧
          (f.stage = 3 →
            (∀ q, e.farSource n f = some q → (List.range 8).any (fun k => e.hdmCovers q k (e.farLineOf f.host)) = true →
              next ((e.setFly n f { f with stage := 4 }).farIssue q (.corr n f.req.id f.idx) false (e.farLineOf f.host) 0 0)) ∧
            (∀ q, e.farSource n f = none → e.pairSource f = some q → next (ask e f q)) ∧
            (e.farSource n f = none → e.pairSource f = none → next (poison e f)))))) ∧
    (d.ks.gdr ≠ none ∨ p.fly.find? (fun f => 4 ≤ f.stage) = none → exec (.correctionSourceTimeout n) s = .next s) ∧
    (∀ f, d.ks.gdr = none → p.fly.find? (fun f => 4 ≤ f.stage) = some f →
      let next := fun (t : Dev) => exec (.correctionSourceTimeout n) s = .next (s.put t)
      (f.stage = 4 → (d.dropCorr n f).pairSource f = none → next (poison (d.dropCorr n f) f)) ∧
      (∀ q, f.stage = 4 → (d.dropCorr n f).pairSource f = some q → next (ask (d.dropCorr n f) f q)) ∧
      (f.stage = 5 → next (poison (d.dropAsked n f) f))) ∧
    (∀ (l : Nat) (data : BitVec 512) (par : BitVec 64),
      let next := fun (t : Dev) => exec (.farFixArrival n l ⟨data, par⟩) s = .next (s.put t)
      (p.fly.find? (fun f => 4 ≤ f.stage && f.sline == l) = none → next d) ∧
      (∀ f, p.fly.find? (fun f => 4 ≤ f.stage && f.sline == l) = some f →
        let c := d.dropCorr n f
        (f.stage = 4 → badBytes data par = 0 →
          next (give (((c.dropFly n f).bump Reg.SHAFT_CNT_FAR_FIX_VALUE n).corrRecord n f 3) f data (f.req.org == .scrub 1) true)) ∧
        (f.stage = 4 → badBytes data par ≠ 0 → c.pairSource f = none → next (poison c f)) ∧
        (∀ q, f.stage = 4 → badBytes data par ≠ 0 → c.pairSource f = some q → next (ask c f q)) ∧
        (f.stage = 5 → badBytes data par = 0 →
          next (give ((((d.dropAsked n f).dropFly n f).bump Reg.SHAFT_CNT_PAIR_FIX_VALUE n).corrRecord n f 4) f data (f.req.org == .scrub 1)
            true)) ∧
        (f.stage = 5 → badBytes data par ≠ 0 → next (poison (d.dropAsked n f) f)))) ∧
    (∀ (die : Fin 12) (q : Fin 4), n.val = 4 * die.val + q.val → d.scrubs n = false ∨ p.scrubLeft ≠ 0 →
      exec (.scrubVisit die q) s = .next s) ∧
    (∀ (die : Fin 12) (q : Fin 4) ok t, n.val = 4 * die.val + q.val → d.scrubs n = true → p.scrubLeft = 0 → d.askLease (lsHelper n) hoSCRUB rkINTEGRITY = (ok, t) →
      exec (.scrubVisit die q) s = .next (s.put (if ok then (t.modShaft n (fun p => { p with scrubLeft := 32 })).readRow n 0
        (t.fv Reg.SHAFT_SCRUB_POS_BANK n) (t.fv Reg.SHAFT_SCRUB_POS_ROW n) else t))) ∧
    (∀ (i : Fin 128),
      (p.tracker[i.val]? = none → exec (.trackerEntryExpiry n i) s = .next s) ∧
      (∀ e, p.tracker[i.val]? = some e →
        (e.st = 2 → exec (.trackerEntryExpiry n i) s = .next s) ∧
        (e.st ≠ 2 → exec (.trackerEntryExpiry n i) s = .next (s.put
          ((d.modShaft n (fun q => { q with tracker := dropFirst (fun t => t == e) q.tracker })).showTrack n))))) ∧
    (∀ o : RepairObs,
      (p.tracker.find? (fun t => t.st == 2) = none ∨ d.fb Reg.SHAFT_TRACK_CTL_AUTO_REPAIR n = false ∨ d.shaftSt n = stTESTING ∨
        p.rep ≠ none ∨ p.colRun ≠ none → exec (.rowRepair n none o) s = .next s) ∧
      (∀ t, p.tracker.find? (fun t => t.st == 2) = some t → d.fb Reg.SHAFT_TRACK_CTL_AUTO_REPAIR n = true → d.shaftSt n ≠ stTESTING →
        p.rep = none → p.colRun = none →
        let up := (d.shaftSt n = stONLINE ∨ d.shaftSt n = stEVACUATING ∨ d.shaftSt n = stFENCED) ∧ p.alertFenced = false
        let k := d.usedRows n t.bank
        (¬ up → exec (.rowRepair n none o) s = .next (s.put (d.repairEnd n 2 1 0))) ∧
        (up → 64 ≤ k → exec (.rowRepair n none o) s = .next (s.put
          (((d.repairEnd n 2 2 0).raiseDie n Reg.EV_DIE_SPARE_EXHAUSTED).record (shaftPage n) codeOTHER sevWARNING [t.bank, t.row]))) ∧
        (up → k < 64 → exec (.rowRepair n none o) s = .next (s.put
          ((((d.wakeShaft n).modShaft n (fun q => { q with
            rep := some { bank := t.bank, row := t.row, spare := k, done := o.done, fw := false } })).setF
              Reg.SHAFT_REPAIR_STATUS_BUSY 1 n).readRow n 2 t.bank t.row))))) ∧
    (∀ (dst : BitVec 7) (net : BitVec 2) (oneBit : Bool),
      let corr := fun (t : Dev) => (t.bump Reg.FABRIC_CNT_CTRL_CORR_VALUE).raise pgFABRIC Reg.EV_FABRIC_CTRL_CORR
      let runs := d.fabric.faulted = false ∧ d.pins.spineOn = true ∧ d.pins.refclk = true
      (¬ runs → exec (.cellDelivery dst net oneBit) s = .next s) ∧
      (runs → net ≠ 0 ∨ dst.toNat < 0x10 ∨ 0x40 ≤ dst.toNat →
        exec (.cellDelivery dst net oneBit) s = .next (s.put (if oneBit = true ∧ isAtt dst.toNat = true then corr d else d))) ∧
      (runs → net = 0 → dst.toNat = 0x10 + n →
        let t := d.takeShare n
        let last := sget (fun _ => 127) t.fabric.rotate dst.toNat
        let key := fun (c : Cell) => t.key c.req.cls c.req.urg c.req.starved * 128 + turn last c.src
        let ready := (heads 0 dst.toNat [] t.fabric.voq).filter (fun c => (t.creditFor n c.req).isSome)
        (ready = [] → exec (.cellDelivery dst net oneBit) s = .next (s.put t)) ∧
        (ready ≠ [] → ∃ c ∈ ready, ∃ k, t.creditFor n c.req = some k ∧ (∀ q ∈ ready, key q ≤ key c) ∧
          let u : Dev := { t with fabric := { t.fabric with
            voq := dropFirst (fun x => x == c) t.fabric.voq,
            rotate := sset (fun _ => 127) t.fabric.rotate dst.toNat c.src } }
          exec (.cellDelivery dst net oneBit) s = .next (s.put (((if oneBit then corr u else u).modShaft n (fun q => { q with
            collar := q.collar ++ [({ c.req with starved := false }, k == 2)], parking := false })).countCell c.src dst.toNat 0))))) ∧
    (∀ (src dst : BitVec 7) (mgt : Bool),
      let waits := if mgt then decide (src.toNat < 12) &&
          ((d.port src.toNat).wait2 ++ (d.port src.toNat).ingress2).any (fun q => attOfPage (q.addr / 4096) == dst.toNat)
        else d.fabric.voq.any (fun c => c.src == src.toNat && c.dst == dst.toNat)
      (waits = false → exec (.stallDetect src dst mgt) s = .next s) ∧
      (waits = true →
        let t := ((d.setF Reg.FABRIC_STALL_STATUS_SRC src.toNat).setF Reg.FABRIC_STALL_STATUS_DST dst.toNat).setF Reg.FABRIC_STALL_STATUS_NET
          (if mgt then 2 else 0)
        exec (.stallDetect src dst mgt) s = .next (s.put ((t.bump Reg.FABRIC_CNT_STALL_VALUE).raise pgFABRIC Reg.EV_FABRIC_STALL))))

/-- TRAIN_STEP_END with no run changes nothing; a run whose temperature moved twice, whose channel failed outside step 2, or which found no
window is rejected with reason 9, 8 or 7 and the lane; otherwise what the step found is applied, with a margin warning where a width is
narrow, and the run goes on, or ends after the last step with a stamp, a shaft in start-up then ONLINE. HELPER_RUN_END adds the failing
bits to the sticky mask (log 173), shows the errors, at most the bits compared, and frees the lease. RETRAIN_ROUND starts a round, and is
refused and recorded on a FAILED shaft. A TOUCH with its round on and a gap, or inside the tRFCab of a substituted REFab, tests one lane
or the impedance and goes to the next; it counts as skipped where the lease is held, which is recorded, and where firmware wrote its tap
meanwhile. GAP_WAIT_EXPIRY starts the substitute. (Derived from R197, R198, R199, R200, R202, R203, R204, R205, R206, R207.) -/
def Obligations.TrainingAndRetraining : Prop :=
  ∀ (s : State) (n : Fin 48),
    let d := s.dev
    let p := d.shaft n
    (∀ o : TrainObs,
      let next := fun (t : Dev) => exec (.trainStepEnd n o) s = .next (s.put t)
      let reject := fun (why lane : Nat) =>
        let t := (d.trainEnd n 3 why lane).setReject n why
        if t.shaftSt n = stKINDLING then t.failShaft n else t
      (p.train = none → exec (.trainStepEnd n o) s = .next s) ∧
      (∀ run, p.train = some run →
        let ws := widths o run.step
        (2 ≤ o.tempMoves.val → next (reject 9 15)) ∧
        (o.tempMoves.val < 2 → o.alertTwice = true → run.step ≠ 2 → next (reject 8 15)) ∧
        (o.tempMoves.val < 2 → o.alertTwice = false ∨ run.step = 2 →
          (ws.any (fun w => w.2.isNone) = true →
            next (reject 7 ((ws.filter (fun w => w.2.isNone)).foldl (fun m w => min m w.1) 15))) ∧
          (ws.any (fun w => w.2.isNone) = false →
            let a := d.applyStep n run.step o
            let narrow := ws.any (fun w => decide (w.2.getD 255 < a.fv Reg.SHAFT_RETRAIN_CTL_MIN_WIDTH n))
            let b := if narrow then a.setMargin n else a
            let worst := if narrow then 2 else run.worst
            (run.all = true → run.step < 7 → next ((b.modShaft n (fun q => { q with
              train := some ⟨true, run.step + 1, worst⟩ })).setF Reg.SHAFT_TRAIN_STATUS_STEP (run.step + 1) n)) ∧
            (run.all = false ∨ 7 ≤ run.step →
              let t := (b.trainEnd n worst 0 15).calStamp n
              next (if t.shaftSt n = stKINDLING ∧ run.step = 7 then t.enter (shaftPage n) stONLINE else t)))))) ∧
    (∀ (fail : BitVec 72) (errors : Nat),
      (p.helper = none → exec (.helperRunEnd n fail errors) s = .next s) ∧
      (∀ run, p.helper = some run →
        let a := d.modShaft n (fun q => { q with helper := none })
        let sticky := fun (t : Dev) (x : Nat) => t.setF Reg.SHAFT_HELPER_FAILx_MASK
          (Nat.lor (t.fv Reg.SHAFT_HELPER_FAILx_MASK n x) (fail.toNat / 2 ^ (32 * x) % 2 ^ 32)) n x
        let b := sticky (sticky (sticky a 0) 1) 2
        exec (.helperRunEnd n fail errors) s = .next (s.put
          (((b.setSat Reg.SHAFT_HELPER_STATUS_ERRORS (min errors (576 * run.bursts)) n).setF Reg.SHAFT_HELPER_STATUS_DONE 1 n).dropLease
            (lsHelper n) hoSOFT)))) ∧
    (d.shaftSt n = stFAILED → d.fb Reg.SHAFT_RETRAIN_CTL_EN n = true → exec (.retrainRound n) s = .next (s.put
      (((d.setF Reg.SHAFT_RETRAIN_STATUS_REASON 5 n).bumpSat Reg.SHAFT_RETRAIN_STATUS_SKIPPED n).record (shaftPage n) codeOTHER sevWARNING [5]))) ∧
    (d.fb Reg.SHAFT_RETRAIN_CTL_EN n = false → exec (.retrainRound n) s = .next s) ∧
    (d.shaftSt n ≠ stFAILED → d.roundsOn n = true → p.roundOn = false → exec (.retrainRound n) s = .next (s.put
      (d.setShaft n { p with roundOn := true, touchAt := 0, subst := false, subAt := none, tapHit := false, roundTemp := p.temp }))) ∧
    (d.shaftSt n ≠ stFAILED → d.roundsOn n = false ∨ p.roundOn = true → exec (.retrainRound n) s = .next s) ∧
    (∀ o : TouchObs,
      let room := p.roundOn = true ∧ d.roundsOn n = true ∧ d.inSR n = false ∧ p.freq = none ∧ p.parking = false ∧
        ((p.subst = false ∧ p.empty = true ∧ p.queued = []) ∨ (p.subst = true ∧ ∃ t, p.subAt = some t ∧ p.ck ≤ t))
      let a := d.modShaft n (fun q => { q with subAt := none })
      (¬ room → exec (.touch n o) s = .next s) ∧
      (room → d.leaseHeld (lsHelper n) = true → exec (.touch n o) s = .next (s.put
        ((((((a.bump Reg.LEASES_CNT_BUSY_VALUE).bumpSat Reg.SHAFT_RETRAIN_STATUS_SKIPPED n).setF Reg.SHAFT_RETRAIN_STATUS_REASON 6 n)).record
          (shaftPage n) codeOTHER sevWARNING [6]).touchNext n))) ∧
      (room → d.leaseHeld (lsHelper n) = false →
        let b := a.setLease (lsHelper n) ⟨hoTRAIN, rkINTEGRITY, d.time⟩
        let done := fun (t : Dev) => exec (.touch n o) s = .next (s.put ((t.dropLease (lsHelper n) hoTRAIN).touchNext n))
        (p.touchAt = 36 → done (b.impTouch n o)) ∧
        (p.touchAt ≠ 36 → o.hit = true → p.tapHit = true →
          done ((b.touchShow n (p.touchAt / 4) (p.touchAt % 4) 0 0).bumpSat Reg.SHAFT_RETRAIN_STATUS_SKIPPED n)) ∧
        (p.touchAt ≠ 36 → o.hit = false ∨ p.tapHit = false → done (b.laneTouch n (p.touchAt / 4) (p.touchAt % 4) o)))) ∧
    (exec (.gapWaitExpiry n) s = .next (s.put
      (if p.roundOn ∧ d.roundsOn n then d.modShaft n (fun q => { q with subst := true }) else d)))

/-- START_IMP by its period, while the references work, sets MASTER for a code found from 4 to 27: the first measurement outright, a repeat by
at most one code; outside it the result is rejected, with REASON 1 at 0 or 31 and else 2. START_CONV asks for the converter lease: it goes
to calibration where free; refused, CALIBRATION_LEASE_RETRY repeats it, and the eighth repeat refused is recorded.
CONVERTER_CALIBRATION_END sets GAIN and OFFSET from a REF of 47,040 to 48,960 and a ZERO within 200, and else rejects. WAKE_CHECK_END
accepts an error up to 10 mV and rejects a greater one, whose REASON_WAKE the spec leaves open: a free value (log 30). LONG_HOLD of a
lease software holds raises the event; of another it changes nothing. (Derived from R192, R193, R194, R205, R207, R353, R359.) -/
def Obligations.ReferencesAndLeases : Prop :=
  ∀ (s : State),
    let d := s.dev
    let stamped := fun (t : Dev) => (t.bump Reg.CALREF_CAL_COUNT_VALUE).wrReg 0x705C (t.rdReg 0x5058)
    (∀ m : BitVec 5,
      (d.calMode = false → exec (.startImp none m) s = .next s) ∧
      (d.calMode = true → 4 ≤ m.toNat → m.toNat ≤ 27 →
        let old := d.fv Reg.CALREF_IMP_MASTER
        let code := if d.impRun = false then m.toNat else if old < m.toNat then old + 1 else if m.toNat < old then old - 1 else old
        exec (.startImp none m) s = .next (s.put
          (stamped (((({ d with impRun := true }).setF Reg.CALREF_IMP_MASTER code).setF Reg.CALREF_STATUS_IMP_VALID 1).setF Reg.CALREF_STATUS_REASON_IMP 0)))) ∧
      (d.calMode = true → m.toNat < 4 ∨ 27 < m.toNat →
        let why := if m.toNat = 0 ∨ m.toNat = 31 then 1 else 2
        exec (.startImp none m) s = .next (s.put (((({ d with impRun := true }).setF Reg.CALREF_STATUS_REASON_IMP why).setF Reg.CALREF_STATUS_IMP_VALID 0).raiseRec
          pgCALREF Reg.EV_CALREF_IMP_FAIL sevWARNING [m.toNat, why])))) ∧
    (d.calMode = false ∨ d.calBusy.1 ≠ 0 ∨ bitN d.calBusy.2 0 = true → exec (.startConv none) s = .next s) ∧
    (d.calBusy.1 = 0 → exec .calibrationLeaseRetry s = .next s) ∧
    (∀ i, (i = Instr.startConv none ∧ d.calMode = true ∧ d.calBusy.1 = 0 ∧ bitN d.calBusy.2 0 = false) ∨
        (i = .calibrationLeaseRetry ∧ d.calBusy.1 ≠ 0) →
      (d.leaseHeld lsCONV = false →
        let t := d.setLease lsCONV ⟨hoCALIB, rkINTEGRITY, d.time⟩
        exec i s = .next (s.put ({ t with calBusy := (0, Nat.lor d.calBusy.2 1) }.setF Reg.CALREF_STATUS_BUSY 1))) ∧
      (d.leaseHeld lsCONV = true →
        let t := d.bump Reg.LEASES_CNT_BUSY_VALUE
        (d.calBusy.1 ≠ 8 → exec i s = .next (s.put { t with calBusy := (d.calBusy.1 + 1, d.calBusy.2) })) ∧
        (d.calBusy.1 = 8 → exec i s = .next (s.put
          (({ t with calBusy := (0, d.calBusy.2) }.setF Reg.CALREF_STATUS_REASON_CONV 6).record pgCALREF codeOTHER sevWARNING [6]))))) ∧
    (∀ (zero : Int) (ref : Nat),
      (bitN d.calBusy.2 0 = false → exec (.converterCalibrationEnd zero ref) s = .next s) ∧
      (bitN d.calBusy.2 0 = true →
        let t := ((((d.dropLease lsCONV hoCALIB).setCal 0 false).setF Reg.CALREF_CONV_RAW_ZERO (ofSigned 16 zero)).setF
          Reg.CALREF_CONV_RAW_REF (ref % 65536))
        (47040 ≤ ref → ref ≤ 48960 → -200 ≤ zero → zero ≤ 200 → exec (.converterCalibrationEnd zero ref) s = .next (s.put (stamped
          ((((t.setF Reg.CALREF_CONV_CORR_GAIN (roundDiv (32768 * 48000) ((ref : Int) - zero).toNat)).setF Reg.CALREF_CONV_CORR_OFFSET
            (ofSigned 12 (-zero))).setF Reg.CALREF_STATUS_CONV_VALID 1).setF Reg.CALREF_STATUS_REASON_CONV 0)))) ∧
        (ref < 47040 ∨ 48960 < ref ∨ zero < -200 ∨ 200 < zero → exec (.converterCalibrationEnd zero ref) s = .next (s.put
          (((t.setF Reg.CALREF_STATUS_CONV_VALID 0).setF Reg.CALREF_STATUS_REASON_CONV 3).raiseRec pgCALREF Reg.EV_CALREF_CONV_FAIL
            sevWARNING [ref, ofSigned 32 zero]))))) ∧
    (∀ mv : Nat,
      (bitN d.calBusy.2 1 = false → exec (.wakeCheckEnd mv) s = .next s) ∧
      (bitN d.calBusy.2 1 = true →
        let t := ((d.dropLease lsWAKE hoCALIB).setCal 1 false).setSat Reg.CALREF_WAKE_CHK_ERR_MV mv
        (mv ≤ 10 → exec (.wakeCheckEnd mv) s = .next (s.put
          (stamped ((t.setF Reg.CALREF_STATUS_WAKE_VALID 1).setF Reg.CALREF_STATUS_REASON_WAKE 0)))) ∧
        (10 < mv → ∃ x < 16, exec (.wakeCheckEnd mv) s = .next (s.put
          ((((t.setF Reg.CALREF_STATUS_REASON_WAKE x).nextFree).setF Reg.CALREF_STATUS_WAKE_VALID 0).raiseRec pgCALREF
            Reg.EV_CALREF_WAKE_FAIL sevWARNING [mv]))))) ∧
    (∀ i : BitVec 7,
      ((d.lease i.toNat).holder = hoSOFT → exec (.longHold i) s = .next (s.put
        (d.raiseRec pgLEASES Reg.EV_LEASES_LONG_HOLD sevWARNING [i.toNat]))) ∧
      ((d.lease i.toNat).holder ≠ hoSOFT → exec (.longHold i) s = .next s))

/-- LEVEL_RECOMPUTE gives every class the greatest of its ramp level, its urgency floor and, in deficit above the waterline, DEFICIT_PRIO, and
touches no other state. DEFICIT_INTERVAL sets DEFICIT where a floor was missed with work waiting, restarts the byte counts, and puts the
waterline last computed in force. WATERLINE_RECOMPUTE, where a trigger came, shows the budget; the waterline is the lowest rank at which
the floors up to it exceed what the device classes leave, else 64; OVERBOOKED and BELOW_WL follow it. M_DECAY takes M / 16 after a µs
without a sample. MON_WINDOW_END moves NOW to LAST while misses are counted. URGENCY_ACCEPT gives an enabled, sampled input the level of
its Gray code, any other level 0. STARVE_EXPIRY marks the waiting work named; nothing there, nothing changes. (Derived from R137, R138,
R142, R143, R144, R147, R148, R149, R150, R151, R154.) -/
def Obligations.ClassesLevelsAndWaterline : Prop :=
  ∀ (s : State),
    let d := s.dev
    (∃ t : Dev, exec .levelRecompute s = .next (s.put t) ∧ t = { d with regs := t.regs } ∧
      ∀ c < 64,
        let ramp := if c = 62 then 0 else rampLevel (d.cls c).m (d.cv Reg.CLASSTAB_LAT_TARGET c) (d.cv Reg.CLASSTAB_LAT_RAMP_START c)
        let floor := d.urgFloor (d.urgOf c)
        let owed := if d.cv Reg.CLASSTAB_STATE_DEFICIT c = 1 ∧ (60 ≤ c ∨ d.cv Reg.CLASSTAB_FLOOR_RANK c < d.wlNow)
          then d.fv Reg.CLASSES_CTL_DEFICIT_PRIO else 0
        t.cv Reg.CLASSTAB_STATE_LEVEL c = (if c = 63 then 7 else max (max ramp floor) owed) % 8 ∧
        t.cv Reg.CLASSTAB_STATE_DEFICIT c = d.cv Reg.CLASSTAB_STATE_DEFICIT c ∧
        t.cv Reg.CLASSTAB_STATE_MEASURED c = d.cv Reg.CLASSTAB_STATE_MEASURED c) ∧
    (∃ t : Dev, exec .deficitInterval s = .next (s.put t) ∧
      t = { d with regs := t.regs, classes := t.classes, wlNow := d.fv Reg.CLASSES_WL_STATUS_WATERLINE } ∧ ∀ c < 64,
      (t.cls c).bytes = 0 ∧ (t.cls c).m = (d.cls c).m ∧ t.cv Reg.CLASSTAB_STATE_LEVEL c = d.cv Reg.CLASSTAB_STATE_LEVEL c ∧
      t.cv Reg.CLASSTAB_STATE_DEFICIT c = b2n (decide (0 < d.cv Reg.CLASSTAB_FLOOR_FLOOR c) &&
        decide ((d.cls c).bytes < d.cv Reg.CLASSTAB_FLOOR_FLOOR c * 64) && d.waiting c)) ∧
    (d.wlDue = false → exec .waterlineRecompute s = .next s) ∧
    (d.wlDue = true → ∃ t : Dev, exec .waterlineRecompute s = .next (s.put t) ∧
      (let budget := (List.range 48).foldl (fun n i => n + d.shaftUnits i) 0 * d.fv Reg.CLASSES_CTL_BUDGET_EFF / 100
       let free := budget - d.floorSum 60 64 (fun _ => true)
       let wl := t.fv Reg.CLASSES_WL_STATUS_WATERLINE
       let upTo := fun (r : Nat) => d.floorSum 0 60 (fun c => d.cv Reg.CLASSTAB_FLOOR_RANK c ≤ r)
       t.fv Reg.CLASSES_BUDGET_UNITS = budget % 131072 ∧ wl ≤ 64 ∧ (∀ r < wl, upTo r ≤ free) ∧ (wl < 64 → free < upTo wl) ∧
       t.fv Reg.CLASSES_WL_STATUS_OVERBOOKED = b2n (wl < 64) ∧ t.wlNow = d.wlNow ∧ t.wlDue = false ∧
       (∀ c < 60, t.cv Reg.CLASSTAB_STATE_BELOW_WL c = b2n (wl ≤ d.cv Reg.CLASSTAB_FLOOR_RANK c)) ∧
       (wl = d.fv Reg.CLASSES_WL_STATUS_WATERLINE → t = { d with regs := t.regs, wlDue := false }))) ∧
    (∀ c : Fin 64,
      let k := d.cls c
      (k.sampled = true → exec (.mDecay c) s = .next (s.put (d.modCls c (fun k => { k with sampled := false })))) ∧
      (k.sampled = false → exec (.mDecay c) s = .next (s.put
        ((d.modCls c (fun k => { k with m := k.m * 15 / 16 })).setCv Reg.CLASSTAB_STATE_MEASURED c (min 16777215 (k.m * 15 / 16 / 16))))) ∧
      (d.cv Reg.CLASSTAB_MON_MODE c % 2 ≠ 1 → exec (.monWindowEnd c) s = .next s) ∧
      (d.cv Reg.CLASSTAB_MON_MODE c % 2 = 1 → exec (.monWindowEnd c) s = .next (s.put
        (((d.setCv Reg.CLASSTAB_MISSES_LAST c (d.cv Reg.CLASSTAB_MISSES_NOW c)).setCv Reg.CLASSTAB_MISSES_NOW c 0).modCls c
          (fun k => { k with fired := false }))))) ∧
    (∀ (i : Fin 8) (code : BitVec 2), ∃ t : Dev, exec (.urgencyAccept i code) s = .next (s.put t) ∧
      t = { d with regs := t.regs } ∧
      (∀ a ≠ 0x904C, t.rdReg a = d.rdReg a) ∧
      (∀ j : Fin 8, j ≠ i → bitsOf (t.rdReg 0x904C) (2 * j.val + 1) (2 * j.val) = bitsOf (d.rdReg 0x904C) (2 * j.val + 1) (2 * j.val)) ∧
      bitsOf (t.rdReg 0x904C) (2 * i.val + 1) (2 * i.val) =
        (if bitN (d.fv Reg.CLASSES_URG_CTL_EN) i = true ∧ d.urgSampled = true then
          (if code = 0 then 0 else if code = 1 then 1 else if code = 3 then 2 else 3) else 0)) ∧
    (∀ i : Nat,
      let same := fun (p : ArbPoint) => exec (.starveExpiry p i) s = .next s
      let gives := fun (p : ArbPoint) (t : Dev) => exec (.starveExpiry p i) s = .next (s.put t)
      let mark := fun (r : Req) => { r with starved := true }
      (d.fabric.voq[i]? = none → same .spine) ∧
      (∀ c, d.fabric.voq[i]? = some c → gives .spine { d with fabric := { d.fabric with
        voq := setAt d.fabric.voq i { c with req := mark c.req } } }) ∧
      (d.haul.held[i]? = none → same .held) ∧
      (∀ x, d.haul.held[i]? = some x → gives .held { d with haul := { d.haul with held := setAt d.haul.held i { x with req := mark x.req } } }) ∧
      (∀ r, d.space.lookupQ[i]? = some r → gives .table { d with space := { d.space with lookupQ := setAt d.space.lookupQ i (mark r) } }) ∧
      (d.space.lookupQ[i]? = none → same .table) ∧
      (∀ (h : Fin 12) r, (d.port h).resp1[i]? = some r → gives (.response h)
        (d.modPort h (fun p => { p with resp1 := setAt p.resp1 i { r with starved := true } }))) ∧
      (∀ h : Fin 12, (d.port h).resp1[i]? = none → gives (.response h) (d.modPort h (fun p => p))) ∧
      (∀ (h : Fin 12) r, (d.port h).store[i]? = some r → gives (.lookup h) (d.modPort h (fun p => { p with store := setAt p.store i (mark r) }))) ∧
      (∀ h : Fin 12, (d.port h).store[i]? = none → gives (.lookup h) (d.modPort h (fun p => p))) ∧
      (∀ (n : Fin 48) r v, (d.shaft n).collar[i]? = some (r, v) → gives (.collar n)
        (d.modShaft n (fun p => { p with collar := setAt p.collar i (mark r, v) }))) ∧
      (∀ n : Fin 48, (d.shaft n).collar[i]? = none → gives (.collar n) (d.modShaft n (fun p => p))) ∧
      (∀ (n : Fin 48) r, (d.shaft n).localq[i]? = some r → gives (.shaftLocal n)
        (d.modShaft n (fun p => { p with localq := setAt p.localq i (mark r) }))) ∧
      (∀ n : Fin 48, (d.shaft n).localq[i]? = none → gives (.shaftLocal n) (d.modShaft n (fun p => p))) ∧
      (∀ (n : Fin 48) w, (d.shaft n).win[i]? = some w → gives (.window n)
        (d.modShaft n (fun p => { p with win := setAt p.win i { w with req := mark w.req } }))) ∧
      (∀ n : Fin 48, (d.shaft n).win[i]? = none → gives (.window n) (d.modShaft n (fun p => p))) ∧
      (∀ (f : Fin 4) q, (d.far f).cxlQ[i]? = some q → gives (.far f)
        (d.modFar f (fun p => { p with cxlQ := setAt p.cxlQ i { q with starved := true } }))) ∧
      (∀ (f : Fin 4) m, (d.far f).cxlQ[i]? = none → (d.far f).txQ[i - (d.far f).cxlQ.length]? = some m → gives (.far f)
        (d.modFar f (fun p => { p with txQ := setAt p.txQ (i - p.cxlQ.length) { m with starved := true } }))) ∧
      (∀ f : Fin 4, (d.far f).cxlQ[i]? = none → (d.far f).txQ[i - (d.far f).cxlQ.length]? = none → gives (.far f) (d.modFar f (fun p => p))) ∧
      (∀ j, d.disp.back[i]? = some j → gives .rings (d.modDisp (fun q => { q with back := setAt q.back i { j with starved := true } }))) ∧
      (d.disp.back[i]? = none → ∃ l, gives .rings (d.modDisp (fun q => { q with starved := l })) ∧
        ∀ k, k ∈ l ↔ k ∈ d.disp.starved ∨ k = i - d.disp.back.length)) ∧
    (∀ c urg, d.key c urg true = 7 * 128 + d.key c urg false % 128)

/-- DESCRIPTOR_FETCH_RETURN takes a line of the ring's descriptor; NACK_RETRY or NACK_DARK asks again, any other refusal or a poisoned line
stops the ring. JOB_PLACEMENT takes, of the waiting jobs that can be placed or refused, one whose ring's class has the greatest key, rings
of equal keys rotating; the engine chosen can take it, and none has a greater score, or the same and fewer jobs; a job no engine can run
is refused. JOB_START of an idle ONLINE engine with REFCLK takes the next job with zeroed registers. JOB_TIMEOUT ends the running job
TIMEOUT, is kept for the release in a trip, and does nothing in a ground-die reset. COMPLETION_RECORD_WRITE writes the oldest record under
its job's class; COMPLETION_WRITE_ANSWER drops it, counted done or lost, or after NACK_RETRY or NACK_DARK writes it again. (Derived from
R244, R247, R251, R252, R254, R255, R256, R258, R371, R413.) -/
def Obligations.JobsFromRingToRecord : Prop :=
  ∀ (s : State),
    let d := s.dev
    (∀ (k : Fin 64) (half : Fin 2) res t, d.takeAnswer (.desc (2 * k + half)) = some (res, t) →
        (half = 0 ∨ d.takeAnswer (.desc (2 * k)) = none) →
      let got := fun (u : Dev) => exec (.descriptorFetchReturn k) s = .next (s.put u.ringsPump)
      (t.fetchOf k = none → got t) ∧
      (∀ f, t.fetchOf k = some f → f.stale = true → got (t.gotLine k half 0)) ∧
      (∀ f, t.fetchOf k = some f → f.stale = false →
        (∀ line, res = .data line 0 → got (t.setFetch k (some (if half = 0 then { f with lo := some line } else { f with hi := some line })))) ∧
        ((∃ us, res = .retry us) ∨ (∃ us page, res = .dark us page) → got (t.askLine k half)) ∧
        ((∀ line, res ≠ .data line 0) → (∀ us, res ≠ .retry us) → (∀ us page, res ≠ .dark us page) →
          got ((t.ringStop k).gotLine k half 0)))) ∧
    (∀ k : Fin 64, d.takeAnswer (.desc (2 * k)) = none → d.takeAnswer (.desc (2 * k + 1)) = none →
      exec (.descriptorFetchReturn k) s = .next s) ∧
    (let l := d.waitingJobs.filter (fun x => !(d.eligible x.2.2).isEmpty || (d.candidates x.2.2).1.isEmpty)
     let starved := fun (x : Nat × Bool × Job) => if x.2.1 then x.2.2.starved else d.disp.starved.contains x.1
     let first := fun (x : Nat × Bool × Job) => d.key (d.ringClass x.1) 0 (starved x) * 64 + (63 - (x.1 + 63 - d.disp.last) % 64)
     (d.dispOn = false ∨ d.pins.refclk = false ∨ l = [] → exec .jobPlacement s = .next s) ∧
     (d.dispOn = true → d.pins.refclk = true → l ≠ [] → ∃ x ∈ l, (∀ y ∈ l, first y ≤ first x) ∧
      let c := (d.modDisp (fun q => { q with
        last := x.1
        starved := if x.2.1 then q.starved else q.starved.filter (fun r => r != x.1) })).takeJob x.1 x.2.1 x.2.2
      let job := { x.2.2 with starved := false }
      (c.eligible job = [] → exec .jobPlacement s = .next (s.put (c.refuseJob job))) ∧
      (c.eligible job ≠ [] → ∃ e ∈ c.eligible job,
        (∀ g ∈ c.eligible job, c.score job g < c.score job e ∨ (c.score job g = c.score job e ∧
          7 - (c.eng g).queue.length - b2n (c.eng g).run.isSome ≤ 7 - (c.eng e).queue.length - b2n (c.eng e).run.isSome)) ∧
        let b := if (c.candidates job).2 then c.bump Reg.DISPATCH_CNT_FALLBACK_VALUE else c
        exec .jobPlacement s = .next (s.put
          (((((b.modEng e (fun g => { g with queue := g.queue ++ [job] })).bump Reg.DISPATCH_CNT_JOBS_VALUE).countCell 0x49 (0x10 + e) 0).prehaul
            job e).engShow e))))) ∧
    (∀ n : Fin 48,
      let g := d.eng n
      (g.run ≠ none ∨ g.queue = [] ∨ d.engSt n ≠ stONLINE ∨ g.frozen ≠ 0 ∨ d.pins.refclk = false → exec (.jobStart n) s = .next s) ∧
      (∀ j q, g.run = none → g.queue = j :: q → d.engSt n = stONLINE → g.frozen = 0 → d.pins.refclk = true →
        let half := (d.slotHalf n j.slot).getD (b2n (bitN (d.fv Reg.ENGINE_SLOT_ACTIVE_HALF n) j.slot), 0, 0)
        let a := j.ops.foldl (fun (g : EngSt) o => g.setStrm o.1 (some (strmOf o.2)))
          (if j.clr then { g.clearRegs with scratch := [], scratchBad := [] } else g.clearRegs)
        exec (.jobStart n) s = .next (s.put (((d.modEng n (fun _ => { a with
          queue := q, passBp := false,
          run := some ⟨j, half.1, half.2.1, half.2.2, 0, none, 0, 0, 0, 0, 0, 0, 0, d.time, false⟩ })).engPump n).engShow n))) ∧
      (bitN g.frozen 2 = true → exec (.jobTimeout n) s = .next s) ∧
      (bitN g.frozen 2 = false → d.fb Reg.HEAT_STATUS_TRIPPED = true →
        exec (.jobTimeout n) s = .next (s.put (d.modRun n (fun r => { r with expired := true })))) ∧
      (bitN g.frozen 2 = false → d.fb Reg.HEAT_STATUS_TRIPPED = false →
        (g.run = none → exec (.jobTimeout n) s = .next s) ∧
        (∀ r, g.run = some r →
          let again := g.acc.any (fun a => a.again)
          (r.closing = true ∨ (r.ending ≠ none ∧ again = false) → exec (.jobTimeout n) s = .next s) ∧
          (r.closing = false → r.ending = none ∨ again = true → exec (.jobTimeout n) s = .next (s.put
            (((((d.modEng n (fun g => { g with acc := g.acc.filter (fun a => !a.again) })).flushParts n).modRun n
              (fun q => { q with ending := some (stTIMEOUT, 0, r.pc) })).accPump n).tryEnd n))))) ∧
      (let mine := (d.disp.recs.find? (fun r => r.eng == n.val)).or (d.disp.recs.find? (fun r => r.eng == 48))
       (mine = none → exec (.completionRecordWrite n) s = .next s) ∧
       (∀ r, mine = some r →
        (r.sent = true → exec (.completionRecordWrite n) s = .next s) ∧
        (r.sent = false →
          let off := r.addr % 64
          let w : Line := BitVec.ofNat 512 (r.bytes.toNat * 2 ^ (8 * off))
          let q : Req := { id := d.nextId, org := .comp r.eng, op := .wrm, cls := r.cls, line := r.addr / 64, data := w, par := lineParity w,
                           mask := BitVec.ofNat 64 ((2 ^ 32 - 1) * 2 ^ off) }
          exec (.completionRecordWrite n) s = .next (s.put
            ((((d.modDisp (fun p => { p with recs := p.recs.map (fun x => if x == r then { x with sent := true } else x) })).modSpace
              (fun p => { p with lookupQ := p.lookupQ ++ [q] })).fresh)))))) ∧
      (d.takeAnswer (.comp n) = none → d.takeAnswer (.comp 48) = none → exec (.completionWriteAnswer n) s = .next s) ∧
      (∀ e res t, e = n.val ∧ d.takeAnswer (.comp n) = some (res, t) ∨
          e = 48 ∧ d.takeAnswer (.comp n) = none ∧ d.takeAnswer (.comp 48) = some (res, t) →
        let done := fun (u : Dev) => exec (.completionWriteAnswer n) s = .next (s.put u)
        (t.disp.recs.find? (fun r => r.eng == e && r.sent) = none → done t) ∧
        (∀ r, t.disp.recs.find? (fun r => r.eng == e && r.sent) = some r →
          let drop := fun (u : Dev) => u.modDisp (fun p => { p with recs := dropFirst (fun x => x == r) p.recs })
          (∀ a b, res = .error a b → done ((drop (t.bump Reg.DISPATCH_CNT_COMP_LOST_VALUE)).raiseRec
            dispPage Reg.EV_DISPATCH_COMP_LOST sevERROR [r.jobId, r.eng])) ∧
          ((∃ us, res = .retry us) ∨ (∃ us page, res = .dark us page) → done ((t.modDisp (fun p =>
            { p with recs := p.recs.map (fun x => if x == r then { x with sent := false } else x) })).recWrite e)) ∧
          ((∀ a b, res ≠ .error a b) → (∀ us, res ≠ .retry us) → (∀ us page, res ≠ .dark us page) →
            let c := (drop t).bump Reg.DISPATCH_CNT_DONE_VALUE
            done (if c.fb Reg.DISPATCH_RINGk_CTL_EVT_DONE 0 r.ring then c.raise dispPage Reg.EV_DISPATCH_JOB_DONE else c)))))

/-- CXL_RECEIVER_DETECTED in DETECT starts training where a receiver is found. CXL_LINK_TRAINED, pads released and VDDA_FAR on: 32 or 64 GT/s
on a usable width is L0, from recovery straight back to service; below it or with no width the stage fails. ENUMERATION_END sets MEM_EN
and ENUM_DONE and brings the port ONLINE, or shows its ENUM_ERR; ENUMERATION_TIMEOUT shows 6. CXL_COMPLETION of an outstanding request
reaches it, of another only shows DEVLOAD; FAR_TIMEOUT fails the request. DEVICE_INITIATED_REQUEST is discarded with a record.
LOSS_OF_SIGNAL and LOSS_OF_LOCK mark the lane and retrain; ADAPTATION moves each setting by at most one code under the sampler lease;
SCAN_POINT_END and LOOP_END show their counts. (Derived from R59, R67, R273, R298, R299, R300, R302, R307, R310, R311, R312, R313.) -/
def Obligations.FarPortsServeFarMemory : Prop :=
  ∀ (s : State) (f : Fin 4),
    let d := s.dev
    let p := d.far f
    let role := d.fv Reg.FARPORT_STATUS_ACTIVE_ROLE f
    let stage := d.fv Reg.FARPORT_STATUS_STAGE f
    let still := d.fb Reg.MODES_STATUS_PADS_LATCHED = true ∨ d.pins.refclk = false
    (∀ found : Bool,
      let here := role = 1 ∧ stage = 1 ∧ (d.farSt f = stOFFLINE ∨ d.farSt f = stKINDLING ∨ d.farSt f = stFENCED)
      (still ∨ ¬here → exec (.cxlReceiverDetected f found) s = .next s) ∧
      (¬still → here →
        (found = true → d.pins.vddaFar = true → exec (.cxlReceiverDetected f found) s = .next (s.put
          ((d.setF Reg.FARPORT_STATUS_STAGE 2 f).farEnter f stKINDLING))) ∧
        (found = false ∨ d.pins.vddaFar = false → exec (.cxlReceiverDetected f found) s = .next (s.put
          (if d.farSt f = stKINDLING then d.enter (farPage f) stOFFLINE else d))))) ∧
    (∀ o : CxlTrainObs,
      (still ∨ role ≠ 1 ∨ (stage ≠ 2 ∧ stage ≠ 3) → exec (.cxlLinkTrained f o) s = .next s) ∧
      (¬still → role = 1 → stage = 2 ∨ stage = 3 →
        (d.pins.vddaFar = false ∨ o = .failed → exec (.cxlLinkTrained f o) s = .next (s.put (d.stageFail f 1))) ∧
        (∀ rate lanes rev, d.pins.vddaFar = true → o = .trained rate lanes rev →
          (rate.val = 0 → exec (.cxlLinkTrained f o) s = .next (s.put (d.stageFail f 1))) ∧
          (rate.val ≠ 0 → widthOf lanes.toNat (d.fv Reg.FARPORT_LANE_EXCL_LANES f) = 0 →
            exec (.cxlLinkTrained f o) s = .next (s.put (d.stageFail f 5))) ∧
          (rate.val ≠ 0 → widthOf lanes.toNat (d.fv Reg.FARPORT_LANE_EXCL_LANES f) ≠ 0 →
            let r := if d.fb Reg.FARPORT_CTL_MAX_RATE f then 1 else rate.val
            let a := (d.setLanes f lanes.toNat rev).setF Reg.FARPORT_STATUS_RATE r f
            let b := (if r = 1 then a.raise (farPage f) Reg.EV_FARPORT_DEGRADED else a).setF Reg.FARPORT_STATUS_FAILS 0 f
            (stage = 3 → d.fb Reg.FARPORT_CXL_STATUS_MEM_EN f = true → exec (.cxlLinkTrained f o) s = .next (s.put
              ((b.setF Reg.FARPORT_STATUS_STAGE 5 f).noteBlocked.farPump f).pump)) ∧
            (stage = 2 ∨ d.fb Reg.FARPORT_CXL_STATUS_MEM_EN f = false → exec (.cxlLinkTrained f o) s = .next (s.put
              ((b.setF Reg.FARPORT_STATUS_STAGE 4 f).wrReg (farPage f * 4096 + 0x68) 0))))))) ∧
    (let going := role = 1 ∧ stage = 4 ∧ d.fv Reg.FARPORT_CXL_STATUS_ENUM_ERR f = 0
     (¬going → exec (.enumerationTimeout f) s = .next s ∧ ∀ o, exec (.enumerationEnd f o) s = .next s) ∧
     (going → exec (.enumerationTimeout f) s = .next (s.put ((d.setF Reg.FARPORT_CXL_STATUS_ENUM_ERR 6 f).raise (farPage f) Reg.EV_FARPORT_ENUM)) ∧
      ∀ o : EnumObs,
        let a := (d.setF Reg.FARPORT_CXL_STATUS_SWITCH (b2n o.switch) f).setF Reg.FARPORT_CXL_STATUS_DEVICES (min 8 o.devices) f
        let good := 0 < o.devices ∧ o.devices ≤ 8 ∧ o.others = 0 ∧ o.deep = false ∧ o.commits = true
        (good → exec (.enumerationEnd f o) s = .next (s.put
          (((((((a.setF Reg.FARPORT_CXL_STATUS_MEM_EN 1 f).setF Reg.FARPORT_CXL_STATUS_ENUM_DONE 1 f).raise (farPage f) Reg.EV_FARPORT_ENUM).raise
            (farPage f) Reg.EV_FARPORT_LINK_UP).setF Reg.FARPORT_STATUS_STAGE 5 f).farEnter f stONLINE).noteBlocked.pump))) ∧
        (¬good → exec (.enumerationEnd f o) s = .next (s.put
          ((a.setF Reg.FARPORT_CXL_STATUS_ENUM_ERR
            (if o.devices = 0 ∧ o.others = 0 then 1 else if o.others ≠ 0 then 2 else if o.deep then 3 else if 8 < o.devices then 4 else 5) f).raise
            (farPage f) Reg.EV_FARPORT_ENUM))))) ∧
    (∀ (tag : Nat) (o : CplObs),
      (role ≠ 1 ∨ stage ≠ 5 → exec (.cxlCompletion f tag o) s = .next s) ∧
      (role = 1 → stage = 5 →
        let a := d.setF Reg.FARPORT_CXL_STATUS_DEVLOAD o.devload.toNat f
        (p.cxl.find? (fun x => x.tag == tag) = none → exec (.cxlCompletion f tag o) s = .next (s.put a)) ∧
        (∀ x, p.cxl.find? (fun x => x.tag == tag) = some x →
          exec (.cxlCompletion f tag o) s = .next (s.put
            ((((a.modFar f (fun q => { q with cxl := q.cxl.filter (fun y => y.tag != tag) })).farDone f x o.kind).countCell (0x40 + f) 0x48 1).farPump f))))) ∧
    (∀ tag : Nat,
      (p.cxl.find? (fun x => x.tag == tag) = none → exec (.farTimeout f tag) s = .next s) ∧
      (∀ x, p.cxl.find? (fun x => x.tag == tag) = some x →
        let a := ((d.modFar f (fun q => { q with cxl := q.cxl.filter (fun y => y.tag != tag) })).bump Reg.FARPORT_CNT_FAR_TIMEOUT_VALUE f).raise
          (farPage f) Reg.EV_FARPORT_FAR_TIMEOUT
        exec (.farTimeout f tag) s = .next (s.put ((match x.org with
          | .corr n id idx => a.farFix n id idx 0 poisonBad
          | y => a.farFailed y).farPump f)))) ∧
    (exec (.deviceInitiatedRequest f) s = .next (s.put
      (if role = 1 ∧ 4 ≤ stage then d.record (farPage f) codeOTHER sevWARNING [] else d))) ∧
    (∀ l : Fin 8,
      let m := d.fv Reg.FARPORT_LANE_STATUS_LOCKED f
      let used := bitN (d.fv Reg.FARPORT_LANE_STATUS_USED f) l
      (role = 0 ∨ bitN m l = false → exec (.lossOfLock f l) s = .next s) ∧
      (role ≠ 0 → bitN m l = true →
        let a := d.setF Reg.FARPORT_LANE_STATUS_LOCKED (m - 2 ^ l.val) f
        exec (.lossOfLock f l) s = .next (s.put (if bitN (a.fv Reg.FARPORT_LANE_STATUS_USED f) l then a.farRetrain f 3 else a))) ∧
      (role = 0 ∨ stage < 2 → exec (.lossOfSignal f l) s = .next s) ∧
      (role ≠ 0 → 2 ≤ stage →
        let b := (d.setF Reg.FARPORT_LANE_STATUS_LOS (Nat.lor (d.fv Reg.FARPORT_LANE_STATUS_LOS f) (2 ^ l.val)) f).setF
          Reg.FARPORT_LANE_STATUS_LOCKED (if bitN m l then m - 2 ^ l.val else m) f
        let a := (b.bump Reg.FARPORT_CNT_LOS_VALUE f).raise (farPage f) Reg.EV_FARPORT_LOS
        (d.farLinkUp f = true → used = false → exec (.lossOfSignal f l) s = .next (s.put a)) ∧
        (d.farLinkUp f = true → used = true → exec (.lossOfSignal f l) s = .next (s.put (a.farRetrain f (if role = 2 then 2 else 3)))) ∧
        (d.farLinkUp f = false → exec (.lossOfSignal f l) s = .next (s.put (if role = 2 then a.stageFail f 6 else a)))) ∧
      (∀ c e : Move,
        (d.farLinkUp f = false → exec (.adaptation f l c e) s = .next s) ∧
        (d.farLinkUp f = true → d.leaseHeld (lsSampler f l) = true →
          exec (.adaptation f l c e) s = .next (s.put (d.bump Reg.LEASES_CNT_BUSY_VALUE))) ∧
        (d.farLinkUp f = true → d.leaseHeld (lsSampler f l) = false → ∃ t : Dev, exec (.adaptation f l c e) s = .next (s.put t) ∧
          t.leaseHeld (lsSampler f l) = false ∧ t.regs = d.regs ∧
          sget (fun _ => 0) (t.far f).ctle l = sget (fun _ => 0) p.ctle l + (match c with | .stay => 0 | .up => 1 | .down => -1) ∧
          sget (fun _ => 0) (t.far f).dfe l = sget (fun _ => 0) p.dfe l + (match e with | .stay => 0 | .up => 1 | .down => -1)))) ∧
    (∀ (errors : Nat) (retrain : Bool),
      (p.scan = none → exec (.scanPointEnd f errors retrain) s = .next s) ∧
      (∀ l, p.scan = some l →
        let a := (d.modFar f (fun q => { q with scan := none })).dropLease (lsSampler f l) hoSCAN
        let b := (a.setF Reg.FARPORT_SCAN_STATUS_DONE 1 f).setF Reg.FARPORT_SCAN_STATUS_REASON 0 f
        exec (.scanPointEnd f errors retrain) s = .next (s.put
          ((b.setSat Reg.FARPORT_SCAN_STATUS_ERRORS (if retrain then 16777215 else errors) f).raise (farPage f) Reg.EV_FARPORT_SCAN_DONE)))) ∧
    (∀ (fail : BitVec 8) (errors : Nat),
      (p.loop = 0 ∨ (p.loop = 3 ∧ d.fv Reg.FARPORT_LOOP_CTL_MODE f ≠ 0) → exec (.loopEnd f fail errors) s = .next s) ∧
      (p.loop = 3 → d.fv Reg.FARPORT_LOOP_CTL_MODE f = 0 → exec (.loopEnd f fail errors) s = .next (s.put
        (((d.modFar f (fun q => { q with loop := 0 })).setF Reg.FARPORT_LOOP_STATUS_DONE 1 f).raise (farPage f) Reg.EV_FARPORT_LOOP_DONE))) ∧
      (p.loop ≠ 0 → p.loop ≠ 3 →
        let a := d.modFar f (fun q => { q with loop := 0 })
        let b := (a.setF Reg.FARPORT_LOOP_STATUS_FAIL_LANES (Nat.land fail.toNat (a.fv Reg.FARPORT_LOOP_CTL_LANES f)) f).setSat
          Reg.FARPORT_LOOP_STATUS_ERRORS errors f
        exec (.loopEnd f fail errors) s = .next (s.put ((b.setF Reg.FARPORT_LOOP_STATUS_DONE 1 f).raise (farPage f) Reg.EV_FARPORT_LOOP_DONE))))

/-- PAIR_STAGE_END, pads released: the stage goes on to the next, or fails to DETECT, at its limit or without signal. CAP in EXCHANGE whose
bytes 2 to 4 differ fails the stage; on an ACTIVE link a CAP row is a protocol error. On an ACTIVE link IDLE returns credits and
acknowledges rows; MSG with the data rows it announces is received, counted, acknowledged and answered by an IDLE row; NAK replays what is
not acknowledged, and the third for one sequence retrains through LOCK; UNCORRECTABLE_CODEWORD counts, sends NAK, and the third retrains.
REPLAY_ACK_TIMEOUT with rows not acknowledged retrains. BLOCK_LOCK_LOSS of a locked lane counts 16 bad headers and loses its lock. On a
link that is not up as a pair link these rows change nothing. (Derived from R297, R303, R304, R305, R306, R307, R308, R312.) -/
def Obligations.PairLinkRowsTakeEffect : Prop :=
  ∀ (s : State) (f : Fin 4) (row : BitVec 512) (seen : BitVec 8 × BitVec 8),
    let d := s.dev
    let p := d.far f
    let pairUp := d.fv Reg.FARPORT_STATUS_ACTIVE_ROLE f = 2 ∧ d.fv Reg.FARPORT_STATUS_STAGE f = 5
    let field := fun (i w : Nat) => row.toNat / 2 ^ (8 * i) % 2 ^ (8 * w)
    let a := (d.bumpBy Reg.FARPORT_CNT_RS_CORR_VALUE seen.1.toNat f).bumpBy Reg.FARPORT_CNT_HDR_BAD_VALUE seen.2.toNat f
    (¬pairUp → exec (.idle f row seen) s = .next s ∧ exec (.nak f row seen) s = .next s ∧ exec (.uncorrectableCodeword f) s = .next s ∧
      (∀ rows, exec (.msg f row rows seen) s = .next s)) ∧
    (pairUp →
      (field 0 1 ≠ 0 → exec (.idle f row seen) s = .next s) ∧
      (field 0 1 ≠ 0x4B → exec (.nak f row seen) s = .next s) ∧
      (field 0 1 = 0 →
        let b := a.modFar f (fun q => { q with
          credit := min 256 (q.credit + field 2 1), replay := unacked (field 4 2) q.replay })
        exec (.idle f row seen) s = .next (s.put (((b.setF Reg.FARPORT_PAIR_LINK_TX_CREDIT (b.far f).credit f).txPump f).pumpCopies))) ∧
      (∀ rows : List (BitVec 512),
        (field 0 1 ≠ 0x1E ∨ rows.length ≠ field 1 1 % 8 → exec (.msg f row rows seen) s = .next (s.put
          ((a.record (farPage f) codeOTHER sevWARNING [field 0 1]).farRetrain f 3))) ∧
        (field 0 1 = 0x1E → rows.length = field 1 1 % 8 →
          let m := msgOfRow row (rows.headD 0)
          let b := a.modFar f (fun q => { q with
            rxSeq := (q.rxSeq + 1 + rows.length) % 65536,
            rxMsgs := if 1 ≤ m.mtype ∧ m.mtype ≤ 9 then q.rxMsgs ++ [m] else q.rxMsgs,
            pool := if m.mtype = 1 then q.pool + 1 else q.pool,
            naksTx := (0, 0) })
          exec (.msg f row rows seen) s = .next (s.put (((b.setF Reg.FARPORT_PAIR_LINK_RX_FREE (256 - (b.far f).pool) f).rowAck f row).sendIdle f)))) ∧
      (field 0 1 = 0x4B →
        let b := a.modFar f (fun q => { q with naks := nakCount q.naks (field 4 2), replay := unacked (field 4 2) q.replay })
        (3 ≤ (b.far f).naks.2 → exec (.nak f row seen) s = .next (s.put
          ((b.modFar f (fun q => { q with naks := (0, 0) })).farRetrain f 3))) ∧
        ((b.far f).naks.2 < 3 → exec (.nak f row seen) s = .next (s.put ((b.bump Reg.FARPORT_CNT_REPLAY_VALUE f).replayRows f)))) ∧
      (let b := (((d.bump Reg.FARPORT_CNT_RS_UNCORR_VALUE f).raise (farPage f) Reg.EV_FARPORT_RS_UNCORR).modFar f (fun q => { q with
          naksTx := nakCount q.naksTx q.rxSeq }));
       let c := b.emit (.row f (nakRow (b.far f).rxSeq));
       exec (.uncorrectableCodeword f) s = .next (s.put
         (if 3 ≤ (c.far f).naksTx.2 then (c.modFar f (fun q => { q with naksTx := (0, 0) })).farRetrain f 3 else c)))) ∧
    (d.fv Reg.FARPORT_STATUS_ACTIVE_ROLE f ≠ 2 ∨ field 0 1 ≠ 0x55 → exec (.cap f row seen) s = .next s) ∧
    (d.fv Reg.FARPORT_STATUS_ACTIVE_ROLE f = 2 → field 0 1 = 0x55 →
      (a.farStage f = 5 → exec (.cap f row seen) s = .next (s.put ((a.record (farPage f) codeOTHER sevWARNING [0x55]).farRetrain f 3))) ∧
      (a.farStage f ≠ 4 → a.farStage f ≠ 5 → exec (.cap f row seen) s = .next (s.put a)) ∧
      (a.farStage f = 4 → field 2 3 ≠ a.capOwn f → exec (.cap f row seen) s = .next (s.put (a.stageFail f 4))) ∧
      (a.farStage f = 4 → field 2 3 = a.capOwn f →
        let body := row &&& ~~~(BitVec.ofNat 512 (2 ^ 15))
        let same := (a.far f).capLast = body ∧ (a.far f).capRun ≠ 0
        let b := a.modFar f (fun q => { q with
          capLast := body, capRun := if same then q.capRun + 1 else 1, capAck := if same then q.capAck || bitN row.toNat 15 else bitN row.toNat 15 })
        let c := b.emit (.row f (b.capRow f (8 ≤ (b.far f).capRun)))
        exec (.cap f row seen) s = .next (s.put (if 8 ≤ (b.far f).capRun ∧ (b.far f).capAck = true then
          (c.peerSeen (field 8 1 % 4) (field 9 2) (field 11 4)).pairActivate f (field 6 2) else c)))) ∧
    (exec (.replayAckTimeout f) s = .next (s.put
      (if d.fv Reg.FARPORT_STATUS_ACTIVE_ROLE f = 2 ∧ p.replay ≠ [] then d.farRetrain f 3 else d))) ∧
    (∀ l : Fin 8,
      (d.fv Reg.FARPORT_STATUS_ACTIVE_ROLE f ≠ 2 ∨ d.laneLocked f l = false → exec (.blockLockLoss f l) s = .next s) ∧
      (d.fv Reg.FARPORT_STATUS_ACTIVE_ROLE f = 2 → d.laneLocked f l = true → exec (.blockLockLoss f l) s = .next (s.put
        ((((d.bumpBy Reg.FARPORT_CNT_HDR_BAD_VALUE 16 f).bump Reg.FARPORT_CNT_LOCK_LOSS_VALUE f).raise (farPage f) Reg.EV_FARPORT_LOCK_LOSS).lockLost
          f l)))) ∧
    (let out := d.farSt f = stFAILED ∨ d.farSt f = stDARK ∨ d.farSt f = stTESTING ∨ d.farSt f = stRESETTING
     let k := d.fv Reg.FARPORT_STATUS_STAGE f
     let still := d.fb Reg.MODES_STATUS_PADS_LATCHED = true ∨ d.pins.refclk = false ∨ d.fv Reg.FARPORT_STATUS_ACTIVE_ROLE f ≠ 2 ∨ out
     (∀ o : StageObs, still → exec (.pairStageEnd f o) s = .next s) ∧
     (¬still →
      (∀ o : StageObs, o = .limit ∨ d.pins.vddaFar = false →
        (k = 1 → exec (.pairStageEnd f o) s = .next (s.put (d.farEnter f stOFFLINE))) ∧
        (2 ≤ k → k ≤ 4 → exec (.pairStageEnd f o) s = .next (s.put (d.stageFail f (k - 1)))) ∧
        (k = 0 ∨ 4 < k → exec (.pairStageEnd f o) s = .next s)) ∧
      (d.pins.vddaFar = true →
        (2 ≤ k → k ≤ 4 → exec (.pairStageEnd f .noSignal) s = .next (s.put (d.stageFail f 6))) ∧
        (k < 2 ∨ 4 < k → exec (.pairStageEnd f .noSignal) s = .next s) ∧
        (∀ (lanes : BitVec 8) (rev : Bool),
          let w := widthOf lanes.toNat (d.fv Reg.FARPORT_LANE_EXCL_LANES f)
          (k = 0 ∨ 4 ≤ k → exec (.pairStageEnd f (.ends lanes rev)) s = .next s) ∧
          (k = 1 → exec (.pairStageEnd f (.ends lanes rev)) s = .next (s.put
            (if w = 0 then d else (d.setF Reg.FARPORT_STATUS_STAGE 2 f).farEnter f stKINDLING))) ∧
          (k = 2 → exec (.pairStageEnd f (.ends lanes rev)) s = .next (s.put
            ((d.setF Reg.FARPORT_STATUS_STAGE 3 f).emit (.row f (idleRow 0 p.rxSeq))))) ∧
          (k = 3 → w = 0 → exec (.pairStageEnd f (.ends lanes rev)) s = .next (s.put (d.stageFail f 5))) ∧
          (k = 3 → w ≠ 0 →
            let b := (((d.setLanes f lanes.toNat rev).setF Reg.FARPORT_STATUS_RATE 2 f).setF Reg.FARPORT_STATUS_STAGE 4 f).modFar f (fun q => { q with
              capLast := 0, capRun := 0, capAck := false })
            exec (.pairStageEnd f (.ends lanes rev)) s = .next (s.put (b.emit (.row f (b.capRow f false)))))))))

/-- A message whose fields fit is read back from its row, its body padded to 27 bytes, the wait mark of R139 no part of it. MWRITE and
MRELEASE, in the order they came, are carried out where the receiver is a SECONDARY of the sender's epoch, and are refused else. MACK of a
copy that awaits it ends the copy; MREFUSE marks its window BROKEN and lists its frame. RREQ reads the line without allocation; RDATA
gives it to the read that asked; CFGWR stores a mirrored register in a SECONDARY's standby image. STRICT_COPY_TIMEOUT answers NACK_RETRY,
100 µs, and the copy stays. LAGGED_COPY_SEND sends, of the queued lines, one of the greatest key, with a credit to an ACTIVE partner in
order. LAG_TIME_LIMIT marks a lag. A row with no message waiting changes nothing. (Derived from R304, R305, R319, R322, R323, R324, R325,
R326, R327, R328, R330.) -/
def Obligations.PairMessagesAndCopies : Prop :=
  (∀ (m : PairMsg) (cr ack : Nat), m.mtype < 256 → m.flags < 256 → m.epoch < 65536 → m.addr < 2 ^ 39 → m.cls < 64 → m.mseq < 65536 →
    m.mpar < 256 → m.body.length ≤ 27 → (∀ b ∈ m.body, b < 256) →
    msgOfRow (msgRow m cr ack) m.data = { m with body := m.body ++ List.replicate (27 - m.body.length) 0, starved := false }) ∧
  (∀ (s : State) (f : Fin 4),
    let d := s.dev
    let q := (d.far f).rxMsgs
    let drop := fun (m : PairMsg) => d.modFar f (fun p => { p with rxMsgs := dropFirst (fun x => x == m) p.rxMsgs })
    let look := fun (t : Dev) (r : Req) => ({ t.fresh with space := { t.space with lookupQ := t.space.lookupQ ++ [r] } } : Dev)
    (q = [] → ∀ i ∈ [Instr.mwrite f, .mrelease f, .mack f, .mrefuse f, .rreq f, .rdata f, .cfgwr f], exec i s = .next s) ∧
    (let none_ := fun (t : Nat) => q.find? (fun m => m.mtype == t) = none
     let late := fun (t : Nat) => ∃ m, q.find? (fun m => m.mtype == t) = some m ∧ d.pair.await.find? (fun c => c.mseq == m.mseq) = none
     (none_ 1 → none_ 2 → exec (.mwrite f) s = .next s ∧ exec (.mrelease f) s = .next s) ∧
     (none_ 3 → exec (.mack f) s = .next s) ∧ (none_ 4 → exec (.mrefuse f) s = .next s) ∧ (none_ 6 → exec (.rreq f) s = .next s) ∧
     (none_ 7 → exec (.rdata f) s = .next s) ∧ (none_ 8 → exec (.cfgwr f) s = .next s) ∧
     (late 3 → ∃ m ∈ q, m.mtype = 3 ∧ exec (.mack f) s = .next (s.put (drop m))) ∧
     (late 4 → ∃ m ∈ q, m.mtype = 4 ∧ exec (.mrefuse f) s = .next (s.put (drop m)))) ∧
    (∀ m, q.find? (fun m => m.mtype == 1 || m.mtype == 2) = some m →
      let ok := decide (d.role = roleSECONDARY) && (m.epoch == d.fv Reg.PAIR_EPOCH_EPOCH) && !(d.fb Reg.PAIR_STATUS_CONFLICT)
      let t := drop m
      (m.mtype = 2 → exec (.mwrite f) s = .next s ∧
        (ok = true → exec (.mrelease f) s = .next (s.put (t.applyCopy f m (.hint 4 1 0)))) ∧
        (ok = false → exec (.mrelease f) s = .next (s.put (t.sendPair f { mtype := 4, mseq := m.mseq, addr := m.addr, body := [4] })))) ∧
      (m.mtype = 1 → exec (.mrelease f) s = .next s ∧
        (ok = true → m.flags / 2 % 2 = 0 → parityOf 8 m.mask.toNat = m.mpar → exec (.mwrite f) s = .next (s.put (look t
          { id := t.nextId, org := .mirror f m.mseq, op := if m.mask = fullMask then .wr else .wrm, cls := m.cls, line := m.addr,
            data := m.data, par := m.par, mask := m.mask }))) ∧
        (ok = true → m.flags / 2 % 2 = 1 ∨ parityOf 8 m.mask.toNat ≠ m.mpar → exec (.mwrite f) s = .next (s.put (look t
          { id := t.nextId, org := .mirror f m.mseq, op := .wr, cls := m.cls, line := m.addr,
            data := 0, par := lineParity 0 ^^^ poisonBad, mask := fullMask }))) ∧
        (ok = false → exec (.mwrite f) s = .next (s.put ((t.poolFree f).sendPair f
          { mtype := 4, mseq := m.mseq, addr := m.addr, body := [4] }))))) ∧
    (∀ m c, q.find? (fun m => m.mtype == 3) = some m → d.pair.await.find? (fun c => c.mseq == m.mseq) = some c →
      let t := (drop m).modPair (fun p => { p with await := dropFirst (fun x => x.mseq == m.mseq) p.await })
      exec (.mack f) s = .next (s.put
        ((((if c.release then t else t.bump Reg.PAIR_CNT_MIRROR_LINES_VALUE).copyAck c).noteLag).handoverCheck))) ∧
    (∀ m c, q.find? (fun m => m.mtype == 4) = some m → d.pair.await.find? (fun c => c.mseq == m.mseq) = some c →
      let t := (drop m).modPair (fun p => { p with await := dropFirst (fun x => x.mseq == m.mseq) p.await })
      let u := (if c.win < 16 then t.setF Reg.PAIR_MWj_CTL_BROKEN 1 0 c.win else t).raiseRec pgPAIR Reg.EV_PAIR_MIRROR_BROKEN sevERROR [c.win, c.line, m.body.headD 0]
      exec (.mrefuse f) s = .next (s.put ((((u.noteResync (frameOfLine c.line)).copyAck c).noteLag).handoverCheck))) ∧
    (∀ m, q.find? (fun m => m.mtype == 6) = some m → exec (.rreq f) s = .next (s.put (look (drop m)
      { id := (drop m).nextId, org := .rdata f m.mseq, op := .rdNa, cls := m.cls, line := m.addr }))) ∧
    (∀ m, q.find? (fun m => m.mtype == 7) = some m → d.pair.asked.find? (fun a => a.2.2 == m.mseq) = none →
      exec (.rdata f) s = .next (s.put (drop m))) ∧
    (∀ m a, q.find? (fun m => m.mtype == 7) = some m → d.pair.asked.find? (fun a => a.2.2 == m.mseq) = some a →
      let t := (drop m).modPair (fun p => { p with asked := dropFirst (fun x => x == a) p.asked })
      exec (.rdata f) s = .next (s.put
        (t.pairFix a.1 a.2.1 (if m.flags / 2 % 2 = 1 ∨ badBytes m.data m.par ≠ 0 then none else some m.data)))) ∧
    (∀ m, q.find? (fun m => m.mtype == 8) = some m →
      let n := fun (i : Nat) => m.body.getD i 0 + m.body.getD (i + 1) 0 * 2 ^ 8 + m.body.getD (i + 2) 0 * 2 ^ 16 + m.body.getD (i + 3) 0 * 2 ^ 24
      exec (.cfgwr f) s = .next (s.put (if d.role = roleSECONDARY ∧ isMirrored (n 0) = true then
        (drop m).modPair (fun p => { p with standby := sput p.standby (n 0) (BitVec.ofNat 32 (n 4)) }) else drop m))) ∧
    (∀ mseq : BitVec 16,
      ((d.pair.await ++ d.pair.copies).find? (fun c => c.mseq == mseq.toNat && c.ans.isSome) = none → exec (.strictCopyTimeout mseq) s = .next s) ∧
      (∀ c r res, (d.pair.await ++ d.pair.copies).find? (fun c => c.mseq == mseq.toNat && c.ans.isSome) = some c → c.ans = some (r, res) →
        let off := fun (l : List MirCopy) => l.map (fun x => if x.mseq == mseq.toNat then { x with ans := none } else x)
        exec (.strictCopyTimeout mseq) s = .next (s.put
          ((d.modPair (fun p => { p with await := off p.await, copies := off p.copies })).answer r (.retry 100))))) ∧
    (d.pairPort = none ∨ d.inOrder = false ∨ d.pair.lagQ = [] → exec .laggedCopySend s = .next s) ∧
    (d.pairPort = some f.val → d.inOrder = true → d.pair.lagQ ≠ [] →
      (d.pairActive f = false ∨ (d.far f).credit = 0 → exec .laggedCopySend s = .next s) ∧
      (d.pairActive f = true → (d.far f).credit ≠ 0 → ∃ x ∈ d.pair.lagQ, (∀ y ∈ d.pair.lagQ, d.key y.2.1 0 false ≤ d.key x.2.1 0 false) ∧
        let t := d.modPair (fun p => { p with lagQ := dropFirst (fun y => y.1 == x.1) p.lagQ })
        let v := (t.slotLine x.1).getD (0, poisonBad)
        exec .laggedCopySend s = .next (s.put
          (t.addCopy ⟨0, false, x.1, x.2.1, fullMask, v.1, v.2, (t.mirrorWin (frameOfLine x.1)).getD 16, false, none, false, x.2.2⟩).noteLag))) ∧
    exec .lagTimeLimit s = .next (s.put (if d.lag = 0 then d else (d.modPair (fun p => { p with lagOld := true })).noteLag)))

/-- CANDLE compares roles, epochs and CFG_CRC and brings the partner up; one back in order is sent every copy again. CANDLE_SEND counts a
candle missed while the partner is up, and sends one while the pair link is ACTIVE. PARTNER_DARK with a pair port declares it dark; where
it already is nothing changes. HANDOVER at a PRIMARY starts it, at the SECONDARY that asked for it takes over: EPOCH rises (65,535 to 1),
the standby image is applied, ROLE 1. HANDOVER_TIMEOUT abandons it. MW_BIRTH_CHECK_END enables the window, or clears EN where a frame of
it is born. RESYNC, in order, starts with the listed frames or all, and then sends the first frame still to do. RESYNC_END with all sent
and held empties the list, clears BROKEN and raises RESYNC_DONE. (Derived from R319, R320, R321, R327, R328, R329, R330.) -/
def Obligations.PairServiceAndResync : Prop :=
  ∀ (s : State) (f : Fin 4),
    let d := s.dev
    let q := (d.far f).rxMsgs
    let drop := fun (m : PairMsg) => d.modFar f (fun p => { p with rxMsgs := dropFirst (fun x => x == m) p.rxMsgs })
    (q.find? (fun m => m.mtype == 5) = none → exec (.candle f) s = .next s) ∧
    (∀ m, q.find? (fun m => m.mtype == 5) = some m →
      let b := fun (i : Nat) => m.body.getD i 0
      let was := (drop m).inOrder && (drop m).fb Reg.PAIR_STATUS_PARTNER_UP
      let t := (drop m).modPair (fun p => { p with heard := true, missed := 0 })
      let u := (t.peerSeen (b 0 % 4) m.epoch (b 2 + b 3 * 2 ^ 8 + b 4 * 2 ^ 16 + b 5 * 2 ^ 24)).partnerUp
      exec (.candle f) s = .next (s.put (if u.inOrder = true ∧ was = false then u.resendCopies else u.pumpCopies))) ∧
    (let a := if d.fb Reg.PAIR_STATUS_PARTNER_UP = true ∧ d.pair.heard = false then
        (d.modPair (fun p => { p with missed := p.missed + 1 })).bump Reg.PAIR_CNT_CANDLE_MISS_VALUE else d
     let t := a.modPair (fun p => { p with heard := false })
     (t.pairPort = none → exec .candleSend s = .next (s.put t)) ∧
     (t.pairPort = some f.val → t.pairActive f = false → exec .candleSend s = .next (s.put t)) ∧
     (t.pairPort = some f.val → t.pairActive f = true → exec .candleSend s = .next (s.put
      (t.sendPair f { mtype := 5, body := [t.role, 0] ++ bytesLE 4 t.cfgCrc.toNat ++ bytesLE 4 t.lag })))) ∧
    (d.pairPort = none ∨ d.fb Reg.PAIR_STATUS_PARTNER_DARK = true → exec .partnerDark s = .next s) ∧
    (d.pairPort ≠ none → d.fb Reg.PAIR_STATUS_PARTNER_DARK = false →
      let t := (d.setF Reg.PAIR_STATUS_PARTNER_DARK 1).setF Reg.PAIR_STATUS_PARTNER_UP 0
      let u := t.raiseRec pgPAIR Reg.EV_PAIR_PARTNER_DARK sevWARNING [d.role, d.fv Reg.PAIR_EPOCH_EPOCH]
      exec .partnerDark s = .next (s.put ((u.resyncStop.modPair (fun p => { p with asked := [] })).skipSources none))) ∧
    (q.find? (fun m => m.mtype == 9) = none → exec (.handover f) s = .next s) ∧
    (∀ m, q.find? (fun m => m.mtype == 9) = some m →
      (d.role = rolePRIMARY → exec (.handover f) s = .next (s.put ((drop m).setF Reg.PAIR_STATUS_HANDOVER 1).handoverCheck)) ∧
      (d.role ≠ rolePRIMARY → (d.role ≠ roleSECONDARY ∨ d.pair.handover = false) → exec (.handover f) s = .next (s.put (drop m))) ∧
      (d.role = roleSECONDARY → d.pair.handover = true →
        let e := d.fv Reg.PAIR_EPOCH_EPOCH
        let t := ((((drop m).setF Reg.PAIR_EPOCH_EPOCH (if e = 65535 then 1 else e + 1)).applyStandby.wlTrigger.setF Reg.PAIR_CTL_ROLE rolePRIMARY).setF
          Reg.PAIR_STATUS_HANDOVER 0).modPair (fun p => { p with handover := false })
        exec (.handover f) s = .next (s.put (t.raiseRec pgPAIR Reg.EV_PAIR_TAKEOVER sevWARNING [t.fv Reg.PAIR_EPOCH_EPOCH])))) ∧
    exec .handoverTimeout s = .next (s.put (if d.fb Reg.PAIR_STATUS_HANDOVER then
      (d.setF Reg.PAIR_STATUS_HANDOVER 0).modPair (fun p => { p with handover := false }) else d)) ∧
    (∀ j : Fin 16,
      (d.fb Reg.PAIR_MWj_CTL_ENABLING 0 j = false → exec (.mwBirthCheckEnd j) s = .next s) ∧
      (d.fb Reg.PAIR_MWj_CTL_ENABLING 0 j = true →
        let t := d.setF Reg.PAIR_MWj_CTL_ENABLING 0 0 j
        let lo := t.fv Reg.PAIR_MWj_BASE_FRAME 0 j
        let hi := lo + t.fv Reg.PAIR_MWj_SIZE_FRAMES 0 j - 1
        exec (.mwBirthCheckEnd j) s = .next (s.put
          (if t.space.born.any (fun iv => iv.1 ≤ hi && lo ≤ iv.2) then t.setF Reg.PAIR_MWj_CTL_EN 0 0 j else t).mwChanged))) ∧
    (d.inOrder = false → exec .resync s = .next s) ∧
    (d.inOrder = true → d.pair.resyncing = false →
      let whole := d.fb Reg.PAIR_RESYNC_STATUS_FULL || d.pair.fullDue
      exec .resync s = .next (s.put ((d.modPair (fun p => { p with
        todo := if whole then d.mirrorRanges else d.pair.resync.foldl (fun t f => iadd t f f) [],
        whole := whole, resyncing := true, fullDue := false })).showResync))) ∧
    (d.inOrder = true → d.pair.resyncing = true →
      let t := d.resyncAnswers
      (ifirst t.pair.todo = none → exec .resync s = .next (s.put t)) ∧
      (∀ fr, ifirst t.pair.todo = some fr → exec .resync s = .next (s.put (t.resyncFrame fr).showResync))) ∧
    (let done := d.pair.resyncing && d.pair.todo.isEmpty && d.pair.reads.isEmpty && !((d.pair.copies ++ d.pair.await).any (·.resync))
     (done = false → exec .resyncEnd s = .next s) ∧
     (done = true →
      let t := (d.modPair (fun p => { p with resyncing := false, whole := false, resync := [] })).showResync
      exec .resyncEnd s = .next (s.put
        (((((List.range 16).foldl (fun u j => u.setF Reg.PAIR_MWj_CTL_BROKEN 0 0 j) t).wrReg 0xC060 0).raise pgPAIR Reg.EV_PAIR_RESYNC_DONE)))))

/-- FUNC_RESET_END of a unit that is not RESETTING changes nothing; with REFCLK, of an engine, a shaft, haulage or the dispatcher brings it
through KINDLING to ONLINE, haulage by its walk; a bring-up that failed leaves the unit FAILED. STATE_NOTICE gives the oldest notice to
the routing view, and to the management view unless it is lost. VIEW_COMPARISON leaves the management view equal to every unit.
EVACUATION_END of an EVACUATING shaft that nothing names makes it FENCED, in self-refresh, and raises EVAC_DONE. SHOOTDOWN_TIMEOUT resets
the engine, sets LATE_ACK and counts it acknowledged; JOB_END_TIMEOUT_RESET resets an engine whose cut job has not ended.
SELFTEST_TARGET_END repairs what it found; a target that passes is FENCED, another FAILED, and so is the engine a COLLAR run tests with a
shaft. (Derived from R63, R255, R338, R339, R344, R345, R346, R348, R355.) -/
def Obligations.UnitsResetEvacuateAndTest : Prop :=
  ∀ (s : State),
    let d := s.dev
    (∀ (page : BitVec 14) (o : BringUp) (r : ShortObs),
      let t := d.enter page.toNat stKINDLING
      (d.ust page.toNat ≠ stRESETTING ∨ unitOf page.toNat = none ∨ d.pins.refclk = false → exec (.funcResetEnd page o r) s = .next s) ∧
      (d.ust page.toNat = stRESETTING → d.pins.refclk = true →
        (∀ u, unitOf page.toNat = some u → o = .failed → exec (.funcResetEnd page o r) s = .next (s.put (t.failUnit u page.toNat))) ∧
        (∀ n, unitOf page.toNat = some (.shaft n) → o ≠ .failed →
          (r.ok = true → exec (.funcResetEnd page o r) s = .next (s.put ((((t.shortRetrain n r).exitSR n).drainWbuf n).enter page.toNat stONLINE))) ∧
          (r.ok = false → exec (.funcResetEnd page o r) s = .next (s.put ((t.shortRetrain n r).failShaft n)))) ∧
        (∀ n, unitOf page.toNat = some (.engine n) → o ≠ .failed →
          exec (.funcResetEnd page o r) s = .next (s.put (((t.modEng n (fun g => { g with acc := [] })).tryEnd n).enter page.toNat stONLINE))) ∧
        (∀ h, unitOf page.toNat = some (.host h) → o ≠ .failed → exec (.funcResetEnd page o r) s = .next (s.put
          (if t.fb Reg.HOSTPORT_LINK_CTL_DISABLE h then t.enter page.toNat stOFFLINE else t.startTraining h))) ∧
        (∀ f, unitOf page.toNat = some (.far f) → o ≠ .failed → exec (.funcResetEnd page o r) s = .next (s.put
          ((t.setF Reg.FARPORT_STATUS_ACTIVE_ROLE (t.fv Reg.FARPORT_CTL_ROLE f) f).farBringUp f))) ∧
        (unitOf page.toNat = some .haulage → o ≠ .failed → exec (.funcResetEnd page o r) s = .next (s.put t.startWalk)) ∧
        (unitOf page.toNat = some .dispatcher → o ≠ .failed → exec (.funcResetEnd page o r) s = .next (s.put
          (if t.space.walking then t else (t.enter page.toNat stONLINE).ringsPump))))) ∧
    (∀ lost : Bool,
      (d.notice.stateFlight = [] → exec (.stateNotice lost) s = .next s) ∧
      (∀ page st e l, d.notice.stateFlight = (page, st, e) :: l →
        let set := fun (v : Sparse (Nat × Nat)) => sset (fun _ => (stOFFLINE, 0)) v page (st, e)
        let t := { d with notice := { d.notice with
          stateFlight := l
          routeView := set d.notice.routeView
          mgmtView := if lost = true ∨ d.pins.mgmtOn = false then d.notice.mgmtView else set d.notice.mgmtView } }
        let a := attOfPage page
        exec (.stateNotice lost) s = .next (s.put (((t.countCell a 0x48 2).countCell a 0x49 2).countCell a 0x4A 2)))) ∧
    (d.pins.mgmtOn = false → exec .viewComparison s = .next s) ∧
    (d.pins.mgmtOn = true → ∃ t : Dev, exec .viewComparison s = .next (s.put t) ∧
      (∀ p ∈ unitPages, sget (fun _ => (stOFFLINE, 0)) t.notice.mgmtView p = (d.ust p, d.epoch p) ∧ t.ust p = d.ust p ∧ t.epoch p = d.epoch p) ∧
      t.notice.routeView = d.notice.routeView) ∧
    (∀ n : Fin 48,
      let busy := d.space.ways.any (fun e => e.2.valid && e.2.shaft == n.val) || d.haul.evicts.any (fun x => x.shaft == n.val) ||
        d.space.resvPend.any (fun i => (d.space.resv.getD i (0, 0)).1 == n.val)
      (d.shaftSt n ≠ stEVACUATING ∨ busy = true → exec (.evacuationEnd n) s = .next s) ∧
      (d.shaftSt n = stEVACUATING → busy = false → exec (.evacuationEnd n) s = .next (s.put
        ((((d.drainWbuf n).enter (shaftPage n) stFENCED).enterSR n).raise pgSELFTEST Reg.EV_SELFTEST_EVAC_DONE))) ∧
      (∀ frame : BitVec 26,
        (d.haul.shoots.any (fun h => h.frame == frame.toNat && h.waiting.contains n.val) = false → exec (.shootdownTimeout frame n) s = .next s) ∧
        (d.haul.shoots.any (fun h => h.frame == frame.toNat && h.waiting.contains n.val) = true → exec (.shootdownTimeout frame n) s = .next (s.put
          (((d.engineReset n stRESET).raise (enginePage n) Reg.EV_ENGINE_LATE_ACK).modHaul (fun p => { p with
            shoots := p.shoots.map (fun h => if h.frame == frame.toNat then { h with waiting := h.waiting.filter (· != n.val) } else h) }))))) ∧
      ((d.eng n).run = none → exec (.jobEndTimeoutReset n) s = .next s) ∧
      (∀ r, (d.eng n).run = some r →
        (r.ending = none → exec (.jobEndTimeoutReset n) s = .next s) ∧
        (∀ st a b, r.ending = some (st, a, b) →
          (st ≠ stTIMEOUT → st ≠ stABORTED → exec (.jobEndTimeoutReset n) s = .next s) ∧
          (d.engSt n = stDARK ∨ d.engSt n = stRESETTING → exec (.jobEndTimeoutReset n) s = .next s) ∧
          (st = stTIMEOUT ∨ st = stABORTED → d.engSt n ≠ stDARK → d.engSt n ≠ stRESETTING → exec (.jobEndTimeoutReset n) s = .next (s.put
            ((d.engReset n st).enter (enginePage n) stRESETTING)))))) ∧
    (∀ (page : BitVec 14) (o : SelftestObs),
      (d.stest.left.contains page.toNat = false ∨ unitOf page.toNat = none → exec (.selftestTargetEnd page o) s = .next s) ∧
      (∀ u, d.stest.left.contains page.toNat = true → unitOf page.toNat = some u →
        let kind := d.stest.kind
        let n := page.toNat % 256
        let x := d.repairAll u o.defects
        let a := match u with
          | .shaft n => if kind = 3 ∨ kind = 7 then x.1.arrayTested n else x.1
          | .engine n => x.1.modEng n (fun g => { g.clearRegs with scratch := [], scratchBad := [] })
          | _ => x.1
        let spared := o.defects.any (fun y => match y with
          | .column _ => true
          | _ => false)
        let b := match u with
          | .shaft n => if spared = true ∧ x.2 = true then a.trainRun n o.train else a
          | _ => a
        let ok := match u with
          | .shaft n => if spared = true ∧ x.2 = true then decide (b.fv Reg.SHAFT_TRAIN_STATUS_RESULT n ≠ 3) else x.2
          | _ => x.2
        let fellow := fun (t : Dev) (st : Nat) => if kind = 1 then t.enter (enginePage n) st else t
        (ok = true → o.defects = [] → exec (.selftestTargetEnd page o) s = .next (s.put
          ((fellow (b.testPass page.toNat) stFENCED).targetOut page.toNat))) ∧
        (ok = true → o.defects ≠ [] → exec (.selftestTargetEnd page o) s = .next (s.put ((fellow
          ((b.markTarget Reg.SELFTEST_REPAIR_LO_UNITS Reg.SELFTEST_REPAIR_HI_UNITS (targetIndex page.toNat)).testPass page.toNat) stFENCED).targetOut
          page.toNat))) ∧
        (ok = false → exec (.selftestTargetEnd page o) s = .next (s.put ((fellow
          ((b.markTarget Reg.SELFTEST_FAIL_LO_UNITS Reg.SELFTEST_FAIL_HI_UNITS (targetIndex page.toNat)).failUnit u page.toNat) stFAILED).targetOut
          page.toNat)))))

/-- KINDLE_STEP_END where start-up does not run, or at step 16, changes nothing; step 1, and 14 and 15, end at once; step 4 with a failed
self-check halts, and else measures the references; step 5 goes on with an image that passes, and else enters recovery; step 12 waits for
the walk; the others have their effect; and STEP rises by 1. KINDLE_TIMER_EXPIRY before step 6 halts; from step 6 on it enters LAMPROOM
with FAULT 1 and KINDLE_TIMEOUT. SPINE_FAULT with the spine powered stops the spine, writes its record and triggers a ground-die reset: in
KINDLE a warm reset; in the first stages of an entry it is unwound first; else the reset starts, or one under way goes on from step 3.
GROUND_DIE_RESET_STEP_END with no reset or no REFCLK changes nothing; each step has its effect, step 6 waits for the walk, step 7 is the
last. (Derived from R132, R364, R365, R368, R369, R370, R371, R372, R373, R389, R415.) -/
def Obligations.KindleAndGroundDieReset : Prop :=
  ∀ (s : State),
    let d := s.dev
    (∀ o : KindleObs,
      let k := d.fv Reg.DEVICE_KINDLE_STATUS_STEP
      let next := fun (t : Dev) => exec (.kindleStepEnd o) s = .next (s.put (t.setF Reg.DEVICE_KINDLE_STATUS_STEP (k + 1)))
      (d.kindleRuns = false ∨ 16 ≤ k → exec (.kindleStepEnd o) s = .next s) ∧
      (d.kindleRuns = true →
        (k = 1 → exec (.kindleStepEnd o) s = .next (s.put (d.setF Reg.DEVICE_KINDLE_STATUS_STEP 2).liveChange)) ∧
        (k = 2 → next (d.senseFuses o.fuses)) ∧
        (k = 3 → exec (.kindleStepEnd o) s = .next (s.put
          (((((d.checkFuses).loadRepairs d.ks.cold).loadConfig d.ks.cold).loadLanes.setF Reg.DEVICE_KINDLE_STATUS_STEP 4).liveChange))) ∧
        (k = 4 → o.selfOk = false → exec (.kindleStepEnd o) s = .next (s.put (d.modKs (fun q => { q with halted := true })))) ∧
        (k = 4 → o.selfOk = true → next ((if d.ks.cold then d.burnCycle.lifeRestore else d).kindleRefs o.refs)) ∧
        (k = 5 → (d.bootLoad o.flashBad).2 = true → next (d.bootLoad o.flashBad).1) ∧
        (k = 5 → (d.bootLoad o.flashBad).2 = false → exec (.kindleStepEnd o) s = .next (s.put (d.bootLoad o.flashBad).1.enterRecovery)) ∧
        (k = 6 →
          let t := (d.setF Reg.DEVICE_WDOG_CTL_EN 1).modKs (fun q => { q with wdogFrom := d.time })
          (t.fuseAction = some 2 → exec (.kindleStepEnd o) s = .next (s.put
            (((t.setF Reg.DEVICE_KINDLE_STATUS_FAULT 4).modKs (fun q => { q with halted := true })).trainMgmt))) ∧
          (t.fuseAction = some 0 → next (t.modKs (fun q => { q with clamp := true }))) ∧
          (t.fuseAction ≠ some 2 → t.fuseAction ≠ some 0 → next t)) ∧
        (k = 7 → next (d.kindleCollar o.ports)) ∧
        (k = 8 → next d.kindleEngines) ∧
        (k = 9 → next (d.kindleDram o.mute)) ∧
        (k = 10 → next (d.kindleTrain o.train)) ∧
        (k = 11 → next (if (d.quickTest o.quick).ks.cold then d.quickTest o.quick else (d.quickTest o.quick).kindleWalk o.blocks)) ∧
        (k = 12 → d.space.walking = true → exec (.kindleStepEnd o) s = .next s) ∧
        (k = 12 → d.space.walking = false → next d.spaceReady) ∧
        (k = 13 → next d.trainHosts) ∧
        (k = 0 ∨ k = 14 ∨ k = 15 → next d))) ∧
    (d.kindleRuns = false → exec .kindleTimerExpiry s = .next s) ∧
    (d.kindleRuns = true →
      let k := d.fv Reg.DEVICE_KINDLE_STATUS_STEP
      (k < 6 → exec .kindleTimerExpiry s = .next (s.put (d.modKs (fun q => { q with halted := true })))) ∧
      (6 ≤ k → ∃ t : Dev, exec .kindleTimerExpiry s = .next (s.put t) ∧
        t.mode = mdLAMPROOM ∧ t.fv Reg.DEVICE_KINDLE_STATUS_FAULT = 1 ∧ t.fb Reg.DEVICE_RESET_CAUSE_KINDLE_TIMEOUT = true ∧
        t.fb Reg.DEVICE_KINDLE_STATUS_ACTIVE = false ∧ t.ks.lateFault = false ∧
        t.tally.arriving.length = d.tally.arriving.length + 1 ∧ t.shafts = d.shafts ∧ t.space = d.space ∧ t.dram = d.dram)) ∧
    (d.pins.pwrgood = false ∨ d.pins.spineOn = false → exec .spineFault s = .next s) ∧
    (d.pins.pwrgood = true → d.pins.spineOn = true →
      let t := ({ d with fabric := { d.fabric with faulted := true } } : Dev).record pgFABRIC codeOTHER sevCRITICAL []
      let next := fun (t : Dev) => exec .spineFault s = .next (s.put t)
      (d.mode = mdKINDLE → ∃ fails : BitVec 48, next (t.nextFree.warmReset 5 fails)) ∧
      (d.mode ≠ mdKINDLE → 5 ≤ d.phase → d.phase < 9 → next ((t.unwind mrUNWOUND).groundReset 2)) ∧
      (d.mode ≠ mdKINDLE → d.phase < 5 ∨ 8 < d.phase →
        (d.ks.gdr = none →
          let u := (t.setF Reg.DEVICE_RESET_CAUSE_GROUND 2).bump Reg.DEVICE_CNT_GROUND_VALUE
          let v := u.record 0 0x101 sevCRITICAL [(u.rdReg 0x0044).toNat, d.time % 2 ^ 32]
          next ((v.setGdr (some ⟨1, false, d.time, 0, v.rdReg 0x5058⟩)).gdrLinks)) ∧
        (∀ g, d.ks.gdr = some g →
          let u := t.setF Reg.DEVICE_RESET_CAUSE_GROUND 2
          (g.step < 3 → next u) ∧
          (3 ≤ g.step → next (((if 7 ≤ g.step then u.gdrLinks.gdrTiles else u).setGdr (some { g with step := 3 })).gdrReset))))) ∧
    (∀ fails : BitVec 48,
      (d.ks.gdr = none ∨ d.pins.refclk = false → exec (.groundDieResetStepEnd fails) s = .next s) ∧
      (∀ g, d.ks.gdr = some g → d.pins.refclk = true →
        let next := fun (t : Dev) => exec (.groundDieResetStepEnd fails) s = .next (s.put
          (t.modKs (fun q => { q with gdr := q.gdr.map (fun (g : Gdr) => { g with step := g.step + 1 }) })))
        (g.step = 1 → next d.gdrTiles) ∧ (g.step = 2 → next d.gdrReset) ∧ (g.step ∉ [1, 2, 5, 6, 7] → next d) ∧
        (g.step = 5 → next (d.gdrWalk fails)) ∧
        (g.step = 6 → d.space.walking = true → exec (.groundDieResetStepEnd fails) s = .next s) ∧
        (g.step = 6 → d.space.walking = false → next (d.gdrDone g)) ∧
        (g.step = 7 → exec (.groundDieResetStepEnd fails) s = .next (s.put (d.gdrPorts.setGdr none)))))

/-- DIM_GROUP_END with no shaft of the group changing starts the next; after the last DIM or RUN is reached. LAMPROOM_DRAIN_END with nothing
live enters LAMPROOM. ENTRY_STAGE_END ends a stage whose work is done: a held wake unwinds stages 1 to 4 as WOKEN, stage 5 latches the
pads, stage 6 enters SHUTTERED. DRAIN_LIMIT in stage 2 unwinds. WAKE_SENSE_CROSSING sets LEVEL; WAKE_COMPARATOR_WAKE is held in an entry,
starts the exit in SHUTTERED, and else does nothing. EXIT_STEP_END with REFCLK takes the next step; a late one restarts the exit once,
then resets. POWER_ESTIMATE shows the sum, saturating at 4,095, and its peak; IDLE_PARK_UNDER_CAP parks at step P3. FUSE_WORD_BURN_END
ends the word, and a held re-kindle then starts unless a column copy runs. (Derived from R381, R382, R384, R388, R389, R390, R391, R392,
R396, R397, R431.) -/
def Obligations.ModesChangeAndPowerIsCapped : Prop :=
  ∀ (s : State),
    let d := s.dev
    (d.ms.group = [] ∨ d.ms.group.any (fun n => d.freqBusy n) = true → exec .dimGroupEnd s = .next s) ∧
    (d.ms.group ≠ [] → d.ms.group.any (fun n => d.freqBusy n) = false →
      let t := d.nextGroup
      (t.ms.group ≠ [] ∨ (t.phase ≠ 1 ∧ t.phase ≠ 2) → exec .dimGroupEnd s = .next (s.put t)) ∧
      (t.ms.group = [] → t.phase = 1 ∨ t.phase = 2 → exec .dimGroupEnd s = .next (s.put
        (((((t.setF Reg.MODES_STATUS_MODE (if t.phase = 1 then mdDIM else mdRUN)).setPhase 0).setF Reg.MODES_REQ_STATUS_RESULT 1).raise pgMODES
          Reg.EV_MODES_MODE_DONE).wlTrigger)))) ∧
    (let quiet := d.ports.all (fun e => e.2.live.isEmpty && e.2.oldIds.isEmpty)
     (d.phase ≠ 3 ∨ quiet = false → exec .lamproomDrainEnd s = .next s) ∧
     (d.phase = 3 → quiet = true → exec .lamproomDrainEnd s = .next (s.put
      (((((d.setF Reg.MODES_STATUS_MODE mdLAMPROOM).setPhase 0).setF Reg.MODES_REQ_STATUS_RESULT 1).raise pgMODES Reg.EV_MODES_MODE_DONE).modMs
        (fun m => { m with full := false }))))) ∧
    (let next := fun (t : Dev) => exec .entryStageEnd s = .next (s.put t)
     (d.phase < 5 ∨ 10 < d.phase → exec .entryStageEnd s = .next s) ∧
     (d.phase = 5 →
      (d.stage1Over = false → exec .entryStageEnd s = .next s) ∧
      (d.stage1Over = true →
        let t := (d.askLease lsWAKE hoWAKE rkSERVICE).2
        (d.ms.wake = true → next (t.unwind mrWOKEN)) ∧ (d.ms.wake = false → next (t.setPhase 6).abortJobs))) ∧
     (d.phase = 6 →
      (d.stage2Over = false → exec .entryStageEnd s = .next s) ∧
      (d.stage2Over = true → d.ms.wake = true → next (d.unwind mrWOKEN)) ∧ (d.stage2Over = true → d.ms.wake = false → next (d.setPhase 7))) ∧
     (d.phase = 7 → (d.ms.wake = true → next (d.saveImage.unwind mrWOKEN)) ∧ (d.ms.wake = false → next (d.saveImage.setPhase 8))) ∧
     (d.phase = 8 →
      let busy := (List.range 48).any (fun n => d.freqBusy n) ||
        d.awake.any (fun n => (d.shaft n).rep.isSome || (d.shaft n).colRun.isSome || !(d.shaft n).replay.isEmpty)
      (busy = true → exec .entryStageEnd s = .next s) ∧
      (busy = false →
        let t := d.awake.foldl (fun u n => (u.drainWbuf n).enterSR n) d
        (d.ms.wake = true → next ((d.awake.foldl (fun u n => u.exitSR n) t).unwind mrWOKEN)) ∧ (d.ms.wake = false → next (t.setPhase 9)))) ∧
     (d.phase = 9 → next (d.latchPads.setPhase 10)) ∧
     (d.phase = 10 →
      let t := (((d.islandsOff.setF Reg.MODES_STATUS_MODE mdSHUTTERED).setPhase 0).setF Reg.MODES_REQ_STATUS_RESULT 1).raise pgMODES
        Reg.EV_MODES_MODE_DONE
      next (if d.ms.wake then t.exitStart else t))) ∧
    (d.phase ≠ 6 → exec .drainLimit s = .next s) ∧
    (d.phase = 6 → exec .drainLimit s = .next (s.put (d.unwind mrDRAIN_LIMIT))) ∧
    (∀ mv : Nat,
      let t := d.modMs (fun m => { m with wakeMv := mv })
      (d.pins.pwrgood = false → exec (.wakeSenseCrossing mv) s = .next (s.put t)) ∧
      (d.pins.pwrgood = true →
        let c := d.wakeCtl
        let at_ := 100 + 10 * bitsOf c 14 8
        let off := if bitN c.toNat 2 then 40 else 20
        let was := d.fb Reg.MODES_WAKE_STATUS_LEVEL
        let on := if bitN c.toNat 1 then decide (mv < at_) || (was && decide (mv ≤ at_ + off))
          else decide (at_ < mv) || (was && decide (at_ ≤ mv + off))
        exec (.wakeSenseCrossing mv) s = .next (s.put (t.setF Reg.MODES_WAKE_STATUS_LEVEL (b2n on))))) ∧
    (d.fb Reg.MODES_WAKE_STATUS_LEVEL = false → exec .wakeComparatorWake s = .next s) ∧
    (d.fb Reg.MODES_WAKE_STATUS_LEVEL = true →
      (5 ≤ d.phase → d.phase ≤ 10 → exec .wakeComparatorWake s = .next (s.put (d.modMs (fun m => { m with wake := true })))) ∧
      (d.phase = 0 → d.mode = mdSHUTTERED → exec .wakeComparatorWake s = .next (s.put d.exitStart)) ∧
      (d.phase < 5 → d.mode ≠ mdSHUTTERED → exec .wakeComparatorWake s = .next s)) ∧
    (∀ o : ExitObs,
      let k := d.ms.exit
      let t := d.modMs (fun m => { m with exit := k + 1 })
      let next := fun (t : Dev) => exec (.exitStepEnd o) s = .next (s.put t)
      let on := d.phase = 11 ∧ d.pins.refclk = true
      (¬on ∨ k = 0 → exec (.exitStepEnd o) s = .next s) ∧
      (on → o.done = true →
        (k = 1 → next ({ t with pins := { t.pins with spineOn := true } } : Dev).liveChange) ∧
        (k = 2 → next ((({ t with pins := { t.pins with mgmtOn := true } } : Dev).liveChange).wdogKick).compareViews) ∧
        (k = 3 ∨ 9 ≤ k → next t) ∧ (k = 4 → next (t.collarTrain o.ports true)) ∧ (k = 5 → next (t.exitShafts o.shorts)) ∧
        (k = 6 → next (t.imageBack o.blocks)) ∧ (k = 7 → next (t.sentinels o.banks))) ∧
      (on → k = 8 → d.space.walking = true → exec (.exitStepEnd o) s = .next s) ∧
      (on → k = 8 → d.space.walking = false → next d.exitDone) ∧
      (on → k ≠ 0 → k ≠ 8 → o.done = false →
        let u := (d.setF Reg.MODES_EXIT_STATUS_LATE (Nat.lor (d.fv Reg.MODES_EXIT_STATUS_LATE) (2 ^ k))).bump Reg.MODES_CNT_EXIT_LATE_VALUE
        (d.ms.doubled = true → next ((u.modKs (fun q => { q with lateFault := true })).warmReset 5 0)) ∧
        (d.ms.doubled = false →
          let v := u.raiseRec pgMODES Reg.EV_MODES_EXIT_LATE sevWARNING [k]
          let w := ((List.range 48).foldl (fun x n => if x.inSR n then x else x.enterSR n) v).islandsOff.setF Reg.MODES_EXIT_STATUS_RESTARTS 1
          next (w.modMs (fun m => { m with exit := 1, doubled := true }))))) ∧
    (∀ o : PowerObs,
      let e := min 4095 (o.dram + o.refStatic + o.engine + o.logic + o.host + o.far)
      let dark := d.pins.pwrgood = false ∨ d.mode = mdSHUTTERED ∨ (d.mode = mdKINDLE ∧ d.kstep < 7)
      (dark → exec (.powerEstimate o) s = .next s) ∧
      (¬dark →
        let part := fun (f : Fld) (x : Nat) (t : Dev) => t.setSat f (x / 10)
        let a := (d.setF Reg.POWER_EST_TOTAL e).setF Reg.POWER_EST_PEAK (max e (d.fv Reg.POWER_EST_PEAK))
        let b := part Reg.POWER_EST_PARTS0_ENGINE o.engine (part Reg.POWER_EST_PARTS0_LOGIC o.logic
          (part Reg.POWER_EST_PARTS0_DRAM o.dram (part Reg.POWER_EST_PARTS0_REF_STATIC o.refStatic a)))
        let c := part Reg.POWER_EST_PARTS1_HOST o.host (part Reg.POWER_EST_PARTS1_FAR o.far b)
        let peak := decide (10 * c.fv Reg.POWER_CAP_CTL_PEAK_W < e)
        let t := if peak then (c.bump Reg.POWER_CNT_PEAK_VALUE).raise pgPOWER Reg.EV_POWER_PEAK else c
        let acts := t.mode ≠ mdKINDLE ∧ t.mode ≠ mdSHUTTERED ∧ t.phase < 5 ∧ t.fb Reg.POWER_CAP_CTL_EN = true
        let cap := 10 * c.fv Reg.POWER_CAP_CTL_CAP_W
        (¬acts → exec (.powerEstimate o) s = .next (s.put t)) ∧
        (acts → cap < e → exec (.powerEstimate o) s = .next (s.put (t.overCap peak))) ∧
        (acts → e ≤ cap → exec (.powerEstimate o) s = .next (s.put
          (t.underCap (decide (e + 10 * t.fv Reg.POWER_CAP_CTL_HYST_W ≤ cap)))))) ∧
      (d.pins.pwrgood = true → d.mode ≠ mdSHUTTERED → d.mode ≠ mdKINDLE → d.fb Reg.POWER_CAP_CTL_EN = false → e ≤ 10 * d.fv Reg.POWER_CAP_CTL_PEAK_W →
        ∃ t : Dev, exec (.powerEstimate o) s = .next (s.put t) ∧ t = { d with regs := t.regs } ∧
          t.fv Reg.POWER_EST_TOTAL = e ∧ t.fv Reg.POWER_EST_PEAK = max e (d.fv Reg.POWER_EST_PEAK) ∧
          t.fv Reg.POWER_LADDER_STEP = d.fv Reg.POWER_LADDER_STEP)) ∧
    (∀ n : Fin 48,
      exec (.idleParkUnderCap n) s = .next (s.put (if d.ladder = 3 ∧ (d.shaft n).collar = [] ∧ (d.shaft n).localq = [] then d.park n else d))) ∧
    (∀ a b : BitVec 32,
      let t := d.fuseWordEnd a b
      exec (.fuseWordBurnEnd a b) s = .next (s.put (if t.ms.rekindleHeld = true ∧ t.fuse.job = none ∧ t.shafts.any (fun x => x.2.colRun.isSome) = false then t.rekindle else t)))

/-- TEMP_DELIVERY gives the temperature on its way to its shaft. ROUND_START, no round running, asks for the converter, which a diagnostics
holder loses: refused it changes nothing but the counts, else the round starts at die 1, or at the ground die before KINDLE step 8.
DIODE_CONVERSION outside −40 to 150 °C is a diode fault, else the die's READING; the fourteenth ends the round. MODEL_UPDATE takes the
estimates. STALE_DIE marks the die; DEMAND_HOLD_EXPIRY ends a rate demand below WARN or lowers a demand one step. A TAP command shifts its
bits through the register its instruction selects, as many bits out as in; without power it does nothing. TRST_N_LOW resets the TAP.
SUPPLY_RAIL_CHANGE sets the rail, but where R472 leaves the device undefined it faults (log 4). (Derived from R350, R351, R353, R403,
R404, R405, R406, R407, R408, R409, R410, R472.) -/
def Obligations.TemperaturesAndTestPort : Prop :=
  ∀ (s : State),
    let d := s.dev
    (∀ n : Fin 48,
      (sget (fun _ => none) d.heat.due n = none → exec (.tempDelivery n) s = .next s) ∧
      (∀ t, sget (fun _ => none) d.heat.due n = some t → exec (.tempDelivery n) s = .next (s.put
        (({ d with heat := { d.heat with due := sset (fun _ => none) d.heat.due n none } } : Dev).tempIn n t)))) ∧
    (∀ late : Bool,
      (d.roundsRun = false ∨ d.heat.round ≠ 0 → exec (.roundStart late) s = .next s) ∧
      (d.roundsRun = true → d.heat.round = 0 →
        let first := if d.mode = mdKINDLE ∧ d.fv Reg.DEVICE_KINDLE_STATUS_STEP < 8 then 14 else 1
        let go := fun (t : Dev) => ({ t with heat := { t.heat with round := first } } : Dev)
        let begun := fun (t : Dev) => exec (.roundStart late) s = .next (s.put
          (if late then ((go t).bump Reg.HEAT_CNT_ROUND_LATE_VALUE).raise pgHEAT Reg.EV_HEAT_ROUND_LATE else go t))
        let mine := d.setLease lsCONV ⟨hoTHERMAL, rkSAFETY, d.time⟩
        (d.leaseHeld lsCONV = false → begun mine) ∧
        (d.leaseHeld lsCONV = true → (d.lease lsCONV).rank ≠ rkDIAG →
          exec (.roundStart late) s = .next (s.put (d.bump Reg.LEASES_CNT_BUSY_VALUE))) ∧
        (d.leaseHeld lsCONV = true → (d.lease lsCONV).rank = rkDIAG →
          let t := (mine.bump Reg.LEASES_CNT_BUSY_VALUE).bump Reg.LEASES_CNT_PREEMPT_VALUE
          begun ((if (d.lease lsCONV).holder = hoSOFT then t.setF Reg.LEASES_REQ_STATUS_BUSY 1 else t).raiseRec pgLEASES Reg.EV_LEASES_PREEMPT
            sevWARNING [lsCONV])))) ∧
    (∀ raw : Int,
      let k := d.heat.round
      let i := if k = 14 then 0 else k
      let fin := fun (t : Dev) => if k = 14 then t.roundEnd else ({ t with heat := { t.heat with round := k + 1 } } : Dev)
      (k = 0 ∨ d.roundsRun = false → exec (.diodeConversion raw) s = .next s) ∧
      (k ≠ 0 → d.roundsRun = true →
        (raw < -640 ∨ 2400 < raw → exec (.diodeConversion raw) s = .next (s.put (fin
          ((((d.makeSuspect i).modDie i (fun x => { x with diodeBad := true })).raiseRec pgHEAT Reg.EV_HEAT_DIODE_FAULT sevERROR [i]).recompute14 [i])))) ∧
        (-640 ≤ raw → raw ≤ 2400 →
          let t := ((d.modDie i (fun x => { x with reading := some raw, at_ := d.time })).setF Reg.HEAT_TEMPi_READING (ofSigned 16 raw) 0 i).setDieBit
            Reg.HEAT_STALE_DIES i false
          exec (.diodeConversion raw) s = .next (s.put (fin (((t.canary i raw).recompute14 [i]).rateOf i)))))) ∧
    (∀ est : List Int,
      (d.heatOn = false → exec (.modelUpdate est) s = .next s) ∧
      (d.heatOn = true →
        let t := ({ d with heat := { d.heat with raw := (List.range 14).map (fun i => est.getD i 0) } } : Dev).showModel
        exec (.modelUpdate est) s = .next (s.put
          (t.recompute14 ((List.range 14).filter (fun i => t.dieBit Reg.HEAT_SUSPECT_DIES i || t.dieBit Reg.HEAT_STALE_DIES i)))))) ∧
    (∀ i : Fin 14,
      let x := d.die i
      (d.heatOn = false → exec (.staleDie i) s = .next s ∧ exec (.demandHoldExpiry i) s = .next s) ∧
      (d.heatOn = true → exec (.staleDie i) s = .next (s.put ((d.setDieBit Reg.HEAT_STALE_DIES i true).recompute14 [i.val]))) ∧
      (d.heatOn = true → x.rateHold = true → exec (.demandHoldExpiry i) s = .next (s.put
        (if x.warnRun = 0 then d.modDie i (fun x => { x with rateHold := false }) else d))) ∧
      (d.heatOn = true → x.rateHold = false →
        (x.demand = 0 ∨ x.demand = 4 ∨ d.dieBit Reg.HEAT_STALE_DIES i = true ∨ (16 * d.limit i x.demand : Nat) - (32 : Int) ≤ x.e →
          exec (.demandHoldExpiry i) s = .next s) ∧
        (x.demand ≠ 0 → x.demand ≠ 4 → d.dieBit Reg.HEAT_STALE_DIES i = false → x.e < (16 * d.limit i x.demand : Nat) - (32 : Int) →
          exec (.demandHoldExpiry i) s = .next (s.put ((d.modDie i (fun x => { x with demand := x.demand - 1 })).ladderFollow))))) ∧
    (d.tapOn = false → ∀ bits pads, ∀ i ∈ [Instr.tapBypass bits, .tapSamplePreload bits pads, .tapExtest bits pads, .tapIdcode bits, .tap1838Config bits],
      exec i s = .next s) ∧
    (d.tapOn = true → ∀ bits pads : List Bool,
      let tdo := fun (t : Dev) (l : List Bool) => l.foldl (fun t b => t.emit (.tdo b)) t
      let out := fun (reg : List Bool) => (reg ++ bits).take bits.length
      let one := List.replicate d.tapChain false
      let ids := ((List.range d.tapChain).reverse).flatMap (fun x => (List.range 32).map (fun i => bitN (d.idcode x) i))
      let bnd := List.replicate (d.tapChain - 1) false ++ pads
      let after := fun (inst : Nat) => { d.tap with inst := inst, boundary := ((bnd ++ bits).drop bits.length).drop (d.tapChain - 1) }
      (∀ reg, (out reg).length = bits.length) ∧
      (d.tapChain = if d.pins.resetN = false ∨ (d.mode = mdLAMPROOM ∧ d.fb Reg.SELFTEST_TAP_CTL_TEST_EN = true) then 14 else 1) ∧
      exec (.tapBypass bits) s = .next (s.put (tdo { d with tap := { d.tap with inst := 0 } } (out one))) ∧
      exec (.tapIdcode bits) s = .next (s.put (tdo { d with tap := { d.tap with inst := 3 } } (out ids))) ∧
      exec (.tapSamplePreload bits pads) s = .next (s.put (tdo { d with tap := after 1 } (out bnd))) ∧
      (d.pins.resetN = false → exec (.tapExtest bits pads) s = .next (s.put (tdo { d with tap := after 2 } (out bnd)))) ∧
      (d.pins.resetN = true → exec (.tapExtest bits pads) s = exec (.tapBypass bits) s) ∧
      (d.tapChain = 1 → exec (.tap1838Config bits) s = exec (.tapBypass bits) s) ∧
      (d.tapChain = 14 → ∃ t : Dev, exec (.tap1838Config bits) s = .next (s.put t) ∧ t.regs = d.regs ∧ t.tap.inst = 4 ∧
        t.tap.boundary = d.tap.boundary ∧ t.out.length = d.out.length + bits.length ∧
        ∀ die < 14, sget (fun _ => []) t.tap.wrappers die = if d.tapReach die then bits else sget (fun _ => []) d.tap.wrappers die)) ∧
    exec .trstNLow s = .next (s.put { d with tap := {} }) ∧
    (∀ far on : Bool,
      let was := if far then d.pins.vddaFar else d.pins.vddUcie
      (on = false → was = true → d.pins.pwrgood = true → d.mode ≠ mdSHUTTERED → exec (.supplyRailChange far on) s = .fault .supplyUndefined) ∧
      (on = true ∨ was = false ∨ d.pins.pwrgood = false ∨ d.mode = mdSHUTTERED → exec (.supplyRailChange far on) s = .next (s.put
        { d with pins := if far then { d.pins with vddaFar := on } else { d.pins with vddUcie := on } })))

/-- TALLY_RECORD_ARRIVAL queues a record, or drops it where the ring is frozen (below SEV 4) or the queue is full, or suppresses it without a
token. TALLY_RECORD_WRITE stores the next PAD or queued record at HEAD, and HEAD rises by 1. TOKEN_REFILL returns one token to each
bucket. BLOCK_FLUSH starts a write of the first complete block under flash lease 1; FLASH_OPERATION_END of a good write puts the block
into its sector, moves FLUSHED and starts the next erase; a failed one is tried once more. URG7_TRIGGER triggers a snapshot while EXT_EN
is 1. LIFE_RECORD_WRITE writes an entry after the newest. HOURS_BIT_DUE starts a burn of the next hours bit under the fuse lease;
RESENSE_END frees it and counts what changed. (Derived from R432, R433, R435, R437, R440, R443, R446, R447, R448, R449, R451.) -/
def Obligations.TallyFlashAndFuseHours : Prop :=
  ∀ (s : State),
    let d := s.dev
    let y := d.tally
    ((y.arriving = [] → exec .tallyRecordArrival s = .next s) ∧
    (∀ r l, y.arriving = r :: l →
      let t := d.modTally (fun q => { q with arriving := l })
      let used := sget (fun _ => 0) y.used r.code
      let full := (if y.pads = 0 then 17 else 16) ≤ y.queue.length
      let frozen := d.fb Reg.TALLY_SNAP_STATUS_FROZEN = true ∧ r.sev < 4
      let dry := r.sev < 4 ∧ d.fv Reg.TALLY_RATE_CTL_BURST ≤ used
      (frozen ∨ full → r.code ≠ cSNAPSHOT → exec .tallyRecordArrival s = .next (s.put ((t.bump Reg.TALLY_CNT_DROPPED_VALUE).notWritten r.code))) ∧
      (frozen ∨ full → r.code = cSNAPSHOT →
        exec .tallyRecordArrival s = .next (s.put (((t.bump Reg.TALLY_CNT_DROPPED_VALUE).notWritten r.code).snapPad))) ∧
      (¬frozen → ¬full → dry → r.code = cSNAPSHOT →
        exec .tallyRecordArrival s = .next (s.put (((t.bump Reg.TALLY_CNT_SUPPRESSED_VALUE).notWritten r.code).snapPad))) ∧
      (¬frozen → ¬full → dry → r.code ≠ cSNAPSHOT →
        exec .tallyRecordArrival s = .next (s.put ((t.bump Reg.TALLY_CNT_SUPPRESSED_VALUE).notWritten r.code))) ∧
      (¬frozen → ¬full → ¬dry → exec .tallyRecordArrival s = .next (s.put (t.modTally (fun q => { q with
        queue := q.queue ++ [r], used := if r.sev < 4 then sset (fun _ => 0) q.used r.code (used + 1) else q.used }))))) ∧
    (y.pads = 0 → y.queue = [] → exec .tallyRecordWrite s = .next s) ∧
    (∀ r l, y.pads = 0 → y.queue = r :: l →
      let t := d.modTally (fun q => { q with queue := l })
      let lost := d.fb Reg.TALLY_SNAP_STATUS_FROZEN = true ∧ r.sev < 4
      let last := fun (u : Dev) => if r.code = cSNAPSHOT then u.snapPad else u
      (lost → exec .tallyRecordWrite s = .next (s.put (last ((t.bump Reg.TALLY_CNT_DROPPED_VALUE).notWritten r.code)))) ∧
      (¬lost → exec .tallyRecordWrite s = .next (s.put (last (t.store r))))) ∧
    (y.pads = 1 → exec .tallyRecordWrite s = .next (s.put
      ((d.modTally (fun q => { q with pads := 0 })).store ⟨cPAD, pgTALLY, sevINFO, y.padFirst, y.padCount, 0, 0⟩).padsDone)) ∧
    (∀ k, y.pads = k + 2 → exec .tallyRecordWrite s = .next (s.put
      ((d.modTally (fun q => { q with pads := k + 1 })).store ⟨cPAD, pgTALLY, sevINFO, y.padFirst, y.padCount, 0, 0⟩))) ∧
    (∀ r : TRec, d.unflushed < 8192 → d.fb Reg.TALLY_SNAP_CTL_CODE_EN = false → d.fb Reg.TALLY_SNAP_CTL_SEV_EN = false →
      let t := d.store r
      t.fv Reg.TALLY_HEAD_SEQ = (d.fv Reg.TALLY_HEAD_SEQ + 1) % 2 ^ 32 ∧ t.fv Reg.TALLY_FLUSHED_SEQ = d.fv Reg.TALLY_FLUSHED_SEQ ∧
      (∀ i < 8192, sget (fun _ => 0) t.tally.ring i = if i = d.fv Reg.TALLY_HEAD_SEQ % 8192 then
        recordBits r (d.fv Reg.TALLY_HEAD_SEQ) d.powerCycles (d.rdReg 0x5058).toNat (sget (fun _ => 0) y.supp r.code)
        else sget (fun _ => 0) y.ring i) ∧ t.flash = d.flash) ∧
    (∃ t : Dev, exec .tokenRefill s = .next (s.put t) ∧ t = { d with tally := { y with used := t.tally.used } } ∧
      (swf (fun _ => 0) y.used = true → ∀ c, sget (fun _ => 0) t.tally.used c = sget (fun _ => 0) y.used c - 1))) ∧
    ((d.pins.mgmtOn = false ∨ y.flushOp ≠ none ∨ d.unflushed < 128 → exec .blockFlush s = .next s) ∧
    (d.pins.mgmtOn = true → y.flushOp = none → 128 ≤ d.unflushed →
      (d.leaseHeld lsFLASH = true → exec .blockFlush s = .next (s.put (d.bump Reg.LEASES_CNT_BUSY_VALUE))) ∧
      (d.leaseHeld lsFLASH = false → exec .blockFlush s = .next (s.put
        ((d.setLease lsFLASH ⟨hoTALLY, rkINTEGRITY, d.time⟩).modTally (fun q => { q with
          flushOp := some (d.flushed / 128, d.flushed / 128 % 2048, false, false) }))))) ∧
    (∀ ok : Bool, y.flushOp = none → exec (.flashOperationEnd ok) s = .next s) ∧
    (∀ b sec again,
      let t := (d.modTally (fun q => { q with flushOp := none })).dropLease lsFLASH hoTALLY
      let bad := t.raise pgTALLY Reg.EV_TALLY_FLUSH_FAIL
      (y.flushOp = some (b, sec, true, again) → exec (.flashOperationEnd true) s = .next (s.put (t.flashErase (aARCHIVE + 4096 * sec))) ∧
        exec (.flashOperationEnd false) s = .next (s.put bad)) ∧
      (y.flushOp = some (b, sec, false, again) →
        let u := (t.flashPut (aARCHIVE + 4096 * sec) (t.blockBytes b)).bump Reg.TALLY_CNT_FLUSH_VALUE
        let v := if u.flushed = 128 * b then u.setF Reg.TALLY_FLUSHED_SEQ ((u.flushed + 128) % 2 ^ 32) else u
        exec (.flashOperationEnd true) s = .next (s.put ((v.snapEnd b).flashStart b ((sec + 1) % 2048) true false)) ∧
        exec (.flashOperationEnd false) s = .next (s.put
          (if again then bad.snapEnd b else bad.flashStart b ((sec + 1) % 2048) false true))))) ∧
    (d.fb Reg.TALLY_SNAP_CTL_EXT_EN = false ∨ bitN (d.fv Reg.CLASSES_URG_CTL_EN) 7 = true → exec .urg7Trigger s = .next s) ∧
    (d.fb Reg.TALLY_SNAP_CTL_EXT_EN = true → bitN (d.fv Reg.CLASSES_URG_CTL_EN) 7 = false →
      (y.snapping = true ∨ y.snapBlock ≠ none ∨ d.fb Reg.TALLY_SNAP_STATUS_FROZEN = true →
        exec .urg7Trigger s = .next (s.put (d.bumpSat Reg.TALLY_SNAP_STATUS_MISSED))) ∧
      (y.snapping = false → y.snapBlock = none → d.fb Reg.TALLY_SNAP_STATUS_FROZEN = false →
        let t := ((d.setF Reg.TALLY_SNAP_STATUS_LAST 2).modTally (fun q => { q with snapping := true })).raise pgTALLY Reg.EV_TALLY_SNAPSHOT
        exec .urg7Trigger s = .next (s.put (t.modTally (fun q => { q with
          arriving := q.arriving ++ [⟨cSNAPSHOT, pgTALLY, sevINFO, 2, 0, 0, 0⟩] }))))) ∧
    (d.pins.mgmtOn = false ∨ (d.mode = mdKINDLE ∧ d.fv Reg.DEVICE_KINDLE_STATUS_STEP < 7) → exec .lifeRecordWrite s = .next s) ∧
    (d.pins.mgmtOn = true → d.mode ≠ mdKINDLE ∨ 7 ≤ d.fv Reg.DEVICE_KINDLE_STATUS_STEP →
      (d.leaseHeld lsFLASH = true → exec .lifeRecordWrite s = .next (s.put (d.bump Reg.LEASES_CNT_BUSY_VALUE))) ∧
      (d.leaseHeld lsFLASH = false →
        let t := d.setLease lsFLASH ⟨hoTALLY, rkINTEGRITY, d.time⟩
        let k : Nat := (t.lifeNewest.map (fun e => (e.1 + 1) % 2048)).getD 0
        let u := if k % 128 = 0 then t.flashErase (aLIFE + 32 * k) else t
        exec .lifeRecordWrite s = .next (s.put
          ((u.flashPut (aLIFE + 32 * k) (lifeBytes (u.fv Reg.TALLY_TIME_HOURS) u.tally.ext u.flushed)).dropLease lsFLASH hoTALLY)))) ∧
    (let n := d.hoursThermo.1
     let due := d.mode ≠ mdSHUTTERED ∧ d.pins.pwrgood = true ∧ n < d.fv Reg.TALLY_TIME_HOURS / 64 ∧ n < 4096 ∧ d.fuse.job = none
     (¬due → exec .hoursBitDue s = .next s) ∧
     (due → d.leaseHeld lsFUSE = true → exec .hoursBitDue s = .next (s.put (d.bump Reg.LEASES_CNT_BUSY_VALUE))) ∧
     (due → d.leaseHeld lsFUSE = false → exec .hoursBitDue s = .next (s.put
      ((d.setLease lsFUSE ⟨hoBURN, rkINTEGRITY, d.time⟩).modFuse (fun q => { q with
        job := some ⟨.hours, [(wHOURS + n / 32, BitVec.ofNat 32 (Nat.lor (logical (d.fuseAt (wHOURS + n / 32))).toNat (2 ^ (n % 32))))]⟩ }))))) ∧
    (∀ flaky : List (BitVec 13 × FuseWord),
      ((d.lease lsFUSE).holder ≠ hoRESENSE → exec (.resenseEnd flaky) s = .next s) ∧
      ((d.lease lsFUSE).holder = hoRESENSE → ∃ t : Dev, ∃ n : Nat, exec (.resenseEnd flaky) s = .next (s.put t) ∧
        t.rdReg 0x407C = BitVec.ofNat 32 (2 ^ 31 + (d.groundE / 16).toNat % 256 * 2 ^ 16 + n) ∧ (t.lease lsFUSE).holder = 0 ∧
        t.fuse = d.fuse ∧ (n = 0 → t.tally = d.tally) ∧ (n ≠ 0 → t.tally.arriving.length = d.tally.arriving.length + 1)))

end
end

