-- ==== Sys2Proof/Laws/Sparse.lean ====
section
/-!
SUPPORT. Laws/Sparse.lean: reading after writing data kept as a sorted list, and the canonical form that every write keeps.
-/
namespace Sys2Proof.Machine

variable {β : Type}

theorem sget_sput_same (d : Nat → β) (m : Sparse β) (k : Nat) (v : β) : sget d (sput m k v) k = v := by
  induction m with
  | nil => simp [sput, sget]
  | cons e m ih =>
    obtain ⟨j, w⟩ := e
    unfold sput
    split
    · simp [sget]
    · split
      · simp [sget]
      · have : ¬ j = k := by omega
        simp [sget, this, ih]

theorem sget_sput_other (d : Nat → β) (m : Sparse β) (k i : Nat) (v : β) (h : i ≠ k) : sget d (sput m k v) i = sget d m i := by
  have hk : ¬ k = i := fun e => h e.symm
  induction m with
  | nil => simp [sput, sget, hk]
  | cons e m ih =>
    obtain ⟨j, w⟩ := e
    unfold sput
    split
    · simp [sget, hk]
    · split
      · rename_i he
        subst he
        simp [sget, hk]
      · simp only [sget, ih]

theorem sget_sdel_same (d : Nat → β) (m : Sparse β) (k : Nat) : sget d (sdel m k) k = d k := by
  induction m with
  | nil => rfl
  | cons e m ih =>
    obtain ⟨j, w⟩ := e
    by_cases h : j = k
    · simpa [sdel, h] using ih
    · simpa [sdel, h, sget] using ih

theorem sget_sdel_other (d : Nat → β) (m : Sparse β) (k i : Nat) (h : i ≠ k) : sget d (sdel m k) i = sget d m i := by
  induction m with
  | nil => rfl
  | cons e m ih =>
    obtain ⟨j, w⟩ := e
    by_cases hj : j = k
    · have hi : ¬ k = i := fun e => h e.symm
      subst hj
      simpa [sdel, sget, hi] using ih
    · simp only [sdel, List.filter_cons, bne_iff_ne, ne_eq, hj, not_false_eq_true, ↓reduceIte, sget]
      split
      · rfl
      · exact ih

/-! ### The keys -/

/-- Every key of the list is above `k`. -/
def above (k : Nat) (m : Sparse β) : Bool := m.all (fun e => decide (k < e.1))

theorem skeys_cons (e : Nat × β) (m : Sparse β) : skeys (e :: m) = (above e.1 m && skeys m) := by
  induction m generalizing e with
  | nil => simp [skeys, above]
  | cons x m ih =>
    obtain ⟨j, v⟩ := e
    obtain ⟨k, w⟩ := x
    by_cases hjk : j < k
    · rw [skeys, ih]
      simp only [above, List.all_cons, hjk, decide_true, Bool.true_and]
      by_cases hm : (m.all fun e => decide (k < e.1)) = true
      · have : (m.all fun e => decide (j < e.1)) = true := by
          rw [List.all_eq_true] at hm ⊢
          intro y hy
          have := hm y hy
          simp only [decide_eq_true_eq] at this ⊢
          omega
        simp [hm, this]
      · simp [hm]
    · simp [skeys, above, hjk]

theorem above_sput (m : Sparse β) (j k : Nat) (v : β) (h : above j m = true) (hk : j < k) : above j (sput m k v) = true := by
  induction m with
  | nil => simp [sput, above, hk]
  | cons e m ih =>
    obtain ⟨i, w⟩ := e
    simp only [above, List.all_cons, Bool.and_eq_true, decide_eq_true_eq] at h
    unfold sput
    split
    · simp [above, hk, h.1, h.2]
    · split
      · simp [above, hk, h.2]
      · have := ih (by simpa [above] using h.2)
        simp only [above, List.all_cons, Bool.and_eq_true, decide_eq_true_eq]
        exact ⟨h.1, by simpa [above] using this⟩

theorem skeys_sput (m : Sparse β) (k : Nat) (v : β) (h : skeys m = true) : skeys (sput m k v) = true := by
  induction m with
  | nil => rfl
  | cons e m ih =>
    obtain ⟨j, w⟩ := e
    rw [skeys_cons, Bool.and_eq_true] at h
    unfold sput
    split
    · rename_i hk
      rw [skeys_cons, skeys_cons]
      simp only [Bool.and_eq_true]
      refine ⟨?_, h⟩
      simp only [above, List.all_cons, Bool.and_eq_true, decide_eq_true_eq]
      refine ⟨hk, ?_⟩
      have h1 := h.1
      simp only [above] at h1
      rw [List.all_eq_true] at h1 ⊢
      intro x hx
      have := h1 x hx
      simp only [decide_eq_true_eq] at this ⊢
      omega
    · split
      · rename_i hk
        subst hk
        rw [skeys_cons, Bool.and_eq_true]
        exact h
      · rw [skeys_cons, Bool.and_eq_true]
        exact ⟨above_sput m j k v h.1 (by omega), ih h.2⟩

theorem above_filter (m : Sparse β) (p : Nat × β → Bool) (j : Nat) (h : above j m = true) : above j (m.filter p) = true := by
  simp only [above, List.all_eq_true] at h ⊢
  intro x hx
  exact h x (List.mem_filter.mp hx).1

/-- Leaving entries out keeps the keys rising. -/
theorem skeys_filter (m : Sparse β) (p : Nat × β → Bool) (h : skeys m = true) : skeys (m.filter p) = true := by
  induction m with
  | nil => rfl
  | cons e m ih =>
    rw [skeys_cons, Bool.and_eq_true] at h
    rw [List.filter_cons]
    split
    · rw [skeys_cons, Bool.and_eq_true]
      exact ⟨above_filter m p e.1 h.1, ih h.2⟩
    · exact ih h.2

theorem mem_sput (m : Sparse β) (k : Nat) (v : β) (x : Nat × β) (h : x ∈ sput m k v) : x = (k, v) ∨ x ∈ m := by
  induction m with
  | nil => simpa [sput] using h
  | cons e m ih =>
    obtain ⟨j, w⟩ := e
    unfold sput at h
    split at h
    · simpa using h
    · split at h
      · rcases List.mem_cons.mp h with h | h
        · exact .inl h
        · exact .inr (List.mem_cons_of_mem _ h)
      · rcases List.mem_cons.mp h with h | h
        · exact .inr (h ▸ List.mem_cons_self)
        · rcases ih h with h | h
          · exact .inl h
          · exact .inr (List.mem_cons_of_mem _ h)

variable [DecidableEq β]

/-- A key reads as what was last written to it. -/
@[simp] theorem sget_sset_same (d : Nat → β) (m : Sparse β) (k : Nat) (v : β) : sget d (sset d m k v) k = v := by
  unfold sset
  split
  · rename_i h
    rw [sget_sdel_same, h]
  · exact sget_sput_same d m k v

/-- A write leaves every other key as it was. -/
theorem sget_sset_other (d : Nat → β) (m : Sparse β) (k i : Nat) (v : β) (h : i ≠ k) : sget d (sset d m k v) i = sget d m i := by
  unfold sset
  split
  · exact sget_sdel_other d m k i h
  · exact sget_sput_other d m k i v h

/-- Reading any key after a write. -/
theorem sget_sset (d : Nat → β) (m : Sparse β) (k i : Nat) (v : β) : sget d (sset d m k v) i = if i = k then v else sget d m i := by
  split
  · rename_i h
    rw [h, sget_sset_same]
  · rename_i h
    exact sget_sset_other d m k i v h

/-! ### The canonical form -/

/-- Leaving entries out keeps the canonical form. -/
theorem swf_filter (d : Nat → β) (m : Sparse β) (p : Nat × β → Bool) (h : swf d m = true) : swf d (m.filter p) = true := by
  simp only [swf, Bool.and_eq_true, List.all_eq_true] at h ⊢
  exact ⟨skeys_filter m p h.1, fun x hx => h.2 x (List.mem_filter.mp hx).1⟩

/-- A write keeps the canonical form. -/
theorem swf_sset (d : Nat → β) (m : Sparse β) (k : Nat) (v : β) (h : swf d m = true) : swf d (sset d m k v) = true := by
  unfold sset
  split
  · exact swf_filter d m _ h
  · rename_i hv
    simp only [swf, Bool.and_eq_true, List.all_eq_true] at h ⊢
    refine ⟨skeys_sput m k v h.1, fun x hx => ?_⟩
    rcases mem_sput m k v x hx with rfl | hx
    · simpa using hv
    · exact h.2 x hx

end Sys2Proof.Machine
end

