-- ==== Sys2Proof/Laws/State.lean ====
section
/-!
SUPPORT. Laws/State.lean: what each update of the state changes and what it leaves, one lemma for each field, so that no proof unfolds an
update; and reading a register or a unit's state after writing one.
-/
namespace Sys2Proof.Machine

/-! ### wrReg -/

@[simp] theorem Dev.wrReg_regs (s : Dev) (a : Nat) (v : Word32) : (s.wrReg a v).regs = sset resetWord s.regs a v := (rfl)
@[simp] theorem Dev.wrReg_hiLatch (s : Dev) (a : Nat) (v : Word32) : (s.wrReg a v).hiLatch = s.hiLatch := (rfl)
@[simp] theorem Dev.wrReg_out (s : Dev) (a : Nat) (v : Word32) : (s.wrReg a v).out = s.out := (rfl)
@[simp] theorem Dev.wrReg_nextId (s : Dev) (a : Nat) (v : Word32) : (s.wrReg a v).nextId = s.nextId := (rfl)
@[simp] theorem Dev.wrReg_free (s : Dev) (a : Nat) (v : Word32) : (s.wrReg a v).free = s.free := (rfl)
@[simp] theorem Dev.wrReg_ports (s : Dev) (a : Nat) (v : Word32) : (s.wrReg a v).ports = s.ports := (rfl)
@[simp] theorem Dev.wrReg_fabric (s : Dev) (a : Nat) (v : Word32) : (s.wrReg a v).fabric = s.fabric := (rfl)
@[simp] theorem Dev.wrReg_classes (s : Dev) (a : Nat) (v : Word32) : (s.wrReg a v).classes = s.classes := (rfl)
@[simp] theorem Dev.wrReg_space (s : Dev) (a : Nat) (v : Word32) : (s.wrReg a v).space = s.space := (rfl)
@[simp] theorem Dev.wrReg_haul (s : Dev) (a : Nat) (v : Word32) : (s.wrReg a v).haul = s.haul := (rfl)
@[simp] theorem Dev.wrReg_pair (s : Dev) (a : Nat) (v : Word32) : (s.wrReg a v).pair = s.pair := (rfl)
@[simp] theorem Dev.wrReg_fars (s : Dev) (a : Nat) (v : Word32) : (s.wrReg a v).fars = s.fars := (rfl)
@[simp] theorem Dev.wrReg_engines (s : Dev) (a : Nat) (v : Word32) : (s.wrReg a v).engines = s.engines := (rfl)
@[simp] theorem Dev.wrReg_disp (s : Dev) (a : Nat) (v : Word32) : (s.wrReg a v).disp = s.disp := (rfl)
@[simp] theorem Dev.wrReg_shafts (s : Dev) (a : Nat) (v : Word32) : (s.wrReg a v).shafts = s.shafts := (rfl)
@[simp] theorem Dev.wrReg_dram (s : Dev) (a : Nat) (v : Word32) : (s.wrReg a v).dram = s.dram := (rfl)
@[simp] theorem Dev.wrReg_dramBad (s : Dev) (a : Nat) (v : Word32) : (s.wrReg a v).dramBad = s.dramBad := (rfl)
@[simp] theorem Dev.wrReg_tally (s : Dev) (a : Nat) (v : Word32) : (s.wrReg a v).tally = s.tally := (rfl)
@[simp] theorem Dev.wrReg_notice (s : Dev) (a : Nat) (v : Word32) : (s.wrReg a v).notice = s.notice := (rfl)
@[simp] theorem Dev.wrReg_answers (s : Dev) (a : Nat) (v : Word32) : (s.wrReg a v).answers = s.answers := (rfl)
@[simp] theorem Dev.wrReg_time (s : Dev) (a : Nat) (v : Word32) : (s.wrReg a v).time = s.time := (rfl)
@[simp] theorem Dev.wrReg_leases (s : Dev) (a : Nat) (v : Word32) : (s.wrReg a v).leases = s.leases := (rfl)
@[simp] theorem Dev.wrReg_calBusy (s : Dev) (a : Nat) (v : Word32) : (s.wrReg a v).calBusy = s.calBusy := (rfl)
@[simp] theorem Dev.wrReg_stest (s : Dev) (a : Nat) (v : Word32) : (s.wrReg a v).stest = s.stest := (rfl)
@[simp] theorem Dev.wrReg_fuse (s : Dev) (a : Nat) (v : Word32) : (s.wrReg a v).fuse = s.fuse := (rfl)
@[simp] theorem Dev.wrReg_flash (s : Dev) (a : Nat) (v : Word32) : (s.wrReg a v).flash = s.flash := (rfl)
@[simp] theorem Dev.wrReg_ks (s : Dev) (a : Nat) (v : Word32) : (s.wrReg a v).ks = s.ks := (rfl)
@[simp] theorem Dev.wrReg_ms (s : Dev) (a : Nat) (v : Word32) : (s.wrReg a v).ms = s.ms := (rfl)
@[simp] theorem Dev.wrReg_heat (s : Dev) (a : Nat) (v : Word32) : (s.wrReg a v).heat = s.heat := (rfl)
@[simp] theorem Dev.wrReg_tap (s : Dev) (a : Nat) (v : Word32) : (s.wrReg a v).tap = s.tap := (rfl)
@[simp] theorem Dev.wrReg_pins (s : Dev) (a : Nat) (v : Word32) : (s.wrReg a v).pins = s.pins := (rfl)
@[simp] theorem Dev.wrReg_arb (s : Dev) (a : Nat) (v : Word32) : (s.wrReg a v).arb = s.arb := (rfl)
@[simp] theorem Dev.wrReg_wlNow (s : Dev) (a : Nat) (v : Word32) : (s.wrReg a v).wlNow = s.wlNow := (rfl)
@[simp] theorem Dev.wrReg_wlDue (s : Dev) (a : Nat) (v : Word32) : (s.wrReg a v).wlDue = s.wlDue := (rfl)
@[simp] theorem Dev.wrReg_impRun (s : Dev) (a : Nat) (v : Word32) : (s.wrReg a v).impRun = s.impRun := (rfl)
@[simp] theorem Dev.wrReg_repairs (s : Dev) (a : Nat) (v : Word32) : (s.wrReg a v).repairs = s.repairs := (rfl)

/-! ### setF -/

@[simp] theorem Dev.setF_hiLatch (s : Dev) (f : Fld) (v i k : Nat) : (s.setF f v i k).hiLatch = s.hiLatch := (rfl)
@[simp] theorem Dev.setF_out (s : Dev) (f : Fld) (v i k : Nat) : (s.setF f v i k).out = s.out := (rfl)
@[simp] theorem Dev.setF_nextId (s : Dev) (f : Fld) (v i k : Nat) : (s.setF f v i k).nextId = s.nextId := (rfl)
@[simp] theorem Dev.setF_free (s : Dev) (f : Fld) (v i k : Nat) : (s.setF f v i k).free = s.free := (rfl)
@[simp] theorem Dev.setF_ports (s : Dev) (f : Fld) (v i k : Nat) : (s.setF f v i k).ports = s.ports := (rfl)
@[simp] theorem Dev.setF_fabric (s : Dev) (f : Fld) (v i k : Nat) : (s.setF f v i k).fabric = s.fabric := (rfl)
@[simp] theorem Dev.setF_classes (s : Dev) (f : Fld) (v i k : Nat) : (s.setF f v i k).classes = s.classes := (rfl)
@[simp] theorem Dev.setF_space (s : Dev) (f : Fld) (v i k : Nat) : (s.setF f v i k).space = s.space := (rfl)
@[simp] theorem Dev.setF_haul (s : Dev) (f : Fld) (v i k : Nat) : (s.setF f v i k).haul = s.haul := (rfl)
@[simp] theorem Dev.setF_pair (s : Dev) (f : Fld) (v i k : Nat) : (s.setF f v i k).pair = s.pair := (rfl)
@[simp] theorem Dev.setF_fars (s : Dev) (f : Fld) (v i k : Nat) : (s.setF f v i k).fars = s.fars := (rfl)
@[simp] theorem Dev.setF_engines (s : Dev) (f : Fld) (v i k : Nat) : (s.setF f v i k).engines = s.engines := (rfl)
@[simp] theorem Dev.setF_disp (s : Dev) (f : Fld) (v i k : Nat) : (s.setF f v i k).disp = s.disp := (rfl)
@[simp] theorem Dev.setF_shafts (s : Dev) (f : Fld) (v i k : Nat) : (s.setF f v i k).shafts = s.shafts := (rfl)
@[simp] theorem Dev.setF_dram (s : Dev) (f : Fld) (v i k : Nat) : (s.setF f v i k).dram = s.dram := (rfl)
@[simp] theorem Dev.setF_dramBad (s : Dev) (f : Fld) (v i k : Nat) : (s.setF f v i k).dramBad = s.dramBad := (rfl)
@[simp] theorem Dev.setF_tally (s : Dev) (f : Fld) (v i k : Nat) : (s.setF f v i k).tally = s.tally := (rfl)
@[simp] theorem Dev.setF_notice (s : Dev) (f : Fld) (v i k : Nat) : (s.setF f v i k).notice = s.notice := (rfl)
@[simp] theorem Dev.setF_answers (s : Dev) (f : Fld) (v i k : Nat) : (s.setF f v i k).answers = s.answers := (rfl)
@[simp] theorem Dev.setF_time (s : Dev) (f : Fld) (v i k : Nat) : (s.setF f v i k).time = s.time := (rfl)
@[simp] theorem Dev.setF_leases (s : Dev) (f : Fld) (v i k : Nat) : (s.setF f v i k).leases = s.leases := (rfl)
@[simp] theorem Dev.setF_calBusy (s : Dev) (f : Fld) (v i k : Nat) : (s.setF f v i k).calBusy = s.calBusy := (rfl)
@[simp] theorem Dev.setF_stest (s : Dev) (f : Fld) (v i k : Nat) : (s.setF f v i k).stest = s.stest := (rfl)
@[simp] theorem Dev.setF_fuse (s : Dev) (f : Fld) (v i k : Nat) : (s.setF f v i k).fuse = s.fuse := (rfl)
@[simp] theorem Dev.setF_flash (s : Dev) (f : Fld) (v i k : Nat) : (s.setF f v i k).flash = s.flash := (rfl)
@[simp] theorem Dev.setF_ks (s : Dev) (f : Fld) (v i k : Nat) : (s.setF f v i k).ks = s.ks := (rfl)
@[simp] theorem Dev.setF_ms (s : Dev) (f : Fld) (v i k : Nat) : (s.setF f v i k).ms = s.ms := (rfl)
@[simp] theorem Dev.setF_heat (s : Dev) (f : Fld) (v i k : Nat) : (s.setF f v i k).heat = s.heat := (rfl)
@[simp] theorem Dev.setF_tap (s : Dev) (f : Fld) (v i k : Nat) : (s.setF f v i k).tap = s.tap := (rfl)
@[simp] theorem Dev.setF_pins (s : Dev) (f : Fld) (v i k : Nat) : (s.setF f v i k).pins = s.pins := (rfl)
@[simp] theorem Dev.setF_arb (s : Dev) (f : Fld) (v i k : Nat) : (s.setF f v i k).arb = s.arb := (rfl)
@[simp] theorem Dev.setF_wlNow (s : Dev) (f : Fld) (v i k : Nat) : (s.setF f v i k).wlNow = s.wlNow := (rfl)
@[simp] theorem Dev.setF_wlDue (s : Dev) (f : Fld) (v i k : Nat) : (s.setF f v i k).wlDue = s.wlDue := (rfl)
@[simp] theorem Dev.setF_impRun (s : Dev) (f : Fld) (v i k : Nat) : (s.setF f v i k).impRun = s.impRun := (rfl)
@[simp] theorem Dev.setF_repairs (s : Dev) (f : Fld) (v i k : Nat) : (s.setF f v i k).repairs = s.repairs := (rfl)

/-! ### setSat -/

@[simp] theorem Dev.setSat_hiLatch (s : Dev) (f : Fld) (v i k : Nat) : (s.setSat f v i k).hiLatch = s.hiLatch := (rfl)
@[simp] theorem Dev.setSat_out (s : Dev) (f : Fld) (v i k : Nat) : (s.setSat f v i k).out = s.out := (rfl)
@[simp] theorem Dev.setSat_nextId (s : Dev) (f : Fld) (v i k : Nat) : (s.setSat f v i k).nextId = s.nextId := (rfl)
@[simp] theorem Dev.setSat_free (s : Dev) (f : Fld) (v i k : Nat) : (s.setSat f v i k).free = s.free := (rfl)
@[simp] theorem Dev.setSat_ports (s : Dev) (f : Fld) (v i k : Nat) : (s.setSat f v i k).ports = s.ports := (rfl)
@[simp] theorem Dev.setSat_fabric (s : Dev) (f : Fld) (v i k : Nat) : (s.setSat f v i k).fabric = s.fabric := (rfl)
@[simp] theorem Dev.setSat_classes (s : Dev) (f : Fld) (v i k : Nat) : (s.setSat f v i k).classes = s.classes := (rfl)
@[simp] theorem Dev.setSat_space (s : Dev) (f : Fld) (v i k : Nat) : (s.setSat f v i k).space = s.space := (rfl)
@[simp] theorem Dev.setSat_haul (s : Dev) (f : Fld) (v i k : Nat) : (s.setSat f v i k).haul = s.haul := (rfl)
@[simp] theorem Dev.setSat_pair (s : Dev) (f : Fld) (v i k : Nat) : (s.setSat f v i k).pair = s.pair := (rfl)
@[simp] theorem Dev.setSat_fars (s : Dev) (f : Fld) (v i k : Nat) : (s.setSat f v i k).fars = s.fars := (rfl)
@[simp] theorem Dev.setSat_engines (s : Dev) (f : Fld) (v i k : Nat) : (s.setSat f v i k).engines = s.engines := (rfl)
@[simp] theorem Dev.setSat_disp (s : Dev) (f : Fld) (v i k : Nat) : (s.setSat f v i k).disp = s.disp := (rfl)
@[simp] theorem Dev.setSat_shafts (s : Dev) (f : Fld) (v i k : Nat) : (s.setSat f v i k).shafts = s.shafts := (rfl)
@[simp] theorem Dev.setSat_dram (s : Dev) (f : Fld) (v i k : Nat) : (s.setSat f v i k).dram = s.dram := (rfl)
@[simp] theorem Dev.setSat_dramBad (s : Dev) (f : Fld) (v i k : Nat) : (s.setSat f v i k).dramBad = s.dramBad := (rfl)
@[simp] theorem Dev.setSat_tally (s : Dev) (f : Fld) (v i k : Nat) : (s.setSat f v i k).tally = s.tally := (rfl)
@[simp] theorem Dev.setSat_notice (s : Dev) (f : Fld) (v i k : Nat) : (s.setSat f v i k).notice = s.notice := (rfl)
@[simp] theorem Dev.setSat_answers (s : Dev) (f : Fld) (v i k : Nat) : (s.setSat f v i k).answers = s.answers := (rfl)
@[simp] theorem Dev.setSat_time (s : Dev) (f : Fld) (v i k : Nat) : (s.setSat f v i k).time = s.time := (rfl)
@[simp] theorem Dev.setSat_leases (s : Dev) (f : Fld) (v i k : Nat) : (s.setSat f v i k).leases = s.leases := (rfl)
@[simp] theorem Dev.setSat_calBusy (s : Dev) (f : Fld) (v i k : Nat) : (s.setSat f v i k).calBusy = s.calBusy := (rfl)
@[simp] theorem Dev.setSat_stest (s : Dev) (f : Fld) (v i k : Nat) : (s.setSat f v i k).stest = s.stest := (rfl)
@[simp] theorem Dev.setSat_fuse (s : Dev) (f : Fld) (v i k : Nat) : (s.setSat f v i k).fuse = s.fuse := (rfl)
@[simp] theorem Dev.setSat_flash (s : Dev) (f : Fld) (v i k : Nat) : (s.setSat f v i k).flash = s.flash := (rfl)
@[simp] theorem Dev.setSat_ks (s : Dev) (f : Fld) (v i k : Nat) : (s.setSat f v i k).ks = s.ks := (rfl)
@[simp] theorem Dev.setSat_ms (s : Dev) (f : Fld) (v i k : Nat) : (s.setSat f v i k).ms = s.ms := (rfl)
@[simp] theorem Dev.setSat_heat (s : Dev) (f : Fld) (v i k : Nat) : (s.setSat f v i k).heat = s.heat := (rfl)
@[simp] theorem Dev.setSat_tap (s : Dev) (f : Fld) (v i k : Nat) : (s.setSat f v i k).tap = s.tap := (rfl)
@[simp] theorem Dev.setSat_pins (s : Dev) (f : Fld) (v i k : Nat) : (s.setSat f v i k).pins = s.pins := (rfl)
@[simp] theorem Dev.setSat_arb (s : Dev) (f : Fld) (v i k : Nat) : (s.setSat f v i k).arb = s.arb := (rfl)
@[simp] theorem Dev.setSat_wlNow (s : Dev) (f : Fld) (v i k : Nat) : (s.setSat f v i k).wlNow = s.wlNow := (rfl)
@[simp] theorem Dev.setSat_wlDue (s : Dev) (f : Fld) (v i k : Nat) : (s.setSat f v i k).wlDue = s.wlDue := (rfl)
@[simp] theorem Dev.setSat_impRun (s : Dev) (f : Fld) (v i k : Nat) : (s.setSat f v i k).impRun = s.impRun := (rfl)
@[simp] theorem Dev.setSat_repairs (s : Dev) (f : Fld) (v i k : Nat) : (s.setSat f v i k).repairs = s.repairs := (rfl)

/-! ### bump -/

@[simp] theorem Dev.bump_hiLatch (s : Dev) (f : Fld) (i k : Nat) : (s.bump f i k).hiLatch = s.hiLatch := (rfl)
@[simp] theorem Dev.bump_out (s : Dev) (f : Fld) (i k : Nat) : (s.bump f i k).out = s.out := (rfl)
@[simp] theorem Dev.bump_nextId (s : Dev) (f : Fld) (i k : Nat) : (s.bump f i k).nextId = s.nextId := (rfl)
@[simp] theorem Dev.bump_free (s : Dev) (f : Fld) (i k : Nat) : (s.bump f i k).free = s.free := (rfl)
@[simp] theorem Dev.bump_ports (s : Dev) (f : Fld) (i k : Nat) : (s.bump f i k).ports = s.ports := (rfl)
@[simp] theorem Dev.bump_fabric (s : Dev) (f : Fld) (i k : Nat) : (s.bump f i k).fabric = s.fabric := (rfl)
@[simp] theorem Dev.bump_classes (s : Dev) (f : Fld) (i k : Nat) : (s.bump f i k).classes = s.classes := (rfl)
@[simp] theorem Dev.bump_space (s : Dev) (f : Fld) (i k : Nat) : (s.bump f i k).space = s.space := (rfl)
@[simp] theorem Dev.bump_haul (s : Dev) (f : Fld) (i k : Nat) : (s.bump f i k).haul = s.haul := (rfl)
@[simp] theorem Dev.bump_pair (s : Dev) (f : Fld) (i k : Nat) : (s.bump f i k).pair = s.pair := (rfl)
@[simp] theorem Dev.bump_fars (s : Dev) (f : Fld) (i k : Nat) : (s.bump f i k).fars = s.fars := (rfl)
@[simp] theorem Dev.bump_engines (s : Dev) (f : Fld) (i k : Nat) : (s.bump f i k).engines = s.engines := (rfl)
@[simp] theorem Dev.bump_disp (s : Dev) (f : Fld) (i k : Nat) : (s.bump f i k).disp = s.disp := (rfl)
@[simp] theorem Dev.bump_shafts (s : Dev) (f : Fld) (i k : Nat) : (s.bump f i k).shafts = s.shafts := (rfl)
@[simp] theorem Dev.bump_dram (s : Dev) (f : Fld) (i k : Nat) : (s.bump f i k).dram = s.dram := (rfl)
@[simp] theorem Dev.bump_dramBad (s : Dev) (f : Fld) (i k : Nat) : (s.bump f i k).dramBad = s.dramBad := (rfl)
@[simp] theorem Dev.bump_tally (s : Dev) (f : Fld) (i k : Nat) : (s.bump f i k).tally = s.tally := (rfl)
@[simp] theorem Dev.bump_notice (s : Dev) (f : Fld) (i k : Nat) : (s.bump f i k).notice = s.notice := (rfl)
@[simp] theorem Dev.bump_answers (s : Dev) (f : Fld) (i k : Nat) : (s.bump f i k).answers = s.answers := (rfl)
@[simp] theorem Dev.bump_time (s : Dev) (f : Fld) (i k : Nat) : (s.bump f i k).time = s.time := (rfl)
@[simp] theorem Dev.bump_leases (s : Dev) (f : Fld) (i k : Nat) : (s.bump f i k).leases = s.leases := (rfl)
@[simp] theorem Dev.bump_calBusy (s : Dev) (f : Fld) (i k : Nat) : (s.bump f i k).calBusy = s.calBusy := (rfl)
@[simp] theorem Dev.bump_stest (s : Dev) (f : Fld) (i k : Nat) : (s.bump f i k).stest = s.stest := (rfl)
@[simp] theorem Dev.bump_fuse (s : Dev) (f : Fld) (i k : Nat) : (s.bump f i k).fuse = s.fuse := (rfl)
@[simp] theorem Dev.bump_flash (s : Dev) (f : Fld) (i k : Nat) : (s.bump f i k).flash = s.flash := (rfl)
@[simp] theorem Dev.bump_ks (s : Dev) (f : Fld) (i k : Nat) : (s.bump f i k).ks = s.ks := (rfl)
@[simp] theorem Dev.bump_ms (s : Dev) (f : Fld) (i k : Nat) : (s.bump f i k).ms = s.ms := (rfl)
@[simp] theorem Dev.bump_heat (s : Dev) (f : Fld) (i k : Nat) : (s.bump f i k).heat = s.heat := (rfl)
@[simp] theorem Dev.bump_tap (s : Dev) (f : Fld) (i k : Nat) : (s.bump f i k).tap = s.tap := (rfl)
@[simp] theorem Dev.bump_pins (s : Dev) (f : Fld) (i k : Nat) : (s.bump f i k).pins = s.pins := (rfl)
@[simp] theorem Dev.bump_arb (s : Dev) (f : Fld) (i k : Nat) : (s.bump f i k).arb = s.arb := (rfl)
@[simp] theorem Dev.bump_wlNow (s : Dev) (f : Fld) (i k : Nat) : (s.bump f i k).wlNow = s.wlNow := (rfl)
@[simp] theorem Dev.bump_wlDue (s : Dev) (f : Fld) (i k : Nat) : (s.bump f i k).wlDue = s.wlDue := (rfl)
@[simp] theorem Dev.bump_impRun (s : Dev) (f : Fld) (i k : Nat) : (s.bump f i k).impRun = s.impRun := (rfl)
@[simp] theorem Dev.bump_repairs (s : Dev) (f : Fld) (i k : Nat) : (s.bump f i k).repairs = s.repairs := (rfl)

/-! ### bumpBy -/

@[simp] theorem Dev.bumpBy_hiLatch (s : Dev) (f : Fld) (n i : Nat) : (s.bumpBy f n i).hiLatch = s.hiLatch := (rfl)
@[simp] theorem Dev.bumpBy_out (s : Dev) (f : Fld) (n i : Nat) : (s.bumpBy f n i).out = s.out := (rfl)
@[simp] theorem Dev.bumpBy_nextId (s : Dev) (f : Fld) (n i : Nat) : (s.bumpBy f n i).nextId = s.nextId := (rfl)
@[simp] theorem Dev.bumpBy_free (s : Dev) (f : Fld) (n i : Nat) : (s.bumpBy f n i).free = s.free := (rfl)
@[simp] theorem Dev.bumpBy_ports (s : Dev) (f : Fld) (n i : Nat) : (s.bumpBy f n i).ports = s.ports := (rfl)
@[simp] theorem Dev.bumpBy_fabric (s : Dev) (f : Fld) (n i : Nat) : (s.bumpBy f n i).fabric = s.fabric := (rfl)
@[simp] theorem Dev.bumpBy_classes (s : Dev) (f : Fld) (n i : Nat) : (s.bumpBy f n i).classes = s.classes := (rfl)
@[simp] theorem Dev.bumpBy_space (s : Dev) (f : Fld) (n i : Nat) : (s.bumpBy f n i).space = s.space := (rfl)
@[simp] theorem Dev.bumpBy_haul (s : Dev) (f : Fld) (n i : Nat) : (s.bumpBy f n i).haul = s.haul := (rfl)
@[simp] theorem Dev.bumpBy_pair (s : Dev) (f : Fld) (n i : Nat) : (s.bumpBy f n i).pair = s.pair := (rfl)
@[simp] theorem Dev.bumpBy_fars (s : Dev) (f : Fld) (n i : Nat) : (s.bumpBy f n i).fars = s.fars := (rfl)
@[simp] theorem Dev.bumpBy_engines (s : Dev) (f : Fld) (n i : Nat) : (s.bumpBy f n i).engines = s.engines := (rfl)
@[simp] theorem Dev.bumpBy_disp (s : Dev) (f : Fld) (n i : Nat) : (s.bumpBy f n i).disp = s.disp := (rfl)
@[simp] theorem Dev.bumpBy_shafts (s : Dev) (f : Fld) (n i : Nat) : (s.bumpBy f n i).shafts = s.shafts := (rfl)
@[simp] theorem Dev.bumpBy_dram (s : Dev) (f : Fld) (n i : Nat) : (s.bumpBy f n i).dram = s.dram := (rfl)
@[simp] theorem Dev.bumpBy_dramBad (s : Dev) (f : Fld) (n i : Nat) : (s.bumpBy f n i).dramBad = s.dramBad := (rfl)
@[simp] theorem Dev.bumpBy_tally (s : Dev) (f : Fld) (n i : Nat) : (s.bumpBy f n i).tally = s.tally := (rfl)
@[simp] theorem Dev.bumpBy_notice (s : Dev) (f : Fld) (n i : Nat) : (s.bumpBy f n i).notice = s.notice := (rfl)
@[simp] theorem Dev.bumpBy_answers (s : Dev) (f : Fld) (n i : Nat) : (s.bumpBy f n i).answers = s.answers := (rfl)
@[simp] theorem Dev.bumpBy_time (s : Dev) (f : Fld) (n i : Nat) : (s.bumpBy f n i).time = s.time := (rfl)
@[simp] theorem Dev.bumpBy_leases (s : Dev) (f : Fld) (n i : Nat) : (s.bumpBy f n i).leases = s.leases := (rfl)
@[simp] theorem Dev.bumpBy_calBusy (s : Dev) (f : Fld) (n i : Nat) : (s.bumpBy f n i).calBusy = s.calBusy := (rfl)
@[simp] theorem Dev.bumpBy_stest (s : Dev) (f : Fld) (n i : Nat) : (s.bumpBy f n i).stest = s.stest := (rfl)
@[simp] theorem Dev.bumpBy_fuse (s : Dev) (f : Fld) (n i : Nat) : (s.bumpBy f n i).fuse = s.fuse := (rfl)
@[simp] theorem Dev.bumpBy_flash (s : Dev) (f : Fld) (n i : Nat) : (s.bumpBy f n i).flash = s.flash := (rfl)
@[simp] theorem Dev.bumpBy_ks (s : Dev) (f : Fld) (n i : Nat) : (s.bumpBy f n i).ks = s.ks := (rfl)
@[simp] theorem Dev.bumpBy_ms (s : Dev) (f : Fld) (n i : Nat) : (s.bumpBy f n i).ms = s.ms := (rfl)
@[simp] theorem Dev.bumpBy_heat (s : Dev) (f : Fld) (n i : Nat) : (s.bumpBy f n i).heat = s.heat := (rfl)
@[simp] theorem Dev.bumpBy_tap (s : Dev) (f : Fld) (n i : Nat) : (s.bumpBy f n i).tap = s.tap := (rfl)
@[simp] theorem Dev.bumpBy_pins (s : Dev) (f : Fld) (n i : Nat) : (s.bumpBy f n i).pins = s.pins := (rfl)
@[simp] theorem Dev.bumpBy_arb (s : Dev) (f : Fld) (n i : Nat) : (s.bumpBy f n i).arb = s.arb := (rfl)
@[simp] theorem Dev.bumpBy_wlNow (s : Dev) (f : Fld) (n i : Nat) : (s.bumpBy f n i).wlNow = s.wlNow := (rfl)
@[simp] theorem Dev.bumpBy_wlDue (s : Dev) (f : Fld) (n i : Nat) : (s.bumpBy f n i).wlDue = s.wlDue := (rfl)
@[simp] theorem Dev.bumpBy_impRun (s : Dev) (f : Fld) (n i : Nat) : (s.bumpBy f n i).impRun = s.impRun := (rfl)
@[simp] theorem Dev.bumpBy_repairs (s : Dev) (f : Fld) (n i : Nat) : (s.bumpBy f n i).repairs = s.repairs := (rfl)

/-! ### bumpSat -/

@[simp] theorem Dev.bumpSat_hiLatch (s : Dev) (f : Fld) (i k : Nat) : (s.bumpSat f i k).hiLatch = s.hiLatch := (rfl)
@[simp] theorem Dev.bumpSat_out (s : Dev) (f : Fld) (i k : Nat) : (s.bumpSat f i k).out = s.out := (rfl)
@[simp] theorem Dev.bumpSat_nextId (s : Dev) (f : Fld) (i k : Nat) : (s.bumpSat f i k).nextId = s.nextId := (rfl)
@[simp] theorem Dev.bumpSat_free (s : Dev) (f : Fld) (i k : Nat) : (s.bumpSat f i k).free = s.free := (rfl)
@[simp] theorem Dev.bumpSat_ports (s : Dev) (f : Fld) (i k : Nat) : (s.bumpSat f i k).ports = s.ports := (rfl)
@[simp] theorem Dev.bumpSat_fabric (s : Dev) (f : Fld) (i k : Nat) : (s.bumpSat f i k).fabric = s.fabric := (rfl)
@[simp] theorem Dev.bumpSat_classes (s : Dev) (f : Fld) (i k : Nat) : (s.bumpSat f i k).classes = s.classes := (rfl)
@[simp] theorem Dev.bumpSat_space (s : Dev) (f : Fld) (i k : Nat) : (s.bumpSat f i k).space = s.space := (rfl)
@[simp] theorem Dev.bumpSat_haul (s : Dev) (f : Fld) (i k : Nat) : (s.bumpSat f i k).haul = s.haul := (rfl)
@[simp] theorem Dev.bumpSat_pair (s : Dev) (f : Fld) (i k : Nat) : (s.bumpSat f i k).pair = s.pair := (rfl)
@[simp] theorem Dev.bumpSat_fars (s : Dev) (f : Fld) (i k : Nat) : (s.bumpSat f i k).fars = s.fars := (rfl)
@[simp] theorem Dev.bumpSat_engines (s : Dev) (f : Fld) (i k : Nat) : (s.bumpSat f i k).engines = s.engines := (rfl)
@[simp] theorem Dev.bumpSat_disp (s : Dev) (f : Fld) (i k : Nat) : (s.bumpSat f i k).disp = s.disp := (rfl)
@[simp] theorem Dev.bumpSat_shafts (s : Dev) (f : Fld) (i k : Nat) : (s.bumpSat f i k).shafts = s.shafts := (rfl)
@[simp] theorem Dev.bumpSat_dram (s : Dev) (f : Fld) (i k : Nat) : (s.bumpSat f i k).dram = s.dram := (rfl)
@[simp] theorem Dev.bumpSat_dramBad (s : Dev) (f : Fld) (i k : Nat) : (s.bumpSat f i k).dramBad = s.dramBad := (rfl)
@[simp] theorem Dev.bumpSat_tally (s : Dev) (f : Fld) (i k : Nat) : (s.bumpSat f i k).tally = s.tally := (rfl)
@[simp] theorem Dev.bumpSat_notice (s : Dev) (f : Fld) (i k : Nat) : (s.bumpSat f i k).notice = s.notice := (rfl)
@[simp] theorem Dev.bumpSat_answers (s : Dev) (f : Fld) (i k : Nat) : (s.bumpSat f i k).answers = s.answers := (rfl)
@[simp] theorem Dev.bumpSat_time (s : Dev) (f : Fld) (i k : Nat) : (s.bumpSat f i k).time = s.time := (rfl)
@[simp] theorem Dev.bumpSat_leases (s : Dev) (f : Fld) (i k : Nat) : (s.bumpSat f i k).leases = s.leases := (rfl)
@[simp] theorem Dev.bumpSat_calBusy (s : Dev) (f : Fld) (i k : Nat) : (s.bumpSat f i k).calBusy = s.calBusy := (rfl)
@[simp] theorem Dev.bumpSat_stest (s : Dev) (f : Fld) (i k : Nat) : (s.bumpSat f i k).stest = s.stest := (rfl)
@[simp] theorem Dev.bumpSat_fuse (s : Dev) (f : Fld) (i k : Nat) : (s.bumpSat f i k).fuse = s.fuse := (rfl)
@[simp] theorem Dev.bumpSat_flash (s : Dev) (f : Fld) (i k : Nat) : (s.bumpSat f i k).flash = s.flash := (rfl)
@[simp] theorem Dev.bumpSat_ks (s : Dev) (f : Fld) (i k : Nat) : (s.bumpSat f i k).ks = s.ks := (rfl)
@[simp] theorem Dev.bumpSat_ms (s : Dev) (f : Fld) (i k : Nat) : (s.bumpSat f i k).ms = s.ms := (rfl)
@[simp] theorem Dev.bumpSat_heat (s : Dev) (f : Fld) (i k : Nat) : (s.bumpSat f i k).heat = s.heat := (rfl)
@[simp] theorem Dev.bumpSat_tap (s : Dev) (f : Fld) (i k : Nat) : (s.bumpSat f i k).tap = s.tap := (rfl)
@[simp] theorem Dev.bumpSat_pins (s : Dev) (f : Fld) (i k : Nat) : (s.bumpSat f i k).pins = s.pins := (rfl)
@[simp] theorem Dev.bumpSat_arb (s : Dev) (f : Fld) (i k : Nat) : (s.bumpSat f i k).arb = s.arb := (rfl)
@[simp] theorem Dev.bumpSat_wlNow (s : Dev) (f : Fld) (i k : Nat) : (s.bumpSat f i k).wlNow = s.wlNow := (rfl)
@[simp] theorem Dev.bumpSat_wlDue (s : Dev) (f : Fld) (i k : Nat) : (s.bumpSat f i k).wlDue = s.wlDue := (rfl)
@[simp] theorem Dev.bumpSat_impRun (s : Dev) (f : Fld) (i k : Nat) : (s.bumpSat f i k).impRun = s.impRun := (rfl)
@[simp] theorem Dev.bumpSat_repairs (s : Dev) (f : Fld) (i k : Nat) : (s.bumpSat f i k).repairs = s.repairs := (rfl)

/-! ### setPort -/

@[simp] theorem Dev.setPort_ports (s : Dev) (h : Nat) (p : PortSt) : (s.setPort h p).ports = sset (fun _ => {}) s.ports h p := (rfl)
@[simp] theorem Dev.setPort_regs (s : Dev) (h : Nat) (p : PortSt) : (s.setPort h p).regs = s.regs := (rfl)
@[simp] theorem Dev.setPort_hiLatch (s : Dev) (h : Nat) (p : PortSt) : (s.setPort h p).hiLatch = s.hiLatch := (rfl)
@[simp] theorem Dev.setPort_out (s : Dev) (h : Nat) (p : PortSt) : (s.setPort h p).out = s.out := (rfl)
@[simp] theorem Dev.setPort_nextId (s : Dev) (h : Nat) (p : PortSt) : (s.setPort h p).nextId = s.nextId := (rfl)
@[simp] theorem Dev.setPort_free (s : Dev) (h : Nat) (p : PortSt) : (s.setPort h p).free = s.free := (rfl)
@[simp] theorem Dev.setPort_fabric (s : Dev) (h : Nat) (p : PortSt) : (s.setPort h p).fabric = s.fabric := (rfl)
@[simp] theorem Dev.setPort_classes (s : Dev) (h : Nat) (p : PortSt) : (s.setPort h p).classes = s.classes := (rfl)
@[simp] theorem Dev.setPort_space (s : Dev) (h : Nat) (p : PortSt) : (s.setPort h p).space = s.space := (rfl)
@[simp] theorem Dev.setPort_haul (s : Dev) (h : Nat) (p : PortSt) : (s.setPort h p).haul = s.haul := (rfl)
@[simp] theorem Dev.setPort_pair (s : Dev) (h : Nat) (p : PortSt) : (s.setPort h p).pair = s.pair := (rfl)
@[simp] theorem Dev.setPort_fars (s : Dev) (h : Nat) (p : PortSt) : (s.setPort h p).fars = s.fars := (rfl)
@[simp] theorem Dev.setPort_engines (s : Dev) (h : Nat) (p : PortSt) : (s.setPort h p).engines = s.engines := (rfl)
@[simp] theorem Dev.setPort_disp (s : Dev) (h : Nat) (p : PortSt) : (s.setPort h p).disp = s.disp := (rfl)
@[simp] theorem Dev.setPort_shafts (s : Dev) (h : Nat) (p : PortSt) : (s.setPort h p).shafts = s.shafts := (rfl)
@[simp] theorem Dev.setPort_dram (s : Dev) (h : Nat) (p : PortSt) : (s.setPort h p).dram = s.dram := (rfl)
@[simp] theorem Dev.setPort_dramBad (s : Dev) (h : Nat) (p : PortSt) : (s.setPort h p).dramBad = s.dramBad := (rfl)
@[simp] theorem Dev.setPort_tally (s : Dev) (h : Nat) (p : PortSt) : (s.setPort h p).tally = s.tally := (rfl)
@[simp] theorem Dev.setPort_notice (s : Dev) (h : Nat) (p : PortSt) : (s.setPort h p).notice = s.notice := (rfl)
@[simp] theorem Dev.setPort_answers (s : Dev) (h : Nat) (p : PortSt) : (s.setPort h p).answers = s.answers := (rfl)
@[simp] theorem Dev.setPort_time (s : Dev) (h : Nat) (p : PortSt) : (s.setPort h p).time = s.time := (rfl)
@[simp] theorem Dev.setPort_leases (s : Dev) (h : Nat) (p : PortSt) : (s.setPort h p).leases = s.leases := (rfl)
@[simp] theorem Dev.setPort_calBusy (s : Dev) (h : Nat) (p : PortSt) : (s.setPort h p).calBusy = s.calBusy := (rfl)
@[simp] theorem Dev.setPort_stest (s : Dev) (h : Nat) (p : PortSt) : (s.setPort h p).stest = s.stest := (rfl)
@[simp] theorem Dev.setPort_fuse (s : Dev) (h : Nat) (p : PortSt) : (s.setPort h p).fuse = s.fuse := (rfl)
@[simp] theorem Dev.setPort_flash (s : Dev) (h : Nat) (p : PortSt) : (s.setPort h p).flash = s.flash := (rfl)
@[simp] theorem Dev.setPort_ks (s : Dev) (h : Nat) (p : PortSt) : (s.setPort h p).ks = s.ks := (rfl)
@[simp] theorem Dev.setPort_ms (s : Dev) (h : Nat) (p : PortSt) : (s.setPort h p).ms = s.ms := (rfl)
@[simp] theorem Dev.setPort_heat (s : Dev) (h : Nat) (p : PortSt) : (s.setPort h p).heat = s.heat := (rfl)
@[simp] theorem Dev.setPort_tap (s : Dev) (h : Nat) (p : PortSt) : (s.setPort h p).tap = s.tap := (rfl)
@[simp] theorem Dev.setPort_pins (s : Dev) (h : Nat) (p : PortSt) : (s.setPort h p).pins = s.pins := (rfl)
@[simp] theorem Dev.setPort_arb (s : Dev) (h : Nat) (p : PortSt) : (s.setPort h p).arb = s.arb := (rfl)
@[simp] theorem Dev.setPort_wlNow (s : Dev) (h : Nat) (p : PortSt) : (s.setPort h p).wlNow = s.wlNow := (rfl)
@[simp] theorem Dev.setPort_wlDue (s : Dev) (h : Nat) (p : PortSt) : (s.setPort h p).wlDue = s.wlDue := (rfl)
@[simp] theorem Dev.setPort_impRun (s : Dev) (h : Nat) (p : PortSt) : (s.setPort h p).impRun = s.impRun := (rfl)
@[simp] theorem Dev.setPort_repairs (s : Dev) (h : Nat) (p : PortSt) : (s.setPort h p).repairs = s.repairs := (rfl)

/-! ### modPort -/

@[simp] theorem Dev.modPort_ports (s : Dev) (h : Nat) (f : PortSt → PortSt) : (s.modPort h f).ports = sset (fun _ => {}) s.ports h (f (s.port h)) := (rfl)
@[simp] theorem Dev.modPort_regs (s : Dev) (h : Nat) (f : PortSt → PortSt) : (s.modPort h f).regs = s.regs := (rfl)
@[simp] theorem Dev.modPort_hiLatch (s : Dev) (h : Nat) (f : PortSt → PortSt) : (s.modPort h f).hiLatch = s.hiLatch := (rfl)
@[simp] theorem Dev.modPort_out (s : Dev) (h : Nat) (f : PortSt → PortSt) : (s.modPort h f).out = s.out := (rfl)
@[simp] theorem Dev.modPort_nextId (s : Dev) (h : Nat) (f : PortSt → PortSt) : (s.modPort h f).nextId = s.nextId := (rfl)
@[simp] theorem Dev.modPort_free (s : Dev) (h : Nat) (f : PortSt → PortSt) : (s.modPort h f).free = s.free := (rfl)
@[simp] theorem Dev.modPort_fabric (s : Dev) (h : Nat) (f : PortSt → PortSt) : (s.modPort h f).fabric = s.fabric := (rfl)
@[simp] theorem Dev.modPort_classes (s : Dev) (h : Nat) (f : PortSt → PortSt) : (s.modPort h f).classes = s.classes := (rfl)
@[simp] theorem Dev.modPort_space (s : Dev) (h : Nat) (f : PortSt → PortSt) : (s.modPort h f).space = s.space := (rfl)
@[simp] theorem Dev.modPort_haul (s : Dev) (h : Nat) (f : PortSt → PortSt) : (s.modPort h f).haul = s.haul := (rfl)
@[simp] theorem Dev.modPort_pair (s : Dev) (h : Nat) (f : PortSt → PortSt) : (s.modPort h f).pair = s.pair := (rfl)
@[simp] theorem Dev.modPort_fars (s : Dev) (h : Nat) (f : PortSt → PortSt) : (s.modPort h f).fars = s.fars := (rfl)
@[simp] theorem Dev.modPort_engines (s : Dev) (h : Nat) (f : PortSt → PortSt) : (s.modPort h f).engines = s.engines := (rfl)
@[simp] theorem Dev.modPort_disp (s : Dev) (h : Nat) (f : PortSt → PortSt) : (s.modPort h f).disp = s.disp := (rfl)
@[simp] theorem Dev.modPort_shafts (s : Dev) (h : Nat) (f : PortSt → PortSt) : (s.modPort h f).shafts = s.shafts := (rfl)
@[simp] theorem Dev.modPort_dram (s : Dev) (h : Nat) (f : PortSt → PortSt) : (s.modPort h f).dram = s.dram := (rfl)
@[simp] theorem Dev.modPort_dramBad (s : Dev) (h : Nat) (f : PortSt → PortSt) : (s.modPort h f).dramBad = s.dramBad := (rfl)
@[simp] theorem Dev.modPort_tally (s : Dev) (h : Nat) (f : PortSt → PortSt) : (s.modPort h f).tally = s.tally := (rfl)
@[simp] theorem Dev.modPort_notice (s : Dev) (h : Nat) (f : PortSt → PortSt) : (s.modPort h f).notice = s.notice := (rfl)
@[simp] theorem Dev.modPort_answers (s : Dev) (h : Nat) (f : PortSt → PortSt) : (s.modPort h f).answers = s.answers := (rfl)
@[simp] theorem Dev.modPort_time (s : Dev) (h : Nat) (f : PortSt → PortSt) : (s.modPort h f).time = s.time := (rfl)
@[simp] theorem Dev.modPort_leases (s : Dev) (h : Nat) (f : PortSt → PortSt) : (s.modPort h f).leases = s.leases := (rfl)
@[simp] theorem Dev.modPort_calBusy (s : Dev) (h : Nat) (f : PortSt → PortSt) : (s.modPort h f).calBusy = s.calBusy := (rfl)
@[simp] theorem Dev.modPort_stest (s : Dev) (h : Nat) (f : PortSt → PortSt) : (s.modPort h f).stest = s.stest := (rfl)
@[simp] theorem Dev.modPort_fuse (s : Dev) (h : Nat) (f : PortSt → PortSt) : (s.modPort h f).fuse = s.fuse := (rfl)
@[simp] theorem Dev.modPort_flash (s : Dev) (h : Nat) (f : PortSt → PortSt) : (s.modPort h f).flash = s.flash := (rfl)
@[simp] theorem Dev.modPort_ks (s : Dev) (h : Nat) (f : PortSt → PortSt) : (s.modPort h f).ks = s.ks := (rfl)
@[simp] theorem Dev.modPort_ms (s : Dev) (h : Nat) (f : PortSt → PortSt) : (s.modPort h f).ms = s.ms := (rfl)
@[simp] theorem Dev.modPort_heat (s : Dev) (h : Nat) (f : PortSt → PortSt) : (s.modPort h f).heat = s.heat := (rfl)
@[simp] theorem Dev.modPort_tap (s : Dev) (h : Nat) (f : PortSt → PortSt) : (s.modPort h f).tap = s.tap := (rfl)
@[simp] theorem Dev.modPort_pins (s : Dev) (h : Nat) (f : PortSt → PortSt) : (s.modPort h f).pins = s.pins := (rfl)
@[simp] theorem Dev.modPort_arb (s : Dev) (h : Nat) (f : PortSt → PortSt) : (s.modPort h f).arb = s.arb := (rfl)
@[simp] theorem Dev.modPort_wlNow (s : Dev) (h : Nat) (f : PortSt → PortSt) : (s.modPort h f).wlNow = s.wlNow := (rfl)
@[simp] theorem Dev.modPort_wlDue (s : Dev) (h : Nat) (f : PortSt → PortSt) : (s.modPort h f).wlDue = s.wlDue := (rfl)
@[simp] theorem Dev.modPort_impRun (s : Dev) (h : Nat) (f : PortSt → PortSt) : (s.modPort h f).impRun = s.impRun := (rfl)
@[simp] theorem Dev.modPort_repairs (s : Dev) (h : Nat) (f : PortSt → PortSt) : (s.modPort h f).repairs = s.repairs := (rfl)

/-! ### setShaft -/

@[simp] theorem Dev.setShaft_shafts (s : Dev) (n : Nat) (p : ShaftSt) : (s.setShaft n p).shafts = sset (fun _ => {}) s.shafts n p := (rfl)
@[simp] theorem Dev.setShaft_regs (s : Dev) (n : Nat) (p : ShaftSt) : (s.setShaft n p).regs = s.regs := (rfl)
@[simp] theorem Dev.setShaft_hiLatch (s : Dev) (n : Nat) (p : ShaftSt) : (s.setShaft n p).hiLatch = s.hiLatch := (rfl)
@[simp] theorem Dev.setShaft_out (s : Dev) (n : Nat) (p : ShaftSt) : (s.setShaft n p).out = s.out := (rfl)
@[simp] theorem Dev.setShaft_nextId (s : Dev) (n : Nat) (p : ShaftSt) : (s.setShaft n p).nextId = s.nextId := (rfl)
@[simp] theorem Dev.setShaft_free (s : Dev) (n : Nat) (p : ShaftSt) : (s.setShaft n p).free = s.free := (rfl)
@[simp] theorem Dev.setShaft_ports (s : Dev) (n : Nat) (p : ShaftSt) : (s.setShaft n p).ports = s.ports := (rfl)
@[simp] theorem Dev.setShaft_fabric (s : Dev) (n : Nat) (p : ShaftSt) : (s.setShaft n p).fabric = s.fabric := (rfl)
@[simp] theorem Dev.setShaft_classes (s : Dev) (n : Nat) (p : ShaftSt) : (s.setShaft n p).classes = s.classes := (rfl)
@[simp] theorem Dev.setShaft_space (s : Dev) (n : Nat) (p : ShaftSt) : (s.setShaft n p).space = s.space := (rfl)
@[simp] theorem Dev.setShaft_haul (s : Dev) (n : Nat) (p : ShaftSt) : (s.setShaft n p).haul = s.haul := (rfl)
@[simp] theorem Dev.setShaft_pair (s : Dev) (n : Nat) (p : ShaftSt) : (s.setShaft n p).pair = s.pair := (rfl)
@[simp] theorem Dev.setShaft_fars (s : Dev) (n : Nat) (p : ShaftSt) : (s.setShaft n p).fars = s.fars := (rfl)
@[simp] theorem Dev.setShaft_engines (s : Dev) (n : Nat) (p : ShaftSt) : (s.setShaft n p).engines = s.engines := (rfl)
@[simp] theorem Dev.setShaft_disp (s : Dev) (n : Nat) (p : ShaftSt) : (s.setShaft n p).disp = s.disp := (rfl)
@[simp] theorem Dev.setShaft_dram (s : Dev) (n : Nat) (p : ShaftSt) : (s.setShaft n p).dram = s.dram := (rfl)
@[simp] theorem Dev.setShaft_dramBad (s : Dev) (n : Nat) (p : ShaftSt) : (s.setShaft n p).dramBad = s.dramBad := (rfl)
@[simp] theorem Dev.setShaft_tally (s : Dev) (n : Nat) (p : ShaftSt) : (s.setShaft n p).tally = s.tally := (rfl)
@[simp] theorem Dev.setShaft_notice (s : Dev) (n : Nat) (p : ShaftSt) : (s.setShaft n p).notice = s.notice := (rfl)
@[simp] theorem Dev.setShaft_answers (s : Dev) (n : Nat) (p : ShaftSt) : (s.setShaft n p).answers = s.answers := (rfl)
@[simp] theorem Dev.setShaft_time (s : Dev) (n : Nat) (p : ShaftSt) : (s.setShaft n p).time = s.time := (rfl)
@[simp] theorem Dev.setShaft_leases (s : Dev) (n : Nat) (p : ShaftSt) : (s.setShaft n p).leases = s.leases := (rfl)
@[simp] theorem Dev.setShaft_calBusy (s : Dev) (n : Nat) (p : ShaftSt) : (s.setShaft n p).calBusy = s.calBusy := (rfl)
@[simp] theorem Dev.setShaft_stest (s : Dev) (n : Nat) (p : ShaftSt) : (s.setShaft n p).stest = s.stest := (rfl)
@[simp] theorem Dev.setShaft_fuse (s : Dev) (n : Nat) (p : ShaftSt) : (s.setShaft n p).fuse = s.fuse := (rfl)
@[simp] theorem Dev.setShaft_flash (s : Dev) (n : Nat) (p : ShaftSt) : (s.setShaft n p).flash = s.flash := (rfl)
@[simp] theorem Dev.setShaft_ks (s : Dev) (n : Nat) (p : ShaftSt) : (s.setShaft n p).ks = s.ks := (rfl)
@[simp] theorem Dev.setShaft_ms (s : Dev) (n : Nat) (p : ShaftSt) : (s.setShaft n p).ms = s.ms := (rfl)
@[simp] theorem Dev.setShaft_heat (s : Dev) (n : Nat) (p : ShaftSt) : (s.setShaft n p).heat = s.heat := (rfl)
@[simp] theorem Dev.setShaft_tap (s : Dev) (n : Nat) (p : ShaftSt) : (s.setShaft n p).tap = s.tap := (rfl)
@[simp] theorem Dev.setShaft_pins (s : Dev) (n : Nat) (p : ShaftSt) : (s.setShaft n p).pins = s.pins := (rfl)
@[simp] theorem Dev.setShaft_arb (s : Dev) (n : Nat) (p : ShaftSt) : (s.setShaft n p).arb = s.arb := (rfl)
@[simp] theorem Dev.setShaft_wlNow (s : Dev) (n : Nat) (p : ShaftSt) : (s.setShaft n p).wlNow = s.wlNow := (rfl)
@[simp] theorem Dev.setShaft_wlDue (s : Dev) (n : Nat) (p : ShaftSt) : (s.setShaft n p).wlDue = s.wlDue := (rfl)
@[simp] theorem Dev.setShaft_impRun (s : Dev) (n : Nat) (p : ShaftSt) : (s.setShaft n p).impRun = s.impRun := (rfl)
@[simp] theorem Dev.setShaft_repairs (s : Dev) (n : Nat) (p : ShaftSt) : (s.setShaft n p).repairs = s.repairs := (rfl)

/-! ### modShaft -/

@[simp] theorem Dev.modShaft_shafts (s : Dev) (n : Nat) (f : ShaftSt → ShaftSt) : (s.modShaft n f).shafts = sset (fun _ => {}) s.shafts n (f (s.shaft n)) := (rfl)
@[simp] theorem Dev.modShaft_regs (s : Dev) (n : Nat) (f : ShaftSt → ShaftSt) : (s.modShaft n f).regs = s.regs := (rfl)
@[simp] theorem Dev.modShaft_hiLatch (s : Dev) (n : Nat) (f : ShaftSt → ShaftSt) : (s.modShaft n f).hiLatch = s.hiLatch := (rfl)
@[simp] theorem Dev.modShaft_out (s : Dev) (n : Nat) (f : ShaftSt → ShaftSt) : (s.modShaft n f).out = s.out := (rfl)
@[simp] theorem Dev.modShaft_nextId (s : Dev) (n : Nat) (f : ShaftSt → ShaftSt) : (s.modShaft n f).nextId = s.nextId := (rfl)
@[simp] theorem Dev.modShaft_free (s : Dev) (n : Nat) (f : ShaftSt → ShaftSt) : (s.modShaft n f).free = s.free := (rfl)
@[simp] theorem Dev.modShaft_ports (s : Dev) (n : Nat) (f : ShaftSt → ShaftSt) : (s.modShaft n f).ports = s.ports := (rfl)
@[simp] theorem Dev.modShaft_fabric (s : Dev) (n : Nat) (f : ShaftSt → ShaftSt) : (s.modShaft n f).fabric = s.fabric := (rfl)
@[simp] theorem Dev.modShaft_classes (s : Dev) (n : Nat) (f : ShaftSt → ShaftSt) : (s.modShaft n f).classes = s.classes := (rfl)
@[simp] theorem Dev.modShaft_space (s : Dev) (n : Nat) (f : ShaftSt → ShaftSt) : (s.modShaft n f).space = s.space := (rfl)
@[simp] theorem Dev.modShaft_haul (s : Dev) (n : Nat) (f : ShaftSt → ShaftSt) : (s.modShaft n f).haul = s.haul := (rfl)
@[simp] theorem Dev.modShaft_pair (s : Dev) (n : Nat) (f : ShaftSt → ShaftSt) : (s.modShaft n f).pair = s.pair := (rfl)
@[simp] theorem Dev.modShaft_fars (s : Dev) (n : Nat) (f : ShaftSt → ShaftSt) : (s.modShaft n f).fars = s.fars := (rfl)
@[simp] theorem Dev.modShaft_engines (s : Dev) (n : Nat) (f : ShaftSt → ShaftSt) : (s.modShaft n f).engines = s.engines := (rfl)
@[simp] theorem Dev.modShaft_disp (s : Dev) (n : Nat) (f : ShaftSt → ShaftSt) : (s.modShaft n f).disp = s.disp := (rfl)
@[simp] theorem Dev.modShaft_dram (s : Dev) (n : Nat) (f : ShaftSt → ShaftSt) : (s.modShaft n f).dram = s.dram := (rfl)
@[simp] theorem Dev.modShaft_dramBad (s : Dev) (n : Nat) (f : ShaftSt → ShaftSt) : (s.modShaft n f).dramBad = s.dramBad := (rfl)
@[simp] theorem Dev.modShaft_tally (s : Dev) (n : Nat) (f : ShaftSt → ShaftSt) : (s.modShaft n f).tally = s.tally := (rfl)
@[simp] theorem Dev.modShaft_notice (s : Dev) (n : Nat) (f : ShaftSt → ShaftSt) : (s.modShaft n f).notice = s.notice := (rfl)
@[simp] theorem Dev.modShaft_answers (s : Dev) (n : Nat) (f : ShaftSt → ShaftSt) : (s.modShaft n f).answers = s.answers := (rfl)
@[simp] theorem Dev.modShaft_time (s : Dev) (n : Nat) (f : ShaftSt → ShaftSt) : (s.modShaft n f).time = s.time := (rfl)
@[simp] theorem Dev.modShaft_leases (s : Dev) (n : Nat) (f : ShaftSt → ShaftSt) : (s.modShaft n f).leases = s.leases := (rfl)
@[simp] theorem Dev.modShaft_calBusy (s : Dev) (n : Nat) (f : ShaftSt → ShaftSt) : (s.modShaft n f).calBusy = s.calBusy := (rfl)
@[simp] theorem Dev.modShaft_stest (s : Dev) (n : Nat) (f : ShaftSt → ShaftSt) : (s.modShaft n f).stest = s.stest := (rfl)
@[simp] theorem Dev.modShaft_fuse (s : Dev) (n : Nat) (f : ShaftSt → ShaftSt) : (s.modShaft n f).fuse = s.fuse := (rfl)
@[simp] theorem Dev.modShaft_flash (s : Dev) (n : Nat) (f : ShaftSt → ShaftSt) : (s.modShaft n f).flash = s.flash := (rfl)
@[simp] theorem Dev.modShaft_ks (s : Dev) (n : Nat) (f : ShaftSt → ShaftSt) : (s.modShaft n f).ks = s.ks := (rfl)
@[simp] theorem Dev.modShaft_ms (s : Dev) (n : Nat) (f : ShaftSt → ShaftSt) : (s.modShaft n f).ms = s.ms := (rfl)
@[simp] theorem Dev.modShaft_heat (s : Dev) (n : Nat) (f : ShaftSt → ShaftSt) : (s.modShaft n f).heat = s.heat := (rfl)
@[simp] theorem Dev.modShaft_tap (s : Dev) (n : Nat) (f : ShaftSt → ShaftSt) : (s.modShaft n f).tap = s.tap := (rfl)
@[simp] theorem Dev.modShaft_pins (s : Dev) (n : Nat) (f : ShaftSt → ShaftSt) : (s.modShaft n f).pins = s.pins := (rfl)
@[simp] theorem Dev.modShaft_arb (s : Dev) (n : Nat) (f : ShaftSt → ShaftSt) : (s.modShaft n f).arb = s.arb := (rfl)
@[simp] theorem Dev.modShaft_wlNow (s : Dev) (n : Nat) (f : ShaftSt → ShaftSt) : (s.modShaft n f).wlNow = s.wlNow := (rfl)
@[simp] theorem Dev.modShaft_wlDue (s : Dev) (n : Nat) (f : ShaftSt → ShaftSt) : (s.modShaft n f).wlDue = s.wlDue := (rfl)
@[simp] theorem Dev.modShaft_impRun (s : Dev) (n : Nat) (f : ShaftSt → ShaftSt) : (s.modShaft n f).impRun = s.impRun := (rfl)
@[simp] theorem Dev.modShaft_repairs (s : Dev) (n : Nat) (f : ShaftSt → ShaftSt) : (s.modShaft n f).repairs = s.repairs := (rfl)

/-! ### modCls -/

@[simp] theorem Dev.modCls_classes (s : Dev) (c : Nat) (f : ClassSt → ClassSt) : (s.modCls c f).classes = smod (fun _ => {}) s.classes c f := (rfl)
@[simp] theorem Dev.modCls_regs (s : Dev) (c : Nat) (f : ClassSt → ClassSt) : (s.modCls c f).regs = s.regs := (rfl)
@[simp] theorem Dev.modCls_hiLatch (s : Dev) (c : Nat) (f : ClassSt → ClassSt) : (s.modCls c f).hiLatch = s.hiLatch := (rfl)
@[simp] theorem Dev.modCls_out (s : Dev) (c : Nat) (f : ClassSt → ClassSt) : (s.modCls c f).out = s.out := (rfl)
@[simp] theorem Dev.modCls_nextId (s : Dev) (c : Nat) (f : ClassSt → ClassSt) : (s.modCls c f).nextId = s.nextId := (rfl)
@[simp] theorem Dev.modCls_free (s : Dev) (c : Nat) (f : ClassSt → ClassSt) : (s.modCls c f).free = s.free := (rfl)
@[simp] theorem Dev.modCls_ports (s : Dev) (c : Nat) (f : ClassSt → ClassSt) : (s.modCls c f).ports = s.ports := (rfl)
@[simp] theorem Dev.modCls_fabric (s : Dev) (c : Nat) (f : ClassSt → ClassSt) : (s.modCls c f).fabric = s.fabric := (rfl)
@[simp] theorem Dev.modCls_space (s : Dev) (c : Nat) (f : ClassSt → ClassSt) : (s.modCls c f).space = s.space := (rfl)
@[simp] theorem Dev.modCls_haul (s : Dev) (c : Nat) (f : ClassSt → ClassSt) : (s.modCls c f).haul = s.haul := (rfl)
@[simp] theorem Dev.modCls_pair (s : Dev) (c : Nat) (f : ClassSt → ClassSt) : (s.modCls c f).pair = s.pair := (rfl)
@[simp] theorem Dev.modCls_fars (s : Dev) (c : Nat) (f : ClassSt → ClassSt) : (s.modCls c f).fars = s.fars := (rfl)
@[simp] theorem Dev.modCls_engines (s : Dev) (c : Nat) (f : ClassSt → ClassSt) : (s.modCls c f).engines = s.engines := (rfl)
@[simp] theorem Dev.modCls_disp (s : Dev) (c : Nat) (f : ClassSt → ClassSt) : (s.modCls c f).disp = s.disp := (rfl)
@[simp] theorem Dev.modCls_shafts (s : Dev) (c : Nat) (f : ClassSt → ClassSt) : (s.modCls c f).shafts = s.shafts := (rfl)
@[simp] theorem Dev.modCls_dram (s : Dev) (c : Nat) (f : ClassSt → ClassSt) : (s.modCls c f).dram = s.dram := (rfl)
@[simp] theorem Dev.modCls_dramBad (s : Dev) (c : Nat) (f : ClassSt → ClassSt) : (s.modCls c f).dramBad = s.dramBad := (rfl)
@[simp] theorem Dev.modCls_tally (s : Dev) (c : Nat) (f : ClassSt → ClassSt) : (s.modCls c f).tally = s.tally := (rfl)
@[simp] theorem Dev.modCls_notice (s : Dev) (c : Nat) (f : ClassSt → ClassSt) : (s.modCls c f).notice = s.notice := (rfl)
@[simp] theorem Dev.modCls_answers (s : Dev) (c : Nat) (f : ClassSt → ClassSt) : (s.modCls c f).answers = s.answers := (rfl)
@[simp] theorem Dev.modCls_time (s : Dev) (c : Nat) (f : ClassSt → ClassSt) : (s.modCls c f).time = s.time := (rfl)
@[simp] theorem Dev.modCls_leases (s : Dev) (c : Nat) (f : ClassSt → ClassSt) : (s.modCls c f).leases = s.leases := (rfl)
@[simp] theorem Dev.modCls_calBusy (s : Dev) (c : Nat) (f : ClassSt → ClassSt) : (s.modCls c f).calBusy = s.calBusy := (rfl)
@[simp] theorem Dev.modCls_stest (s : Dev) (c : Nat) (f : ClassSt → ClassSt) : (s.modCls c f).stest = s.stest := (rfl)
@[simp] theorem Dev.modCls_fuse (s : Dev) (c : Nat) (f : ClassSt → ClassSt) : (s.modCls c f).fuse = s.fuse := (rfl)
@[simp] theorem Dev.modCls_flash (s : Dev) (c : Nat) (f : ClassSt → ClassSt) : (s.modCls c f).flash = s.flash := (rfl)
@[simp] theorem Dev.modCls_ks (s : Dev) (c : Nat) (f : ClassSt → ClassSt) : (s.modCls c f).ks = s.ks := (rfl)
@[simp] theorem Dev.modCls_ms (s : Dev) (c : Nat) (f : ClassSt → ClassSt) : (s.modCls c f).ms = s.ms := (rfl)
@[simp] theorem Dev.modCls_heat (s : Dev) (c : Nat) (f : ClassSt → ClassSt) : (s.modCls c f).heat = s.heat := (rfl)
@[simp] theorem Dev.modCls_tap (s : Dev) (c : Nat) (f : ClassSt → ClassSt) : (s.modCls c f).tap = s.tap := (rfl)
@[simp] theorem Dev.modCls_pins (s : Dev) (c : Nat) (f : ClassSt → ClassSt) : (s.modCls c f).pins = s.pins := (rfl)
@[simp] theorem Dev.modCls_arb (s : Dev) (c : Nat) (f : ClassSt → ClassSt) : (s.modCls c f).arb = s.arb := (rfl)
@[simp] theorem Dev.modCls_wlNow (s : Dev) (c : Nat) (f : ClassSt → ClassSt) : (s.modCls c f).wlNow = s.wlNow := (rfl)
@[simp] theorem Dev.modCls_wlDue (s : Dev) (c : Nat) (f : ClassSt → ClassSt) : (s.modCls c f).wlDue = s.wlDue := (rfl)
@[simp] theorem Dev.modCls_impRun (s : Dev) (c : Nat) (f : ClassSt → ClassSt) : (s.modCls c f).impRun = s.impRun := (rfl)
@[simp] theorem Dev.modCls_repairs (s : Dev) (c : Nat) (f : ClassSt → ClassSt) : (s.modCls c f).repairs = s.repairs := (rfl)

/-! ### emit -/

@[simp] theorem Dev.emit_out (s : Dev) (o : Out) : (s.emit o).out = s.out ++ [o] := (rfl)
@[simp] theorem Dev.emit_regs (s : Dev) (o : Out) : (s.emit o).regs = s.regs := (rfl)
@[simp] theorem Dev.emit_hiLatch (s : Dev) (o : Out) : (s.emit o).hiLatch = s.hiLatch := (rfl)
@[simp] theorem Dev.emit_nextId (s : Dev) (o : Out) : (s.emit o).nextId = s.nextId := (rfl)
@[simp] theorem Dev.emit_free (s : Dev) (o : Out) : (s.emit o).free = s.free := (rfl)
@[simp] theorem Dev.emit_ports (s : Dev) (o : Out) : (s.emit o).ports = s.ports := (rfl)
@[simp] theorem Dev.emit_fabric (s : Dev) (o : Out) : (s.emit o).fabric = s.fabric := (rfl)
@[simp] theorem Dev.emit_classes (s : Dev) (o : Out) : (s.emit o).classes = s.classes := (rfl)
@[simp] theorem Dev.emit_space (s : Dev) (o : Out) : (s.emit o).space = s.space := (rfl)
@[simp] theorem Dev.emit_haul (s : Dev) (o : Out) : (s.emit o).haul = s.haul := (rfl)
@[simp] theorem Dev.emit_pair (s : Dev) (o : Out) : (s.emit o).pair = s.pair := (rfl)
@[simp] theorem Dev.emit_fars (s : Dev) (o : Out) : (s.emit o).fars = s.fars := (rfl)
@[simp] theorem Dev.emit_engines (s : Dev) (o : Out) : (s.emit o).engines = s.engines := (rfl)
@[simp] theorem Dev.emit_disp (s : Dev) (o : Out) : (s.emit o).disp = s.disp := (rfl)
@[simp] theorem Dev.emit_shafts (s : Dev) (o : Out) : (s.emit o).shafts = s.shafts := (rfl)
@[simp] theorem Dev.emit_dram (s : Dev) (o : Out) : (s.emit o).dram = s.dram := (rfl)
@[simp] theorem Dev.emit_dramBad (s : Dev) (o : Out) : (s.emit o).dramBad = s.dramBad := (rfl)
@[simp] theorem Dev.emit_tally (s : Dev) (o : Out) : (s.emit o).tally = s.tally := (rfl)
@[simp] theorem Dev.emit_notice (s : Dev) (o : Out) : (s.emit o).notice = s.notice := (rfl)
@[simp] theorem Dev.emit_answers (s : Dev) (o : Out) : (s.emit o).answers = s.answers := (rfl)
@[simp] theorem Dev.emit_time (s : Dev) (o : Out) : (s.emit o).time = s.time := (rfl)
@[simp] theorem Dev.emit_leases (s : Dev) (o : Out) : (s.emit o).leases = s.leases := (rfl)
@[simp] theorem Dev.emit_calBusy (s : Dev) (o : Out) : (s.emit o).calBusy = s.calBusy := (rfl)
@[simp] theorem Dev.emit_stest (s : Dev) (o : Out) : (s.emit o).stest = s.stest := (rfl)
@[simp] theorem Dev.emit_fuse (s : Dev) (o : Out) : (s.emit o).fuse = s.fuse := (rfl)
@[simp] theorem Dev.emit_flash (s : Dev) (o : Out) : (s.emit o).flash = s.flash := (rfl)
@[simp] theorem Dev.emit_ks (s : Dev) (o : Out) : (s.emit o).ks = s.ks := (rfl)
@[simp] theorem Dev.emit_ms (s : Dev) (o : Out) : (s.emit o).ms = s.ms := (rfl)
@[simp] theorem Dev.emit_heat (s : Dev) (o : Out) : (s.emit o).heat = s.heat := (rfl)
@[simp] theorem Dev.emit_tap (s : Dev) (o : Out) : (s.emit o).tap = s.tap := (rfl)
@[simp] theorem Dev.emit_pins (s : Dev) (o : Out) : (s.emit o).pins = s.pins := (rfl)
@[simp] theorem Dev.emit_arb (s : Dev) (o : Out) : (s.emit o).arb = s.arb := (rfl)
@[simp] theorem Dev.emit_wlNow (s : Dev) (o : Out) : (s.emit o).wlNow = s.wlNow := (rfl)
@[simp] theorem Dev.emit_wlDue (s : Dev) (o : Out) : (s.emit o).wlDue = s.wlDue := (rfl)
@[simp] theorem Dev.emit_impRun (s : Dev) (o : Out) : (s.emit o).impRun = s.impRun := (rfl)
@[simp] theorem Dev.emit_repairs (s : Dev) (o : Out) : (s.emit o).repairs = s.repairs := (rfl)

/-! ### nextFree -/

@[simp] theorem Dev.nextFree_free (s : Dev) : (s.nextFree).free = s.free + 1 := (rfl)
@[simp] theorem Dev.nextFree_regs (s : Dev) : (s.nextFree).regs = s.regs := (rfl)
@[simp] theorem Dev.nextFree_hiLatch (s : Dev) : (s.nextFree).hiLatch = s.hiLatch := (rfl)
@[simp] theorem Dev.nextFree_out (s : Dev) : (s.nextFree).out = s.out := (rfl)
@[simp] theorem Dev.nextFree_nextId (s : Dev) : (s.nextFree).nextId = s.nextId := (rfl)
@[simp] theorem Dev.nextFree_ports (s : Dev) : (s.nextFree).ports = s.ports := (rfl)
@[simp] theorem Dev.nextFree_fabric (s : Dev) : (s.nextFree).fabric = s.fabric := (rfl)
@[simp] theorem Dev.nextFree_classes (s : Dev) : (s.nextFree).classes = s.classes := (rfl)
@[simp] theorem Dev.nextFree_space (s : Dev) : (s.nextFree).space = s.space := (rfl)
@[simp] theorem Dev.nextFree_haul (s : Dev) : (s.nextFree).haul = s.haul := (rfl)
@[simp] theorem Dev.nextFree_pair (s : Dev) : (s.nextFree).pair = s.pair := (rfl)
@[simp] theorem Dev.nextFree_fars (s : Dev) : (s.nextFree).fars = s.fars := (rfl)
@[simp] theorem Dev.nextFree_engines (s : Dev) : (s.nextFree).engines = s.engines := (rfl)
@[simp] theorem Dev.nextFree_disp (s : Dev) : (s.nextFree).disp = s.disp := (rfl)
@[simp] theorem Dev.nextFree_shafts (s : Dev) : (s.nextFree).shafts = s.shafts := (rfl)
@[simp] theorem Dev.nextFree_dram (s : Dev) : (s.nextFree).dram = s.dram := (rfl)
@[simp] theorem Dev.nextFree_dramBad (s : Dev) : (s.nextFree).dramBad = s.dramBad := (rfl)
@[simp] theorem Dev.nextFree_tally (s : Dev) : (s.nextFree).tally = s.tally := (rfl)
@[simp] theorem Dev.nextFree_notice (s : Dev) : (s.nextFree).notice = s.notice := (rfl)
@[simp] theorem Dev.nextFree_answers (s : Dev) : (s.nextFree).answers = s.answers := (rfl)
@[simp] theorem Dev.nextFree_time (s : Dev) : (s.nextFree).time = s.time := (rfl)
@[simp] theorem Dev.nextFree_leases (s : Dev) : (s.nextFree).leases = s.leases := (rfl)
@[simp] theorem Dev.nextFree_calBusy (s : Dev) : (s.nextFree).calBusy = s.calBusy := (rfl)
@[simp] theorem Dev.nextFree_stest (s : Dev) : (s.nextFree).stest = s.stest := (rfl)
@[simp] theorem Dev.nextFree_fuse (s : Dev) : (s.nextFree).fuse = s.fuse := (rfl)
@[simp] theorem Dev.nextFree_flash (s : Dev) : (s.nextFree).flash = s.flash := (rfl)
@[simp] theorem Dev.nextFree_ks (s : Dev) : (s.nextFree).ks = s.ks := (rfl)
@[simp] theorem Dev.nextFree_ms (s : Dev) : (s.nextFree).ms = s.ms := (rfl)
@[simp] theorem Dev.nextFree_heat (s : Dev) : (s.nextFree).heat = s.heat := (rfl)
@[simp] theorem Dev.nextFree_tap (s : Dev) : (s.nextFree).tap = s.tap := (rfl)
@[simp] theorem Dev.nextFree_pins (s : Dev) : (s.nextFree).pins = s.pins := (rfl)
@[simp] theorem Dev.nextFree_arb (s : Dev) : (s.nextFree).arb = s.arb := (rfl)
@[simp] theorem Dev.nextFree_wlNow (s : Dev) : (s.nextFree).wlNow = s.wlNow := (rfl)
@[simp] theorem Dev.nextFree_wlDue (s : Dev) : (s.nextFree).wlDue = s.wlDue := (rfl)
@[simp] theorem Dev.nextFree_impRun (s : Dev) : (s.nextFree).impRun = s.impRun := (rfl)
@[simp] theorem Dev.nextFree_repairs (s : Dev) : (s.nextFree).repairs = s.repairs := (rfl)

/-! ### fresh -/

@[simp] theorem Dev.fresh_nextId (s : Dev) : (s.fresh).nextId = s.nextId + 1 := (rfl)
@[simp] theorem Dev.fresh_regs (s : Dev) : (s.fresh).regs = s.regs := (rfl)
@[simp] theorem Dev.fresh_hiLatch (s : Dev) : (s.fresh).hiLatch = s.hiLatch := (rfl)
@[simp] theorem Dev.fresh_out (s : Dev) : (s.fresh).out = s.out := (rfl)
@[simp] theorem Dev.fresh_free (s : Dev) : (s.fresh).free = s.free := (rfl)
@[simp] theorem Dev.fresh_ports (s : Dev) : (s.fresh).ports = s.ports := (rfl)
@[simp] theorem Dev.fresh_fabric (s : Dev) : (s.fresh).fabric = s.fabric := (rfl)
@[simp] theorem Dev.fresh_classes (s : Dev) : (s.fresh).classes = s.classes := (rfl)
@[simp] theorem Dev.fresh_space (s : Dev) : (s.fresh).space = s.space := (rfl)
@[simp] theorem Dev.fresh_haul (s : Dev) : (s.fresh).haul = s.haul := (rfl)
@[simp] theorem Dev.fresh_pair (s : Dev) : (s.fresh).pair = s.pair := (rfl)
@[simp] theorem Dev.fresh_fars (s : Dev) : (s.fresh).fars = s.fars := (rfl)
@[simp] theorem Dev.fresh_engines (s : Dev) : (s.fresh).engines = s.engines := (rfl)
@[simp] theorem Dev.fresh_disp (s : Dev) : (s.fresh).disp = s.disp := (rfl)
@[simp] theorem Dev.fresh_shafts (s : Dev) : (s.fresh).shafts = s.shafts := (rfl)
@[simp] theorem Dev.fresh_dram (s : Dev) : (s.fresh).dram = s.dram := (rfl)
@[simp] theorem Dev.fresh_dramBad (s : Dev) : (s.fresh).dramBad = s.dramBad := (rfl)
@[simp] theorem Dev.fresh_tally (s : Dev) : (s.fresh).tally = s.tally := (rfl)
@[simp] theorem Dev.fresh_notice (s : Dev) : (s.fresh).notice = s.notice := (rfl)
@[simp] theorem Dev.fresh_answers (s : Dev) : (s.fresh).answers = s.answers := (rfl)
@[simp] theorem Dev.fresh_time (s : Dev) : (s.fresh).time = s.time := (rfl)
@[simp] theorem Dev.fresh_leases (s : Dev) : (s.fresh).leases = s.leases := (rfl)
@[simp] theorem Dev.fresh_calBusy (s : Dev) : (s.fresh).calBusy = s.calBusy := (rfl)
@[simp] theorem Dev.fresh_stest (s : Dev) : (s.fresh).stest = s.stest := (rfl)
@[simp] theorem Dev.fresh_fuse (s : Dev) : (s.fresh).fuse = s.fuse := (rfl)
@[simp] theorem Dev.fresh_flash (s : Dev) : (s.fresh).flash = s.flash := (rfl)
@[simp] theorem Dev.fresh_ks (s : Dev) : (s.fresh).ks = s.ks := (rfl)
@[simp] theorem Dev.fresh_ms (s : Dev) : (s.fresh).ms = s.ms := (rfl)
@[simp] theorem Dev.fresh_heat (s : Dev) : (s.fresh).heat = s.heat := (rfl)
@[simp] theorem Dev.fresh_tap (s : Dev) : (s.fresh).tap = s.tap := (rfl)
@[simp] theorem Dev.fresh_pins (s : Dev) : (s.fresh).pins = s.pins := (rfl)
@[simp] theorem Dev.fresh_arb (s : Dev) : (s.fresh).arb = s.arb := (rfl)
@[simp] theorem Dev.fresh_wlNow (s : Dev) : (s.fresh).wlNow = s.wlNow := (rfl)
@[simp] theorem Dev.fresh_wlDue (s : Dev) : (s.fresh).wlDue = s.wlDue := (rfl)
@[simp] theorem Dev.fresh_impRun (s : Dev) : (s.fresh).impRun = s.impRun := (rfl)
@[simp] theorem Dev.fresh_repairs (s : Dev) : (s.fresh).repairs = s.repairs := (rfl)

/-! ### modSpace -/

@[simp] theorem Dev.modSpace_space (s : Dev) (f : SpaceSt → SpaceSt) : (s.modSpace f).space = f s.space := (rfl)
@[simp] theorem Dev.modSpace_regs (s : Dev) (f : SpaceSt → SpaceSt) : (s.modSpace f).regs = s.regs := (rfl)
@[simp] theorem Dev.modSpace_hiLatch (s : Dev) (f : SpaceSt → SpaceSt) : (s.modSpace f).hiLatch = s.hiLatch := (rfl)
@[simp] theorem Dev.modSpace_out (s : Dev) (f : SpaceSt → SpaceSt) : (s.modSpace f).out = s.out := (rfl)
@[simp] theorem Dev.modSpace_nextId (s : Dev) (f : SpaceSt → SpaceSt) : (s.modSpace f).nextId = s.nextId := (rfl)
@[simp] theorem Dev.modSpace_free (s : Dev) (f : SpaceSt → SpaceSt) : (s.modSpace f).free = s.free := (rfl)
@[simp] theorem Dev.modSpace_ports (s : Dev) (f : SpaceSt → SpaceSt) : (s.modSpace f).ports = s.ports := (rfl)
@[simp] theorem Dev.modSpace_fabric (s : Dev) (f : SpaceSt → SpaceSt) : (s.modSpace f).fabric = s.fabric := (rfl)
@[simp] theorem Dev.modSpace_classes (s : Dev) (f : SpaceSt → SpaceSt) : (s.modSpace f).classes = s.classes := (rfl)
@[simp] theorem Dev.modSpace_haul (s : Dev) (f : SpaceSt → SpaceSt) : (s.modSpace f).haul = s.haul := (rfl)
@[simp] theorem Dev.modSpace_pair (s : Dev) (f : SpaceSt → SpaceSt) : (s.modSpace f).pair = s.pair := (rfl)
@[simp] theorem Dev.modSpace_fars (s : Dev) (f : SpaceSt → SpaceSt) : (s.modSpace f).fars = s.fars := (rfl)
@[simp] theorem Dev.modSpace_engines (s : Dev) (f : SpaceSt → SpaceSt) : (s.modSpace f).engines = s.engines := (rfl)
@[simp] theorem Dev.modSpace_disp (s : Dev) (f : SpaceSt → SpaceSt) : (s.modSpace f).disp = s.disp := (rfl)
@[simp] theorem Dev.modSpace_shafts (s : Dev) (f : SpaceSt → SpaceSt) : (s.modSpace f).shafts = s.shafts := (rfl)
@[simp] theorem Dev.modSpace_dram (s : Dev) (f : SpaceSt → SpaceSt) : (s.modSpace f).dram = s.dram := (rfl)
@[simp] theorem Dev.modSpace_dramBad (s : Dev) (f : SpaceSt → SpaceSt) : (s.modSpace f).dramBad = s.dramBad := (rfl)
@[simp] theorem Dev.modSpace_tally (s : Dev) (f : SpaceSt → SpaceSt) : (s.modSpace f).tally = s.tally := (rfl)
@[simp] theorem Dev.modSpace_notice (s : Dev) (f : SpaceSt → SpaceSt) : (s.modSpace f).notice = s.notice := (rfl)
@[simp] theorem Dev.modSpace_answers (s : Dev) (f : SpaceSt → SpaceSt) : (s.modSpace f).answers = s.answers := (rfl)
@[simp] theorem Dev.modSpace_time (s : Dev) (f : SpaceSt → SpaceSt) : (s.modSpace f).time = s.time := (rfl)
@[simp] theorem Dev.modSpace_leases (s : Dev) (f : SpaceSt → SpaceSt) : (s.modSpace f).leases = s.leases := (rfl)
@[simp] theorem Dev.modSpace_calBusy (s : Dev) (f : SpaceSt → SpaceSt) : (s.modSpace f).calBusy = s.calBusy := (rfl)
@[simp] theorem Dev.modSpace_stest (s : Dev) (f : SpaceSt → SpaceSt) : (s.modSpace f).stest = s.stest := (rfl)
@[simp] theorem Dev.modSpace_fuse (s : Dev) (f : SpaceSt → SpaceSt) : (s.modSpace f).fuse = s.fuse := (rfl)
@[simp] theorem Dev.modSpace_flash (s : Dev) (f : SpaceSt → SpaceSt) : (s.modSpace f).flash = s.flash := (rfl)
@[simp] theorem Dev.modSpace_ks (s : Dev) (f : SpaceSt → SpaceSt) : (s.modSpace f).ks = s.ks := (rfl)
@[simp] theorem Dev.modSpace_ms (s : Dev) (f : SpaceSt → SpaceSt) : (s.modSpace f).ms = s.ms := (rfl)
@[simp] theorem Dev.modSpace_heat (s : Dev) (f : SpaceSt → SpaceSt) : (s.modSpace f).heat = s.heat := (rfl)
@[simp] theorem Dev.modSpace_tap (s : Dev) (f : SpaceSt → SpaceSt) : (s.modSpace f).tap = s.tap := (rfl)
@[simp] theorem Dev.modSpace_pins (s : Dev) (f : SpaceSt → SpaceSt) : (s.modSpace f).pins = s.pins := (rfl)
@[simp] theorem Dev.modSpace_arb (s : Dev) (f : SpaceSt → SpaceSt) : (s.modSpace f).arb = s.arb := (rfl)
@[simp] theorem Dev.modSpace_wlNow (s : Dev) (f : SpaceSt → SpaceSt) : (s.modSpace f).wlNow = s.wlNow := (rfl)
@[simp] theorem Dev.modSpace_wlDue (s : Dev) (f : SpaceSt → SpaceSt) : (s.modSpace f).wlDue = s.wlDue := (rfl)
@[simp] theorem Dev.modSpace_impRun (s : Dev) (f : SpaceSt → SpaceSt) : (s.modSpace f).impRun = s.impRun := (rfl)
@[simp] theorem Dev.modSpace_repairs (s : Dev) (f : SpaceSt → SpaceSt) : (s.modSpace f).repairs = s.repairs := (rfl)

/-! ### modHaul -/

@[simp] theorem Dev.modHaul_haul (s : Dev) (f : HaulSt → HaulSt) : (s.modHaul f).haul = f s.haul := (rfl)
@[simp] theorem Dev.modHaul_regs (s : Dev) (f : HaulSt → HaulSt) : (s.modHaul f).regs = s.regs := (rfl)
@[simp] theorem Dev.modHaul_hiLatch (s : Dev) (f : HaulSt → HaulSt) : (s.modHaul f).hiLatch = s.hiLatch := (rfl)
@[simp] theorem Dev.modHaul_out (s : Dev) (f : HaulSt → HaulSt) : (s.modHaul f).out = s.out := (rfl)
@[simp] theorem Dev.modHaul_nextId (s : Dev) (f : HaulSt → HaulSt) : (s.modHaul f).nextId = s.nextId := (rfl)
@[simp] theorem Dev.modHaul_free (s : Dev) (f : HaulSt → HaulSt) : (s.modHaul f).free = s.free := (rfl)
@[simp] theorem Dev.modHaul_ports (s : Dev) (f : HaulSt → HaulSt) : (s.modHaul f).ports = s.ports := (rfl)
@[simp] theorem Dev.modHaul_fabric (s : Dev) (f : HaulSt → HaulSt) : (s.modHaul f).fabric = s.fabric := (rfl)
@[simp] theorem Dev.modHaul_classes (s : Dev) (f : HaulSt → HaulSt) : (s.modHaul f).classes = s.classes := (rfl)
@[simp] theorem Dev.modHaul_space (s : Dev) (f : HaulSt → HaulSt) : (s.modHaul f).space = s.space := (rfl)
@[simp] theorem Dev.modHaul_pair (s : Dev) (f : HaulSt → HaulSt) : (s.modHaul f).pair = s.pair := (rfl)
@[simp] theorem Dev.modHaul_fars (s : Dev) (f : HaulSt → HaulSt) : (s.modHaul f).fars = s.fars := (rfl)
@[simp] theorem Dev.modHaul_engines (s : Dev) (f : HaulSt → HaulSt) : (s.modHaul f).engines = s.engines := (rfl)
@[simp] theorem Dev.modHaul_disp (s : Dev) (f : HaulSt → HaulSt) : (s.modHaul f).disp = s.disp := (rfl)
@[simp] theorem Dev.modHaul_shafts (s : Dev) (f : HaulSt → HaulSt) : (s.modHaul f).shafts = s.shafts := (rfl)
@[simp] theorem Dev.modHaul_dram (s : Dev) (f : HaulSt → HaulSt) : (s.modHaul f).dram = s.dram := (rfl)
@[simp] theorem Dev.modHaul_dramBad (s : Dev) (f : HaulSt → HaulSt) : (s.modHaul f).dramBad = s.dramBad := (rfl)
@[simp] theorem Dev.modHaul_tally (s : Dev) (f : HaulSt → HaulSt) : (s.modHaul f).tally = s.tally := (rfl)
@[simp] theorem Dev.modHaul_notice (s : Dev) (f : HaulSt → HaulSt) : (s.modHaul f).notice = s.notice := (rfl)
@[simp] theorem Dev.modHaul_answers (s : Dev) (f : HaulSt → HaulSt) : (s.modHaul f).answers = s.answers := (rfl)
@[simp] theorem Dev.modHaul_time (s : Dev) (f : HaulSt → HaulSt) : (s.modHaul f).time = s.time := (rfl)
@[simp] theorem Dev.modHaul_leases (s : Dev) (f : HaulSt → HaulSt) : (s.modHaul f).leases = s.leases := (rfl)
@[simp] theorem Dev.modHaul_calBusy (s : Dev) (f : HaulSt → HaulSt) : (s.modHaul f).calBusy = s.calBusy := (rfl)
@[simp] theorem Dev.modHaul_stest (s : Dev) (f : HaulSt → HaulSt) : (s.modHaul f).stest = s.stest := (rfl)
@[simp] theorem Dev.modHaul_fuse (s : Dev) (f : HaulSt → HaulSt) : (s.modHaul f).fuse = s.fuse := (rfl)
@[simp] theorem Dev.modHaul_flash (s : Dev) (f : HaulSt → HaulSt) : (s.modHaul f).flash = s.flash := (rfl)
@[simp] theorem Dev.modHaul_ks (s : Dev) (f : HaulSt → HaulSt) : (s.modHaul f).ks = s.ks := (rfl)
@[simp] theorem Dev.modHaul_ms (s : Dev) (f : HaulSt → HaulSt) : (s.modHaul f).ms = s.ms := (rfl)
@[simp] theorem Dev.modHaul_heat (s : Dev) (f : HaulSt → HaulSt) : (s.modHaul f).heat = s.heat := (rfl)
@[simp] theorem Dev.modHaul_tap (s : Dev) (f : HaulSt → HaulSt) : (s.modHaul f).tap = s.tap := (rfl)
@[simp] theorem Dev.modHaul_pins (s : Dev) (f : HaulSt → HaulSt) : (s.modHaul f).pins = s.pins := (rfl)
@[simp] theorem Dev.modHaul_arb (s : Dev) (f : HaulSt → HaulSt) : (s.modHaul f).arb = s.arb := (rfl)
@[simp] theorem Dev.modHaul_wlNow (s : Dev) (f : HaulSt → HaulSt) : (s.modHaul f).wlNow = s.wlNow := (rfl)
@[simp] theorem Dev.modHaul_wlDue (s : Dev) (f : HaulSt → HaulSt) : (s.modHaul f).wlDue = s.wlDue := (rfl)
@[simp] theorem Dev.modHaul_impRun (s : Dev) (f : HaulSt → HaulSt) : (s.modHaul f).impRun = s.impRun := (rfl)
@[simp] theorem Dev.modHaul_repairs (s : Dev) (f : HaulSt → HaulSt) : (s.modHaul f).repairs = s.repairs := (rfl)

/-! ### modEng -/

@[simp] theorem Dev.modEng_engines (s : Dev) (n : Nat) (g : EngSt → EngSt) : (s.modEng n g).engines = smod (fun _ => {}) s.engines n g := (rfl)
@[simp] theorem Dev.modEng_regs (s : Dev) (n : Nat) (g : EngSt → EngSt) : (s.modEng n g).regs = s.regs := (rfl)
@[simp] theorem Dev.modEng_hiLatch (s : Dev) (n : Nat) (g : EngSt → EngSt) : (s.modEng n g).hiLatch = s.hiLatch := (rfl)
@[simp] theorem Dev.modEng_out (s : Dev) (n : Nat) (g : EngSt → EngSt) : (s.modEng n g).out = s.out := (rfl)
@[simp] theorem Dev.modEng_nextId (s : Dev) (n : Nat) (g : EngSt → EngSt) : (s.modEng n g).nextId = s.nextId := (rfl)
@[simp] theorem Dev.modEng_free (s : Dev) (n : Nat) (g : EngSt → EngSt) : (s.modEng n g).free = s.free := (rfl)
@[simp] theorem Dev.modEng_ports (s : Dev) (n : Nat) (g : EngSt → EngSt) : (s.modEng n g).ports = s.ports := (rfl)
@[simp] theorem Dev.modEng_fabric (s : Dev) (n : Nat) (g : EngSt → EngSt) : (s.modEng n g).fabric = s.fabric := (rfl)
@[simp] theorem Dev.modEng_classes (s : Dev) (n : Nat) (g : EngSt → EngSt) : (s.modEng n g).classes = s.classes := (rfl)
@[simp] theorem Dev.modEng_space (s : Dev) (n : Nat) (g : EngSt → EngSt) : (s.modEng n g).space = s.space := (rfl)
@[simp] theorem Dev.modEng_haul (s : Dev) (n : Nat) (g : EngSt → EngSt) : (s.modEng n g).haul = s.haul := (rfl)
@[simp] theorem Dev.modEng_pair (s : Dev) (n : Nat) (g : EngSt → EngSt) : (s.modEng n g).pair = s.pair := (rfl)
@[simp] theorem Dev.modEng_fars (s : Dev) (n : Nat) (g : EngSt → EngSt) : (s.modEng n g).fars = s.fars := (rfl)
@[simp] theorem Dev.modEng_disp (s : Dev) (n : Nat) (g : EngSt → EngSt) : (s.modEng n g).disp = s.disp := (rfl)
@[simp] theorem Dev.modEng_shafts (s : Dev) (n : Nat) (g : EngSt → EngSt) : (s.modEng n g).shafts = s.shafts := (rfl)
@[simp] theorem Dev.modEng_dram (s : Dev) (n : Nat) (g : EngSt → EngSt) : (s.modEng n g).dram = s.dram := (rfl)
@[simp] theorem Dev.modEng_dramBad (s : Dev) (n : Nat) (g : EngSt → EngSt) : (s.modEng n g).dramBad = s.dramBad := (rfl)
@[simp] theorem Dev.modEng_tally (s : Dev) (n : Nat) (g : EngSt → EngSt) : (s.modEng n g).tally = s.tally := (rfl)
@[simp] theorem Dev.modEng_notice (s : Dev) (n : Nat) (g : EngSt → EngSt) : (s.modEng n g).notice = s.notice := (rfl)
@[simp] theorem Dev.modEng_answers (s : Dev) (n : Nat) (g : EngSt → EngSt) : (s.modEng n g).answers = s.answers := (rfl)
@[simp] theorem Dev.modEng_time (s : Dev) (n : Nat) (g : EngSt → EngSt) : (s.modEng n g).time = s.time := (rfl)
@[simp] theorem Dev.modEng_leases (s : Dev) (n : Nat) (g : EngSt → EngSt) : (s.modEng n g).leases = s.leases := (rfl)
@[simp] theorem Dev.modEng_calBusy (s : Dev) (n : Nat) (g : EngSt → EngSt) : (s.modEng n g).calBusy = s.calBusy := (rfl)
@[simp] theorem Dev.modEng_stest (s : Dev) (n : Nat) (g : EngSt → EngSt) : (s.modEng n g).stest = s.stest := (rfl)
@[simp] theorem Dev.modEng_fuse (s : Dev) (n : Nat) (g : EngSt → EngSt) : (s.modEng n g).fuse = s.fuse := (rfl)
@[simp] theorem Dev.modEng_flash (s : Dev) (n : Nat) (g : EngSt → EngSt) : (s.modEng n g).flash = s.flash := (rfl)
@[simp] theorem Dev.modEng_ks (s : Dev) (n : Nat) (g : EngSt → EngSt) : (s.modEng n g).ks = s.ks := (rfl)
@[simp] theorem Dev.modEng_ms (s : Dev) (n : Nat) (g : EngSt → EngSt) : (s.modEng n g).ms = s.ms := (rfl)
@[simp] theorem Dev.modEng_heat (s : Dev) (n : Nat) (g : EngSt → EngSt) : (s.modEng n g).heat = s.heat := (rfl)
@[simp] theorem Dev.modEng_tap (s : Dev) (n : Nat) (g : EngSt → EngSt) : (s.modEng n g).tap = s.tap := (rfl)
@[simp] theorem Dev.modEng_pins (s : Dev) (n : Nat) (g : EngSt → EngSt) : (s.modEng n g).pins = s.pins := (rfl)
@[simp] theorem Dev.modEng_arb (s : Dev) (n : Nat) (g : EngSt → EngSt) : (s.modEng n g).arb = s.arb := (rfl)
@[simp] theorem Dev.modEng_wlNow (s : Dev) (n : Nat) (g : EngSt → EngSt) : (s.modEng n g).wlNow = s.wlNow := (rfl)
@[simp] theorem Dev.modEng_wlDue (s : Dev) (n : Nat) (g : EngSt → EngSt) : (s.modEng n g).wlDue = s.wlDue := (rfl)
@[simp] theorem Dev.modEng_impRun (s : Dev) (n : Nat) (g : EngSt → EngSt) : (s.modEng n g).impRun = s.impRun := (rfl)
@[simp] theorem Dev.modEng_repairs (s : Dev) (n : Nat) (g : EngSt → EngSt) : (s.modEng n g).repairs = s.repairs := (rfl)

/-! ### modFar -/

@[simp] theorem Dev.modFar_fars (s : Dev) (f : Nat) (g : FarSt → FarSt) : (s.modFar f g).fars = smod (fun _ => {}) s.fars f g := (rfl)
@[simp] theorem Dev.modFar_regs (s : Dev) (f : Nat) (g : FarSt → FarSt) : (s.modFar f g).regs = s.regs := (rfl)
@[simp] theorem Dev.modFar_hiLatch (s : Dev) (f : Nat) (g : FarSt → FarSt) : (s.modFar f g).hiLatch = s.hiLatch := (rfl)
@[simp] theorem Dev.modFar_out (s : Dev) (f : Nat) (g : FarSt → FarSt) : (s.modFar f g).out = s.out := (rfl)
@[simp] theorem Dev.modFar_nextId (s : Dev) (f : Nat) (g : FarSt → FarSt) : (s.modFar f g).nextId = s.nextId := (rfl)
@[simp] theorem Dev.modFar_free (s : Dev) (f : Nat) (g : FarSt → FarSt) : (s.modFar f g).free = s.free := (rfl)
@[simp] theorem Dev.modFar_ports (s : Dev) (f : Nat) (g : FarSt → FarSt) : (s.modFar f g).ports = s.ports := (rfl)
@[simp] theorem Dev.modFar_fabric (s : Dev) (f : Nat) (g : FarSt → FarSt) : (s.modFar f g).fabric = s.fabric := (rfl)
@[simp] theorem Dev.modFar_classes (s : Dev) (f : Nat) (g : FarSt → FarSt) : (s.modFar f g).classes = s.classes := (rfl)
@[simp] theorem Dev.modFar_space (s : Dev) (f : Nat) (g : FarSt → FarSt) : (s.modFar f g).space = s.space := (rfl)
@[simp] theorem Dev.modFar_haul (s : Dev) (f : Nat) (g : FarSt → FarSt) : (s.modFar f g).haul = s.haul := (rfl)
@[simp] theorem Dev.modFar_pair (s : Dev) (f : Nat) (g : FarSt → FarSt) : (s.modFar f g).pair = s.pair := (rfl)
@[simp] theorem Dev.modFar_engines (s : Dev) (f : Nat) (g : FarSt → FarSt) : (s.modFar f g).engines = s.engines := (rfl)
@[simp] theorem Dev.modFar_disp (s : Dev) (f : Nat) (g : FarSt → FarSt) : (s.modFar f g).disp = s.disp := (rfl)
@[simp] theorem Dev.modFar_shafts (s : Dev) (f : Nat) (g : FarSt → FarSt) : (s.modFar f g).shafts = s.shafts := (rfl)
@[simp] theorem Dev.modFar_dram (s : Dev) (f : Nat) (g : FarSt → FarSt) : (s.modFar f g).dram = s.dram := (rfl)
@[simp] theorem Dev.modFar_dramBad (s : Dev) (f : Nat) (g : FarSt → FarSt) : (s.modFar f g).dramBad = s.dramBad := (rfl)
@[simp] theorem Dev.modFar_tally (s : Dev) (f : Nat) (g : FarSt → FarSt) : (s.modFar f g).tally = s.tally := (rfl)
@[simp] theorem Dev.modFar_notice (s : Dev) (f : Nat) (g : FarSt → FarSt) : (s.modFar f g).notice = s.notice := (rfl)
@[simp] theorem Dev.modFar_answers (s : Dev) (f : Nat) (g : FarSt → FarSt) : (s.modFar f g).answers = s.answers := (rfl)
@[simp] theorem Dev.modFar_time (s : Dev) (f : Nat) (g : FarSt → FarSt) : (s.modFar f g).time = s.time := (rfl)
@[simp] theorem Dev.modFar_leases (s : Dev) (f : Nat) (g : FarSt → FarSt) : (s.modFar f g).leases = s.leases := (rfl)
@[simp] theorem Dev.modFar_calBusy (s : Dev) (f : Nat) (g : FarSt → FarSt) : (s.modFar f g).calBusy = s.calBusy := (rfl)
@[simp] theorem Dev.modFar_stest (s : Dev) (f : Nat) (g : FarSt → FarSt) : (s.modFar f g).stest = s.stest := (rfl)
@[simp] theorem Dev.modFar_fuse (s : Dev) (f : Nat) (g : FarSt → FarSt) : (s.modFar f g).fuse = s.fuse := (rfl)
@[simp] theorem Dev.modFar_flash (s : Dev) (f : Nat) (g : FarSt → FarSt) : (s.modFar f g).flash = s.flash := (rfl)
@[simp] theorem Dev.modFar_ks (s : Dev) (f : Nat) (g : FarSt → FarSt) : (s.modFar f g).ks = s.ks := (rfl)
@[simp] theorem Dev.modFar_ms (s : Dev) (f : Nat) (g : FarSt → FarSt) : (s.modFar f g).ms = s.ms := (rfl)
@[simp] theorem Dev.modFar_heat (s : Dev) (f : Nat) (g : FarSt → FarSt) : (s.modFar f g).heat = s.heat := (rfl)
@[simp] theorem Dev.modFar_tap (s : Dev) (f : Nat) (g : FarSt → FarSt) : (s.modFar f g).tap = s.tap := (rfl)
@[simp] theorem Dev.modFar_pins (s : Dev) (f : Nat) (g : FarSt → FarSt) : (s.modFar f g).pins = s.pins := (rfl)
@[simp] theorem Dev.modFar_arb (s : Dev) (f : Nat) (g : FarSt → FarSt) : (s.modFar f g).arb = s.arb := (rfl)
@[simp] theorem Dev.modFar_wlNow (s : Dev) (f : Nat) (g : FarSt → FarSt) : (s.modFar f g).wlNow = s.wlNow := (rfl)
@[simp] theorem Dev.modFar_wlDue (s : Dev) (f : Nat) (g : FarSt → FarSt) : (s.modFar f g).wlDue = s.wlDue := (rfl)
@[simp] theorem Dev.modFar_impRun (s : Dev) (f : Nat) (g : FarSt → FarSt) : (s.modFar f g).impRun = s.impRun := (rfl)
@[simp] theorem Dev.modFar_repairs (s : Dev) (f : Nat) (g : FarSt → FarSt) : (s.modFar f g).repairs = s.repairs := (rfl)

/-! ### modPair -/

@[simp] theorem Dev.modPair_pair (s : Dev) (g : PairSt → PairSt) : (s.modPair g).pair = g s.pair := (rfl)
@[simp] theorem Dev.modPair_regs (s : Dev) (g : PairSt → PairSt) : (s.modPair g).regs = s.regs := (rfl)
@[simp] theorem Dev.modPair_hiLatch (s : Dev) (g : PairSt → PairSt) : (s.modPair g).hiLatch = s.hiLatch := (rfl)
@[simp] theorem Dev.modPair_out (s : Dev) (g : PairSt → PairSt) : (s.modPair g).out = s.out := (rfl)
@[simp] theorem Dev.modPair_nextId (s : Dev) (g : PairSt → PairSt) : (s.modPair g).nextId = s.nextId := (rfl)
@[simp] theorem Dev.modPair_free (s : Dev) (g : PairSt → PairSt) : (s.modPair g).free = s.free := (rfl)
@[simp] theorem Dev.modPair_ports (s : Dev) (g : PairSt → PairSt) : (s.modPair g).ports = s.ports := (rfl)
@[simp] theorem Dev.modPair_fabric (s : Dev) (g : PairSt → PairSt) : (s.modPair g).fabric = s.fabric := (rfl)
@[simp] theorem Dev.modPair_classes (s : Dev) (g : PairSt → PairSt) : (s.modPair g).classes = s.classes := (rfl)
@[simp] theorem Dev.modPair_space (s : Dev) (g : PairSt → PairSt) : (s.modPair g).space = s.space := (rfl)
@[simp] theorem Dev.modPair_haul (s : Dev) (g : PairSt → PairSt) : (s.modPair g).haul = s.haul := (rfl)
@[simp] theorem Dev.modPair_fars (s : Dev) (g : PairSt → PairSt) : (s.modPair g).fars = s.fars := (rfl)
@[simp] theorem Dev.modPair_engines (s : Dev) (g : PairSt → PairSt) : (s.modPair g).engines = s.engines := (rfl)
@[simp] theorem Dev.modPair_disp (s : Dev) (g : PairSt → PairSt) : (s.modPair g).disp = s.disp := (rfl)
@[simp] theorem Dev.modPair_shafts (s : Dev) (g : PairSt → PairSt) : (s.modPair g).shafts = s.shafts := (rfl)
@[simp] theorem Dev.modPair_dram (s : Dev) (g : PairSt → PairSt) : (s.modPair g).dram = s.dram := (rfl)
@[simp] theorem Dev.modPair_dramBad (s : Dev) (g : PairSt → PairSt) : (s.modPair g).dramBad = s.dramBad := (rfl)
@[simp] theorem Dev.modPair_tally (s : Dev) (g : PairSt → PairSt) : (s.modPair g).tally = s.tally := (rfl)
@[simp] theorem Dev.modPair_notice (s : Dev) (g : PairSt → PairSt) : (s.modPair g).notice = s.notice := (rfl)
@[simp] theorem Dev.modPair_answers (s : Dev) (g : PairSt → PairSt) : (s.modPair g).answers = s.answers := (rfl)
@[simp] theorem Dev.modPair_time (s : Dev) (g : PairSt → PairSt) : (s.modPair g).time = s.time := (rfl)
@[simp] theorem Dev.modPair_leases (s : Dev) (g : PairSt → PairSt) : (s.modPair g).leases = s.leases := (rfl)
@[simp] theorem Dev.modPair_calBusy (s : Dev) (g : PairSt → PairSt) : (s.modPair g).calBusy = s.calBusy := (rfl)
@[simp] theorem Dev.modPair_stest (s : Dev) (g : PairSt → PairSt) : (s.modPair g).stest = s.stest := (rfl)
@[simp] theorem Dev.modPair_fuse (s : Dev) (g : PairSt → PairSt) : (s.modPair g).fuse = s.fuse := (rfl)
@[simp] theorem Dev.modPair_flash (s : Dev) (g : PairSt → PairSt) : (s.modPair g).flash = s.flash := (rfl)
@[simp] theorem Dev.modPair_ks (s : Dev) (g : PairSt → PairSt) : (s.modPair g).ks = s.ks := (rfl)
@[simp] theorem Dev.modPair_ms (s : Dev) (g : PairSt → PairSt) : (s.modPair g).ms = s.ms := (rfl)
@[simp] theorem Dev.modPair_heat (s : Dev) (g : PairSt → PairSt) : (s.modPair g).heat = s.heat := (rfl)
@[simp] theorem Dev.modPair_tap (s : Dev) (g : PairSt → PairSt) : (s.modPair g).tap = s.tap := (rfl)
@[simp] theorem Dev.modPair_pins (s : Dev) (g : PairSt → PairSt) : (s.modPair g).pins = s.pins := (rfl)
@[simp] theorem Dev.modPair_arb (s : Dev) (g : PairSt → PairSt) : (s.modPair g).arb = s.arb := (rfl)
@[simp] theorem Dev.modPair_wlNow (s : Dev) (g : PairSt → PairSt) : (s.modPair g).wlNow = s.wlNow := (rfl)
@[simp] theorem Dev.modPair_wlDue (s : Dev) (g : PairSt → PairSt) : (s.modPair g).wlDue = s.wlDue := (rfl)
@[simp] theorem Dev.modPair_impRun (s : Dev) (g : PairSt → PairSt) : (s.modPair g).impRun = s.impRun := (rfl)
@[simp] theorem Dev.modPair_repairs (s : Dev) (g : PairSt → PairSt) : (s.modPair g).repairs = s.repairs := (rfl)

/-! ### modDisp -/

@[simp] theorem Dev.modDisp_disp (s : Dev) (f : DispSt → DispSt) : (s.modDisp f).disp = f s.disp := (rfl)
@[simp] theorem Dev.modDisp_regs (s : Dev) (f : DispSt → DispSt) : (s.modDisp f).regs = s.regs := (rfl)
@[simp] theorem Dev.modDisp_hiLatch (s : Dev) (f : DispSt → DispSt) : (s.modDisp f).hiLatch = s.hiLatch := (rfl)
@[simp] theorem Dev.modDisp_out (s : Dev) (f : DispSt → DispSt) : (s.modDisp f).out = s.out := (rfl)
@[simp] theorem Dev.modDisp_nextId (s : Dev) (f : DispSt → DispSt) : (s.modDisp f).nextId = s.nextId := (rfl)
@[simp] theorem Dev.modDisp_free (s : Dev) (f : DispSt → DispSt) : (s.modDisp f).free = s.free := (rfl)
@[simp] theorem Dev.modDisp_ports (s : Dev) (f : DispSt → DispSt) : (s.modDisp f).ports = s.ports := (rfl)
@[simp] theorem Dev.modDisp_fabric (s : Dev) (f : DispSt → DispSt) : (s.modDisp f).fabric = s.fabric := (rfl)
@[simp] theorem Dev.modDisp_classes (s : Dev) (f : DispSt → DispSt) : (s.modDisp f).classes = s.classes := (rfl)
@[simp] theorem Dev.modDisp_space (s : Dev) (f : DispSt → DispSt) : (s.modDisp f).space = s.space := (rfl)
@[simp] theorem Dev.modDisp_haul (s : Dev) (f : DispSt → DispSt) : (s.modDisp f).haul = s.haul := (rfl)
@[simp] theorem Dev.modDisp_pair (s : Dev) (f : DispSt → DispSt) : (s.modDisp f).pair = s.pair := (rfl)
@[simp] theorem Dev.modDisp_fars (s : Dev) (f : DispSt → DispSt) : (s.modDisp f).fars = s.fars := (rfl)
@[simp] theorem Dev.modDisp_engines (s : Dev) (f : DispSt → DispSt) : (s.modDisp f).engines = s.engines := (rfl)
@[simp] theorem Dev.modDisp_shafts (s : Dev) (f : DispSt → DispSt) : (s.modDisp f).shafts = s.shafts := (rfl)
@[simp] theorem Dev.modDisp_dram (s : Dev) (f : DispSt → DispSt) : (s.modDisp f).dram = s.dram := (rfl)
@[simp] theorem Dev.modDisp_dramBad (s : Dev) (f : DispSt → DispSt) : (s.modDisp f).dramBad = s.dramBad := (rfl)
@[simp] theorem Dev.modDisp_tally (s : Dev) (f : DispSt → DispSt) : (s.modDisp f).tally = s.tally := (rfl)
@[simp] theorem Dev.modDisp_notice (s : Dev) (f : DispSt → DispSt) : (s.modDisp f).notice = s.notice := (rfl)
@[simp] theorem Dev.modDisp_answers (s : Dev) (f : DispSt → DispSt) : (s.modDisp f).answers = s.answers := (rfl)
@[simp] theorem Dev.modDisp_time (s : Dev) (f : DispSt → DispSt) : (s.modDisp f).time = s.time := (rfl)
@[simp] theorem Dev.modDisp_leases (s : Dev) (f : DispSt → DispSt) : (s.modDisp f).leases = s.leases := (rfl)
@[simp] theorem Dev.modDisp_calBusy (s : Dev) (f : DispSt → DispSt) : (s.modDisp f).calBusy = s.calBusy := (rfl)
@[simp] theorem Dev.modDisp_stest (s : Dev) (f : DispSt → DispSt) : (s.modDisp f).stest = s.stest := (rfl)
@[simp] theorem Dev.modDisp_fuse (s : Dev) (f : DispSt → DispSt) : (s.modDisp f).fuse = s.fuse := (rfl)
@[simp] theorem Dev.modDisp_flash (s : Dev) (f : DispSt → DispSt) : (s.modDisp f).flash = s.flash := (rfl)
@[simp] theorem Dev.modDisp_ks (s : Dev) (f : DispSt → DispSt) : (s.modDisp f).ks = s.ks := (rfl)
@[simp] theorem Dev.modDisp_ms (s : Dev) (f : DispSt → DispSt) : (s.modDisp f).ms = s.ms := (rfl)
@[simp] theorem Dev.modDisp_heat (s : Dev) (f : DispSt → DispSt) : (s.modDisp f).heat = s.heat := (rfl)
@[simp] theorem Dev.modDisp_tap (s : Dev) (f : DispSt → DispSt) : (s.modDisp f).tap = s.tap := (rfl)
@[simp] theorem Dev.modDisp_pins (s : Dev) (f : DispSt → DispSt) : (s.modDisp f).pins = s.pins := (rfl)
@[simp] theorem Dev.modDisp_arb (s : Dev) (f : DispSt → DispSt) : (s.modDisp f).arb = s.arb := (rfl)
@[simp] theorem Dev.modDisp_wlNow (s : Dev) (f : DispSt → DispSt) : (s.modDisp f).wlNow = s.wlNow := (rfl)
@[simp] theorem Dev.modDisp_wlDue (s : Dev) (f : DispSt → DispSt) : (s.modDisp f).wlDue = s.wlDue := (rfl)
@[simp] theorem Dev.modDisp_impRun (s : Dev) (f : DispSt → DispSt) : (s.modDisp f).impRun = s.impRun := (rfl)
@[simp] theorem Dev.modDisp_repairs (s : Dev) (f : DispSt → DispSt) : (s.modDisp f).repairs = s.repairs := (rfl)

/-! ### modTally -/

@[simp] theorem Dev.modTally_tally (s : Dev) (f : TallySt → TallySt) : (s.modTally f).tally = f s.tally := (rfl)
@[simp] theorem Dev.modTally_regs (s : Dev) (f : TallySt → TallySt) : (s.modTally f).regs = s.regs := (rfl)
@[simp] theorem Dev.modTally_hiLatch (s : Dev) (f : TallySt → TallySt) : (s.modTally f).hiLatch = s.hiLatch := (rfl)
@[simp] theorem Dev.modTally_out (s : Dev) (f : TallySt → TallySt) : (s.modTally f).out = s.out := (rfl)
@[simp] theorem Dev.modTally_nextId (s : Dev) (f : TallySt → TallySt) : (s.modTally f).nextId = s.nextId := (rfl)
@[simp] theorem Dev.modTally_free (s : Dev) (f : TallySt → TallySt) : (s.modTally f).free = s.free := (rfl)
@[simp] theorem Dev.modTally_ports (s : Dev) (f : TallySt → TallySt) : (s.modTally f).ports = s.ports := (rfl)
@[simp] theorem Dev.modTally_fabric (s : Dev) (f : TallySt → TallySt) : (s.modTally f).fabric = s.fabric := (rfl)
@[simp] theorem Dev.modTally_classes (s : Dev) (f : TallySt → TallySt) : (s.modTally f).classes = s.classes := (rfl)
@[simp] theorem Dev.modTally_space (s : Dev) (f : TallySt → TallySt) : (s.modTally f).space = s.space := (rfl)
@[simp] theorem Dev.modTally_haul (s : Dev) (f : TallySt → TallySt) : (s.modTally f).haul = s.haul := (rfl)
@[simp] theorem Dev.modTally_pair (s : Dev) (f : TallySt → TallySt) : (s.modTally f).pair = s.pair := (rfl)
@[simp] theorem Dev.modTally_fars (s : Dev) (f : TallySt → TallySt) : (s.modTally f).fars = s.fars := (rfl)
@[simp] theorem Dev.modTally_engines (s : Dev) (f : TallySt → TallySt) : (s.modTally f).engines = s.engines := (rfl)
@[simp] theorem Dev.modTally_disp (s : Dev) (f : TallySt → TallySt) : (s.modTally f).disp = s.disp := (rfl)
@[simp] theorem Dev.modTally_shafts (s : Dev) (f : TallySt → TallySt) : (s.modTally f).shafts = s.shafts := (rfl)
@[simp] theorem Dev.modTally_dram (s : Dev) (f : TallySt → TallySt) : (s.modTally f).dram = s.dram := (rfl)
@[simp] theorem Dev.modTally_dramBad (s : Dev) (f : TallySt → TallySt) : (s.modTally f).dramBad = s.dramBad := (rfl)
@[simp] theorem Dev.modTally_notice (s : Dev) (f : TallySt → TallySt) : (s.modTally f).notice = s.notice := (rfl)
@[simp] theorem Dev.modTally_answers (s : Dev) (f : TallySt → TallySt) : (s.modTally f).answers = s.answers := (rfl)
@[simp] theorem Dev.modTally_time (s : Dev) (f : TallySt → TallySt) : (s.modTally f).time = s.time := (rfl)
@[simp] theorem Dev.modTally_leases (s : Dev) (f : TallySt → TallySt) : (s.modTally f).leases = s.leases := (rfl)
@[simp] theorem Dev.modTally_calBusy (s : Dev) (f : TallySt → TallySt) : (s.modTally f).calBusy = s.calBusy := (rfl)
@[simp] theorem Dev.modTally_stest (s : Dev) (f : TallySt → TallySt) : (s.modTally f).stest = s.stest := (rfl)
@[simp] theorem Dev.modTally_fuse (s : Dev) (f : TallySt → TallySt) : (s.modTally f).fuse = s.fuse := (rfl)
@[simp] theorem Dev.modTally_flash (s : Dev) (f : TallySt → TallySt) : (s.modTally f).flash = s.flash := (rfl)
@[simp] theorem Dev.modTally_ks (s : Dev) (f : TallySt → TallySt) : (s.modTally f).ks = s.ks := (rfl)
@[simp] theorem Dev.modTally_ms (s : Dev) (f : TallySt → TallySt) : (s.modTally f).ms = s.ms := (rfl)
@[simp] theorem Dev.modTally_heat (s : Dev) (f : TallySt → TallySt) : (s.modTally f).heat = s.heat := (rfl)
@[simp] theorem Dev.modTally_tap (s : Dev) (f : TallySt → TallySt) : (s.modTally f).tap = s.tap := (rfl)
@[simp] theorem Dev.modTally_pins (s : Dev) (f : TallySt → TallySt) : (s.modTally f).pins = s.pins := (rfl)
@[simp] theorem Dev.modTally_arb (s : Dev) (f : TallySt → TallySt) : (s.modTally f).arb = s.arb := (rfl)
@[simp] theorem Dev.modTally_wlNow (s : Dev) (f : TallySt → TallySt) : (s.modTally f).wlNow = s.wlNow := (rfl)
@[simp] theorem Dev.modTally_wlDue (s : Dev) (f : TallySt → TallySt) : (s.modTally f).wlDue = s.wlDue := (rfl)
@[simp] theorem Dev.modTally_impRun (s : Dev) (f : TallySt → TallySt) : (s.modTally f).impRun = s.impRun := (rfl)
@[simp] theorem Dev.modTally_repairs (s : Dev) (f : TallySt → TallySt) : (s.modTally f).repairs = s.repairs := (rfl)

/-! ### modFuse -/

@[simp] theorem Dev.modFuse_fuse (s : Dev) (f : FuseSt → FuseSt) : (s.modFuse f).fuse = f s.fuse := (rfl)
@[simp] theorem Dev.modFuse_regs (s : Dev) (f : FuseSt → FuseSt) : (s.modFuse f).regs = s.regs := (rfl)
@[simp] theorem Dev.modFuse_hiLatch (s : Dev) (f : FuseSt → FuseSt) : (s.modFuse f).hiLatch = s.hiLatch := (rfl)
@[simp] theorem Dev.modFuse_out (s : Dev) (f : FuseSt → FuseSt) : (s.modFuse f).out = s.out := (rfl)
@[simp] theorem Dev.modFuse_nextId (s : Dev) (f : FuseSt → FuseSt) : (s.modFuse f).nextId = s.nextId := (rfl)
@[simp] theorem Dev.modFuse_free (s : Dev) (f : FuseSt → FuseSt) : (s.modFuse f).free = s.free := (rfl)
@[simp] theorem Dev.modFuse_ports (s : Dev) (f : FuseSt → FuseSt) : (s.modFuse f).ports = s.ports := (rfl)
@[simp] theorem Dev.modFuse_fabric (s : Dev) (f : FuseSt → FuseSt) : (s.modFuse f).fabric = s.fabric := (rfl)
@[simp] theorem Dev.modFuse_classes (s : Dev) (f : FuseSt → FuseSt) : (s.modFuse f).classes = s.classes := (rfl)
@[simp] theorem Dev.modFuse_space (s : Dev) (f : FuseSt → FuseSt) : (s.modFuse f).space = s.space := (rfl)
@[simp] theorem Dev.modFuse_haul (s : Dev) (f : FuseSt → FuseSt) : (s.modFuse f).haul = s.haul := (rfl)
@[simp] theorem Dev.modFuse_pair (s : Dev) (f : FuseSt → FuseSt) : (s.modFuse f).pair = s.pair := (rfl)
@[simp] theorem Dev.modFuse_fars (s : Dev) (f : FuseSt → FuseSt) : (s.modFuse f).fars = s.fars := (rfl)
@[simp] theorem Dev.modFuse_engines (s : Dev) (f : FuseSt → FuseSt) : (s.modFuse f).engines = s.engines := (rfl)
@[simp] theorem Dev.modFuse_disp (s : Dev) (f : FuseSt → FuseSt) : (s.modFuse f).disp = s.disp := (rfl)
@[simp] theorem Dev.modFuse_shafts (s : Dev) (f : FuseSt → FuseSt) : (s.modFuse f).shafts = s.shafts := (rfl)
@[simp] theorem Dev.modFuse_dram (s : Dev) (f : FuseSt → FuseSt) : (s.modFuse f).dram = s.dram := (rfl)
@[simp] theorem Dev.modFuse_dramBad (s : Dev) (f : FuseSt → FuseSt) : (s.modFuse f).dramBad = s.dramBad := (rfl)
@[simp] theorem Dev.modFuse_tally (s : Dev) (f : FuseSt → FuseSt) : (s.modFuse f).tally = s.tally := (rfl)
@[simp] theorem Dev.modFuse_notice (s : Dev) (f : FuseSt → FuseSt) : (s.modFuse f).notice = s.notice := (rfl)
@[simp] theorem Dev.modFuse_answers (s : Dev) (f : FuseSt → FuseSt) : (s.modFuse f).answers = s.answers := (rfl)
@[simp] theorem Dev.modFuse_time (s : Dev) (f : FuseSt → FuseSt) : (s.modFuse f).time = s.time := (rfl)
@[simp] theorem Dev.modFuse_leases (s : Dev) (f : FuseSt → FuseSt) : (s.modFuse f).leases = s.leases := (rfl)
@[simp] theorem Dev.modFuse_calBusy (s : Dev) (f : FuseSt → FuseSt) : (s.modFuse f).calBusy = s.calBusy := (rfl)
@[simp] theorem Dev.modFuse_stest (s : Dev) (f : FuseSt → FuseSt) : (s.modFuse f).stest = s.stest := (rfl)
@[simp] theorem Dev.modFuse_flash (s : Dev) (f : FuseSt → FuseSt) : (s.modFuse f).flash = s.flash := (rfl)
@[simp] theorem Dev.modFuse_ks (s : Dev) (f : FuseSt → FuseSt) : (s.modFuse f).ks = s.ks := (rfl)
@[simp] theorem Dev.modFuse_ms (s : Dev) (f : FuseSt → FuseSt) : (s.modFuse f).ms = s.ms := (rfl)
@[simp] theorem Dev.modFuse_heat (s : Dev) (f : FuseSt → FuseSt) : (s.modFuse f).heat = s.heat := (rfl)
@[simp] theorem Dev.modFuse_tap (s : Dev) (f : FuseSt → FuseSt) : (s.modFuse f).tap = s.tap := (rfl)
@[simp] theorem Dev.modFuse_pins (s : Dev) (f : FuseSt → FuseSt) : (s.modFuse f).pins = s.pins := (rfl)
@[simp] theorem Dev.modFuse_arb (s : Dev) (f : FuseSt → FuseSt) : (s.modFuse f).arb = s.arb := (rfl)
@[simp] theorem Dev.modFuse_wlNow (s : Dev) (f : FuseSt → FuseSt) : (s.modFuse f).wlNow = s.wlNow := (rfl)
@[simp] theorem Dev.modFuse_wlDue (s : Dev) (f : FuseSt → FuseSt) : (s.modFuse f).wlDue = s.wlDue := (rfl)
@[simp] theorem Dev.modFuse_impRun (s : Dev) (f : FuseSt → FuseSt) : (s.modFuse f).impRun = s.impRun := (rfl)
@[simp] theorem Dev.modFuse_repairs (s : Dev) (f : FuseSt → FuseSt) : (s.modFuse f).repairs = s.repairs := (rfl)

/-! ### modKs -/

@[simp] theorem Dev.modKs_ks (s : Dev) (f : KindleSt → KindleSt) : (s.modKs f).ks = f s.ks := (rfl)
@[simp] theorem Dev.modKs_regs (s : Dev) (f : KindleSt → KindleSt) : (s.modKs f).regs = s.regs := (rfl)
@[simp] theorem Dev.modKs_hiLatch (s : Dev) (f : KindleSt → KindleSt) : (s.modKs f).hiLatch = s.hiLatch := (rfl)
@[simp] theorem Dev.modKs_out (s : Dev) (f : KindleSt → KindleSt) : (s.modKs f).out = s.out := (rfl)
@[simp] theorem Dev.modKs_nextId (s : Dev) (f : KindleSt → KindleSt) : (s.modKs f).nextId = s.nextId := (rfl)
@[simp] theorem Dev.modKs_free (s : Dev) (f : KindleSt → KindleSt) : (s.modKs f).free = s.free := (rfl)
@[simp] theorem Dev.modKs_ports (s : Dev) (f : KindleSt → KindleSt) : (s.modKs f).ports = s.ports := (rfl)
@[simp] theorem Dev.modKs_fabric (s : Dev) (f : KindleSt → KindleSt) : (s.modKs f).fabric = s.fabric := (rfl)
@[simp] theorem Dev.modKs_classes (s : Dev) (f : KindleSt → KindleSt) : (s.modKs f).classes = s.classes := (rfl)
@[simp] theorem Dev.modKs_space (s : Dev) (f : KindleSt → KindleSt) : (s.modKs f).space = s.space := (rfl)
@[simp] theorem Dev.modKs_haul (s : Dev) (f : KindleSt → KindleSt) : (s.modKs f).haul = s.haul := (rfl)
@[simp] theorem Dev.modKs_pair (s : Dev) (f : KindleSt → KindleSt) : (s.modKs f).pair = s.pair := (rfl)
@[simp] theorem Dev.modKs_fars (s : Dev) (f : KindleSt → KindleSt) : (s.modKs f).fars = s.fars := (rfl)
@[simp] theorem Dev.modKs_engines (s : Dev) (f : KindleSt → KindleSt) : (s.modKs f).engines = s.engines := (rfl)
@[simp] theorem Dev.modKs_disp (s : Dev) (f : KindleSt → KindleSt) : (s.modKs f).disp = s.disp := (rfl)
@[simp] theorem Dev.modKs_shafts (s : Dev) (f : KindleSt → KindleSt) : (s.modKs f).shafts = s.shafts := (rfl)
@[simp] theorem Dev.modKs_dram (s : Dev) (f : KindleSt → KindleSt) : (s.modKs f).dram = s.dram := (rfl)
@[simp] theorem Dev.modKs_dramBad (s : Dev) (f : KindleSt → KindleSt) : (s.modKs f).dramBad = s.dramBad := (rfl)
@[simp] theorem Dev.modKs_tally (s : Dev) (f : KindleSt → KindleSt) : (s.modKs f).tally = s.tally := (rfl)
@[simp] theorem Dev.modKs_notice (s : Dev) (f : KindleSt → KindleSt) : (s.modKs f).notice = s.notice := (rfl)
@[simp] theorem Dev.modKs_answers (s : Dev) (f : KindleSt → KindleSt) : (s.modKs f).answers = s.answers := (rfl)
@[simp] theorem Dev.modKs_time (s : Dev) (f : KindleSt → KindleSt) : (s.modKs f).time = s.time := (rfl)
@[simp] theorem Dev.modKs_leases (s : Dev) (f : KindleSt → KindleSt) : (s.modKs f).leases = s.leases := (rfl)
@[simp] theorem Dev.modKs_calBusy (s : Dev) (f : KindleSt → KindleSt) : (s.modKs f).calBusy = s.calBusy := (rfl)
@[simp] theorem Dev.modKs_stest (s : Dev) (f : KindleSt → KindleSt) : (s.modKs f).stest = s.stest := (rfl)
@[simp] theorem Dev.modKs_fuse (s : Dev) (f : KindleSt → KindleSt) : (s.modKs f).fuse = s.fuse := (rfl)
@[simp] theorem Dev.modKs_flash (s : Dev) (f : KindleSt → KindleSt) : (s.modKs f).flash = s.flash := (rfl)
@[simp] theorem Dev.modKs_ms (s : Dev) (f : KindleSt → KindleSt) : (s.modKs f).ms = s.ms := (rfl)
@[simp] theorem Dev.modKs_heat (s : Dev) (f : KindleSt → KindleSt) : (s.modKs f).heat = s.heat := (rfl)
@[simp] theorem Dev.modKs_tap (s : Dev) (f : KindleSt → KindleSt) : (s.modKs f).tap = s.tap := (rfl)
@[simp] theorem Dev.modKs_pins (s : Dev) (f : KindleSt → KindleSt) : (s.modKs f).pins = s.pins := (rfl)
@[simp] theorem Dev.modKs_arb (s : Dev) (f : KindleSt → KindleSt) : (s.modKs f).arb = s.arb := (rfl)
@[simp] theorem Dev.modKs_wlNow (s : Dev) (f : KindleSt → KindleSt) : (s.modKs f).wlNow = s.wlNow := (rfl)
@[simp] theorem Dev.modKs_wlDue (s : Dev) (f : KindleSt → KindleSt) : (s.modKs f).wlDue = s.wlDue := (rfl)
@[simp] theorem Dev.modKs_impRun (s : Dev) (f : KindleSt → KindleSt) : (s.modKs f).impRun = s.impRun := (rfl)
@[simp] theorem Dev.modKs_repairs (s : Dev) (f : KindleSt → KindleSt) : (s.modKs f).repairs = s.repairs := (rfl)

/-! ### modMs -/

@[simp] theorem Dev.modMs_ms (s : Dev) (f : ModeSt → ModeSt) : (s.modMs f).ms = f s.ms := (rfl)
@[simp] theorem Dev.modMs_regs (s : Dev) (f : ModeSt → ModeSt) : (s.modMs f).regs = s.regs := (rfl)
@[simp] theorem Dev.modMs_hiLatch (s : Dev) (f : ModeSt → ModeSt) : (s.modMs f).hiLatch = s.hiLatch := (rfl)
@[simp] theorem Dev.modMs_out (s : Dev) (f : ModeSt → ModeSt) : (s.modMs f).out = s.out := (rfl)
@[simp] theorem Dev.modMs_nextId (s : Dev) (f : ModeSt → ModeSt) : (s.modMs f).nextId = s.nextId := (rfl)
@[simp] theorem Dev.modMs_free (s : Dev) (f : ModeSt → ModeSt) : (s.modMs f).free = s.free := (rfl)
@[simp] theorem Dev.modMs_ports (s : Dev) (f : ModeSt → ModeSt) : (s.modMs f).ports = s.ports := (rfl)
@[simp] theorem Dev.modMs_fabric (s : Dev) (f : ModeSt → ModeSt) : (s.modMs f).fabric = s.fabric := (rfl)
@[simp] theorem Dev.modMs_classes (s : Dev) (f : ModeSt → ModeSt) : (s.modMs f).classes = s.classes := (rfl)
@[simp] theorem Dev.modMs_space (s : Dev) (f : ModeSt → ModeSt) : (s.modMs f).space = s.space := (rfl)
@[simp] theorem Dev.modMs_haul (s : Dev) (f : ModeSt → ModeSt) : (s.modMs f).haul = s.haul := (rfl)
@[simp] theorem Dev.modMs_pair (s : Dev) (f : ModeSt → ModeSt) : (s.modMs f).pair = s.pair := (rfl)
@[simp] theorem Dev.modMs_fars (s : Dev) (f : ModeSt → ModeSt) : (s.modMs f).fars = s.fars := (rfl)
@[simp] theorem Dev.modMs_engines (s : Dev) (f : ModeSt → ModeSt) : (s.modMs f).engines = s.engines := (rfl)
@[simp] theorem Dev.modMs_disp (s : Dev) (f : ModeSt → ModeSt) : (s.modMs f).disp = s.disp := (rfl)
@[simp] theorem Dev.modMs_shafts (s : Dev) (f : ModeSt → ModeSt) : (s.modMs f).shafts = s.shafts := (rfl)
@[simp] theorem Dev.modMs_dram (s : Dev) (f : ModeSt → ModeSt) : (s.modMs f).dram = s.dram := (rfl)
@[simp] theorem Dev.modMs_dramBad (s : Dev) (f : ModeSt → ModeSt) : (s.modMs f).dramBad = s.dramBad := (rfl)
@[simp] theorem Dev.modMs_tally (s : Dev) (f : ModeSt → ModeSt) : (s.modMs f).tally = s.tally := (rfl)
@[simp] theorem Dev.modMs_notice (s : Dev) (f : ModeSt → ModeSt) : (s.modMs f).notice = s.notice := (rfl)
@[simp] theorem Dev.modMs_answers (s : Dev) (f : ModeSt → ModeSt) : (s.modMs f).answers = s.answers := (rfl)
@[simp] theorem Dev.modMs_time (s : Dev) (f : ModeSt → ModeSt) : (s.modMs f).time = s.time := (rfl)
@[simp] theorem Dev.modMs_leases (s : Dev) (f : ModeSt → ModeSt) : (s.modMs f).leases = s.leases := (rfl)
@[simp] theorem Dev.modMs_calBusy (s : Dev) (f : ModeSt → ModeSt) : (s.modMs f).calBusy = s.calBusy := (rfl)
@[simp] theorem Dev.modMs_stest (s : Dev) (f : ModeSt → ModeSt) : (s.modMs f).stest = s.stest := (rfl)
@[simp] theorem Dev.modMs_fuse (s : Dev) (f : ModeSt → ModeSt) : (s.modMs f).fuse = s.fuse := (rfl)
@[simp] theorem Dev.modMs_flash (s : Dev) (f : ModeSt → ModeSt) : (s.modMs f).flash = s.flash := (rfl)
@[simp] theorem Dev.modMs_ks (s : Dev) (f : ModeSt → ModeSt) : (s.modMs f).ks = s.ks := (rfl)
@[simp] theorem Dev.modMs_heat (s : Dev) (f : ModeSt → ModeSt) : (s.modMs f).heat = s.heat := (rfl)
@[simp] theorem Dev.modMs_tap (s : Dev) (f : ModeSt → ModeSt) : (s.modMs f).tap = s.tap := (rfl)
@[simp] theorem Dev.modMs_pins (s : Dev) (f : ModeSt → ModeSt) : (s.modMs f).pins = s.pins := (rfl)
@[simp] theorem Dev.modMs_arb (s : Dev) (f : ModeSt → ModeSt) : (s.modMs f).arb = s.arb := (rfl)
@[simp] theorem Dev.modMs_wlNow (s : Dev) (f : ModeSt → ModeSt) : (s.modMs f).wlNow = s.wlNow := (rfl)
@[simp] theorem Dev.modMs_wlDue (s : Dev) (f : ModeSt → ModeSt) : (s.modMs f).wlDue = s.wlDue := (rfl)
@[simp] theorem Dev.modMs_impRun (s : Dev) (f : ModeSt → ModeSt) : (s.modMs f).impRun = s.impRun := (rfl)
@[simp] theorem Dev.modMs_repairs (s : Dev) (f : ModeSt → ModeSt) : (s.modMs f).repairs = s.repairs := (rfl)

/-! ### setLease -/

@[simp] theorem Dev.setLease_leases (s : Dev) (i : Nat) (l : Lease) : (s.setLease i l).leases = sset noLease s.leases i l := (rfl)
@[simp] theorem Dev.setLease_regs (s : Dev) (i : Nat) (l : Lease) : (s.setLease i l).regs = s.regs := (rfl)
@[simp] theorem Dev.setLease_hiLatch (s : Dev) (i : Nat) (l : Lease) : (s.setLease i l).hiLatch = s.hiLatch := (rfl)
@[simp] theorem Dev.setLease_out (s : Dev) (i : Nat) (l : Lease) : (s.setLease i l).out = s.out := (rfl)
@[simp] theorem Dev.setLease_nextId (s : Dev) (i : Nat) (l : Lease) : (s.setLease i l).nextId = s.nextId := (rfl)
@[simp] theorem Dev.setLease_free (s : Dev) (i : Nat) (l : Lease) : (s.setLease i l).free = s.free := (rfl)
@[simp] theorem Dev.setLease_ports (s : Dev) (i : Nat) (l : Lease) : (s.setLease i l).ports = s.ports := (rfl)
@[simp] theorem Dev.setLease_fabric (s : Dev) (i : Nat) (l : Lease) : (s.setLease i l).fabric = s.fabric := (rfl)
@[simp] theorem Dev.setLease_classes (s : Dev) (i : Nat) (l : Lease) : (s.setLease i l).classes = s.classes := (rfl)
@[simp] theorem Dev.setLease_space (s : Dev) (i : Nat) (l : Lease) : (s.setLease i l).space = s.space := (rfl)
@[simp] theorem Dev.setLease_haul (s : Dev) (i : Nat) (l : Lease) : (s.setLease i l).haul = s.haul := (rfl)
@[simp] theorem Dev.setLease_pair (s : Dev) (i : Nat) (l : Lease) : (s.setLease i l).pair = s.pair := (rfl)
@[simp] theorem Dev.setLease_fars (s : Dev) (i : Nat) (l : Lease) : (s.setLease i l).fars = s.fars := (rfl)
@[simp] theorem Dev.setLease_engines (s : Dev) (i : Nat) (l : Lease) : (s.setLease i l).engines = s.engines := (rfl)
@[simp] theorem Dev.setLease_disp (s : Dev) (i : Nat) (l : Lease) : (s.setLease i l).disp = s.disp := (rfl)
@[simp] theorem Dev.setLease_shafts (s : Dev) (i : Nat) (l : Lease) : (s.setLease i l).shafts = s.shafts := (rfl)
@[simp] theorem Dev.setLease_dram (s : Dev) (i : Nat) (l : Lease) : (s.setLease i l).dram = s.dram := (rfl)
@[simp] theorem Dev.setLease_dramBad (s : Dev) (i : Nat) (l : Lease) : (s.setLease i l).dramBad = s.dramBad := (rfl)
@[simp] theorem Dev.setLease_tally (s : Dev) (i : Nat) (l : Lease) : (s.setLease i l).tally = s.tally := (rfl)
@[simp] theorem Dev.setLease_notice (s : Dev) (i : Nat) (l : Lease) : (s.setLease i l).notice = s.notice := (rfl)
@[simp] theorem Dev.setLease_answers (s : Dev) (i : Nat) (l : Lease) : (s.setLease i l).answers = s.answers := (rfl)
@[simp] theorem Dev.setLease_time (s : Dev) (i : Nat) (l : Lease) : (s.setLease i l).time = s.time := (rfl)
@[simp] theorem Dev.setLease_calBusy (s : Dev) (i : Nat) (l : Lease) : (s.setLease i l).calBusy = s.calBusy := (rfl)
@[simp] theorem Dev.setLease_stest (s : Dev) (i : Nat) (l : Lease) : (s.setLease i l).stest = s.stest := (rfl)
@[simp] theorem Dev.setLease_fuse (s : Dev) (i : Nat) (l : Lease) : (s.setLease i l).fuse = s.fuse := (rfl)
@[simp] theorem Dev.setLease_flash (s : Dev) (i : Nat) (l : Lease) : (s.setLease i l).flash = s.flash := (rfl)
@[simp] theorem Dev.setLease_ks (s : Dev) (i : Nat) (l : Lease) : (s.setLease i l).ks = s.ks := (rfl)
@[simp] theorem Dev.setLease_ms (s : Dev) (i : Nat) (l : Lease) : (s.setLease i l).ms = s.ms := (rfl)
@[simp] theorem Dev.setLease_heat (s : Dev) (i : Nat) (l : Lease) : (s.setLease i l).heat = s.heat := (rfl)
@[simp] theorem Dev.setLease_tap (s : Dev) (i : Nat) (l : Lease) : (s.setLease i l).tap = s.tap := (rfl)
@[simp] theorem Dev.setLease_pins (s : Dev) (i : Nat) (l : Lease) : (s.setLease i l).pins = s.pins := (rfl)
@[simp] theorem Dev.setLease_arb (s : Dev) (i : Nat) (l : Lease) : (s.setLease i l).arb = s.arb := (rfl)
@[simp] theorem Dev.setLease_wlNow (s : Dev) (i : Nat) (l : Lease) : (s.setLease i l).wlNow = s.wlNow := (rfl)
@[simp] theorem Dev.setLease_wlDue (s : Dev) (i : Nat) (l : Lease) : (s.setLease i l).wlDue = s.wlDue := (rfl)
@[simp] theorem Dev.setLease_impRun (s : Dev) (i : Nat) (l : Lease) : (s.setLease i l).impRun = s.impRun := (rfl)
@[simp] theorem Dev.setLease_repairs (s : Dev) (i : Nat) (l : Lease) : (s.setLease i l).repairs = s.repairs := (rfl)

/-! ### granted -/

@[simp] theorem Dev.granted_arb (s : Dev) (p src : Nat) : (s.granted p src).arb = sset (fun _ => 127) s.arb p src := (rfl)
@[simp] theorem Dev.granted_regs (s : Dev) (p src : Nat) : (s.granted p src).regs = s.regs := (rfl)
@[simp] theorem Dev.granted_hiLatch (s : Dev) (p src : Nat) : (s.granted p src).hiLatch = s.hiLatch := (rfl)
@[simp] theorem Dev.granted_out (s : Dev) (p src : Nat) : (s.granted p src).out = s.out := (rfl)
@[simp] theorem Dev.granted_nextId (s : Dev) (p src : Nat) : (s.granted p src).nextId = s.nextId := (rfl)
@[simp] theorem Dev.granted_free (s : Dev) (p src : Nat) : (s.granted p src).free = s.free := (rfl)
@[simp] theorem Dev.granted_ports (s : Dev) (p src : Nat) : (s.granted p src).ports = s.ports := (rfl)
@[simp] theorem Dev.granted_fabric (s : Dev) (p src : Nat) : (s.granted p src).fabric = s.fabric := (rfl)
@[simp] theorem Dev.granted_classes (s : Dev) (p src : Nat) : (s.granted p src).classes = s.classes := (rfl)
@[simp] theorem Dev.granted_space (s : Dev) (p src : Nat) : (s.granted p src).space = s.space := (rfl)
@[simp] theorem Dev.granted_haul (s : Dev) (p src : Nat) : (s.granted p src).haul = s.haul := (rfl)
@[simp] theorem Dev.granted_pair (s : Dev) (p src : Nat) : (s.granted p src).pair = s.pair := (rfl)
@[simp] theorem Dev.granted_fars (s : Dev) (p src : Nat) : (s.granted p src).fars = s.fars := (rfl)
@[simp] theorem Dev.granted_engines (s : Dev) (p src : Nat) : (s.granted p src).engines = s.engines := (rfl)
@[simp] theorem Dev.granted_disp (s : Dev) (p src : Nat) : (s.granted p src).disp = s.disp := (rfl)
@[simp] theorem Dev.granted_shafts (s : Dev) (p src : Nat) : (s.granted p src).shafts = s.shafts := (rfl)
@[simp] theorem Dev.granted_dram (s : Dev) (p src : Nat) : (s.granted p src).dram = s.dram := (rfl)
@[simp] theorem Dev.granted_dramBad (s : Dev) (p src : Nat) : (s.granted p src).dramBad = s.dramBad := (rfl)
@[simp] theorem Dev.granted_tally (s : Dev) (p src : Nat) : (s.granted p src).tally = s.tally := (rfl)
@[simp] theorem Dev.granted_notice (s : Dev) (p src : Nat) : (s.granted p src).notice = s.notice := (rfl)
@[simp] theorem Dev.granted_answers (s : Dev) (p src : Nat) : (s.granted p src).answers = s.answers := (rfl)
@[simp] theorem Dev.granted_time (s : Dev) (p src : Nat) : (s.granted p src).time = s.time := (rfl)
@[simp] theorem Dev.granted_leases (s : Dev) (p src : Nat) : (s.granted p src).leases = s.leases := (rfl)
@[simp] theorem Dev.granted_calBusy (s : Dev) (p src : Nat) : (s.granted p src).calBusy = s.calBusy := (rfl)
@[simp] theorem Dev.granted_stest (s : Dev) (p src : Nat) : (s.granted p src).stest = s.stest := (rfl)
@[simp] theorem Dev.granted_fuse (s : Dev) (p src : Nat) : (s.granted p src).fuse = s.fuse := (rfl)
@[simp] theorem Dev.granted_flash (s : Dev) (p src : Nat) : (s.granted p src).flash = s.flash := (rfl)
@[simp] theorem Dev.granted_ks (s : Dev) (p src : Nat) : (s.granted p src).ks = s.ks := (rfl)
@[simp] theorem Dev.granted_ms (s : Dev) (p src : Nat) : (s.granted p src).ms = s.ms := (rfl)
@[simp] theorem Dev.granted_heat (s : Dev) (p src : Nat) : (s.granted p src).heat = s.heat := (rfl)
@[simp] theorem Dev.granted_tap (s : Dev) (p src : Nat) : (s.granted p src).tap = s.tap := (rfl)
@[simp] theorem Dev.granted_pins (s : Dev) (p src : Nat) : (s.granted p src).pins = s.pins := (rfl)
@[simp] theorem Dev.granted_wlNow (s : Dev) (p src : Nat) : (s.granted p src).wlNow = s.wlNow := (rfl)
@[simp] theorem Dev.granted_wlDue (s : Dev) (p src : Nat) : (s.granted p src).wlDue = s.wlDue := (rfl)
@[simp] theorem Dev.granted_impRun (s : Dev) (p src : Nat) : (s.granted p src).impRun = s.impRun := (rfl)
@[simp] theorem Dev.granted_repairs (s : Dev) (p src : Nat) : (s.granted p src).repairs = s.repairs := (rfl)

/-! ### modDie -/

@[simp] theorem Dev.modDie_heat (s : Dev) (i : Nat) (f : DieSt → DieSt) : (s.modDie i f).heat = { s.heat with dies := smod noDie s.heat.dies i f } := (rfl)
@[simp] theorem Dev.modDie_regs (s : Dev) (i : Nat) (f : DieSt → DieSt) : (s.modDie i f).regs = s.regs := (rfl)
@[simp] theorem Dev.modDie_hiLatch (s : Dev) (i : Nat) (f : DieSt → DieSt) : (s.modDie i f).hiLatch = s.hiLatch := (rfl)
@[simp] theorem Dev.modDie_out (s : Dev) (i : Nat) (f : DieSt → DieSt) : (s.modDie i f).out = s.out := (rfl)
@[simp] theorem Dev.modDie_nextId (s : Dev) (i : Nat) (f : DieSt → DieSt) : (s.modDie i f).nextId = s.nextId := (rfl)
@[simp] theorem Dev.modDie_free (s : Dev) (i : Nat) (f : DieSt → DieSt) : (s.modDie i f).free = s.free := (rfl)
@[simp] theorem Dev.modDie_ports (s : Dev) (i : Nat) (f : DieSt → DieSt) : (s.modDie i f).ports = s.ports := (rfl)
@[simp] theorem Dev.modDie_fabric (s : Dev) (i : Nat) (f : DieSt → DieSt) : (s.modDie i f).fabric = s.fabric := (rfl)
@[simp] theorem Dev.modDie_classes (s : Dev) (i : Nat) (f : DieSt → DieSt) : (s.modDie i f).classes = s.classes := (rfl)
@[simp] theorem Dev.modDie_space (s : Dev) (i : Nat) (f : DieSt → DieSt) : (s.modDie i f).space = s.space := (rfl)
@[simp] theorem Dev.modDie_haul (s : Dev) (i : Nat) (f : DieSt → DieSt) : (s.modDie i f).haul = s.haul := (rfl)
@[simp] theorem Dev.modDie_pair (s : Dev) (i : Nat) (f : DieSt → DieSt) : (s.modDie i f).pair = s.pair := (rfl)
@[simp] theorem Dev.modDie_fars (s : Dev) (i : Nat) (f : DieSt → DieSt) : (s.modDie i f).fars = s.fars := (rfl)
@[simp] theorem Dev.modDie_engines (s : Dev) (i : Nat) (f : DieSt → DieSt) : (s.modDie i f).engines = s.engines := (rfl)
@[simp] theorem Dev.modDie_disp (s : Dev) (i : Nat) (f : DieSt → DieSt) : (s.modDie i f).disp = s.disp := (rfl)
@[simp] theorem Dev.modDie_shafts (s : Dev) (i : Nat) (f : DieSt → DieSt) : (s.modDie i f).shafts = s.shafts := (rfl)
@[simp] theorem Dev.modDie_dram (s : Dev) (i : Nat) (f : DieSt → DieSt) : (s.modDie i f).dram = s.dram := (rfl)
@[simp] theorem Dev.modDie_dramBad (s : Dev) (i : Nat) (f : DieSt → DieSt) : (s.modDie i f).dramBad = s.dramBad := (rfl)
@[simp] theorem Dev.modDie_tally (s : Dev) (i : Nat) (f : DieSt → DieSt) : (s.modDie i f).tally = s.tally := (rfl)
@[simp] theorem Dev.modDie_notice (s : Dev) (i : Nat) (f : DieSt → DieSt) : (s.modDie i f).notice = s.notice := (rfl)
@[simp] theorem Dev.modDie_answers (s : Dev) (i : Nat) (f : DieSt → DieSt) : (s.modDie i f).answers = s.answers := (rfl)
@[simp] theorem Dev.modDie_time (s : Dev) (i : Nat) (f : DieSt → DieSt) : (s.modDie i f).time = s.time := (rfl)
@[simp] theorem Dev.modDie_leases (s : Dev) (i : Nat) (f : DieSt → DieSt) : (s.modDie i f).leases = s.leases := (rfl)
@[simp] theorem Dev.modDie_calBusy (s : Dev) (i : Nat) (f : DieSt → DieSt) : (s.modDie i f).calBusy = s.calBusy := (rfl)
@[simp] theorem Dev.modDie_stest (s : Dev) (i : Nat) (f : DieSt → DieSt) : (s.modDie i f).stest = s.stest := (rfl)
@[simp] theorem Dev.modDie_fuse (s : Dev) (i : Nat) (f : DieSt → DieSt) : (s.modDie i f).fuse = s.fuse := (rfl)
@[simp] theorem Dev.modDie_flash (s : Dev) (i : Nat) (f : DieSt → DieSt) : (s.modDie i f).flash = s.flash := (rfl)
@[simp] theorem Dev.modDie_ks (s : Dev) (i : Nat) (f : DieSt → DieSt) : (s.modDie i f).ks = s.ks := (rfl)
@[simp] theorem Dev.modDie_ms (s : Dev) (i : Nat) (f : DieSt → DieSt) : (s.modDie i f).ms = s.ms := (rfl)
@[simp] theorem Dev.modDie_tap (s : Dev) (i : Nat) (f : DieSt → DieSt) : (s.modDie i f).tap = s.tap := (rfl)
@[simp] theorem Dev.modDie_pins (s : Dev) (i : Nat) (f : DieSt → DieSt) : (s.modDie i f).pins = s.pins := (rfl)
@[simp] theorem Dev.modDie_arb (s : Dev) (i : Nat) (f : DieSt → DieSt) : (s.modDie i f).arb = s.arb := (rfl)
@[simp] theorem Dev.modDie_wlNow (s : Dev) (i : Nat) (f : DieSt → DieSt) : (s.modDie i f).wlNow = s.wlNow := (rfl)
@[simp] theorem Dev.modDie_wlDue (s : Dev) (i : Nat) (f : DieSt → DieSt) : (s.modDie i f).wlDue = s.wlDue := (rfl)
@[simp] theorem Dev.modDie_impRun (s : Dev) (i : Nat) (f : DieSt → DieSt) : (s.modDie i f).impRun = s.impRun := (rfl)
@[simp] theorem Dev.modDie_repairs (s : Dev) (i : Nat) (f : DieSt → DieSt) : (s.modDie i f).repairs = s.repairs := (rfl)

/-! ### setWay -/

@[simp] theorem Dev.setWay_space (s : Dev) (k : Nat) (e : Entry) : (s.setWay k e).space = { s.space with ways := sset (fun _ => noEntry) s.space.ways k e, parBad := sset (fun _ => 0) s.space.parBad k 0 } := (rfl)
@[simp] theorem Dev.setWay_regs (s : Dev) (k : Nat) (e : Entry) : (s.setWay k e).regs = s.regs := (rfl)
@[simp] theorem Dev.setWay_hiLatch (s : Dev) (k : Nat) (e : Entry) : (s.setWay k e).hiLatch = s.hiLatch := (rfl)
@[simp] theorem Dev.setWay_out (s : Dev) (k : Nat) (e : Entry) : (s.setWay k e).out = s.out := (rfl)
@[simp] theorem Dev.setWay_nextId (s : Dev) (k : Nat) (e : Entry) : (s.setWay k e).nextId = s.nextId := (rfl)
@[simp] theorem Dev.setWay_free (s : Dev) (k : Nat) (e : Entry) : (s.setWay k e).free = s.free := (rfl)
@[simp] theorem Dev.setWay_ports (s : Dev) (k : Nat) (e : Entry) : (s.setWay k e).ports = s.ports := (rfl)
@[simp] theorem Dev.setWay_fabric (s : Dev) (k : Nat) (e : Entry) : (s.setWay k e).fabric = s.fabric := (rfl)
@[simp] theorem Dev.setWay_classes (s : Dev) (k : Nat) (e : Entry) : (s.setWay k e).classes = s.classes := (rfl)
@[simp] theorem Dev.setWay_haul (s : Dev) (k : Nat) (e : Entry) : (s.setWay k e).haul = s.haul := (rfl)
@[simp] theorem Dev.setWay_pair (s : Dev) (k : Nat) (e : Entry) : (s.setWay k e).pair = s.pair := (rfl)
@[simp] theorem Dev.setWay_fars (s : Dev) (k : Nat) (e : Entry) : (s.setWay k e).fars = s.fars := (rfl)
@[simp] theorem Dev.setWay_engines (s : Dev) (k : Nat) (e : Entry) : (s.setWay k e).engines = s.engines := (rfl)
@[simp] theorem Dev.setWay_disp (s : Dev) (k : Nat) (e : Entry) : (s.setWay k e).disp = s.disp := (rfl)
@[simp] theorem Dev.setWay_shafts (s : Dev) (k : Nat) (e : Entry) : (s.setWay k e).shafts = s.shafts := (rfl)
@[simp] theorem Dev.setWay_dram (s : Dev) (k : Nat) (e : Entry) : (s.setWay k e).dram = s.dram := (rfl)
@[simp] theorem Dev.setWay_dramBad (s : Dev) (k : Nat) (e : Entry) : (s.setWay k e).dramBad = s.dramBad := (rfl)
@[simp] theorem Dev.setWay_tally (s : Dev) (k : Nat) (e : Entry) : (s.setWay k e).tally = s.tally := (rfl)
@[simp] theorem Dev.setWay_notice (s : Dev) (k : Nat) (e : Entry) : (s.setWay k e).notice = s.notice := (rfl)
@[simp] theorem Dev.setWay_answers (s : Dev) (k : Nat) (e : Entry) : (s.setWay k e).answers = s.answers := (rfl)
@[simp] theorem Dev.setWay_time (s : Dev) (k : Nat) (e : Entry) : (s.setWay k e).time = s.time := (rfl)
@[simp] theorem Dev.setWay_leases (s : Dev) (k : Nat) (e : Entry) : (s.setWay k e).leases = s.leases := (rfl)
@[simp] theorem Dev.setWay_calBusy (s : Dev) (k : Nat) (e : Entry) : (s.setWay k e).calBusy = s.calBusy := (rfl)
@[simp] theorem Dev.setWay_stest (s : Dev) (k : Nat) (e : Entry) : (s.setWay k e).stest = s.stest := (rfl)
@[simp] theorem Dev.setWay_fuse (s : Dev) (k : Nat) (e : Entry) : (s.setWay k e).fuse = s.fuse := (rfl)
@[simp] theorem Dev.setWay_flash (s : Dev) (k : Nat) (e : Entry) : (s.setWay k e).flash = s.flash := (rfl)
@[simp] theorem Dev.setWay_ks (s : Dev) (k : Nat) (e : Entry) : (s.setWay k e).ks = s.ks := (rfl)
@[simp] theorem Dev.setWay_ms (s : Dev) (k : Nat) (e : Entry) : (s.setWay k e).ms = s.ms := (rfl)
@[simp] theorem Dev.setWay_heat (s : Dev) (k : Nat) (e : Entry) : (s.setWay k e).heat = s.heat := (rfl)
@[simp] theorem Dev.setWay_tap (s : Dev) (k : Nat) (e : Entry) : (s.setWay k e).tap = s.tap := (rfl)
@[simp] theorem Dev.setWay_pins (s : Dev) (k : Nat) (e : Entry) : (s.setWay k e).pins = s.pins := (rfl)
@[simp] theorem Dev.setWay_arb (s : Dev) (k : Nat) (e : Entry) : (s.setWay k e).arb = s.arb := (rfl)
@[simp] theorem Dev.setWay_wlNow (s : Dev) (k : Nat) (e : Entry) : (s.setWay k e).wlNow = s.wlNow := (rfl)
@[simp] theorem Dev.setWay_wlDue (s : Dev) (k : Nat) (e : Entry) : (s.setWay k e).wlDue = s.wlDue := (rfl)
@[simp] theorem Dev.setWay_impRun (s : Dev) (k : Nat) (e : Entry) : (s.setWay k e).impRun = s.impRun := (rfl)
@[simp] theorem Dev.setWay_repairs (s : Dev) (k : Nat) (e : Entry) : (s.setWay k e).repairs = s.repairs := (rfl)

/-! ### setTap -/

@[simp] theorem Dev.setTap_tap (s : Dev) (f : TapSt → TapSt) : (s.setTap f).tap = f s.tap := (rfl)
@[simp] theorem Dev.setTap_regs (s : Dev) (f : TapSt → TapSt) : (s.setTap f).regs = s.regs := (rfl)
@[simp] theorem Dev.setTap_hiLatch (s : Dev) (f : TapSt → TapSt) : (s.setTap f).hiLatch = s.hiLatch := (rfl)
@[simp] theorem Dev.setTap_out (s : Dev) (f : TapSt → TapSt) : (s.setTap f).out = s.out := (rfl)
@[simp] theorem Dev.setTap_nextId (s : Dev) (f : TapSt → TapSt) : (s.setTap f).nextId = s.nextId := (rfl)
@[simp] theorem Dev.setTap_free (s : Dev) (f : TapSt → TapSt) : (s.setTap f).free = s.free := (rfl)
@[simp] theorem Dev.setTap_ports (s : Dev) (f : TapSt → TapSt) : (s.setTap f).ports = s.ports := (rfl)
@[simp] theorem Dev.setTap_fabric (s : Dev) (f : TapSt → TapSt) : (s.setTap f).fabric = s.fabric := (rfl)
@[simp] theorem Dev.setTap_classes (s : Dev) (f : TapSt → TapSt) : (s.setTap f).classes = s.classes := (rfl)
@[simp] theorem Dev.setTap_space (s : Dev) (f : TapSt → TapSt) : (s.setTap f).space = s.space := (rfl)
@[simp] theorem Dev.setTap_haul (s : Dev) (f : TapSt → TapSt) : (s.setTap f).haul = s.haul := (rfl)
@[simp] theorem Dev.setTap_pair (s : Dev) (f : TapSt → TapSt) : (s.setTap f).pair = s.pair := (rfl)
@[simp] theorem Dev.setTap_fars (s : Dev) (f : TapSt → TapSt) : (s.setTap f).fars = s.fars := (rfl)
@[simp] theorem Dev.setTap_engines (s : Dev) (f : TapSt → TapSt) : (s.setTap f).engines = s.engines := (rfl)
@[simp] theorem Dev.setTap_disp (s : Dev) (f : TapSt → TapSt) : (s.setTap f).disp = s.disp := (rfl)
@[simp] theorem Dev.setTap_shafts (s : Dev) (f : TapSt → TapSt) : (s.setTap f).shafts = s.shafts := (rfl)
@[simp] theorem Dev.setTap_dram (s : Dev) (f : TapSt → TapSt) : (s.setTap f).dram = s.dram := (rfl)
@[simp] theorem Dev.setTap_dramBad (s : Dev) (f : TapSt → TapSt) : (s.setTap f).dramBad = s.dramBad := (rfl)
@[simp] theorem Dev.setTap_tally (s : Dev) (f : TapSt → TapSt) : (s.setTap f).tally = s.tally := (rfl)
@[simp] theorem Dev.setTap_notice (s : Dev) (f : TapSt → TapSt) : (s.setTap f).notice = s.notice := (rfl)
@[simp] theorem Dev.setTap_answers (s : Dev) (f : TapSt → TapSt) : (s.setTap f).answers = s.answers := (rfl)
@[simp] theorem Dev.setTap_time (s : Dev) (f : TapSt → TapSt) : (s.setTap f).time = s.time := (rfl)
@[simp] theorem Dev.setTap_leases (s : Dev) (f : TapSt → TapSt) : (s.setTap f).leases = s.leases := (rfl)
@[simp] theorem Dev.setTap_calBusy (s : Dev) (f : TapSt → TapSt) : (s.setTap f).calBusy = s.calBusy := (rfl)
@[simp] theorem Dev.setTap_stest (s : Dev) (f : TapSt → TapSt) : (s.setTap f).stest = s.stest := (rfl)
@[simp] theorem Dev.setTap_fuse (s : Dev) (f : TapSt → TapSt) : (s.setTap f).fuse = s.fuse := (rfl)
@[simp] theorem Dev.setTap_flash (s : Dev) (f : TapSt → TapSt) : (s.setTap f).flash = s.flash := (rfl)
@[simp] theorem Dev.setTap_ks (s : Dev) (f : TapSt → TapSt) : (s.setTap f).ks = s.ks := (rfl)
@[simp] theorem Dev.setTap_ms (s : Dev) (f : TapSt → TapSt) : (s.setTap f).ms = s.ms := (rfl)
@[simp] theorem Dev.setTap_heat (s : Dev) (f : TapSt → TapSt) : (s.setTap f).heat = s.heat := (rfl)
@[simp] theorem Dev.setTap_pins (s : Dev) (f : TapSt → TapSt) : (s.setTap f).pins = s.pins := (rfl)
@[simp] theorem Dev.setTap_arb (s : Dev) (f : TapSt → TapSt) : (s.setTap f).arb = s.arb := (rfl)
@[simp] theorem Dev.setTap_wlNow (s : Dev) (f : TapSt → TapSt) : (s.setTap f).wlNow = s.wlNow := (rfl)
@[simp] theorem Dev.setTap_wlDue (s : Dev) (f : TapSt → TapSt) : (s.setTap f).wlDue = s.wlDue := (rfl)
@[simp] theorem Dev.setTap_impRun (s : Dev) (f : TapSt → TapSt) : (s.setTap f).impRun = s.impRun := (rfl)
@[simp] theorem Dev.setTap_repairs (s : Dev) (f : TapSt → TapSt) : (s.setTap f).repairs = s.repairs := (rfl)

/-! ### Reading after writing -/

@[simp] theorem Dev.rdReg_wrReg_same (s : Dev) (a : Nat) (v : Word32) : (s.wrReg a v).rdReg a = v := by
  simp [Dev.rdReg]

theorem Dev.rdReg_wrReg_other (s : Dev) (a b : Nat) (v : Word32) (h : b ≠ a) : (s.wrReg a v).rdReg b = s.rdReg b := by
  simp [Dev.rdReg, sget_sset_other _ _ _ _ _ h]

@[simp] theorem Dev.port_setPort_same (s : Dev) (h : Nat) (p : PortSt) : (s.setPort h p).port h = p := by
  simp [Dev.port]

theorem Dev.port_setPort_other (s : Dev) (h g : Nat) (p : PortSt) (hg : g ≠ h) : (s.setPort h p).port g = s.port g := by
  simp [Dev.port, sget_sset_other _ _ _ _ _ hg]

@[simp] theorem Dev.shaft_setShaft_same (s : Dev) (n : Nat) (p : ShaftSt) : (s.setShaft n p).shaft n = p := by
  simp [Dev.shaft]

theorem Dev.shaft_setShaft_other (s : Dev) (n m : Nat) (p : ShaftSt) (h : m ≠ n) : (s.setShaft n p).shaft m = s.shaft m := by
  simp [Dev.shaft, sget_sset_other _ _ _ _ _ h]

@[simp] theorem Dev.eng_modEng_same (s : Dev) (n : Nat) (g : EngSt → EngSt) : (s.modEng n g).eng n = g (s.eng n) := by
  simp [Dev.eng, smod]

theorem Dev.eng_modEng_other (s : Dev) (n m : Nat) (g : EngSt → EngSt) (h : m ≠ n) : (s.modEng n g).eng m = s.eng m := by
  simp [Dev.eng, smod, sget_sset_other _ _ _ _ _ h]

@[simp] theorem Dev.far_modFar_same (s : Dev) (f : Nat) (g : FarSt → FarSt) : (s.modFar f g).far f = g (s.far f) := by
  simp [Dev.far, smod]

theorem Dev.far_modFar_other (s : Dev) (f e : Nat) (g : FarSt → FarSt) (h : e ≠ f) : (s.modFar f g).far e = s.far e := by
  simp [Dev.far, smod, sget_sset_other _ _ _ _ _ h]

@[simp] theorem Dev.lease_setLease_same (s : Dev) (i : Nat) (l : Lease) : (s.setLease i l).lease i = l := by
  simp [Dev.lease]

theorem Dev.lease_setLease_other (s : Dev) (i j : Nat) (l : Lease) (h : j ≠ i) : (s.setLease i l).lease j = s.lease j := by
  simp [Dev.lease, sget_sset_other _ _ _ _ _ h]

/-! ### The queue -/

/-- What a command answers, it answers for the device: the queue is as before. -/
theorem State.on_next (s t : State) (f : Dev → Host.Outcome Dev Fault Refusal) :
    s.on f = .next t ↔ f s.dev = .next t.dev ∧ t.pending = s.pending := by
  cases t
  cases hf : f s.dev <;> simp [State.on, hf, eq_comm]

@[simp] theorem State.on_pure (s : State) (g : Dev → Dev) : s.on (fun d => .next (g d)) = .next { s with dev := g s.dev } := (rfl)

@[simp] theorem Dev.rdReg_setPort (s : Dev) (h : Nat) (p : PortSt) (b : Nat) : (s.setPort h p).rdReg b = s.rdReg b := (rfl)
@[simp] theorem Dev.fv_setPort (s : Dev) (h : Nat) (p : PortSt) (x : Fld) (y z : Nat) : (s.setPort h p).fv x y z = s.fv x y z := (rfl)
@[simp] theorem Dev.shaft_setPort (s : Dev) (h : Nat) (p : PortSt) (b : Nat) : (s.setPort h p).shaft b = s.shaft b := (rfl)
@[simp] theorem Dev.eng_setPort (s : Dev) (h : Nat) (p : PortSt) (b : Nat) : (s.setPort h p).eng b = s.eng b := (rfl)
@[simp] theorem Dev.rdReg_modPort (s : Dev) (h : Nat) (f : PortSt → PortSt) (b : Nat) : (s.modPort h f).rdReg b = s.rdReg b := (rfl)
@[simp] theorem Dev.fv_modPort (s : Dev) (h : Nat) (f : PortSt → PortSt) (x : Fld) (y z : Nat) : (s.modPort h f).fv x y z = s.fv x y z := (rfl)
@[simp] theorem Dev.shaft_modPort (s : Dev) (h : Nat) (f : PortSt → PortSt) (b : Nat) : (s.modPort h f).shaft b = s.shaft b := (rfl)
@[simp] theorem Dev.eng_modPort (s : Dev) (h : Nat) (f : PortSt → PortSt) (b : Nat) : (s.modPort h f).eng b = s.eng b := (rfl)
@[simp] theorem Dev.rdReg_setShaft (s : Dev) (n : Nat) (p : ShaftSt) (b : Nat) : (s.setShaft n p).rdReg b = s.rdReg b := (rfl)
@[simp] theorem Dev.fv_setShaft (s : Dev) (n : Nat) (p : ShaftSt) (x : Fld) (y z : Nat) : (s.setShaft n p).fv x y z = s.fv x y z := (rfl)
@[simp] theorem Dev.port_setShaft (s : Dev) (n : Nat) (p : ShaftSt) (b : Nat) : (s.setShaft n p).port b = s.port b := (rfl)
@[simp] theorem Dev.eng_setShaft (s : Dev) (n : Nat) (p : ShaftSt) (b : Nat) : (s.setShaft n p).eng b = s.eng b := (rfl)
@[simp] theorem Dev.rdReg_modShaft (s : Dev) (n : Nat) (f : ShaftSt → ShaftSt) (b : Nat) : (s.modShaft n f).rdReg b = s.rdReg b := (rfl)
@[simp] theorem Dev.fv_modShaft (s : Dev) (n : Nat) (f : ShaftSt → ShaftSt) (x : Fld) (y z : Nat) : (s.modShaft n f).fv x y z = s.fv x y z := (rfl)
@[simp] theorem Dev.port_modShaft (s : Dev) (n : Nat) (f : ShaftSt → ShaftSt) (b : Nat) : (s.modShaft n f).port b = s.port b := (rfl)
@[simp] theorem Dev.eng_modShaft (s : Dev) (n : Nat) (f : ShaftSt → ShaftSt) (b : Nat) : (s.modShaft n f).eng b = s.eng b := (rfl)
@[simp] theorem Dev.rdReg_modCls (s : Dev) (c : Nat) (f : ClassSt → ClassSt) (b : Nat) : (s.modCls c f).rdReg b = s.rdReg b := (rfl)
@[simp] theorem Dev.fv_modCls (s : Dev) (c : Nat) (f : ClassSt → ClassSt) (x : Fld) (y z : Nat) : (s.modCls c f).fv x y z = s.fv x y z := (rfl)
@[simp] theorem Dev.port_modCls (s : Dev) (c : Nat) (f : ClassSt → ClassSt) (b : Nat) : (s.modCls c f).port b = s.port b := (rfl)
@[simp] theorem Dev.shaft_modCls (s : Dev) (c : Nat) (f : ClassSt → ClassSt) (b : Nat) : (s.modCls c f).shaft b = s.shaft b := (rfl)
@[simp] theorem Dev.eng_modCls (s : Dev) (c : Nat) (f : ClassSt → ClassSt) (b : Nat) : (s.modCls c f).eng b = s.eng b := (rfl)
@[simp] theorem Dev.rdReg_emit (s : Dev) (o : Out) (b : Nat) : (s.emit o).rdReg b = s.rdReg b := (rfl)
@[simp] theorem Dev.fv_emit (s : Dev) (o : Out) (x : Fld) (y z : Nat) : (s.emit o).fv x y z = s.fv x y z := (rfl)
@[simp] theorem Dev.port_emit (s : Dev) (o : Out) (b : Nat) : (s.emit o).port b = s.port b := (rfl)
@[simp] theorem Dev.shaft_emit (s : Dev) (o : Out) (b : Nat) : (s.emit o).shaft b = s.shaft b := (rfl)
@[simp] theorem Dev.eng_emit (s : Dev) (o : Out) (b : Nat) : (s.emit o).eng b = s.eng b := (rfl)
@[simp] theorem Dev.rdReg_nextFree (s : Dev) (b : Nat) : (s.nextFree).rdReg b = s.rdReg b := (rfl)
@[simp] theorem Dev.fv_nextFree (s : Dev) (x : Fld) (y z : Nat) : (s.nextFree).fv x y z = s.fv x y z := (rfl)
@[simp] theorem Dev.port_nextFree (s : Dev) (b : Nat) : (s.nextFree).port b = s.port b := (rfl)
@[simp] theorem Dev.shaft_nextFree (s : Dev) (b : Nat) : (s.nextFree).shaft b = s.shaft b := (rfl)
@[simp] theorem Dev.eng_nextFree (s : Dev) (b : Nat) : (s.nextFree).eng b = s.eng b := (rfl)
@[simp] theorem Dev.rdReg_fresh (s : Dev) (b : Nat) : (s.fresh).rdReg b = s.rdReg b := (rfl)
@[simp] theorem Dev.fv_fresh (s : Dev) (x : Fld) (y z : Nat) : (s.fresh).fv x y z = s.fv x y z := (rfl)
@[simp] theorem Dev.port_fresh (s : Dev) (b : Nat) : (s.fresh).port b = s.port b := (rfl)
@[simp] theorem Dev.shaft_fresh (s : Dev) (b : Nat) : (s.fresh).shaft b = s.shaft b := (rfl)
@[simp] theorem Dev.eng_fresh (s : Dev) (b : Nat) : (s.fresh).eng b = s.eng b := (rfl)
@[simp] theorem Dev.rdReg_modSpace (s : Dev) (f : SpaceSt → SpaceSt) (b : Nat) : (s.modSpace f).rdReg b = s.rdReg b := (rfl)
@[simp] theorem Dev.fv_modSpace (s : Dev) (f : SpaceSt → SpaceSt) (x : Fld) (y z : Nat) : (s.modSpace f).fv x y z = s.fv x y z := (rfl)
@[simp] theorem Dev.port_modSpace (s : Dev) (f : SpaceSt → SpaceSt) (b : Nat) : (s.modSpace f).port b = s.port b := (rfl)
@[simp] theorem Dev.shaft_modSpace (s : Dev) (f : SpaceSt → SpaceSt) (b : Nat) : (s.modSpace f).shaft b = s.shaft b := (rfl)
@[simp] theorem Dev.eng_modSpace (s : Dev) (f : SpaceSt → SpaceSt) (b : Nat) : (s.modSpace f).eng b = s.eng b := (rfl)
@[simp] theorem Dev.rdReg_modHaul (s : Dev) (f : HaulSt → HaulSt) (b : Nat) : (s.modHaul f).rdReg b = s.rdReg b := (rfl)
@[simp] theorem Dev.fv_modHaul (s : Dev) (f : HaulSt → HaulSt) (x : Fld) (y z : Nat) : (s.modHaul f).fv x y z = s.fv x y z := (rfl)
@[simp] theorem Dev.port_modHaul (s : Dev) (f : HaulSt → HaulSt) (b : Nat) : (s.modHaul f).port b = s.port b := (rfl)
@[simp] theorem Dev.shaft_modHaul (s : Dev) (f : HaulSt → HaulSt) (b : Nat) : (s.modHaul f).shaft b = s.shaft b := (rfl)
@[simp] theorem Dev.eng_modHaul (s : Dev) (f : HaulSt → HaulSt) (b : Nat) : (s.modHaul f).eng b = s.eng b := (rfl)
@[simp] theorem Dev.rdReg_modEng (s : Dev) (n : Nat) (g : EngSt → EngSt) (b : Nat) : (s.modEng n g).rdReg b = s.rdReg b := (rfl)
@[simp] theorem Dev.fv_modEng (s : Dev) (n : Nat) (g : EngSt → EngSt) (x : Fld) (y z : Nat) : (s.modEng n g).fv x y z = s.fv x y z := (rfl)
@[simp] theorem Dev.port_modEng (s : Dev) (n : Nat) (g : EngSt → EngSt) (b : Nat) : (s.modEng n g).port b = s.port b := (rfl)
@[simp] theorem Dev.shaft_modEng (s : Dev) (n : Nat) (g : EngSt → EngSt) (b : Nat) : (s.modEng n g).shaft b = s.shaft b := (rfl)
@[simp] theorem Dev.rdReg_modFar (s : Dev) (f : Nat) (g : FarSt → FarSt) (b : Nat) : (s.modFar f g).rdReg b = s.rdReg b := (rfl)
@[simp] theorem Dev.fv_modFar (s : Dev) (f : Nat) (g : FarSt → FarSt) (x : Fld) (y z : Nat) : (s.modFar f g).fv x y z = s.fv x y z := (rfl)
@[simp] theorem Dev.port_modFar (s : Dev) (f : Nat) (g : FarSt → FarSt) (b : Nat) : (s.modFar f g).port b = s.port b := (rfl)
@[simp] theorem Dev.shaft_modFar (s : Dev) (f : Nat) (g : FarSt → FarSt) (b : Nat) : (s.modFar f g).shaft b = s.shaft b := (rfl)
@[simp] theorem Dev.eng_modFar (s : Dev) (f : Nat) (g : FarSt → FarSt) (b : Nat) : (s.modFar f g).eng b = s.eng b := (rfl)
@[simp] theorem Dev.rdReg_modPair (s : Dev) (g : PairSt → PairSt) (b : Nat) : (s.modPair g).rdReg b = s.rdReg b := (rfl)
@[simp] theorem Dev.fv_modPair (s : Dev) (g : PairSt → PairSt) (x : Fld) (y z : Nat) : (s.modPair g).fv x y z = s.fv x y z := (rfl)
@[simp] theorem Dev.port_modPair (s : Dev) (g : PairSt → PairSt) (b : Nat) : (s.modPair g).port b = s.port b := (rfl)
@[simp] theorem Dev.shaft_modPair (s : Dev) (g : PairSt → PairSt) (b : Nat) : (s.modPair g).shaft b = s.shaft b := (rfl)
@[simp] theorem Dev.eng_modPair (s : Dev) (g : PairSt → PairSt) (b : Nat) : (s.modPair g).eng b = s.eng b := (rfl)
@[simp] theorem Dev.rdReg_modDisp (s : Dev) (f : DispSt → DispSt) (b : Nat) : (s.modDisp f).rdReg b = s.rdReg b := (rfl)
@[simp] theorem Dev.fv_modDisp (s : Dev) (f : DispSt → DispSt) (x : Fld) (y z : Nat) : (s.modDisp f).fv x y z = s.fv x y z := (rfl)
@[simp] theorem Dev.port_modDisp (s : Dev) (f : DispSt → DispSt) (b : Nat) : (s.modDisp f).port b = s.port b := (rfl)
@[simp] theorem Dev.shaft_modDisp (s : Dev) (f : DispSt → DispSt) (b : Nat) : (s.modDisp f).shaft b = s.shaft b := (rfl)
@[simp] theorem Dev.eng_modDisp (s : Dev) (f : DispSt → DispSt) (b : Nat) : (s.modDisp f).eng b = s.eng b := (rfl)
@[simp] theorem Dev.rdReg_modTally (s : Dev) (f : TallySt → TallySt) (b : Nat) : (s.modTally f).rdReg b = s.rdReg b := (rfl)
@[simp] theorem Dev.fv_modTally (s : Dev) (f : TallySt → TallySt) (x : Fld) (y z : Nat) : (s.modTally f).fv x y z = s.fv x y z := (rfl)
@[simp] theorem Dev.port_modTally (s : Dev) (f : TallySt → TallySt) (b : Nat) : (s.modTally f).port b = s.port b := (rfl)
@[simp] theorem Dev.shaft_modTally (s : Dev) (f : TallySt → TallySt) (b : Nat) : (s.modTally f).shaft b = s.shaft b := (rfl)
@[simp] theorem Dev.eng_modTally (s : Dev) (f : TallySt → TallySt) (b : Nat) : (s.modTally f).eng b = s.eng b := (rfl)
@[simp] theorem Dev.rdReg_modFuse (s : Dev) (f : FuseSt → FuseSt) (b : Nat) : (s.modFuse f).rdReg b = s.rdReg b := (rfl)
@[simp] theorem Dev.fv_modFuse (s : Dev) (f : FuseSt → FuseSt) (x : Fld) (y z : Nat) : (s.modFuse f).fv x y z = s.fv x y z := (rfl)
@[simp] theorem Dev.port_modFuse (s : Dev) (f : FuseSt → FuseSt) (b : Nat) : (s.modFuse f).port b = s.port b := (rfl)
@[simp] theorem Dev.shaft_modFuse (s : Dev) (f : FuseSt → FuseSt) (b : Nat) : (s.modFuse f).shaft b = s.shaft b := (rfl)
@[simp] theorem Dev.eng_modFuse (s : Dev) (f : FuseSt → FuseSt) (b : Nat) : (s.modFuse f).eng b = s.eng b := (rfl)
@[simp] theorem Dev.rdReg_modKs (s : Dev) (f : KindleSt → KindleSt) (b : Nat) : (s.modKs f).rdReg b = s.rdReg b := (rfl)
@[simp] theorem Dev.fv_modKs (s : Dev) (f : KindleSt → KindleSt) (x : Fld) (y z : Nat) : (s.modKs f).fv x y z = s.fv x y z := (rfl)
@[simp] theorem Dev.port_modKs (s : Dev) (f : KindleSt → KindleSt) (b : Nat) : (s.modKs f).port b = s.port b := (rfl)
@[simp] theorem Dev.shaft_modKs (s : Dev) (f : KindleSt → KindleSt) (b : Nat) : (s.modKs f).shaft b = s.shaft b := (rfl)
@[simp] theorem Dev.eng_modKs (s : Dev) (f : KindleSt → KindleSt) (b : Nat) : (s.modKs f).eng b = s.eng b := (rfl)
@[simp] theorem Dev.rdReg_modMs (s : Dev) (f : ModeSt → ModeSt) (b : Nat) : (s.modMs f).rdReg b = s.rdReg b := (rfl)
@[simp] theorem Dev.fv_modMs (s : Dev) (f : ModeSt → ModeSt) (x : Fld) (y z : Nat) : (s.modMs f).fv x y z = s.fv x y z := (rfl)
@[simp] theorem Dev.port_modMs (s : Dev) (f : ModeSt → ModeSt) (b : Nat) : (s.modMs f).port b = s.port b := (rfl)
@[simp] theorem Dev.shaft_modMs (s : Dev) (f : ModeSt → ModeSt) (b : Nat) : (s.modMs f).shaft b = s.shaft b := (rfl)
@[simp] theorem Dev.eng_modMs (s : Dev) (f : ModeSt → ModeSt) (b : Nat) : (s.modMs f).eng b = s.eng b := (rfl)
@[simp] theorem Dev.rdReg_setLease (s : Dev) (i : Nat) (l : Lease) (b : Nat) : (s.setLease i l).rdReg b = s.rdReg b := (rfl)
@[simp] theorem Dev.fv_setLease (s : Dev) (i : Nat) (l : Lease) (x : Fld) (y z : Nat) : (s.setLease i l).fv x y z = s.fv x y z := (rfl)
@[simp] theorem Dev.port_setLease (s : Dev) (i : Nat) (l : Lease) (b : Nat) : (s.setLease i l).port b = s.port b := (rfl)
@[simp] theorem Dev.shaft_setLease (s : Dev) (i : Nat) (l : Lease) (b : Nat) : (s.setLease i l).shaft b = s.shaft b := (rfl)
@[simp] theorem Dev.eng_setLease (s : Dev) (i : Nat) (l : Lease) (b : Nat) : (s.setLease i l).eng b = s.eng b := (rfl)
@[simp] theorem Dev.rdReg_granted (s : Dev) (p src : Nat) (b : Nat) : (s.granted p src).rdReg b = s.rdReg b := (rfl)
@[simp] theorem Dev.fv_granted (s : Dev) (p src : Nat) (x : Fld) (y z : Nat) : (s.granted p src).fv x y z = s.fv x y z := (rfl)
@[simp] theorem Dev.port_granted (s : Dev) (p src : Nat) (b : Nat) : (s.granted p src).port b = s.port b := (rfl)
@[simp] theorem Dev.shaft_granted (s : Dev) (p src : Nat) (b : Nat) : (s.granted p src).shaft b = s.shaft b := (rfl)
@[simp] theorem Dev.eng_granted (s : Dev) (p src : Nat) (b : Nat) : (s.granted p src).eng b = s.eng b := (rfl)
@[simp] theorem Dev.rdReg_modDie (s : Dev) (i : Nat) (f : DieSt → DieSt) (b : Nat) : (s.modDie i f).rdReg b = s.rdReg b := (rfl)
@[simp] theorem Dev.fv_modDie (s : Dev) (i : Nat) (f : DieSt → DieSt) (x : Fld) (y z : Nat) : (s.modDie i f).fv x y z = s.fv x y z := (rfl)
@[simp] theorem Dev.port_modDie (s : Dev) (i : Nat) (f : DieSt → DieSt) (b : Nat) : (s.modDie i f).port b = s.port b := (rfl)
@[simp] theorem Dev.shaft_modDie (s : Dev) (i : Nat) (f : DieSt → DieSt) (b : Nat) : (s.modDie i f).shaft b = s.shaft b := (rfl)
@[simp] theorem Dev.eng_modDie (s : Dev) (i : Nat) (f : DieSt → DieSt) (b : Nat) : (s.modDie i f).eng b = s.eng b := (rfl)
@[simp] theorem Dev.rdReg_setWay (s : Dev) (k : Nat) (e : Entry) (b : Nat) : (s.setWay k e).rdReg b = s.rdReg b := (rfl)
@[simp] theorem Dev.fv_setWay (s : Dev) (k : Nat) (e : Entry) (x : Fld) (y z : Nat) : (s.setWay k e).fv x y z = s.fv x y z := (rfl)
@[simp] theorem Dev.port_setWay (s : Dev) (k : Nat) (e : Entry) (b : Nat) : (s.setWay k e).port b = s.port b := (rfl)
@[simp] theorem Dev.shaft_setWay (s : Dev) (k : Nat) (e : Entry) (b : Nat) : (s.setWay k e).shaft b = s.shaft b := (rfl)
@[simp] theorem Dev.eng_setWay (s : Dev) (k : Nat) (e : Entry) (b : Nat) : (s.setWay k e).eng b = s.eng b := (rfl)
@[simp] theorem Dev.rdReg_setTap (s : Dev) (f : TapSt → TapSt) (b : Nat) : (s.setTap f).rdReg b = s.rdReg b := (rfl)
@[simp] theorem Dev.fv_setTap (s : Dev) (f : TapSt → TapSt) (x : Fld) (y z : Nat) : (s.setTap f).fv x y z = s.fv x y z := (rfl)
@[simp] theorem Dev.port_setTap (s : Dev) (f : TapSt → TapSt) (b : Nat) : (s.setTap f).port b = s.port b := (rfl)
@[simp] theorem Dev.shaft_setTap (s : Dev) (f : TapSt → TapSt) (b : Nat) : (s.setTap f).shaft b = s.shaft b := (rfl)
@[simp] theorem Dev.eng_setTap (s : Dev) (f : TapSt → TapSt) (b : Nat) : (s.setTap f).eng b = s.eng b := (rfl)
@[simp] theorem Dev.port_wrReg (s : Dev) (a : Nat) (v : Word32) (b : Nat) : (s.wrReg a v).port b = s.port b := (rfl)
@[simp] theorem Dev.shaft_wrReg (s : Dev) (a : Nat) (v : Word32) (b : Nat) : (s.wrReg a v).shaft b = s.shaft b := (rfl)
@[simp] theorem Dev.eng_wrReg (s : Dev) (a : Nat) (v : Word32) (b : Nat) : (s.wrReg a v).eng b = s.eng b := (rfl)
@[simp] theorem Dev.port_setF (s : Dev) (f : Fld) (v i k : Nat) (b : Nat) : (s.setF f v i k).port b = s.port b := (rfl)
@[simp] theorem Dev.shaft_setF (s : Dev) (f : Fld) (v i k : Nat) (b : Nat) : (s.setF f v i k).shaft b = s.shaft b := (rfl)
@[simp] theorem Dev.eng_setF (s : Dev) (f : Fld) (v i k : Nat) (b : Nat) : (s.setF f v i k).eng b = s.eng b := (rfl)

end Sys2Proof.Machine
end

