-- ==== Sys2Proof/Laws/Memory.lean ====
section
/-!
SUPPORT. Laws/Memory.lean: every operation on a memory (the register file, DRAM, the scratch memories, the management flash) keeps its
canonical form.
-/
namespace Sys2Proof.Machine

/-- Changing every value keeps the keys rising. -/
theorem skeys_map {β γ : Type} (m : Sparse β) (f : Nat × β → γ) (h : skeys m = true) :
    skeys (m.map (fun e => (e.1, f e))) = true := by
  induction m with
  | nil => rfl
  | cons e m ih =>
    rw [skeys_cons, Bool.and_eq_true] at h
    rw [List.map_cons, skeys_cons, Bool.and_eq_true]
    refine ⟨?_, ih h.2⟩
    have h1 := h.1
    simp only [above, List.all_eq_true] at h1 ⊢
    intro x hx
    obtain ⟨y, hy, rfl⟩ := List.mem_map.mp hx
    exact h1 y hy

/-- A fold keeps what each of its steps keeps. -/
theorem foldl_keeps {α β : Type} (p : β → Prop) (f : β → α → β) (l : List α) (b : β) (h : p b) (hf : ∀ b a, p b → p (f b a)) :
    p (l.foldl f b) := by
  induction l generalizing b with
  | nil => exact h
  | cons a l ih => exact ih _ (hf b a h)

/-! ### The register file -/

theorem Dev.wrReg_wf (s : Dev) (a : Nat) (v : Word32) (h : swf resetWord s.regs = true) : swf resetWord (s.wrReg a v).regs = true :=
  swf_sset resetWord s.regs a v h

theorem Dev.setF_wf (s : Dev) (f : Fld) (v i k : Nat) (h : swf resetWord s.regs = true) : swf resetWord (s.setF f v i k).regs = true :=
  Dev.wrReg_wf s _ _ h

theorem Dev.resetPage_wf (s : Dev) (page : Nat) (keep : Nat → Bool) (h : swf resetWord s.regs = true) :
    swf resetWord (s.resetPage page keep).regs = true :=
  swf_filter resetWord s.regs _ h

/-! ### DRAM -/

/-- A write of a line keeps the form of the data and of the parity. -/
theorem Dev.dramWrite_wf (s : Dev) (n l : Nat) (d : Line) (mask bad : BitVec 64)
    (h : swf zeroByte s.dram = true ∧ swf goodByte s.dramBad = true) :
    swf zeroByte (s.dramWrite n l d mask bad).dram = true ∧ swf goodByte (s.dramWrite n l d mask bad).dramBad = true := by
  unfold Dev.dramWrite
  refine foldl_keeps (fun t : Dev => swf zeroByte t.dram = true ∧ swf goodByte t.dramBad = true) _ _ s h ?_
  intro t i ht
  split
  · exact ⟨swf_sset _ _ _ _ ht.1, swf_sset _ _ _ _ ht.2⟩
  · exact ht

theorem Dev.arrayTested_wf (s : Dev) (n : Nat) (h : swf zeroByte s.dram = true ∧ swf goodByte s.dramBad = true) :
    swf zeroByte (s.arrayTested n).dram = true ∧ swf goodByte (s.arrayTested n).dramBad = true :=
  ⟨swf_filter _ _ _ h.1, swf_filter _ _ _ h.2⟩

/-! ### Scratch -/

/-- The scratch memory of an engine and the parity beside it are in their form. -/
def EngSt.scratchWf (g : EngSt) : Prop := swf zeroByte g.scratch = true ∧ swf noBit g.scratchBad = true

theorem EngSt.setScr_wf (g : EngSt) (i : Nat) (x : BitVec 8) (bad : Bool) (h : g.scratchWf) : (g.setScr i x bad).scratchWf :=
  ⟨swf_sset _ _ _ _ h.1, swf_sset _ _ _ _ h.2⟩

theorem EngSt.setScrElem_wf (g : EngSt) (w i x bits : Nat) (h : g.scratchWf) : (g.setScrElem w i x bits).scratchWf :=
  foldl_keeps EngSt.scratchWf _ _ g h (fun t j ht => EngSt.setScr_wf t (i + j) _ (bitN bits j) ht)

/-! ### The management flash -/

theorem Dev.flashPut_wf (s : Dev) (a : Nat) (bs : List Nat) (h : swf erasedByte s.flash = true) :
    swf erasedByte (s.flashPut a bs).flash = true :=
  foldl_keeps (fun m : Sparse (BitVec 8) × Nat => swf erasedByte m.1 = true) _ bs (s.flash, a) h (fun _ _ hm => swf_sset _ _ _ _ hm)

theorem Dev.flashErase_wf (s : Dev) (a : Nat) (h : swf erasedByte s.flash = true) : swf erasedByte (s.flashErase a).flash = true :=
  swf_filter _ _ _ h

/-! ### Reset -/

/-- Every memory has its form at reset. -/
theorem State.reset_memoriesWf : State.reset.dev.memoriesWf = true := by decide

end Sys2Proof.Machine
end

