-- ==== Sys2Proof/Laws/Ops.lean ====
section
/-!
SUPPORT. Laws/Ops.lean: what each operation that the meanings share can do, said once: which fields it may change, and what it leaves.
-/
namespace Sys2Proof.Machine

/-! ### Registers -/

/-- A field write leaves every register but its own. -/
theorem Dev.rdReg_setF_other (s : Dev) (f : Fld) (v i k a : Nat) (h : a ≠ f.addr i k) : (s.setF f v i k).rdReg a = s.rdReg a :=
  sget_sset_other resetWord s.regs _ a _ h

/-- Forgetting a page leaves every register of another page. -/
theorem sget_filter_kept {β : Type} (d : Nat → β) (m : Sparse β) (p : Nat × β → Bool) (k : Nat) (h : ∀ v, p (k, v) = true) :
    sget d (m.filter p) k = sget d m k := by
  induction m with
  | nil => rfl
  | cons e m ih =>
    obtain ⟨j, w⟩ := e
    by_cases hj : j = k
    · subst hj
      simp [h w, sget]
    · rw [List.filter_cons]
      split
      · simp [sget, hj, ih]
      · simp [sget, hj, ih]

theorem Dev.rdReg_resetPage_other (s : Dev) (page a : Nat) (keep : Nat → Bool) (h : a / 4096 ≠ page) :
    (s.resetPage page keep).rdReg a = s.rdReg a :=
  sget_filter_kept resetWord s.regs _ a (fun v => by simp [h])

/-! ### Events, records, unit states -/

/-- Raising an event changes the registers and the notices on their way, nothing else. -/
theorem Dev.raise_eq (s : Dev) (page bit : Nat) :
    s.raise page bit = { s with regs := (s.raise page bit).regs, notice := (s.raise page bit).notice } := by
  unfold Dev.raise
  dsimp only
  split
  · rfl
  · split <;> rfl

/-- An event that is set already does nothing more. -/
theorem Dev.raise_set (s : Dev) (page bit : Nat) (h : bitN (s.rdReg (page * 4096 + 0x14)).toNat bit = true) : s.raise page bit = s := by
  unfold Dev.raise
  dsimp only
  rw [if_pos h]

/-- Raising an event leaves every register but the page's event status. -/
theorem Dev.rdReg_raise_other (s : Dev) (page bit a : Nat) (h : a ≠ page * 4096 + 0x14) : (s.raise page bit).rdReg a = s.rdReg a := by
  have e : (s.wrReg (page * 4096 + 0x14) (withBits (s.rdReg (page * 4096 + 0x14)) bit bit 1)).rdReg a = s.rdReg a :=
    sget_sset_other resetWord s.regs _ a _ h
  unfold Dev.raise
  dsimp only
  split
  · rfl
  · split
    · exact e
    · exact e

/-- A record only sets out for the writer. -/
theorem Dev.record_eq (s : Dev) (page code sev : Nat) (ps : List Nat) :
    s.record page code sev ps = { s with tally := (s.record page code sev ps).tally } := (rfl)

/-- Entering the state a unit is in changes nothing. -/
theorem Dev.enter_same (s : Dev) (page st : Nat) (h : s.ust page = st) : s.enter page st = s := by
  unfold Dev.enter
  dsimp only
  rw [if_pos (by simpa using h)]

/-- The two devices differ in registers, in notices on their way, in the reserved slots that are to move and in the trigger of the waterline
only. -/
def Dev.sameButUnits (s t : Dev) : Prop :=
  t = { s with regs := t.regs, notice := t.notice, space := { s.space with resvPend := t.space.resvPend }, wlDue := t.wlDue }

theorem Dev.sameButUnits_refl (s : Dev) : s.sameButUnits s := (rfl)

theorem Dev.sameButUnits_trans {s t u : Dev} (h : s.sameButUnits t) (k : t.sameButUnits u) : s.sameButUnits u := by
  unfold Dev.sameButUnits at h k ⊢
  rw [k, h]

theorem Dev.sameButUnits_ite {s t : Dev} {f : Dev → Dev} (c : Bool) (h : s.sameButUnits t) (k : ∀ b : Dev, b.sameButUnits (f b)) :
    s.sameButUnits (if c = true then f t else t) := by
  split
  · exact Dev.sameButUnits_trans h (k t)
  · exact h

theorem Dev.sameButUnits_wrReg (s : Dev) (a : Nat) (v : Word32) : s.sameButUnits (s.wrReg a v) := (rfl)

theorem Dev.sameButUnits_raise (s : Dev) (page bit : Nat) : s.sameButUnits (s.raise page bit) := by
  unfold Dev.sameButUnits
  rw [Dev.raise_eq s page bit]

theorem Dev.sameButUnits_noteCollar (s : Dev) (page old st : Nat) : s.sameButUnits (s.noteCollar page old st) := by
  unfold Dev.noteCollar
  dsimp only
  split
  · exact s.sameButUnits_refl
  · split
    · exact Dev.sameButUnits_trans (s.sameButUnits_wrReg _ _) (Dev.sameButUnits_raise _ _ _)
    · exact s.sameButUnits_wrReg _ _

theorem Dev.sameButUnits_noteResv (s : Dev) (page st : Nat) : s.sameButUnits (s.noteResv page st) := by
  unfold Dev.noteResv
  split
  · exact (rfl)
  · exact s.sameButUnits_refl

/-- A change of a unit's state changes the registers, the notices on their way, the reserved slots that are to move and the trigger of the
waterline, nothing else. -/
theorem Dev.enter_eq (s : Dev) (page st : Nat) : s.sameButUnits (s.enter page st) := by
  unfold Dev.enter
  dsimp only
  by_cases h : (s.ust page == st) = true
  · rw [if_pos h]
    exact s.sameButUnits_refl
  · rw [if_neg h]
    have first : s.sameButUnits { s.wrReg (page * 4096 + 8) (BitVec.ofNat 32 ((s.epoch page + 1) % 65536 * 65536 + st)) with
        notice := { s.notice with stateFlight := s.notice.stateFlight ++ [(page, st, (s.epoch page + 1) % 65536)] } } := (rfl)
    have live := Dev.sameButUnits_ite (darkState page (s.ust page) != darkState page st) first (fun b => b.sameButUnits_raise 2 0)
    have resv := Dev.sameButUnits_trans live (Dev.sameButUnits_trans (Dev.sameButUnits_noteCollar _ page (s.ust page) st)
      (Dev.sameButUnits_noteResv _ page st))
    have line := Dev.sameButUnits_ite (decide (0x200 ≤ page) && decide (page < 0x230)) resv (f := Dev.wlTrigger) (fun b => (rfl))
    exact Dev.sameButUnits_ite (st == stFAILED) line (fun b => b.sameButUnits_raise pgSELFTEST Reg.EV_SELFTEST_UNIT_FAILED)

/-! ### Memories -/

/-- A write of a line changes DRAM and its parity, nothing else. -/
theorem Dev.dramWrite_eq (s : Dev) (n l : Nat) (d : Line) (mask bad : BitVec 64) :
    s.dramWrite n l d mask bad =
      { s with dram := (s.dramWrite n l d mask bad).dram, dramBad := (s.dramWrite n l d mask bad).dramBad } := by
  unfold Dev.dramWrite
  refine foldl_keeps (fun t : Dev => t = { s with dram := t.dram, dramBad := t.dramBad }) _ _ s (rfl) ?_
  intro t i ht
  split
  · rw [ht]
  · exact ht

/-- Writing flash changes the flash, nothing else. -/
theorem Dev.flashPut_eq (s : Dev) (a : Nat) (bs : List Nat) : s.flashPut a bs = { s with flash := (s.flashPut a bs).flash } := (rfl)
theorem Dev.flashErase_eq (s : Dev) (a : Nat) : s.flashErase a = { s with flash := (s.flashErase a).flash } := (rfl)

/-! ### Register requests (R453) -/

/-- A request that rows 1 to 4 judge gets that answer, whatever it would have done. -/
theorem Dev.serveReg_judged (s : Dev) (reader a : Nat) (w : Option Word32) (o : Option WObs) (late : Bool) (r : RegAns × Dev)
    (h : s.judge reader a w.isSome = some r) : s.serveReg reader a w o late = r := by
  unfold Dev.serveReg
  rw [h]

/-- A request that no row judges is carried out, between the cells that bring it to its page and take its answer back. -/
theorem Dev.serveReg_done (s : Dev) (reader a : Nat) (w : Option Word32) (o : Option WObs) (h : s.judge reader a w.isSome = none) :
    s.serveReg reader a w o false =
      let att := attOfPage (unitPageOf (a / 4096))
      let x := (s.countCell (readerAtt reader) att 2).carryOut reader a w o
      (x.1, x.2.countCell att (readerAtt reader) 2) := by
  unfold Dev.serveReg
  rw [h]
  exact if_neg Bool.false_ne_true

/-- Firmware that does not run sends no request. -/
theorem Dev.regReq_noFirmware (s : Dev) (a : Nat) (v : Option Word32) (o : Option WObs) (late : Bool) (h : s.fwRuns = false) :
    s.regReq .firmware a v o late = s := by
  unfold Dev.regReq
  simp [h]

/-! ### Leases (R352 to R356) -/

/-- Dropping a lease that another holds changes nothing. -/
theorem Dev.dropLease_other (s : Dev) (i holder : Nat) (h : (s.lease i).holder ≠ holder) : s.dropLease i holder = s := by
  unfold Dev.dropLease
  simp [h]

end Sys2Proof.Machine
end

