-- ==== Sys2Proof/Tests/Build.lean ====
section
/-!
SUPPORT. Tests/Build.lean: the small states the tests and witnesses are about, and the pieces they are made of.
-/
namespace Sys2Proof.Tests
open Sys2Proof.Machine

/-- The device with the unit of a page in a state. -/
def unit (d : Dev) (page st : Nat) : Dev := d.wrReg (page * 4096 + 8) (BitVec.ofNat 32 st)

/-- A device that serves: start-up is over, the mode is RUN, the spine has power and haulage serves. Other units stand as after reset. -/
def up : Dev :=
  let d := (Dev.reset.setF Reg.MODES_STATUS_MODE mdRUN).setF Reg.DEVICE_KINDLE_STATUS_STEP 16
  unit { d with pins := { d.pins with spineOn := true, refclk := true, mgmtOn := true } } hauPage stONLINE

/-- The block with no command waiting. -/
def st (d : Dev) : State := { dev := d, pending := [] }

/-- The device a step or a command ends in. -/
def devOf (o : Host.Outcome State Fault Refusal) : Dev :=
  match o with
  | .next s => s.dev
  | _ => Dev.reset

/-- Host port 0 in a given state of its own logic, its link initialised or not. -/
def port0 (p : PortSt) (initDone : Bool) : Dev := (up.setPort 0 p).setF Reg.HOSTPORT_LINK_STATUS_INIT_DONE (b2n initDone) 0

/-- A request header: port 0, tag 5, class 63, line 9. -/
def hdr : MemReq := ⟨0, 5, 63, 1, 9⟩

/-- A request as it waits at port 0 under tag 5. -/
def req (op : MOp) : Req := { id := 0, org := .host 0 5, op := op, cls := 59, line := 9 }

/-- A descriptor's job without streams: ring 1, program slot 0. -/
def job : Job := ⟨1, 7, 0, [10, 11, 12, 13], [], 3, 0, 0, false, false, false⟩

/-- A job at a step of a program of ten steps. -/
def run (pc : Nat) : Run := ⟨job, 0, 0, 10, pc, none, 0, 0, 0, 0, 0, 0, 0, 0, false⟩

/-- Engine 3 ONLINE with a job at step 2, and what else its engine holds. -/
def eng3 (g : EngSt) : Dev := (unit up 0x103 stONLINE).modEng 3 (fun _ => { g with run := some (run 2) })

/-- The fields of a step: TYPE and the numbers, no mask, IMM. -/
def fld (typ : BitVec 4) (dst a b c : BitVec 5) (imm : BitVec 64) : StepF := ⟨typ, dst, a, b, c, 0, false, 0, 0, imm⟩

end Sys2Proof.Tests
end

