-- ==== Sys2Proof/Tests/Slice0.lean ====
section
/-!
SUPPORT. Tests/Slice0.lean: the checks of WellFormed refuse what they should, and the model gives the values the spec's own worked examples
state; each test names the chapter its expected values come from. The published test vectors of CRC-32C and SHA-2 are not the spec's (logs
17, 18).
-/
set_option Elab.async false
namespace Sys2Proof.Tests
open Sys2Proof.Machine

/-! ### WellFormed: an ill-formed term for each check, beside a well-formed one -/

theorem test_wf_unknownOpc :
    (Instr.unknownOpc hdr 5 0 ⟨0, 0⟩).wellFormed = false ∧ (Instr.unknownOpc hdr 5 0 ⟨0x700000, 0⟩).wellFormed = true ∧
    (Instr.unknownOpc hdr 6 0 ⟨5, 0⟩).wellFormed = false ∧ (Instr.unknownOpc hdr 6 0 ⟨6, 0⟩).wellFormed = true ∧
    (Instr.unknownOpc hdr 1 0 ⟨0, 0⟩).wellFormed = false ∧ (Instr.unknownOpc hdr 9 0 ⟨0, 0⟩).wellFormed = true := by decide +kernel

theorem test_wf_pages :
    (Instr.eventNotice 0xB0).wellFormed = false ∧ (Instr.eventNotice 9).wellFormed = true ∧
    (Instr.funcReset 0xB0 .firmware 0).wellFormed = false ∧ (Instr.unitReq 0xB0 .firmware 0 ⟨true, []⟩).wellFormed = false ∧
    (Instr.evtSet 0xB0 .firmware 0).wellFormed = false ∧ (Instr.funcResetEnd 9 .online ⟨true, []⟩).wellFormed = false ∧
    (Instr.funcResetEnd 0x200 .online ⟨true, []⟩).wellFormed = true ∧ (Instr.selftestTargetEnd 9 ⟨[], []⟩).wellFormed = false ∧
    (Instr.funcReset 0x200 .firmware 0).wellFormed = true ∧ (Instr.selftestTargetEnd 0x200 ⟨[], []⟩).wellFormed = true := by decide +kernel

theorem test_wf_addresses :
    (Instr.counterLoRead .firmware 0x70).wellFormed = false ∧ (Instr.counterLoRead .firmware 0x40068).wellFormed = true ∧
    (Instr.programStoreWrite .firmware 0x40 0).wellFormed = false ∧ (Instr.programStoreWrite .firmware 0x2000002 0).wellFormed = false ∧
    (Instr.programStoreWrite .firmware 0x2000004 0).wellFormed = true ∧ (Instr.stallDetect 0x7F 0x10 false).wellFormed = false ∧
    (Instr.stallDetect 0 0x10 false).wellFormed = true ∧ (Instr.cellDelivery 0x7F 0 false).wellFormed = false ∧
    (Instr.cellDelivery 0x10 0 false).wellFormed = true ∧ (Instr.longHold 5).wellFormed = false ∧ (Instr.longHold 0).wellFormed = true := by
  decide +kernel

theorem test_wf_values :
    (Instr.eIllegalOp 0 0 (fld 0 0 0 0 0 0)).wellFormed = false ∧ (Instr.eIllegalOp 0 0xFF (fld 0 0 0 0 0 0)).wellFormed = true ∧
    (Instr.msg 0 0x11E [] (0, 0)).wellFormed = false ∧ (Instr.msg 0 0x11E [0] (0, 0)).wellFormed = true ∧
    (Instr.modelUpdate [0]).wellFormed = false ∧ (Instr.modelUpdate (List.replicate 14 0)).wellFormed = true ∧
    (Instr.diodeConversion 32768).wellFormed = false ∧ (Instr.diodeConversion (-32768)).wellFormed = true ∧
    (Instr.onDemandReading .firmware 0 (-32769)).wellFormed = false ∧ (Instr.onDemandReading .firmware 0 32767).wellFormed = true ∧
    (Instr.converterCalibrationEnd 32768 0).wellFormed = false ∧ (Instr.converterCalibrationEnd 0 65536).wellFormed = false ∧
    (Instr.converterCalibrationEnd 0 65535).wellFormed = true := by decide +kernel

/-- No row of the table has bits, so no word spells a command. -/
theorem test_no_word_spells_a_command : decodeTableWord 16 5 = none ∧ State.reset.withFetchWord 16 5 = State.reset := by decide +kernel

/-! ### Chapter 02 -/

/-- Host address 0x0123_4567_89C0: frame, sector and line of a sector, set, tag, bank, and the frame recovered. -/
theorem test_host_address :
    frameOfLine (0x0123456789C0 / 64) = 2386092 ∧ sectorOfLine (0x0123456789C0 / 64) = 120 ∧ 0x0123456789C0 / 64 % 64 = 39 ∧
    setOf 2386092 = 26852 ∧ tagOf 2386092 = 72 ∧ setOf 2386092 % 32 = 4 ∧ frameFrom 26852 72 = 2386092 := by decide +kernel

/-- Shafts in a state, and the blocks that route work told so. -/
def told (d : Dev) (ns : List Nat) (x : Nat) : Dev :=
  let e := ns.foldl (fun (d : Dev) n => unit d (0x200 + n) x) d
  { e with notice := { e.notice with routeView := ns.foldl (fun v n => sput v (0x200 + n) (x, 0)) e.notice.routeView } }

/-- Every shaft ONLINE. -/
def shafts : Dev := told up (List.range 48) stONLINE

/-- Window 0 holds 100 GiB; 60 GiB asked of window 1 reads back 90,080 frames. -/
theorem test_stack_only_allowance :
    let d := (shafts.wrReg 0xA804 204800).setF Reg.HAULAGE_SWj_CTL_EN 1 0 0
    let e := (d.writeReg 0xA814 122880 noObs).writeReg 0xA818 1 noObs
    e.rdReg 0xA814 = 90080 ∧ e.fb Reg.HAULAGE_SWj_CTL_EN 0 1 = true := by decide +kernel

/-- Far window 5: host frame 0x0100_0000 lies at far address 0x40_0000_0000 of port 2, and reads as zeros while unborn. -/
def window5 : Dev :=
  (((up.wrReg 0xA450 0x01000000).wrReg 0xA454 0x01000000).wrReg 0xA458 0x00080000).wrReg 0xA45C 0x21

theorem test_far_window :
    window5.farPortOf 0x01000000 = some 2 ∧ window5.farLineOf (0x080000000000 / 64) = 0x4000000000 / 64 ∧ window5.isHole 0x02000000 = true ∧
    ((window5.lookup { req .rd with line := 0x080000001000 / 64 }).port 0).resp1.map (fun r => (r.opc, r.data)) = [(0x20, 0)] := by
  decide +kernel

/-! ### Chapters 04 and 20 -/

/-- The header words of the flit of chapter 04, and its slots. -/
theorem test_header_words :
    headerWord 1 12 0x10 0x48D159E27 false = 0x04C010091A2B3C4E ∧ headerWord 3 12 0x11 0x48D159E27 false = 0x0CC011091A2B3C4E ∧
    headerWord 8 12 0x12 0 false = 0x20C0120000000000 ∧ msgSlots .rd + msgSlots .wr + msgSlots .fence = 7 ∧
    respSlots .rd + respSlots .wr + respSlots .fence = 7 := by decide +kernel

/-- 0xA5 holds four ones, so its odd-parity bit is 1. -/
theorem test_parity_of_A5 : lineParity (BitVec.ofNat 512 ((2 ^ 512 - 1) / 255 * 0xA5)) = fullMask := by decide +kernel

/-- Shaft 9 DARK at epoch 14; host port 4 without MGMT_EN. -/
def dark9 : Dev := ((unit up 0x209 stONLINE).wrReg 0x209008 0x000E0005).enter 0x204 stOFFLINE

theorem test_register_answers :
    (dark9.serveReg 4 0x209008 none none false).1 = .value 0x000E0005 ∧ (dark9.serveReg 4 0x209080 none none false).1 = .dark 0 0x209 ∧
    (dark9.serveReg 4 0x209048 (some 0) none false).1 = .error 4 2 ∧
    ((dark9.serveReg 4 0x14048 (some 5000) none false).2).rdReg 0x14048 = 0x1000 ∧
    (dark9.serveReg 4 0x15048 (some 0) none false).1 = .error 4 2 ∧ (dark9.serveReg 4 0xB80C (some 0) none false).1 = .done ∧
    (dark9.serveReg 4 0xB0F0 none none false).1 = .value 0 ∧ (dark9.serveReg 4 0xB0000 none none false).1 = .error 1 0 ∧
    ((dark9.serveReg 4 0x209080 none none false).2).tally.arriving.map (fun r => (r.code, r.unit, r.sev)) = [(0xD100, 0x209, 1)] := by
  decide +kernel

/-! ### Chapters 06 to 11 -/

def floors : Dev :=
  [(3, 0, 15625), (7, 2, 12500), (12, 5, 18750), (20, 9, 9375)].foldl (fun (d : Dev) x =>
    (d.setCv Reg.CLASSTAB_FLOOR_RANK x.1 x.2.1).setCv Reg.CLASSTAB_FLOOR_FLOOR x.1 x.2.2) { shafts with wlDue := true }
/-- Shafts 40 to 43 leave ONLINE. -/
def floors44 : Dev := told floors [40, 41, 42, 43] stEVACUATING

theorem test_waterline :
    (devOf (exec .waterlineRecompute (st floors))).fv Reg.CLASSES_BUDGET_UNITS = 61440 ∧
    (devOf (exec .waterlineRecompute (st floors))).fv Reg.CLASSES_WL_STATUS_WATERLINE = 64 ∧
    (devOf (exec .waterlineRecompute (st floors44))).fv Reg.CLASSES_BUDGET_UNITS = 56320 ∧
    (devOf (exec .waterlineRecompute (st floors44))).fv Reg.CLASSES_WL_STATUS_WATERLINE = 9 := by decide +kernel

/-- Class 12 with target 400 ns: 300.00 ns and a sample of 520 ns give 313.75 ns, level 4. -/
theorem test_latency_sample :
    let d := (shafts.modCls 12 (fun k => { k with m := 4800 })).setCv Reg.CLASSTAB_LAT_TARGET 12 40
    let e := d.sample 12 520
    (e.cls 12).m = 5020 ∧ e.cv Reg.CLASSTAB_STATE_MEASURED 12 = 313 ∧ e.levelOf 12 = 4 := by decide +kernel

/-- Line 27,041,319 of a shaft is bank 30, row 26,407, column 4. -/
theorem test_address_map :
    bankOf 27041319 = 30 ∧ rowOf 27041319 = 26407 ∧ colOf 27041319 = 4 ∧ lineAt 30 26407 4 = 27041319 ∧ 3300 * 8192 + 494016 / 64 = 27041319 := by
  decide +kernel

/-- The touch of the read strobe of lane 3: all four probes pass. -/
def touching : Dev :=
  let d := ((unit up 0x211 stONLINE).setF Reg.SHAFT_RETRAIN_CTL_EN 1 17).setF Reg.SHAFT_STATUS_SELF_REFRESH 0 17
  d.setShaft 17 { roundOn := true, subst := true, subAt := some 2000, touchAt := 12, edges := [(12, some (72, 124))],
                  taps := [(0, ⟨[], [(3, ⟨97, 96, 32, 32⟩)]⟩)] }

theorem test_touch :
    let e := devOf (exec (.touch 17 ⟨true, true, true, true, (.stay, .stay, .stay), false⟩) (st touching))
    e.edge 17 0 3 0 = (71, 125) ∧ ((e.taps 17 0).lane 3).rd = 98 ∧ e.fv Reg.SHAFT_RETRAIN_STATUS_LANE 17 = 3 ∧
    e.fv Reg.SHAFT_RETRAIN_STATUS_QTY 17 = 0 ∧ e.fv Reg.SHAFT_RETRAIN_STATUS_MOVE 17 = 1 := by decide +kernel

/-- Steps 3 and 6 of the first program of chapter 09. -/
theorem test_step_words :
    stepWord 0x61 (fld 0 0 0 0 0 0x400010000) = 0x61000000000000000000000400010000 ∧
    stepWord 0x24 (fld 6 1 0 2 0 0) = 0x24608040000000000000000000000000 ∧
    opOf 0x61 0 = some .loop ∧ opOf 0x24 0 = some (.cmp .gt) := by decide +kernel

/-- R217, R223: INT8 lanes wrap; the step is counted and PC moves. V0 holds 127 and 2 in lanes 0 and 1, V1 holds 1 and 3. -/
theorem test_add_wraps :
    let d := eng3 { v := [(0, 0x027F), (1, 0x0301)] }
    let e := devOf (exec (.eAdd 3 (fld 0 2 0 1 0 0)) (st d))
    (e.eng 3).vr 2 = 0x0580 ∧ (e.eng 3).run.map (·.pc) = some 3 := by decide +kernel

/-- R223: MAX of INT8 compares signed, of UINT8 unsigned: 0x80 against 1. -/
theorem test_max_signs :
    let d := eng3 { v := [(0, 0x80), (1, 0x01)] }
    ((devOf (exec (.eMax 3 (fld 0 2 0 1 0 0)) (st d))).eng 3).vr 2 = 0x01 ∧
    ((devOf (exec (.eMax 3 (fld 1 2 0 1 0 0)) (st d))).eng 3).vr 2 = 0x80 := by decide +kernel

/-- R222, R223: CMPGT of INT32 sets the mask lane by lane, and ANY and ALL. -/
theorem test_compare :
    let e := devOf (exec (.eCmpgt 3 (fld 6 1 0 2 0 0)) (st (eng3 { v := [(0, 5)], m := [(1, 0xFFFF)] })))
    (e.eng 3).mr 1 = 1 ∧ (e.eng 3).sfAny = true ∧ (e.eng 3).sfAll = false := by decide +kernel

/-- R225: LOOP with a body of 4 loads its counter and enters; a body of 0 faults with code 1. -/
theorem test_loop :
    ((devOf (exec (.eLoop 3 (fld 0 0 0 0 0 0x400010000)) (st (eng3 {})))).eng 3).loops = [(0, 3, 6)] ∧
    ((devOf (exec (.eLoop 3 (fld 0 0 0 0 0 0x10000)) (st (eng3 {})))).eng 3).loops = [] := by decide +kernel

/-- R229: SCRST and SCRLD keep a line: V0 stored at 64 comes back. -/
theorem test_scratch_line :
    let d := devOf (exec (.eScrst 3 (fld 6 0 0 0 0 0)) (st (eng3 { v := [(0, 0x11223344)], s := [(0, 64)] })))
    (d.eng 3).scr 64 = 0x44 ∧ (d.eng 3).scr 67 = 0x11 ∧
    ((devOf (exec (.eScrld 3 (fld 6 2 0 0 0 0)) (st d))).eng 3).vr 2 = 0x11223344 := by decide +kernel

/-- The repair entry of row 26,407 of bank 30 of shaft 17. -/
theorem test_row_entry : rowEntry 17 30 26407 = 0x147C6727 := by decide +kernel

/-! ### Chapters 13 to 19 -/

/-- B is SECONDARY at epoch 7; TAKEOVER with GO 1 and EPOCH 7 makes it PRIMARY at epoch 8. -/
def member : Dev := ((up.setF Reg.PAIR_CTL_ROLE 2).setF Reg.PAIR_EPOCH_EPOCH 7).setF Reg.PAIR_STATUS_PARTNER_DARK 1

theorem test_takeover :
    let e := devOf (exec (.takeover .firmware 0x80000007) (st member))
    e.fv Reg.PAIR_EPOCH_EPOCH = 8 ∧ e.fv Reg.PAIR_CTL_ROLE = 1 := by decide +kernel

/-- Shaft 17 ONLINE at epoch 5: UNIT_REQ (EVACUATING, 5) gives EVACUATING at epoch 6, and a second request of epoch 5 is stale. -/
theorem test_unit_request :
    let d := shafts.wrReg 0x211008 0x00050002
    let e := devOf (exec (.unitReq 0x211 .firmware 0x00050008 ⟨true, []⟩) (st d))
    let g := devOf (exec (.unitReq 0x211 .firmware 0x00050003 ⟨true, []⟩) (st e))
    e.ust 0x211 = stEVACUATING ∧ e.epoch 0x211 = 6 ∧ g.ust 0x211 = stEVACUATING ∧ g.epoch 0x211 = 6 := by decide +kernel

/-- An estimate of 196 W, above CAP_W, starts a burst where one is allowed. -/
theorem test_power_burst :
    let e := devOf (exec (.powerEstimate ⟨1000, 100, 500, 200, 100, 60⟩) (st (up.setF Reg.POWER_LADDER_REARMED 1)))
    e.fv Reg.POWER_EST_TOTAL = 1960 ∧ e.fb Reg.POWER_LADDER_BURST = true ∧ e.fv Reg.POWER_LADDER_STEP = 0 := by decide +kernel

/-- DIE7 (i = 9) disagrees a fourth time: E is max(78.0, 89.0, 85.5) = 89.0 °C, EFFECTIVE 0x0590. -/
def hot9 : Dev :=
  let h : HeatSt := { round := 9, raw := List.replicate 9 1424 ++ [1424] ++ List.replicate 4 1424,
                      dies := [(8, { e := 1376, reading := some 1376 }), (9, { e := 1400, reading := some 1248, differ := 3 }),
                               (10, { e := 1360, reading := some 1360 })] }
  { up with heat := h }

theorem test_sensor_suspect :
    let e := devOf (exec (.diodeConversion 1248) (st hot9))
    e.dieBit Reg.HEAT_SUSPECT_DIES 9 = true ∧ e.fv Reg.HEAT_TEMPi_EFFECTIVE 0 9 = 0x590 ∧ e.heat.round = 10 := by decide +kernel

/-- TRIM word 0x00A5 holds 0x0000_0420; copy B of bit 5 reads 1 at NORMAL and 0 at STRICT: marginal on both counts. -/
theorem test_marginal_fuse :
    let d := Dev.reset.senseFuses [(0xA5, ⟨0x420, 0x420, 0x420, 0x400⟩)]
    d.sensedWord 0xA5 = 0x420 ∧ d.margWord = 0x800300A5 := by decide +kernel

/-- 12,032 hours and 1,805 s read 0x02F0_070D; record 0x2F40 lies in slot 3,904, register address 0x101_E800. -/
theorem test_tally_time :
    ((up.setF Reg.TALLY_TIME_HOURS 12032).setF Reg.TALLY_TIME_SEC 1805).rdReg 0x5058 = 0x02F0070D ∧ 0x2F40 % 8192 = 3904 ∧
    0x1000000 + 32 * 3904 = 0x101E800 ∧ isWinPage 0x101E = true := by decide +kernel

/-! ### Published test vectors (logs 17, 18) -/

theorem test_crc32c : crc32c [0x31, 0x32, 0x33, 0x34, 0x35, 0x36, 0x37, 0x38, 0x39] = 0xE3069283 := by decide +kernel

theorem test_sha :
    ofBE (sha256 [0x61, 0x62, 0x63]) = 0xBA7816BF8F01CFEA414140DE5DAE2223B00361A396177A9CB410FF61F20015AD ∧
    ofBE (sha384 [0x61, 0x62, 0x63]) =
      0xCB00753F45A35E8BB5A03D699AC65007272C32AB0EDED1631A8B605A43FF5BED8086072BA1E7CC2358BAECA134C825A7 := by decide +kernel

/-- A slot of the flash with a whole image and a key the fuses hold: what is left of R367 is the signature, which stays open (log 19). -/
def signed : Dev :=
  let key := List.replicate 96 0xFF
  let words := (chunks 4 48 (sha384 key)).map (fun b => some (BitVec.ofNat 32 (ofBE b.reverse)))
  let d := Dev.reset.modFuse (fun q => { q with ovr := (List.range 12).map (fun i => (wKEYS + i, words.getD i none)) })
  (d.flashPut 0 (bytesLE 4 0x4E475541 ++ bytesLE 4 1 ++ bytesLE 4 4))

theorem test_image_but_for_its_signature :
    imgNat (fun o => signed.flashByte o) 0 4 = 0x4E475541 ∧ imgNat (fun o => signed.flashByte o) 8 4 = 4 ∧
    signed.keyDigests.contains (sha384 (imgBytes (fun o => signed.flashByte o) 16 96)) = true := by decide +kernel

end Sys2Proof.Tests
end

