-- ==== Sys2Proof/Tests/WitnessEngine.lean ====
section
/-!
SUPPORT. Tests/WitnessEngine.lean: for the statements about engines and jobs, states and operands that meet the hypotheses of each clause, at
the ends of their ranges.
-/
set_option Elab.async false
namespace Sys2Proof.Tests
open Sys2Proof.Machine

/-- The premises of `Dev.issues`, as a Bool. -/
def issuesB (d : Dev) (n : Nat) (r : Run) : Bool :=
  d.pins.refclk && (d.eng n).run == some r && r.ending.isNone && (d.eng n).frozen == 0 &&
  (!(d.fb Reg.ENGINE_EXEC_STATUS_HALTED n) || (d.eng n).stepReq) && r.wait == 0 &&
  (!(d.fb Reg.ENGINE_EXEC_STATUS_THROTTLED n) || r.cycles % 4 != 3) && !((d.eng n).fenced r) &&
  (!(d.fb Reg.ENGINE_DEBUG_CTL_BP_EN n) || d.fv Reg.ENGINE_DEBUG_CTL_BP_PC n != r.pc || (d.eng n).passBp || (d.eng n).stepReq) &&
  decide (r.pc < r.len)

theorem issuesB_iff (d : Dev) (n : Nat) (r : Run) (h : issuesB d n r = true) : d.issues n r := by
  simp only [issuesB, Bool.and_eq_true, Bool.or_eq_true, Bool.not_eq_true', beq_iff_eq, bne_iff_ne, ne_eq, decide_eq_true_eq,
    Option.isNone_iff_eq_none] at h
  obtain ⟨⟨⟨⟨⟨⟨⟨⟨⟨h0, h1⟩, h2⟩, h3⟩, h4⟩, h5⟩, h6⟩, h7⟩, h8⟩, h9⟩ := h
  refine ⟨h0, h1, h2, h3, h4, h5, h6, h7, ?_, h9⟩
  rcases h8 with ((h | h) | h) | h <;> simp [h]

/-- The premises of `EngSt.accepts`, as a Bool. -/
def acceptsB (g : EngSt) (o : EOp) (f : StepF) (t : Ty) : Bool :=
  (o.uses f).legal && decide ((match o.types with
    | some l => if l.contains f.typ.toNat then tyOf f.typ.toNat else none
    | none => some ⟨8, .sint⟩) = some t) && !(g.waitsFor (o.uses f)) && !((o.uses f).addr.any (fun i => g.spr i))

theorem acceptsB_iff (g : EngSt) (o : EOp) (f : StepF) (t : Ty) (h : acceptsB g o f t = true) : g.accepts o f t := by
  simp only [acceptsB, Bool.and_eq_true, decide_eq_true_eq, Bool.not_eq_true'] at h
  exact ⟨h.1.1.1, h.1.1.2, h.1.2, h.2⟩

/-- How a step ends: 0 registers, 1 memory, 2 sequencer, 3 fault, 4 stall; and whether it read poison. -/
def ends (x : StepR × Nat) : Nat × Bool :=
  match x.1 with
  | .regs _ u => (0, u)
  | .mem _ u => (1, u)
  | .seq _ _ => (2, false)
  | .fault _ _ _ => (3, false)
  | .stall => (4, false)

def i32 : Ty := ⟨4, .sint⟩
def i64 : Ty := ⟨8, .sint⟩

/-- ADD of INT32: V2 ← V0 + V1. -/
def fAdd : StepF := fld 6 2 0 1 0 0
/-- Engine 3 with stream 0 bound to 4-byte elements and nothing arrived. -/
def bound : EngSt := ({} : EngSt).setStrm 0 (some (strmOf (2 * 2 ^ 45 + 15 * 2 ^ 47 + 2 ^ 67)))
/-- Engine 3 running a job whose poison policy is 1, the first lane of V0 poisoned. -/
def poisoned : Dev := (eng3 {}).modEng 3 (fun g =>
  { g.setV 0 5 15 with run := some { run 2 with job := { job with poison := 1 } } })

/-- Engine 3 with a value in its EXEC_STATUS or DEBUG_CTL, whose job stands at step 2 after a number of cycles. -/
def eng3At (f : Fld) (v cycles : Nat) (g : EngSt) : Dev :=
  ((eng3 g).modEng 3 (fun g => { g with run := some { run 2 with cycles := cycles } })).setF f v 3

/-- Every case of the premises of `Dev.issues`: a halted engine with a debug step asked for, a throttled one in a cycle that issues, and the
three ways not to meet a breakpoint. -/
theorem test_met_issues :
    issuesB (eng3 {}) 3 (run 2) = true ∧
    issuesB (eng3At Reg.ENGINE_EXEC_STATUS_HALTED 1 0 { stepReq := true }) 3 (run 2) = true ∧
    issuesB (eng3At Reg.ENGINE_EXEC_STATUS_THROTTLED 1 2 {}) 3 { run 2 with cycles := 2 } = true ∧
    (let d := (eng3At Reg.ENGINE_DEBUG_CTL_BP_EN 1 0 {}).setF Reg.ENGINE_DEBUG_CTL_BP_PC 3 3
     issuesB d 3 (run 2) = true) ∧
    (let d := (eng3At Reg.ENGINE_DEBUG_CTL_BP_EN 1 0 { passBp := true }).setF Reg.ENGINE_DEBUG_CTL_BP_PC 2 3
     issuesB d 3 (run 2) = true) ∧
    (let d := (eng3At Reg.ENGINE_DEBUG_CTL_BP_EN 1 0 { stepReq := true }).setF Reg.ENGINE_DEBUG_CTL_BP_PC 2 3
     issuesB d 3 (run 2) = true) := by decide +kernel

theorem test_met_EngineRowsIssueTheirStep :
    (stepRow (.eAdd 3 fAdd)).any (fun x => x.1 = 3 && x.2.1 == .lane .add && x.2.2 = fAdd) = true ∧ issuesB (eng3 {}) 3 (run 2) = true ∧
    issuesB (eng3 { run := none }) 3 { run 2 with pc := 9 } = false ∧
    issuesB ((eng3 {}).modEng 3 (fun g => { g with run := some (run 9) })) 3 (run 9) = true := by decide +kernel

theorem test_met_EngineStepsComplete :
    issuesB (eng3 {}) 3 (run 2) = true ∧ acceptsB ((eng3 {}).eng 3) (.lane .add) fAdd i32 = true ∧
    ends (((eng3 {}).cycled 3).stepOf 3 (run 2) (.lane .add) fAdd i32) = (0, false) ∧
    (ends ((poisoned.cycled 3).stepOf 3 { run 2 with job := { job with poison := 1 } } (.lane .add) fAdd i32) = (0, true) ∧
      issuesB poisoned 3 { run 2 with job := { job with poison := 1 } } = true ∧ acceptsB (poisoned.eng 3) (.lane .add) fAdd i32 = true) ∧
    (acceptsB ((eng3 {}).eng 3) (.atom 0) (fld 9 1 0 1 2 0) i64 = true ∧
      ends (((eng3 {}).cycled 3).stepOf 3 (run 2) (.atom 0) (fld 9 1 0 1 2 0) i64) = (1, false)) ∧
    (acceptsB ((eng3 {}).eng 3) .br (fld 0 0 0 0 0 7) i64 = true ∧
      ends (((eng3 {}).cycled 3).stepOf 3 (run 2) .br (fld 0 0 0 0 0 7) i64) = (2, false)) ∧
    (acceptsB ((eng3 {}).eng 3) .srd (fld 6 1 0 0 0 0) i32 = true ∧
      ends (((eng3 {}).cycled 3).stepOf 3 (run 2) .srd (fld 6 1 0 0 0 0) i32) = (3, false) ∧
      ends (((eng3 bound).cycled 3).stepOf 3 (run 2) .srd (fld 6 1 0 0 0 0) i32) = (4, false)) := by decide +kernel

theorem test_met_LaneStepsWriteActiveLanes :
    issuesB (eng3 {}) 3 (run 2) = true ∧ acceptsB ((eng3 {}).eng 3) (.lane .add) fAdd i32 = true ∧
    (∀ j < i32.lanes, ((eng3 {}).eng 3).active fAdd j = true ∧ ((eng3 {}).eng 3).badLane [0, 1] i32.w j = false) ∧
    (poisoned.eng 3).badLane [0, 1] i32.w 0 = true ∧
    (∀ t : Fin 10, (tyOf t.val).isSome = true) := by decide +kernel

theorem test_met_IntegerElementResults :
    tyOf 0 = some ⟨1, .sint⟩ ∧ (⟨1, .sint⟩ : Ty).isInt = true ∧ 255 < 2 ^ (⟨1, .sint⟩ : Ty).bits ∧
    (tyOf 9).any (fun t => t.isInt && decide (2 ^ 64 - 1 < 2 ^ t.bits)) = true := by decide +kernel

theorem test_met_CompareStepsSetMaskAndFlags :
    (stepRow (.eCmplt 3 (fld 6 2 0 1 0 0))).any (fun x => x.2.1 == .cmp .lt) = true ∧ issuesB (eng3 {}) 3 (run 2) = true ∧
    acceptsB ((eng3 {}).eng 3) (.cmp .lt) (fld 6 2 0 1 0 0) i32 = true ∧
    (∀ j < i32.lanes, ((eng3 {}).eng 3).badLane [0, 1] i32.w j = false) := by decide +kernel

theorem test_met_ScalarAndMaskSteps :
    issuesB (eng3 {}) 3 (run 2) = true ∧
    (stepRow (.eSaluAdd 3 (fld 0 15 1 2 0 0))).any (fun x => x.2.1 == .salu .add) = true ∧
    acceptsB ((eng3 {}).eng 3) (.salu .add) (fld 0 15 1 2 0 0) i64 = true ∧ acceptsB ((eng3 {}).eng 3) .sli (fld 0 15 0 0 0 0) i64 = true ∧
    acceptsB ((eng3 {}).eng 3) .mld (fld 0 7 15 0 0 0) i64 = true ∧ acceptsB ((eng3 {}).eng 3) .mst (fld 0 15 7 0 0 0) i64 = true ∧
    acceptsB ((eng3 {}).eng 3) (.mlog .and) (fld 0 7 6 5 0 0) i64 = true ∧ acceptsB ((eng3 {}).eng 3) .mnot (fld 0 7 6 0 0 0) i64 = true ∧
    ((EOp.salu .add).uses (fld 0 15 1 2 0 0)).ss.any (fun k => ((eng3 {}).eng 3).spr k) = false := by decide +kernel

theorem test_met_SequencerSteps :
    issuesB (eng3 {}) 3 (run 2) = true ∧
    (((eng3 {}).eng 3).cond 0 = some true ∧ ((eng3 {}).eng 3).cond 1 = some false ∧ ((eng3 {}).eng 3).cond 5 = none) ∧
    acceptsB ((eng3 {}).eng 3) .loop (fld 0 0 0 0 0 (3 * 2 ^ 32 + 1)) i64 = true ∧
    (((eng3 { loops := [(0, 1, 9)] }).eng 3).loopOn 0 = true ∧ immBits (fld 0 0 0 0 0 5) 43 32 = 0 ∧
      ((eng3 { loops := [(1, 1, 4)] }).eng 3).loops.head? = some (1, 1, 4) ∧
      4 < (run 2).pc + immBits (fld 0 0 0 0 0 (3 * 2 ^ 32)) 43 32) ∧
    (immBits (fld 0 0 0 0 0 (3 * 2 ^ 32)) 31 0 = 0 ∧ immBits (fld 0 0 0 0 0 (3 * 2 ^ 32 + 1)) 31 0 = 1) ∧
    (acceptsB ((eng3 {}).eng 3) .param { fld 0 15 0 0 0 0 with ext := 6 } i64 = true ∧ extBits { fld 0 15 0 0 0 0 with ext := 6 } 2 0 = 6) := by
  decide +kernel

theorem test_met_EngineMemoryStepsAccess :
    issuesB (eng3 {}) 3 (run 2) = true ∧ acceptsB ((eng3 {}).eng 3) (.atom 6) (fld 9 1 0 1 2 0) i64 = true ∧
    ((EOp.atom 6).uses (fld 9 1 0 1 2 0)).ss.any (fun k => ((eng3 {}).eng 3).spr k) = false ∧
    (let at_ := fun (x imm : BitVec 64) => ((eng3 { s := [(0, x)] }).eng 3).base (fld 9 1 0 1 2 imm)
        (ofSigned 64 (toSigned 32 (immBits (fld 9 1 0 1 2 imm) 31 0)))
     at_ (2 ^ 45) 0 = 2 ^ 45 ∧ at_ (2 ^ 45) 0xFFFFFFF8 = 2 ^ 45 - 8 ∧ at_ 4 0 % 8 ≠ 0) ∧
    acceptsB ((eng3 {}).eng 3) (.hint 5) (fld 0 0 0 0 0 0) i64 = true ∧ acceptsB ((eng3 {}).eng 3) (.flush true) (fld 0 0 0 0 0 0) i64 = true := by
  decide +kernel

theorem test_met_ScratchElementsReadBack :
    Memory.wf ({} : EngSt).scratch = true ∧
    (let h := ({} : EngSt).setScrElem 8 2097144 0x0102030405060708 0x81
     h.scrElem 8 2097144 = 0x0102030405060708 ∧ h.scrElemBits 8 2097144 = 0x81 ∧ h.scr 2097143 = 0 ∧ Memory.wf h.scratch = true) := by decide +kernel

/-- S0 holds a scratch address. -/
def scrAt (x : BitVec 64) : Dev := eng3 { s := [(0, x)] }

theorem test_met_ScratchStepsAddressRules :
    issuesB (scrAt 64) 3 (run 2) = true ∧ acceptsB ((scrAt 64).eng 3) .scrld (fld 6 1 0 0 0 0) i32 = true ∧
    acceptsB ((scrAt 64).eng 3) .scrst (fld 6 0 1 0 0 0) i32 = true ∧
    ((scrAt 65).eng 3).base (fld 6 1 0 0 0 0) 0 % 64 ≠ 0 ∧
    ((scrAt 2097088).eng 3).base (fld 6 1 0 0 0 0) 0 + 64 = 2097152 ∧ 2097152 < ((scrAt 2097152).eng 3).base (fld 6 1 0 0 0 0) 0 + 64 ∧
    (∀ i < 64, ((scrAt 64).eng 3).scrBad (64 + i) = false) ∧ (run 2).job.poison ≠ 2 ∧
    (∀ j < i32.lanes, elemBad i32.w (((scrAt 64).eng 3).vpr 1) j = false) := by decide +kernel

theorem test_met_EngineFaultsOnIllegalSteps :
    issuesB (eng3 {}) 3 (run 2) = true ∧ opOf (0xFF#8).toNat 0 = none ∧ opOf (0x5A#8).toNat 6 = none ∧
    ((EOp.salu .add).uses (fld 0 16 1 2 0 0)).legal = false ∧ ((EOp.mld).uses (fld 0 8 1 0 0 0)).legal = false ∧
    (((EOp.lane .and).uses (fld 4 0 1 2 0 0)).legal = true ∧ (EOp.lane .and).types.any (fun l => !(l.contains 4)) = true) ∧
    tyOf 10 = none ∧
    (((EOp.scrld).uses (fld 6 1 0 0 0 0)).legal = true ∧ ((EOp.scrld).uses (fld 6 1 0 0 0 0)).addr.any
      (fun k => ((eng3 { sp := [(0, true)] }).eng 3).spr k) = true ∧
      ((eng3 { sp := [(0, true)] }).eng 3).waitsFor ((EOp.scrld).uses (fld 6 1 0 0 0 0)) = false) := by decide +kernel

theorem test_met_EngineHoldsItsStep :
    (up.eng 3).run = none ∧ ((eng3 {}).eng 3).run = some (run 2) ∧ ({ run 2 with ending := some (0, 0, 2) } : Run).ending ≠ none ∧
    ((eng3 { frozen := 1 }).eng 3).frozen ≠ 0 ∧ ((eng3 {}).setF Reg.ENGINE_EXEC_STATUS_HALTED 1 3).fb Reg.ENGINE_EXEC_STATUS_HALTED 3 = true ∧
    ({ run 2 with wait := 1 } : Run).wait ≠ 0 ∧
    ({ eng3 {} with pins := { up.pins with refclk := false } } : Dev).pins.refclk = false ∧ (eng3 {}).pins.refclk = true ∧
    ((eng3 {}).eng 3).stepReq = false ∧
    ((eng3At Reg.ENGINE_EXEC_STATUS_THROTTLED 1 3 {}).fb Reg.ENGINE_EXEC_STATUS_THROTTLED 3 = true ∧ 3 % 4 = 3) ∧
    (let y : Acc := ⟨0, .none, .flush false, 0, 0, 0, 0, 0, 0, 0, true, false, 2, 0⟩
     ((eng3 { acc := [y] }).eng 3).fenced { run 2 with fence := 1 } = true ∧ ((eng3 {}).eng 3).fenced { run 2 with fence := 1 } = false) ∧
    (let d := (eng3At Reg.ENGINE_DEBUG_CTL_BP_EN 1 0 {}).setF Reg.ENGINE_DEBUG_CTL_BP_PC 2 3
     d.fb Reg.ENGINE_DEBUG_CTL_BP_EN 3 = true ∧ d.fv Reg.ENGINE_DEBUG_CTL_BP_PC 3 = (run 2).pc ∧ (d.eng 3).passBp = false ∧
     (d.eng 3).stepReq = false) ∧
    ((run 9).len = 10 ∧ (run 10).len ≤ (run 10).pc) := by decide +kernel

theorem test_met_StoredStepRunsAsItsRow :
    (stepRow (.eAdd 3 fAdd)).any (fun x => x.2.1 == .lane .add) = true ∧ opOf (0#8).toNat fAdd.ext.toNat = some (.lane .add) ∧
    issuesB (eng3 { store := [(2, stepWord 0 fAdd)] }) 3 (run 2) = true ∧
    ((eng3 { store := [(2, stepWord 0 fAdd)] }).eng 3).fetch (run 2) = stepWord 0 fAdd := by decide +kernel

theorem test_met_EngineArrivalsAndPoints :
    ({ eng3 {} with answers := [(.engine 3 0, .ack)] } : Dev).answers.find? (fun x => match x.1 with
      | .engine m _ => m == 3
      | _ => false) = some (.engine 3 0, .ack) ∧
    ((eng3 { acc := [⟨0, .none, .flush false, 0, 0, 0, 0, 0, 0, 0, true, false, 2, 0⟩] }).eng 3).acc.find? (fun y => y.id == 0) =
      some ⟨0, .none, .flush false, 0, 0, 0, 0, 0, 0, 0, true, false, 2, 0⟩ := by decide +kernel

end Sys2Proof.Tests
end

