-- ==== Sys2Proof/Tests/WitnessHost.lean ====
section
/-!
SUPPORT. Tests/WitnessHost.lean: for the statements about the block, reset, the host ports and the registers, states and operands that meet
the hypotheses of each clause, at the ends of their ranges.
-/
set_option Elab.async false
namespace Sys2Proof.Tests
open Sys2Proof.Machine

def waits (o : Host.Outcome State Fault Refusal) : Option (List Instr) :=
  match o with
  | .next s => some s.pending
  | _ => none

def tick (t sec : Nat) : Dev := ({ up with time := t } : Dev).setF Reg.TALLY_TIME_SEC sec

theorem test_met_QueueStaysWellFormed :
    [Instr.linkDown 0, .eventNotice 0].all Instr.wellFormed = true ∧
    waits (step { dev := up, pending := [.linkDown 0, .eventNotice 0] }) = some [.eventNotice 0] ∧
    waits (step { dev := up, pending := [] }) = some [] := by decide +kernel

theorem test_met_IdleStepIsOneClockPeriod :
    ({ up with pins := { up.pins with refclk := false } } : Dev).pins.refclk = false ∧
    ({ up with pins := { up.pins with pwrgood := false } } : Dev).pins.pwrgood = false ∧
    up.pins.refclk = true ∧ up.pins.pwrgood = true ∧ (up.time + 1) % 100000000 ≠ 0 ∧
    ((tick 99999999 3598).time + 1) % 100000000 = 0 ∧ (tick 99999999 3598).fv Reg.TALLY_TIME_SEC = 3598 ∧
    (tick 99999999 3599).fv Reg.TALLY_TIME_SEC = 3599 := by decide +kernel

theorem test_met_OnlyALostRailStops :
    waits (exec (.supplyRailChange true false) (st up)) = none ∧ up.pins.vddaFar = true ∧ up.pins.pwrgood = true ∧
    up.mode ≠ mdSHUTTERED ∧ waits (exec (.supplyRailChange true false) (st (up.setF Reg.MODES_STATUS_MODE mdSHUTTERED))) = some [] := by
  decide +kernel

theorem test_met_PowerEdges :
    Dev.reset.pins.pwrgood = true ∧ (devOf (exec .pwrgoodFall (st Dev.reset))).pins.pwrgood = false := by decide +kernel

theorem test_met_WarmResetCauses :
    Dev.reset.pins.resetN = true ∧ (devOf (exec (.resetNFall 0) (st up))).pins.resetN = false ∧ up.pins.refclk = true ∧
    up.pins.pwrgood = true ∧ (devOf (exec .refclkLost (st up))).pins.refclk = false := by decide +kernel

theorem test_met_MemoryRequestsArrive :
    (memRow (.wr64 hdr 0 0)).map (fun x => (x.1, x.2.1, x.2.2.1, x.2.2.2.1)) = some (hdr, .wr, 3, 5) ∧
    (port0 {} false).port 0 = {} ∧
    ((port0 { adapterUp := true, cr0 := 5 } true).port 0).adapterUp = true ∧
    (port0 { adapterUp := true, cr0 := 5 } true).fb Reg.HOSTPORT_LINK_STATUS_INIT_DONE 0 = true ∧
    ((port0 { adapterUp := true, cr0 := 5 } true).port 0).cr0 = 5 ∧
    ((port0 { adapterUp := true, cr0 := 4 } true).port 0).cr0 < 5 ∧
    (port0 { adapterUp := true, cr0 := 5 } false).fb Reg.HOSTPORT_LINK_STATUS_INIT_DONE 0 = false ∧
    ((port0 { adapterUp := true, cr0 := 15 } true).port 0).cr0 = 15 ∧
    (0x30#6).toNat ∈ [0x20, 0x21, 0x22, 0x23, 0x24, 0x25, 0x26, 0x30] ∧
    (9#6).toNat ∉ [1, 2, 3, 4, 5, 6, 7, 8, 0x10, 0x11, 0x20, 0x21, 0x22, 0x23, 0x24, 0x25, 0x26, 0x30] ∧
    (0x700000#64).toNat / 2 ^ 20 % 8 = 7 ∧ (6#64).toNat % 8 = 6 ∧ (7#64).toNat % 8 = 7 := by decide +kernel

/-- A port with one request waiting, and room for exactly one more. -/
def full0 (r : Req) (outst : List Nat) (limit : Nat) : Dev :=
  (port0 { adapterUp := true, ingress0 := [r], grant1 := 5, grant2 := 1, resv1 := 20480 - respSlots r.op, outst := outst,
           store := List.replicate 1023 (req .rd) } true).setF Reg.HOSTPORT_TAG_LIMIT_LIMIT limit 0

/-- The premises of an admission at port 0 of the request that waits there. -/
def admits (d : Dev) (r : Req) : Bool :=
  let p := d.port 0
  p.ingress0 == [r] && r.org == .host 0 5 && decide (5 ≤ p.grant1) && decide (1 ≤ p.grant2) && decide (p.resv1 + respSlots r.op ≤ 20480) &&
  decide (p.store.length + (d.fabric.voq.filter (fun c => c.src == 0 && c.net == 0)).length < 1024) && !(d.fb Reg.HEAT_STATUS_TRIPPED) &&
  (let load := (if p.paid.1 = d.time then p.paid.2 else 0) + (match r.op with
      | .rd | .rdNa | .wr | .wrm => 64
      | .atom _ => 16
      | _ => 0)
   (d.fv Reg.HEAT_STATUS_STEP != 3 || decide (load ≤ 10 * d.fv Reg.HEAT_HOST_LIMIT_GBPS)) &&
   (d.fv Reg.POWER_LADDER_STEP != 4 || decide (load ≤ 960)))

/-- Port 0 with a read waiting, in thermal step 3 with a limit of 96 or power step 4, and bytes already paid for in this period. -/
def paced (f : Fld) (step paid : Nat) : Dev :=
  (((full0 (req .rd) [] 6).modPort 0 (fun p => { p with paid := (0, paid) })).setF f step).setF Reg.HEAT_HOST_LIMIT_GBPS 96

theorem test_met_RequestsAreAdmitted :
    admits (paced Reg.HEAT_STATUS_STEP 3 896) (req .rd) = true ∧ (paced Reg.HEAT_STATUS_STEP 3 896).fv Reg.HEAT_STATUS_STEP = 3 ∧
    admits (paced Reg.POWER_LADDER_STEP 4 896) (req .rd) = true ∧ (paced Reg.POWER_LADDER_STEP 4 896).fv Reg.POWER_LADDER_STEP = 4 ∧
    admits (paced Reg.POWER_LADDER_STEP 4 960) (req .rd) = false ∧
    (admits (full0 (req .rd) [] 5) (req .rd) = true ∧ (full0 (req .rd) [] 5).fv Reg.HOSTPORT_TAG_LIMIT_LIMIT 0 = 5) ∧
    (admits (full0 (req .rd) [5] 6) (req .rd) = true ∧ (full0 (req .rd) [5] 6).fv Reg.HOSTPORT_TAG_LIMIT_LIMIT 0 = 6) ∧
    admits (full0 { req .wr with parOk := false } [] 6) { req .wr with parOk := false } = true ∧
    admits (full0 (req (.unknown 9 1)) [] 6) (req (.unknown 9 1)) = true ∧
    admits (full0 (req (.atom 7)) [] 6) (req (.atom 7)) = true ∧
    admits (full0 (req (.hint 6 1 0)) [] 6) (req (.hint 6 1 0)) = true ∧
    admits (full0 (req (.hint 7 1 0)) [] 6) (req (.hint 7 1 0)) = true ∧
    admits (full0 (req .fence) [4] 6) (req .fence) = true ∧
    ((full0 (req .rd) [] 6).memRefusal 0 = none ∧ (unit (full0 (req .rd) [] 6) 0x10 stFENCED).memRefusal 0 = some (1000, false)) ∧
    ((port0 {} true).port 0).ingress0 = [] ∧ ((port0 { ingress0 := [req .rd], grant1 := 4, grant2 := 1 } true).port 0).grant1 < 5 ∧
    ((port0 { ingress0 := [req .rd], grant1 := 5 } true).port 0).grant2 < 1 := by decide +kernel

def mode (m : Nat) : Dev := up.setF Reg.MODES_STATUS_MODE m

theorem test_met_ModeRefusalsOfMemoryRequests :
    (mode mdLAMPROOM).mode = mdLAMPROOM ∧ (up.modKs (fun k => { k with halted := true })).ks.halted = true ∧
    (up.setPhase 3).phase = 3 ∧ (up.setPhase 4).phase = 4 ∧
    ((unit up hauPage stFAILED).ust hauPage = stFAILED ∧ up.mode = mdRUN ∧ up.ks.halted = false ∧ up.phase = 0) ∧
    ((unit up hauPage stKINDLING).ust hauPage = stKINDLING ∧ (unit up hauPage stOFFLINE).ust hauPage = stOFFLINE ∧
      (unit up hauPage stDARK).ust hauPage = stDARK ∧ (unit up hauPage stRESETTING).ust hauPage = stRESETTING ∧
      up.ust hauPage ∉ [stOFFLINE, stDARK, stRESETTING, stKINDLING]) ∧
    (up.ust hauPage ≠ stFAILED ∧ (up.modSpace (fun p => { p with walking := true })).space.walking = true ∧
      (up.modSpace (fun p => { p with clearing := true })).space.clearing = true) ∧
    ((mode mdKINDLE).setF Reg.DEVICE_KINDLE_STATUS_STEP 13).kstep = 13 ∧
    (up.space.walking = false ∧ up.space.clearing = false ∧ (mode mdSHUTTERED).mode = mdSHUTTERED ∧ (up.setPhase 5).phase = 5) ∧
    ((mode mdDIM).mode = mdDIM ∧ (up.setPhase 2).phase = 2 ∧ (unit up 0x10 stFENCED).portSt 0 = stFENCED) := by decide +kernel

def rsp (id opc slots : Nat) (fence : Bool) : Resp := ⟨id, opc, 3, 5, 0, false, 0, 0, slots, 0, true, false, fence, true, false⟩

theorem test_met_ResponsesLeave :
    (let p := (port0 { resp1 := [rsp 1 0x20 5 false, rsp 2 0x22 1 true], have1 := 5 } true).port 0
     p.resp1.filter (fun r => !r.fence || !(p.resp1.any (fun q => q.id < r.id))) = [rsp 1 0x20 5 false] ∧
     respLen 0x20 = 5 ∧ p.have1 = 5) ∧
    ((port0 { resp1 := [rsp 1 0x20 5 false], have1 := 4 } true).port 0).have1 < respLen 0x20 ∧
    (port0 {} true).fb Reg.HOSTPORT_LINK_STATUS_INIT_DONE 0 = true ∧
    ((port0 { resp2 := [rsp 1 0x21 1 false], have2 := 1 } true).port 0).have2 = 1 ∧
    ((port0 { resp2 := [rsp 1 0x21 1 false] } true).port 0).have2 = 0 ∧ ((port0 {} true).port 0).resp1 = [] ∧
    (port0 {} false).fb Reg.HOSTPORT_LINK_STATUS_INIT_DONE 0 = false := by decide +kernel

def note (d : Dev) : Dev := { d with notice := { d.notice with evtFlight := [(5, 1)] } }
/-- Page 5's event is routed to port 0, or to port 1. -/
def routed (h : Nat) : Dev := note (up.wrReg 0x5020 (BitVec.ofNat 32 (h * 2 ^ 16)))

theorem test_met_EventsReachTheHost :
    up.notice.evtFlight.find? (fun e => e.1 == 5) = none ∧ (routed 0).notice.evtFlight.find? (fun e => e.1 == 5) = some (5, 1) ∧
    (routed 1).evtPort 5 = none ∧ (unit (routed 1) 0x11 stONLINE).evtPort 5 = some 1 ∧
    (unit (routed 1) 0x10 stONLINE).evtPort 5 = some 0 ∧
    ((unit (routed 1) 0x10 stONLINE).portSt 0 = stONLINE ∧ (unit (routed 1) 0x10 stONLINE).fb Reg.HOSTPORT_MGMT_MGMT_EN 0 = true) ∧
    ((port0 { evq := [⟨5, 1, false⟩] } true).port 0).evq.any (fun e => e.page == 5) = true ∧
    (List.replicate 63 (⟨6, 1, false⟩ : EvtEntry)).length < 64 ∧ ¬(List.replicate 64 (⟨6, 1, false⟩ : EvtEntry)).length < 64 ∧
    (((port0 { evq := [⟨5, 1, false⟩], have3 := 1 } true).port 0).evq = [⟨5, 1, false⟩] ∧
      ((port0 { evq := [⟨5, 1, false⟩], have3 := 1 } true).port 0).have3 = 1) ∧
    (port0 {} true).fb Reg.HOSTPORT_LINK_STATUS_INIT_DONE 0 = true ∧
    ((port0 { evq := [⟨5, 1, false⟩] } true).port 0).have3 = 0 ∧ ((port0 {} true).port 0).evq = [] ∧
    (port0 {} false).fb Reg.HOSTPORT_LINK_STATUS_INIT_DONE 0 = false := by decide +kernel

theorem test_met_LinksComeUp :
    ((unit up 0x10 stKINDLING).portSt 0 = stKINDLING ∧ (unit up 0x10 stFENCED).portSt 0 = stFENCED ∧ (up.port 0).adapterUp = false ∧
      (unit up 0x10 stKINDLING).fb Reg.MODES_STATUS_PADS_LATCHED = false ∧ up.pins.vddUcie = true ∧
      (unit up 0x10 stKINDLING).fb Reg.HOSTPORT_LINK_CTL_DISABLE 0 = false ∧ up.pins.refclk = true) ∧
    ((port0 { trainFails := 6 } false).port 0).trainFails < 7 ∧ ((port0 { trainFails := 7 } false).port 0).trainFails = 7 ∧
    addLanes (up.port 0).replTx (up.laneEntries 0 1 ++ []) = some [] ∧ (addLanes (up.port 0).replRx (up.laneEntries 0 0 ++ [0])).isSome = true ∧
    addLanes (up.port 0).replTx (up.laneEntries 0 1 ++ [0, 1, 2, 3, 4, 5]) = none ∧
    addLanes ((port0 { replTx := [0] } false).port 0).replTx [0] = some [0] ∧
    (up.setF Reg.HOSTPORT_LINK_STATUS_RATE 4 0).fv Reg.HOSTPORT_LINK_STATUS_RATE 0 = 4 ∧ up.fv Reg.HOSTPORT_LINK_STATUS_RATE 0 = 0 ∧
    (((port0 { adapterUp := true } false).port 0).adapterUp = true ∧ ((port0 { adapterUp := true } false).port 0).initRecv = false) ∧
    (bitsAt 0 45 45 = 0 ∧ bitsAt (BitVec.ofNat 80 (2 ^ 45)) 45 45 = 1 ∧ bitsAt (BitVec.ofNat 80 (2 ^ 45)) 14 0 = 0 ∧
      bitsAt (BitVec.ofNat 80 (2 ^ 45 + 1)) 14 0 = 1) := by decide +kernel

def cr0port : Dev := port0 { adapterUp := true, initRecv := true, resp1 := [rsp 1 0x20 5 false] } true

theorem test_met_CreditFlitsAndLostLinks :
    (cr0port.port 0).adapterUp = true ∧ (cr0port.port 0).initRecv = true ∧ cr0port.fb Reg.HOSTPORT_LINK_STATUS_INIT_DONE 0 = true ∧
    (flitOpc (2 ^ 186 + 2 ^ 16) 1 = 0x01 ∧ bitsAt (BitVec.ofNat 80 ((2 ^ 186 + 2 ^ 16) / 2 ^ 16)) 14 0 = 1 ∧
      bitsAt (BitVec.ofNat 80 ((2 ^ 186 + 2 ^ 16) / 2 ^ 16)) 45 45 = 0 ∧ checkSlots (2 ^ 186 + 2 ^ 16) 1 (0, 0) 15 1 0 = none ∧
      bitsAt (BitVec.ofNat 80 (2 ^ 186 / 2 ^ 16)) 14 0 = 0) ∧
    checkSlots 0 0 (0, 0) 15 1 0 = none ∧ checkSlots (3 * 2 ^ 186) 3 (0, 0) 15 1 0 = some (1, 3) ∧
    (up.port 0).adapterUp = false ∧ (cr0port.port 0).resp1 ≠ [] := by decide +kernel

theorem test_met_RegisterRequestsAreJudged :
    (isRegPage (0xFFF000 / 4096) || isWinPage (0xFFF000 / 4096)) = false ∧
    ((isRegPage 0 || isWinPage 0) = true ∧ 0x41 % 4 ≠ 0) ∧
    (up.mayWrite 1 0x5050 = false ∧ up.mayWrite 12 0x5050 = true) ∧
    (Dev.reset.isDark 9 = true ∧ Dev.reset.canAsk 9 = false ∧ up.isDark 9 = false) ∧
    (isRegPage 0x200 = true ∧ isUnitPage 0x200 = true ∧ isUnitPage 9 = false) ∧
    (isWinPage 0 = false ∧ regAt 0xFFC = none) ∧
    ((up.setLease lsFLASH ⟨hoTALLY, rkINTEGRITY, 0⟩).flashRead.2 = none ∧ (regAt 0x5064).isSome = true) ∧
    ((regAt 0x5050).isSome = true ∧ isWinPage 0x2000 = true ∧ isWinPage 0x1FFF = false) := by decide +kernel

theorem test_met_PortsMayWrite :
    up.fb Reg.HOSTPORT_MGMT_MGMT_EN 0 = true ∧ up.fb Reg.HOSTPORT_MGMT_MGMT_EN 1 = false ∧
    up.mayWrite 1 0xB800 = true ∧ up.mayWrite 1 0xB8FC = true ∧ up.mayWrite 1 0xB900 = false ∧ up.mayWrite 1 0x11044 = true ∧
    up.mayWrite 1 0x10044 = false := by decide +kernel

theorem test_met_FieldsTakeTheirWrites :
    pageGroups.any (fun g => g.regs.any (fun r => r.fields.any (fun f => f.acc == .rw) && (List.range 32).any (fun i =>
      r.fields.all (fun f => !(decide (f.lo ≤ i) && decide (i ≤ f.hi)))))) = true ∧
    regsHeader.any (fun r => r.fields.any (fun f => f.acc == .w1c)) = true ∧
    regsHeader.any (fun r => r.fields.any (fun f => f.acc == .ro)) = true := by decide +kernel

theorem test_met_RegisterRowsAsFirmware :
    regRow (.park 3 .firmware 0) = some (.firmware, 0x203054, 1, noObs) ∧ (Instr.park 3 .firmware 0).wellFormed = true ∧
    regRow (.rowRepair 3 (some (.firmware, 0)) ⟨true⟩) = some (.firmware, 0x203328, 0x80000000, { noObs with repair := ⟨true⟩ }) ∧
    up.fwRuns = true ∧ (up.setF Reg.DEVICE_KINDLE_STATUS_STEP 6).fwRuns = true ∧ (unit up 0x203 stONLINE).isDark 0x203 = false := by
  decide +kernel

/-- A port whose link serves and that has room for exactly one register request more. -/
def reg0 : Dev := port0 { adapterUp := true, cr2 := 1, resv2 := 31, have2 := 1, grant1 := 5, grant2 := 1 } true

theorem test_met_RegisterRowsAsPort :
    regRow (.tripAck (.port 0 31 true) 0) = some (.port 0 31 true, 0x6064, 1, noObs) ∧
    (let p := reg0.port 0
     p.adapterUp = true ∧ reg0.fb Reg.HOSTPORT_LINK_STATUS_INIT_DONE 0 = true ∧ p.cr2 = 1 ∧ p.ingress2 = [] ∧ p.wait2 = [] ∧ 5 ≤ p.grant1 ∧ 1 ≤ p.grant2 ∧
     p.fences = [] ∧
     p.ingress0.all (fun r => r.op != .fence) = true ∧ p.resv2 = 31 ∧ (31#12).toNat < 32 ∧ (31#12).toNat ∉ p.out2 ∧
     (let b := ((reg0.setPort 0 { p with resv2 := p.resv2 + 1, out2 := p.out2 ++ [31] }).sendCredits 0 0 1).creditCheck 0 p.have2 (p.resv2 + 1)
      b.mayWrite 0 0x6064 = true ∧ b.isDark 6 = false)) := by decide +kernel

/-- A register request of port 0 that is a write and has a number. -/
def rq : RegReq := { tag := 1, addr := 0x40, write := true, v := 0, parOk := true, before := 3 }

theorem test_met_RegisterReadsAndPlainWrites :
    up.fwRuns = true ∧
    (isRegPage 5 = true ∧ up.isDark 5 = false ∧ (regAt 0x5058).isSome = true ∧ up.pairCount 0x5058 = none ∧ isHiHalf 0x5058 = false) ∧
    ((regAt 0x40068).isSome = true ∧ up.pairCount 0x40068 = some 0) ∧
    (needsObs 0x5050 = false ∧ (regAt 0x5050).isSome = true ∧ needsObs 0x203328 = true) ∧
    (up.flashRead.2.isSome = true ∧ (unit up 0x100 stDARK).isDark 0x100 = true ∧ (unit up 0x100 stONLINE).isDark 0x100 = false) ∧
    ((65532 : Nat) < 65536 ∧ 65532 % 4 = 0) ∧
    (((port0 { oldWait2 := [rq], oldFences := [(req .fence, [])] } true).port 0).oldWait2 = [rq] ∧
      ((port0 { oldWait2 := [rq] } true).port 0).oldFences.any (fun f => f.1.id < rq.before) = false ∧
      [(req .fence, ([] : List Nat))].any (fun f => f.1.id < rq.before) = true ∧
      (reg0.port 0).oldWait2 = [] ∧ (reg0.port 0).wait2 = [] ∧ ((port0 { wait2 := [rq] } true).port 0).wait2 = [rq] ∧
      fenceBefore { (reg0.port 0) with wait2 := [rq], fences := [(req .fence, [])] } rq = true ∧
      fenceBefore ((port0 { wait2 := [rq] } true).port 0) rq = false ∧
      (reg0.port 0).ingress2 = [] ∧ ((port0 { ingress2 := [rq] } true).port 0).ingress2 = [rq] ∧
      ((reg0.port 0).resv2 < 32 ∧ 5 ≤ (reg0.port 0).grant1 ∧ 1 ≤ (reg0.port 0).grant2) ∧
      ¬((port0 { resv2 := 32 } true).port 0).resv2 < 32) := by decide +kernel

end Sys2Proof.Tests
end

