-- ==== Sys2Proof/Tests/WitnessMemory.lean ====
section
/-!
SUPPORT. Tests/WitnessMemory.lean: for the statements about the managed space, haulage, the shafts and the correction of their cells, states
and operands that meet the hypotheses of each clause, at the ends of their ranges.
-/
set_option Elab.async false
namespace Sys2Proof.Tests
open Sys2Proof.Machine

/-- Stack-only window 0 covers frames 0 to 7. -/
def win0 : Dev := (up.wrReg 0xA804 8).setF Reg.HAULAGE_SWj_CTL_EN 1 0 0
/-- The entry of frame 0 in slot 5 of shaft 2, with sector 0 in a given state. -/
def ent (sec : Nat) : Entry := (⟨true, 0, 2, 5, false, false, false, false, 3, 1, 0, 0⟩ : Entry).setSec 0 sec
/-- Frame 0 is born and resident, its shaft ONLINE. -/
def res0 (sec : Nat) : Dev := ((unit win0 0x202 stONLINE).setWay 0 (ent sec)).setBorn 0 true

/-- Port 0 with a read waiting for its lookup. -/
def asking (d : Dev) : Dev := d.setPort 0 { store := [req .rd], live := [0] }
/-- A lookup of the dispatcher that waits at bank 0. -/
def askDisp : Req := { id := 0, org := .desc 126, op := .rd, cls := 3, line := 9 }
/-- A request held for a busy frame, and a fill with a read that waits. -/
def held0 : Held := ⟨req .rd, .busy⟩
def filling (op : MOp) (org : Origin) : Fill := { frame := 0, sector := 0, port := 1, ops := [{ req op with org := org }] }

theorem test_met_LookupsAreServedInOrderOfKey :
    ((List.range 12).filterMap (fun h => up.bankHead h 0) = [] ∧ up.space.lookupQ = [] ∧
      (List.range 12).filterMap (fun h => (asking up).bankHead h 0) = [req .rd] ∧
      setOf (frameOfLine askDisp.line) % 32 = 0 ∧ (up.modSpace (fun p => { p with lookupQ := [askDisp] })).copyNext askDisp = true) ∧
    ((asking up).haulServes = true ∧ (asking up).pins.refclk = true ∧
      ((asking (unit up hauPage stFAILED)).haulServes = false ∧ (asking (unit up hauPage stFAILED)).ust hauPage = stFAILED) ∧
      ((asking (unit up hauPage stKINDLING)).haulServes = false ∧ (asking (unit up hauPage stKINDLING)).ust hauPage ≠ stFAILED)) ∧
    (let d := (res0 1).modHaul (fun p => { p with held := [held0] })
     d.haul.held.filter (fun x => !(d.haul.held.any (fun y => spansMeet y.req.span x.req.span && srcAtt y.req == srcAtt x.req &&
       decide (y.req.id < x.req.id))) && (d.tryHeld x).isSome) = [held0] ∧ d.haulServes = true ∧ d.haul.held[(0 : Fin 1024).val]? = some held0) ∧
    (let d := up.setFill 511 (some (filling .rd (.host 0 5)))
     d.haul.held.length ≤ (0 : Fin 1024).val ∧ d.fillWaiters[(0 : Fin 1024).val]? = some (511, req .rd) ∧
     d.fill 511 = some (filling .rd (.host 0 5))) ∧
    (let w : FlushWait := ⟨req (.flush false), 0, [0]⟩
     let d := up.modHaul (fun p => { p with flushes := [w] })
     d.haul.held.length + d.fillWaiters.length ≤ (0 : Fin 1024).val ∧ d.haul.flushes[(0 : Fin 1024).val]? = some w) ∧
    up.haul.held.length + up.fillWaiters.length + up.haul.flushes.length ≤ (1023 : Fin 1024).val := by decide +kernel

theorem test_met_FrameTableAnswersAccesses :
    up.isHole 0 = true ∧ (win0.isHole 7 = false ∧ win0.isHole 8 = true) ∧
    (win0.modSpace (fun p => { p with drains := [⟨0, [⟨0, 7, 0⟩], false⟩] })).isDraining 7 = true ∧
    (win0.isDraining 0 = false ∧ (win0.addLost 0).isLost 0 = true ∧ (win0.addLost 0).isDraining 0 = false ∧ (win0.addLost 0).isHole 0 = false) ∧
    (win0.isLost 0 = false ∧ (match win0.pairJudge (req .rd) false with | .serve => true | _ => false) = true ∧
      (match win0.pairJudge (req .wrm) true with | .serve => true | _ => false) = true ∧ win0.findWay 0 = none ∧ win0.isBorn 0 = false) ∧
    ((req .wrm).mask = 0 ∧ win0.stranded 0 = false ∧ win0.earlierLive (req .wrm) = false ∧
      (port0 { live := [0], spans := [(0, (req .rd).span)] } true).earlierLive { req .wrm with id := 1 } = true) ∧
    ((res0 1).findWay 0 = some 0 ∧ (res0 1).shaftSt 2 ≠ stFAILED ∧ (res0 1).isLost 0 = false ∧ (res0 1).way 0 = ent 1 ∧
      (res0 1).isHole 0 = false ∧ (res0 1).isDraining 0 = false ∧
      (req .rd).org = .host 0 5 ∧ (res0 1).haul.zfills.find? (fun z => z.frame == 0 && z.sector == sectorOfLine 9) = none) ∧
    ((ent secZERO).sec (sectorOfLine 9) = secZERO ∧ (ent secCLEAN).sec (sectorOfLine 9) = secCLEAN ∧
      (ent secDIRTY).sec (sectorOfLine 9) = secDIRTY) ∧
    (emptyMask { req .wr with mask := fullMask } = false ∧ emptyMask (req .wr) = false ∧ (res0 secZERO).moving 0 = none ∧
      (res0 secZERO).shaftShut 2 = none) := by decide +kernel

def fillOf (acks : Nat) (failed : Bool) : Fill := { frame := 0, sector := 0, port := 1, acks := acks, failed := failed }
def wbackOf (acks : Nat) (failed captured : Bool) : Wback := ⟨0, 0, 1, [], captured, acks, false, failed, .evict⟩

/-- A fill that has its first lines, dropped or not. -/
def filled (got : Nat) (drop : Bool) : Fill := { frame := 0, sector := 0, port := 1, got := List.range got, drop := drop }
/-- A line of a fill come in on port 1, or its error. -/
def came (res : Result) : Dev := (up.setFill 511 (some (filled 63 false))).modHaul (fun p => { p with farArrived := [(1, 511, 63, res)] })

theorem test_met_FillsAndWriteBacks :
    (up.haul.farArrived.find? (fun y => y.1 == 1) = none ∧
      ((came .poison).haul.farArrived.find? (fun y => y.1 == 1) = some (1, 511, 63, .poison) ∧
        (came .poison).fill 511 = some (filled 63 false) ∧ (came .poison).fill 510 = none) ∧
      ((came (.data 5 1)).haul.farArrived.find? (fun y => y.1 == 1) = some (1, 511, 63, .data 5 1)) ∧
      ((came (.error 1 0)).haul.farArrived.find? (fun y => y.1 == 1) = some (1, 511, 63, .error 1 0)) ∧
      ((filled 63 false).got ++ [63]).length = 64) ∧
    (up.fill 511 = none ∧ (up.setFill 511 (some (fillOf 63 false))).fill 511 = some (fillOf 63 false) ∧ (fillOf 63 false).drop = false ∧
      (fillOf 63 false).acks < (fillOf 63 false).need ∧ (fillOf 64 false).acks = (fillOf 64 false).need ∧
      (filled 64 true).drop = true ∧ (filled 64 true).got.length = 64 ∧ (filled 63 true).got.length ≠ 64) := by decide +kernel

theorem test_met_FillsAndWriteBacks_ends :
    ((fillOf 0 false).failed = false ∧ up.nacked (.fill 511) = false ∧ (fillOf 0 true).failed = true ∧
      ({ up with answers := [(.fill 511, .retry 1)] } : Dev).nacked (.fill 511) = true) ∧
    (up.wback 127 = none ∧ (up.setWback 127 (some (wbackOf 0 false false))).wback 127 = some (wbackOf 0 false false) ∧
      (wbackOf 0 false false).captured = false ∧ (up.takeAnswer (.wback 127)).isNone = true ∧
      (({ up with answers := [(.wback 127, .lines [(0, 0)])] } : Dev).takeAnswer (.wback 127)).map (·.1) = some (.lines [(0, 0)]) ∧
      (({ up with answers := [(.wback 127, .poison)] } : Dev).takeAnswer (.wback 127)).map (·.1) = some .poison) ∧
    ((wbackOf 63 false true).acks < 64 ∧ (wbackOf 64 true true).failed = true ∧ (wbackOf 64 true true).captured = true ∧
      (wbackOf 64 false true).acks = 64 ∧ (wbackOf 64 false true).failed = false) := by decide +kernel

/-- Frame 0 is being evicted, at a step. -/
def evict0 (step : Nat) : Dev := (res0 secZERO).modHaul (fun p => { p with evicts := [⟨0, step, 0, false, 2, 5⟩] })
/-- Frame 0, dirty in sector 0 and in the far window of port 1, is being evicted after some repeats. -/
def evictDirty (repeats : Nat) : Dev :=
  ((((up.wrReg 0xA404 0x3FFFFFF).setF Reg.HAULAGE_FWk_CTL_PORT 1).setF Reg.HAULAGE_FWk_CTL_EN 1).setWay 0 (ent secDIRTY)).modHaul (fun p =>
    { p with evicts := [⟨0, 3, repeats, false, 2, 5⟩] })
/-- Shaft 2 ONLINE, and far port 1 serving in CXL role. -/
def far1 : Dev :=
  (((unit (unit up 0x202 stONLINE) 0x21 stONLINE).setF Reg.FARPORT_STATUS_ACTIVE_ROLE 1 1).setF Reg.FARPORT_STATUS_STAGE 5 1).setF
    Reg.FARPORT_CXL_STATUS_MEM_EN 1 1
/-- Every way of set 0 is taken, all of them dirty and in a far window whose port serves. -/
def set0 : Dev :=
  (List.range 18).foldl (fun (d : Dev) w => d.setWay w { ent secDIRTY with tag := w })
    (((far1.wrReg 0xA404 0x3FFFFFF).setF Reg.HAULAGE_FWk_CTL_PORT 1).setF Reg.HAULAGE_FWk_CTL_EN 1)

theorem test_met_EvictionsShootdownsAndAges :
    (up.haul.evicts.find? (fun x => x.frame == 0) = none ∧
      (evict0 2).haul.evicts.find? (fun x => x.frame == 0) = some ⟨0, 2, 0, false, 2, 5⟩ ∧ (evict0 2).entry 0 = some (ent secZERO) ∧
      (ent secZERO).needsWb = false ∧ (evict0 2).jobOf 0 = none ∧ (evict0 2).mirrorPending 0 = false) ∧
    ([(⟨0, 2, 0, true, 2, 5⟩ : Evict)].find? (fun x => x.frame == 0) = some ⟨0, 2, 0, true, 2, 5⟩ ∧ (up.entry 0).isNone = true) ∧
    ((evict0 3).haul.shoots.any (fun h => h.frame == 0 && h.sector.isNone) = false ∧ (evict0 3).slotQuiet 2 5 = true ∧
      [(⟨0, none, 0, [3]⟩ : Shoot)].any (fun h => h.frame == 0 && h.sector.isNone) = true) ∧
    ((evictDirty 2).entry 0 = some (ent secDIRTY) ∧ (ent secDIRTY).needsWb = true ∧
      (evictDirty 2).haul.evicts.find? (fun x => x.frame == 0) = some ⟨0, 3, 2, false, 2, 5⟩ ∧
      (evictDirty 3).haul.evicts.find? (fun x => x.frame == 0) = some ⟨0, 3, 3, false, 2, 5⟩) ∧
    (let h : Shoot := ⟨0, none, 0, [3]⟩
     let k : Shoot := ⟨0, some 1, 0, [3]⟩
     [h, k].find? (fun h => h.waiting.contains 3 && h.sector.isSome == false) = some h ∧
     [h, k].find? (fun h => h.waiting.contains 3 && h.sector.isSome == true) = some k ∧
     [h, k].find? (fun h => h.waiting.contains 4 && h.sector.isSome == true) = none) ∧
    (set0.workStops = false ∧ set0.haulServes = true ∧ (set0.setF Reg.HAULAGE_FREE_CTL_PRECLEAN 1).fb Reg.HAULAGE_FREE_CTL_PRECLEAN = true ∧
      (∀ w < 18, (set0.way (wayKey 0 w)).valid = true) ∧ set0.haul.wbacks.length ≤ 96 ∧
      (((List.range 18).map (wayKey 0)).filter (fun k => set0.evictable k && (set0.way k).dcount == 0)).length < 2 ∧
      (set0.victim 0 (fun k => (set0.way k).dcount != 0)).isSome = true ∧ (unit set0 hauPage stFAILED).haulServes = false) ∧
    (up.workStops = false ∧ (up.modHaul (fun p => { p with geOn := true })).haul.geOn = true ∧
      (let d := (unit up 0x202 stONLINE).setRuns 2 [(0, 12287)]
       d.fv Reg.HAULAGE_FREE_CTL_LOW + 256 ≤ d.freeSlots) ∧
      set0.freeSlots < set0.fv Reg.HAULAGE_FREE_CTL_LOW + 256 ∧ (set0.victim 0 (fun _ => true)).isSome = true) ∧
    (let d := ((unit up 0x202 stONLINE).setRuns 2 [(7, 7)]).modSpace (fun p => { p with resvPend := [63] })
     let d : Dev := { d with notice := { d.notice with routeView := [(0x202, stONLINE, 0)] } }
     d.space.resvPend.contains 63 = true ∧ d.haulServes = true ∧ d.space.resv.getD 63 (0, 0) = (15, 12286) ∧
     d.mostFree (fun m => m != 15) = some 2 ∧ (d.takeSlot 2).map (·.1) = some 7) ∧
    (up.mostFree (fun m => m != 15) = none ∧ up.space.resvPend.contains 63 = false) := by decide +kernel

/-- A move of frame 0 from shaft 2 to shaft 4, at a step. -/
def mv0 (step : Nat) : Mv := { frame := 0, target := 4, srcShaft := 2, srcSlot := 5, dstSlot := 9, step := step, cause := .reg }
def moving0 (step : Nat) : Dev := (unit (res0 secCLEAN) 0x204 stONLINE).setMv 3 (some (mv0 step))
def wantMove : Dev :=
  let d := ((unit (res0 secCLEAN) 0x204 stONLINE).setRuns 4 [(9, 9)]).modHaul (fun p => { p with moveQ := [(0, 4, .reg)] })
  { d with notice := { d.notice with routeView := [(0x204, stONLINE, 0)] } }

theorem test_met_MovesDrainsAndWalks :
    ((up.setF Reg.MODES_STATUS_MODE mdLAMPROOM).workStops = false ∧ (up.setF Reg.HEAT_STATUS_TRIPPED 1).workStops = true ∧
      (unit up hauPage stFAILED).haulServes = false) ∧
    (wantMove.workStops = false ∧ wantMove.haulServes = true ∧ (∀ m < 48, wantMove.shaftSt m ≠ stEVACUATING) ∧
      wantMove.haul.moveQ.find? (fun q => !(((wantMove.entry q.1).map (·.busy)).getD false) && !(wantMove.mirrorPending q.1) &&
        !(wantMove.haul.zfills.any (fun z => z.frame == q.1))) = some (0, 4, .reg) ∧
      (List.range (wantMove.fv Reg.HAULAGE_MOVE_CTL_MAX_MOVES)).find? (fun c => (wantMove.mv c).isNone) = some 0 ∧
      wantMove.moveBar 0 = none ∧ wantMove.entry 0 = some (ent secCLEAN) ∧ (ent secCLEAN).shaft = 2 ∧ wantMove.shaftUp 4 = true ∧
      unreadable (wantMove.shaftSt 2) = false ∧ (wantMove.takeSlot 4).map (·.1) = some 9) ∧
    (wantMove.shaftUp 5 = false ∧ unreadable ((unit wantMove 0x202 stFAILED).shaftSt 2) = true ∧
      ((wantMove.setRuns 4 []).takeSlot 4).isNone = true ∧ (wantMove.entry 1).isNone = true ∧
      (wantMove.setBorn 1 true).moveBar 1 = none ∧ (wantMove.moveBar 9).isSome = true) ∧
    ((wantMove.allocate 1 61 bornEntry (fun m => m == 4)).isRight = true ∧
      ((wantMove.setRuns 4 []).allocate 1 61 bornEntry (fun m => m == 4)).isLeft = true) ∧
    ((moving0 3).mv 3 = some (mv0 3) ∧ (moving0 3).entry 0 = some (ent secCLEAN) ∧ ((moving0 3).moveRead 3).mv 2 = none ∧
      (((moving0 3).moveRead 3).mv 3).isSome = true) ∧
    ((moving0 4).haul.shoots.any (fun h => h.frame == 0) = false ∧ (mv0 4).failed = 0 ∧ (moving0 4).slotQuiet 2 5 = true ∧
      (moving0 4).slotQuiet 4 9 = true ∧ unreadable ((moving0 4).shaftSt 2) = false ∧
      (moving0 4).moveFail (mv0 4) = none ∧ (unit (moving0 3) 0x204 stFENCED).moveFail (mv0 3) = some 5) ∧
    (let d := up.modSpace (fun p => { p with walking := true, walkFrom := 32767 })
     d.space.walking = true ∧ (32767#15).toNat = d.space.walkFrom) ∧
    ((up.modSpace (fun p => { p with walking := true, walkFrom := 32768 })).space.walkFrom = 32768 ∧ up.space.walking = false) ∧
    (let d := up.modSpace (fun p => { p with drains := [⟨79, [⟨0, 7, 79⟩], false⟩] })
     d.space.drains.find? (fun y => y.win == 79) = some ⟨79, [⟨0, 7, 79⟩], false⟩ ∧ d.framesIn 0 7 = [] ∧
     (res0 secCLEAN).framesIn 0 7 ≠ []) := by decide +kernel

/-- Shaft 2 ONLINE and out of self-refresh, with the rest of its state. -/
def sh (p : ShaftSt) : Dev := ((unit up 0x202 stONLINE).setF Reg.SHAFT_STATUS_SELF_REFRESH 0 2).setShaft 2 p
/-- What shaft 2 does before it looks for a command. -/
def before (d : Dev) : Dev :=
  let c := ((d.modShaft 2 (fun p => { p with ck := p.ck + 1 })).cleanCmd 2).colStep 2
  let e := if c.mayTake 2 then (c.modShaft 2 (fun p => { p with first := false })).intake 2 else if c.freqBusy 2 then c.takeRepair 2 else c
  (e.serveBuffered 2).noteDrain 2
def winRd : WinE := { req := { req .rd with shaft := 2 }, next := 0, got := [], issued := false, credit := 1 }
def openRow (row : Nat) : Bank := ⟨some row, 0, 0, 0, 0, 0, 0⟩
def again2 (cmd : Cmd) : Issued := { cmd := cmd, ck := 900, till := 960, again := true, old := true, was := [] }

theorem test_met_ShaftControllersIssueCommands :
    (up.shaftSt 2 = stOFFLINE ∧ (up.fencedSR 2).ckRuns 2 = false ∧ up.pins.refclk = true ∧
      ({ sh {} with pins := { up.pins with refclk := false } } : Dev).pins.refclk = false) ∧
    ((sh {}).shaftSt 2 = stONLINE ∧ (sh {}).inSR 2 = false ∧ (sh {}).point 2 = 0 ∧ ((sh {}).fencedSR 2).ckRuns 2 = true) ∧
    (let a := before (sh { replay := [again2 .mrr], replayAt := 1001 })
     (a.shaft 2).replay = [again2 .mrr] ∧ (a.shaft 2).replayAt ≤ (a.shaft 2).ck ∧ a.replayLegal 2 .mrr = true) ∧
    ((let a := before (sh { replay := [again2 .mrr], replayAt := 1002 }); (a.shaft 2).ck < (a.shaft 2).replayAt) ∧
      (before (sh { replay := [again2 (.pre 4)], banks := [(4, ⟨some 7, 1000, 0, 0, 0, 0, 0⟩)] })).replayLegal 2 (.pre 4) = false) ∧
    (((before (sh { refDue := [0] })).dueCmd 2).isSome = true ∧ ((before (sh { refDue := [0] })).shaft 2).replay = []) ∧
    ((before (sh { banks := [(4, openRow 7)], idleDue := [4] })).dueCmd 2).isNone = true ∧
    (let a := before (sh { banks := [(4, openRow 7)], idleDue := [4] })
     (a.accessCmd 2).isNone = true ∧ (a.idleCmd 2).isSome = true) ∧
    (let a := before (sh { win := [winRd], banks := [(0, openRow 0)] })
     (a.dueCmd 2).isNone = true ∧ (a.accessCmd 2).isSome = true ∧ (a.shaft 2).replay = [] ∧
     (a.shaft 2).wants.any (fun w => bankOf w.line == 0) = true ∧ (a.bank 2 0).row = some 0) := by decide +kernel

theorem test_met_ShaftControllersIssueCommands_rows :
    (((sh {}).bank 2 4).row = none ∧ ((sh { banks := [(4, openRow 7)] }).bank 2 4).row = some 7 ∧
      (sh { banks := [(4, openRow 7)] }).rowWanted 2 4 = false ∧
      (sh { win := [winRd], banks := [(0, openRow 0)] }).rowWanted 2 0 = true ∧
      (sh { banks := [(4, openRow 7)] }).preLegal 2 4 = true ∧ ((sh { banks := [(4, openRow 7)] }).dueCmd 2).isNone = true ∧
      ((sh { banks := [(4, openRow 7)] }).accessCmd 2).isNone = true ∧
      (sh { banks := [(4, ⟨some 7, 1000, 0, 0, 0, 0, 0⟩)] }).preLegal 2 4 = false) ∧
    (up.refreshes 2 = false ∧ (sh {}).refreshes 2 = true) ∧
    (((sh { lowering := some 1, temp := some 60 }).shaft 2).lowering = some 1 ∧ ((sh {}).shaft 2).lowering = none) ∧
    ((sh {}).fb Reg.SHAFT_STATUS_TEMP_STALE 2 = false ∧ ((sh {}).setF Reg.SHAFT_STATUS_TEMP_STALE 1 2).fb Reg.SHAFT_STATUS_TEMP_STALE 2 = true) := by
  decide +kernel

def pre2 (again : Bool) : Issued := { cmd := .pre 2, ck := 950, till := 970, again := again, old := false, was := [] }
def retry2 (again : Bool) : List Issued := [{ cmd := .pre 1, ck := 900, till := 920, again := false, old := true, was := [] }, pre2 again]
def freq2 (step : Nat) (back : Bool) : FreqCh := ⟨step, 0, 0, 1, .firmware, 0, 0, back⟩

theorem test_met_ShaftsParkChangeSpeedAndFail :
    (((sh { retry := retry2 true }).shaft 2).retry[2 - 1 - (0 : Fin 32).val]? = some (pre2 true) ∧
      ((sh { retry := retry2 true }).setF Reg.SHAFT_ALERT_STATUS_CONSEC 2 2).fv Reg.SHAFT_ALERT_STATUS_CONSEC 2 = 2 ∧
      3 ≤ 2 + b2n (pre2 true).again ∧ 2 + b2n (pre2 false).again < 3 ∧
      (sh { retry := retry2 true }).inSR 2 = false ∧ ((sh {}).setF Reg.SHAFT_STATUS_SELF_REFRESH 1 2).inSR 2 = true) ∧
    ((sh {}).fb Reg.SHAFT_PARK_CTL_AUTO 2 = false ∧
      ((sh {}).setF Reg.SHAFT_PARK_CTL_AUTO 1 2).fb Reg.SHAFT_PARK_CTL_AUTO 2 = true ∧ (({} : ShaftSt).empty = true) ∧
      ({ win := [winRd] } : ShaftSt).empty = false ∧ (sh {}).isParked 2 = false) ∧
    (((sh {}).setF Reg.SHAFT_STATUS_PARKED 1 2).isParked 2 = true ∧ ((sh { localq := [req .rd] }).shaft 2).localq ≠ [] ∧
      (sh {}).fb Reg.HEAT_STATUS_TRIPPED = false ∧ ((sh {}).shaft 2).changeOnWake = false ∧
      ((sh {}).setF Reg.HEAT_STATUS_TRIPPED 1).fb Reg.HEAT_STATUS_TRIPPED = true) ∧
    ((sh {}).wantPoint 2 = (sh {}).point 2 ∧
      (sh { ceilP := 1, changeOnWake := true }).wantPoint 2 ≠ (sh { ceilP := 1, changeOnWake := true }).point 2) ∧
    (((sh { freq := some (freq2 1 false) }).shaft 2).freq = some (freq2 1 false) ∧ ((freq2 3 true).back = true ∧ (freq2 6 false).step = 6) ∧
      ({} : ShaftSt).quiesced = true ∧ ({ replay := retry2 true } : ShaftSt).quiesced = false ∧
      (sh {}).helperTaken 2 = false ∧ ((sh {}).setLease (lsHelper 2) ⟨hoSOFT, rkDIAG, 0⟩).helperTaken 2 = true) ∧
    ((unit up 0x202 stFENCED).shaftSt 2 = stFENCED ∧ (unit up 0x202 stTESTING).shaftSt 2 = stTESTING ∧
      ([req .rd].find? (fun r => !(fencedWork r)) = some (req .rd)) ∧
      [winRd].find? (fun w => !(fencedWork w.req) && (!w.issued || ([] : List RdFly).any (fun f => f.req.id == w.req.id && f.wait != 0 && f.stage == 0))) =
        some winRd) ∧
    ((unit up 0x202 stRESETTING).shaftSt 2 = stRESETTING ∧ (unit up 0x202 stDARK).shaftSt 2 = stDARK ∧ (sh {}).shaftSt 2 = stONLINE) := by
  decide +kernel

theorem test_met_DramLinesReadBackWhatWasWritten :
    up.memoriesWf = true ∧ (100663295 : Nat) < 100663296 ∧
    (let e := up.dramWrite 2 100663295 1 1 2
     e.dramLine 2 100663295 = 1 ∧ e.dramLine 2 100663294 = 0 ∧ e.dramLine 3 0 = 0 ∧ e.memoriesWf = true) := by decide +kernel

def fly2 (stage : Nat) (bad : BitVec 64) : RdFly := { req := { req .rd with shaft := 2 }, idx := 0, sline := 40969, data := 0, bad := bad, ovd := 0, ovm := 0, ovb := 0, stage := stage }
def clean2 : ReadObs := ⟨0, 0, 0⟩
def fails2 : ReadObs := ⟨1, 0, 0⟩
def track2 (s : Nat) : TrackE := ⟨4, 7, s, 3, 0⟩
/-- Shaft 2 with one burst in flight. -/
def flying (f : RdFly) : Dev := sh { fly := [f] }
/-- The same, frame 0 CLEAN in slot 5 of the shaft and in far window 0 of far port 1, whose link serves and whose first decoder covers it. -/
def farHeld (f : RdFly) : Dev :=
  let d := (flying f).setWay 0 { ent secCLEAN with farValid := true }
  let d := (((d.setF Reg.FARPORT_STATUS_ACTIVE_ROLE 1 1).setF Reg.FARPORT_STATUS_STAGE 5 1).setF Reg.FARPORT_CXL_STATUS_MEM_EN 1 1)
  let d := (((unit d 0x21 stONLINE).wrReg 0xA404 0x3FFFFFF).setF Reg.HAULAGE_FWk_CTL_PORT 1).setF Reg.HAULAGE_FWk_CTL_EN 1
  (d.setF Reg.FARPORT_HDMk_CTL_COMMITTED 1 1 0).setF Reg.FARPORT_HDMk_SIZE_UNITS 16 1 0
/-- The same, frame 0 in mirror window 0 and the partner up on far port 1. -/
def mirrored (f : RdFly) : Dev :=
  let d := ((unit (flying f) 0x21 stONLINE).setF Reg.FARPORT_STATUS_ACTIVE_ROLE 2 1).setF Reg.FARPORT_STATUS_STAGE 5 1
  let d := (d.setF Reg.PAIR_CTL_ROLE roleSECONDARY).setF Reg.PAIR_STATUS_PARTNER_UP 1
  (d.setF Reg.PAIR_MWj_CTL_EN 1 0 0).setF Reg.PAIR_MWj_SIZE_FRAMES 8 0 0
def voq2 : Cell := ⟨0, 0x12, 0, { req .rd with shaft := 2 }⟩

theorem test_met_ReadsReturnOrAreCorrected :
    ((flying (fly2 4 0)).nextBurst 2 = none ∧ (flying (fly2 3 0)).nextBurst 2 = some (fly2 3 0)) ∧
    (isPoison (fly2 0 fullMask).data (fly2 0 fullMask).bad = true ∧ clean2.corr = 0 ∧ clean2.bad = 0 ∧ clean2.unc = 0 ∧
      (0 : BitVec 64) ≠ fullMask) ∧
    (isPoison (fly2 0 0).data 0 = false ∧ ((0 : BitVec 64) ||| readFails clean2) &&& (fullMask ^^^ 0) = 0) ∧
    (((0 : BitVec 64) ||| readFails fails2) &&& (fullMask ^^^ 0) ≠ 0) ∧
    ((flying (fly2 0 0)).scrubIgnores 2 { fly2 0 0 with req := { req .rd with org := .scrub 0 } } = true ∧
      (flying (fly2 0 0)).scrubIgnores 2 (fly2 0 0) = false) ∧
    ((sh {}).farSource 2 (fly2 3 0) = none ∧ (sh {}).pairSource (fly2 3 0) = none ∧
      (farHeld (fly2 3 0)).farSource 2 (fly2 3 0) = some 1 ∧
      (List.range 8).any (fun k => (farHeld (fly2 3 0)).hdmCovers 1 k ((farHeld (fly2 3 0)).farLineOf (fly2 3 0).host)) = true ∧
      (mirrored (fly2 3 0)).farSource 2 (fly2 3 0) = none ∧ (mirrored (fly2 3 0)).pairSource (fly2 3 0) = some 1) ∧
    ([fly2 3 0].find? (fun f => 4 ≤ f.stage) = none ∧ [fly2 4 0].find? (fun f => 4 ≤ f.stage) = some (fly2 4 0) ∧ up.ks.gdr = none ∧
      ((flying (fly2 4 0)).dropCorr 2 (fly2 4 0)).pairSource (fly2 4 0) = none ∧
      ((mirrored (fly2 4 0)).dropCorr 2 (fly2 4 0)).pairSource (fly2 4 0) = some 1 ∧ (fly2 5 0).stage = 5) ∧
    (badBytes 0 (lineParity 0) = 0 ∧ badBytes 0 0 ≠ 0 ∧ [fly2 4 0].find? (fun f => 4 ≤ f.stage && f.sline == 40969) = some (fly2 4 0) ∧
      [fly2 4 0].find? (fun f => 4 ≤ f.stage && f.sline == 9) = none) := by decide +kernel

theorem test_met_ReadsReturnOrAreCorrected_rest :
    ((2 : Fin 48).val = 4 * (0 : Fin 12).val + (2 : Fin 4).val ∧ (47 : Fin 48).val = 4 * (11 : Fin 12).val + (3 : Fin 4).val ∧
      ((sh {}).setF Reg.SHAFT_SCRUB_CTL_EN 1 2).scrubs 2 = true ∧ ((sh {}).setF Reg.SHAFT_SCRUB_CTL_EN 0 2).scrubs 2 = false ∧
      ((sh { scrubLeft := 1 }).shaft 2).scrubLeft ≠ 0 ∧ ((sh {}).askLease (lsHelper 2) hoSCRUB rkINTEGRITY).1 = true) ∧
    (((sh { tracker := [track2 2, track2 1] }).shaft 2).tracker[(0 : Fin 128).val]? = some (track2 2) ∧ (track2 1).st ≠ 2 ∧
      ((sh {}).shaft 2).tracker[(127 : Fin 128).val]? = none) ∧
    ([track2 2].find? (fun t => t.st == 2) = some (track2 2) ∧ [track2 1].find? (fun t => t.st == 2) = none ∧
      ((sh {}).setF Reg.SHAFT_TRACK_CTL_AUTO_REPAIR 1 2).fb Reg.SHAFT_TRACK_CTL_AUTO_REPAIR 2 = true ∧ (sh {}).shaftSt 2 ≠ stTESTING ∧
      ((sh {}).shaft 2).rep = none ∧ ((sh {}).shaft 2).colRun = none ∧ ((sh {}).shaft 2).alertFenced = false) ∧
    ((sh { rowMap := (List.range 64).map (fun i => (4, 100 + i, i)) }).usedRows 2 4 = 64 ∧
      (sh { rowMap := (List.range 63).map (fun i => (4, 100 + i, i)) }).usedRows 2 4 = 63 ∧ (unit (sh {}) 0x202 stKINDLING).shaftSt 2 = stKINDLING) ∧
    (let d : Dev := { sh {} with fabric := { voq := [voq2] } }
     d.fabric.faulted = false ∧ d.pins.spineOn = true ∧ d.pins.refclk = true ∧ (0x12 : BitVec 7).toNat = 0x10 + 2 ∧
     isAtt (0x41 : BitVec 7).toNat = true ∧
     (heads 0 0x12 [] (d.takeShare 2).fabric.voq).filter (fun c => ((d.takeShare 2).creditFor 2 c.req).isSome) = [voq2] ∧
     (heads 0 0x12 [] ((sh {}).takeShare 2).fabric.voq) = [] ∧
     d.fabric.voq.any (fun c => c.src == 0 && c.dst == 0x12) = true ∧ up.fabric.voq.any (fun c => c.src == 0 && c.dst == 0x12) = false) ∧
    ((((port0 { wait2 := [{ tag := 1, addr := 0x5058, write := false, v := 0, parOk := true, before := 3 }] } true).port 0).wait2 ++
      ((port0 {} true).port 0).ingress2).any (fun q => attOfPage (q.addr / 4096) == attOfPage 5) = true) := by decide +kernel

end Sys2Proof.Tests
end

