-- ==== Sys2Proof/Tests/WitnessSystem.lean ====
section
/-!
SUPPORT. Tests/WitnessSystem.lean: for the statements about units, start-up, modes, heat, test access, the tally and the fuses, states and
operands that meet the hypotheses of each clause, at the ends of their ranges.
-/
set_option Elab.async false
namespace Sys2Proof.Tests
open Sys2Proof.Machine

def testing (kind page : Nat) : Dev := { unit up page stTESTING with stest := { kind := kind, left := [page] } }

theorem test_met_UnitsResetEvacuateAndTest :
    ((unit up 0x202 stRESETTING).ust 0x202 = stRESETTING ∧ up.ust 0x202 ≠ stRESETTING ∧ unitOf 5 = none ∧ up.pins.refclk = true ∧
      ({ up with pins := { up.pins with refclk := false } } : Dev).pins.refclk = false ∧ BringUp.online ≠ .failed) ∧
    (unitOf 0x202 = some (.shaft 2) ∧ unitOf 0x103 = some (.engine 3) ∧ unitOf 0x1B = some (.host 11) ∧ unitOf 0x23 = some (.far 3) ∧
      unitOf 0x0A = some .haulage ∧ unitOf 0x0B = some .dispatcher) ∧
    (({ up with notice := { up.notice with stateFlight := [(0x202, 2, 1)] } } : Dev).notice.stateFlight = [(0x202, 2, 1)] ∧
      up.notice.stateFlight = [] ∧ up.pins.mgmtOn = true ∧ ({ up with pins := { up.pins with mgmtOn := false } } : Dev).pins.mgmtOn = false) ∧
    ((unit up 0x202 stEVACUATING).shaftSt 2 = stEVACUATING ∧
      ((unit up 0x202 stEVACUATING).space.ways.any (fun e => e.2.valid && e.2.shaft == 2) ||
        (unit up 0x202 stEVACUATING).haul.evicts.any (fun x => x.shaft == 2) ||
        (unit up 0x202 stEVACUATING).space.resvPend.any (fun i => ((unit up 0x202 stEVACUATING).space.resv.getD i (0, 0)).1 == 2)) = false) ∧
    ((up.modHaul (fun p => { p with shoots := [⟨0, none, 0, [3]⟩] })).haul.shoots.any (fun h => h.frame == 0 && h.waiting.contains 3) = true ∧
      up.haul.shoots.any (fun h => h.frame == 0 && h.waiting.contains 3) = false) ∧
    ((up.eng 3).run = none ∧ ((eng3 {}).eng 3).run = some (run 2) ∧ ({ run 2 with ending := some (stTIMEOUT, 0, 2) } : Run).ending.isSome = true ∧
      (eng3 {}).engSt 3 ≠ stDARK ∧ (eng3 {}).engSt 3 ≠ stRESETTING ∧ stDONE ≠ stTIMEOUT ∧ stDONE ≠ stABORTED ∧
      (unit (eng3 {}) 0x103 stDARK).engSt 3 = stDARK) ∧
    ((testing 1 0x202).stest.left.contains 0x202 = true ∧ (testing 1 0x202).stest.kind = 1 ∧ (testing 3 0x202).stest.kind = 3 ∧
      ((testing 1 0x202).repairAll (.shaft 2) []).2 = true ∧ ((testing 1 0x202).repairAll (.shaft 2) [.logic]).2 = false ∧
      ((testing 1 0x103).repairAll (.engine 3) []).2 = true ∧
      (let x := ((testing 1 0x202).setF Reg.CALREF_STATUS_IMP_VALID 1).repairAll (.shaft 2) [.column 0]
       x.2 = true ∧ (x.1.trainRun 2 []).fv Reg.SHAFT_TRAIN_STATUS_RESULT 2 ≠ 3)) ∧
    ((testing 5 0x1B).stest.left.contains 0x1B = true ∧ (testing 5 0x1B).stest.kind = 5 ∧ up.stest.left.contains 0x1B = false ∧
      ((testing 5 0x1B).repairAll (.host 11) [.hostLane true 0]).2 = true ∧ ((testing 5 0x1B).repairAll (.host 11) [.logic]).2 = false) := by
  decide +kernel

/-- Start-up at a step. -/
def kin (k : Nat) : Dev := Dev.reset.setF Reg.DEVICE_KINDLE_STATUS_STEP k
/-- Step 6 with a fuse alarm whose action is `act`. -/
def alarm (act : Nat) : Dev :=
  ((kin 6).modFuse (fun q => { q with ovr := [(wCONFIG, some (BitVec.ofNat 32 (0x200 + act)))] })).setF Reg.FUSES_ALARM_DIGEST_MISMATCH 1
def gdr (step : Nat) : Dev := up.setGdr (some ⟨step, false, 0, 0, 0⟩)

theorem test_met_KindleAndGroundDieReset :
    ((kin 1).kindleRuns = true ∧ up.kindleRuns = false ∧ (kin 16).fv Reg.DEVICE_KINDLE_STATUS_STEP = 16 ∧
      (kin 15).fv Reg.DEVICE_KINDLE_STATUS_STEP = 15 ∧ (kin 15).kindleRuns = true) ∧
    (((kin 5).bootLoad 3).2 = false) ∧
    (∀ k : Fin 17, (kin k.val).fv Reg.DEVICE_KINDLE_STATUS_STEP = k.val ∧ (kin k.val).kindleRuns = true) ∧
    ((alarm 2).fuseAction = some 2 ∧ (alarm 0).fuseAction = some 0 ∧ (alarm 1).fuseAction = some 1) ∧
    ((let t := ((kin 6).setF Reg.DEVICE_WDOG_CTL_EN 1).modKs (fun q => { q with wdogFrom := (kin 6).time })
      t.fuseAction = none ∧ t.fuseAction ≠ some 2)) ∧
    ((kin 12).space.walking = false ∧ ((kin 12).modSpace (fun p => { p with walking := true })).space.walking = true) ∧
    ((kin 5).fv Reg.DEVICE_KINDLE_STATUS_STEP < 6 ∧ (kin 6).fv Reg.DEVICE_KINDLE_STATUS_STEP = 6) ∧
    (up.pins.pwrgood = true ∧ up.pins.spineOn = true ∧ up.pins.refclk = true ∧ (kin 5).mode = mdKINDLE ∧ ({ up with pins := { up.pins with spineOn := false } } : Dev).pins.spineOn = false) ∧
    ((up.setF Reg.MODES_STATUS_MODE mdSHUTTERED).mode = mdSHUTTERED ∧ (up.setPhase 9).phase = 9 ∧ (up.setPhase 8).phase = 8 ∧
      (up.setPhase 5).phase = 5 ∧ (up.setPhase 4).phase = 4 ∧ up.ks.gdr = none ∧ up.mode ≠ mdKINDLE) ∧
    (∀ k : Fin 8, (gdr k.val).ks.gdr = some ⟨k.val, false, 0, 0, 0⟩ ∧ (gdr k.val).mode ≠ mdKINDLE ∧ (gdr k.val).phase = 0) ∧
    ((gdr 6).space.walking = false ∧ ((gdr 6).modSpace (fun p => { p with walking := true })).space.walking = true) := by decide +kernel

/-- A shaft group changing; a fuse word burning or not. -/
def phase (p : Nat) : Dev := up.setPhase p
def exitAt (k : Nat) (doubled : Bool) : Dev := (phase 11).modMs (fun m => { m with exit := k, doubled := doubled })
def sh2 (p : ShaftSt) : Dev := (unit up 0x202 stONLINE).setShaft 2 p
def est0 : PowerObs := ⟨1000, 100, 500, 200, 200, 100⟩

theorem test_met_ModesChangeAndPowerIsCapped :
    (up.ms.group = [] ∧ (up.modMs (fun m => { m with group := [2, 3] })).ms.group.any (fun n => up.freqBusy n) = false ∧
      (sh2 {}).freqBusy 2 = false ∧ (sh2 { freq := some ⟨1, 0, 0, 1, .firmware, 0, 0, false⟩ }).freqBusy 2 = true) ∧
    (((phase 1).modMs (fun m => { m with group := [2] })).nextGroup.ms.group = [] ∧
      ((phase 1).modMs (fun m => { m with group := [2] })).nextGroup.phase = 1 ∧
      ((phase 2).modMs (fun m => { m with group := [2] })).nextGroup.phase = 2) ∧
    ((phase 3).phase = 3 ∧ (phase 3).ports.all (fun e => e.2.live.isEmpty && e.2.oldIds.isEmpty) = true ∧
      (port0 { live := [1] } true).ports.all (fun e => e.2.live.isEmpty && e.2.oldIds.isEmpty) = false) ∧
    ((phase 4).phase < 5 ∧ 10 < (phase 11).phase ∧ (phase 10).phase = 10 ∧ (phase 5).stage1Over = true ∧
      ({ phase 5 with calBusy := (0, 2) } : Dev).stage1Over = false ∧ (∀ k : Fin 4, (phase (k.val + 6)).phase = k.val + 6) ∧ (phase 6).stage2Over = true ∧
      ((phase 6).modPair (fun p => { p with lagQ := [(9, 3, 0)] })).stage2Over = false) ∧
    (((phase 5).modMs (fun m => { m with wake := true })).ms.wake = true ∧ (phase 5).ms.wake = false ∧
      (List.range 48).any (fun n => (phase 8).freqBusy n) = false ∧
      (phase 8).awake.any (fun n => ((phase 8).shaft n).rep.isSome || ((phase 8).shaft n).colRun.isSome || !((phase 8).shaft n).replay.isEmpty) =
        false ∧
      (let d := ((sh2 { rep := some { bank := 0, row := 0, spare := 0, done := true, fw := true } }).setF Reg.SHAFT_STATUS_SELF_REFRESH 0 2).setPhase 8
       (d.awake.any (fun n => (d.shaft n).rep.isSome) = true))) ∧
    (((phase 5).setF Reg.MODES_WAKE_STATUS_LEVEL 1).fb Reg.MODES_WAKE_STATUS_LEVEL = true ∧ (phase 5).fb Reg.MODES_WAKE_STATUS_LEVEL = false ∧
      (up.setF Reg.MODES_STATUS_MODE mdSHUTTERED).mode = mdSHUTTERED ∧ up.phase = 0 ∧
      ({ up with pins := { up.pins with pwrgood := false } } : Dev).pins.pwrgood = false) ∧
    ((exitAt 1 false).phase = 11 ∧ (exitAt 1 false).pins.refclk = true ∧ (∀ k : Fin 10, (exitAt k.val false).ms.exit = k.val) ∧
      ((exitAt 8 false).modSpace (fun p => { p with walking := true })).space.walking = true ∧ (exitAt 7 true).ms.exit = 7 ∧ (exitAt 8 false).ms.exit = 8 ∧ (exitAt 8 false).space.walking = false ∧
      (exitAt 7 true).ms.doubled = true ∧ (exitAt 0 false).ms.exit = 0) ∧
    (let d := up.setF Reg.POWER_CAP_CTL_EN 0
     d.fb Reg.POWER_CAP_CTL_EN = false ∧ d.mode ≠ mdSHUTTERED ∧ d.mode ≠ mdKINDLE ∧
     d.pins.pwrgood = true ∧
     min 4095 (est0.dram + est0.refStatic + est0.engine + est0.logic + est0.host + est0.far) ≤ 10 * d.fv Reg.POWER_CAP_CTL_PEAK_W) := by
  decide +kernel

/-- The block in RUN with the power cap on, at a number of watts. -/
def capped (w : Nat) : Dev := ((up.setF Reg.POWER_CAP_CTL_EN 1).setF Reg.POWER_CAP_CTL_CAP_W w).setF Reg.POWER_CAP_CTL_PEAK_W 400

theorem test_met_PowerIsCapped :
    ((kin 6).kstep < 7 ∧ (kin 6).mode = mdKINDLE ∧ (capped 210).pins.pwrgood = true ∧ (capped 210).mode ≠ mdSHUTTERED ∧
      (capped 210).mode ≠ mdKINDLE ∧ (capped 210).phase < 5 ∧ (capped 210).fb Reg.POWER_CAP_CTL_EN = true) ∧
    (let e := min 4095 (est0.dram + est0.refStatic + est0.engine + est0.logic + est0.host + est0.far)
     e = 2100 ∧ e ≤ 10 * (capped 210).fv Reg.POWER_CAP_CTL_CAP_W ∧ 10 * (capped 209).fv Reg.POWER_CAP_CTL_CAP_W < e) := by decide +kernel

def inRound (k : Nat) : Dev := { up with heat := { up.heat with round := k } }
def dieOf (x : DieSt) : Dev := up.modDie 13 (fun _ => x)

theorem test_met_TemperaturesAndTestPort :
    (sget (fun _ => none) ({ up with heat := { up.heat with due := [(47, some 800)] } } : Dev).heat.due 47 = some 800 ∧
      sget (fun _ => none) up.heat.due 47 = none) ∧
    (up.roundsRun = true ∧ up.heat.round = 0 ∧ (inRound 14).heat.round = 14 ∧ (kin 7).fv Reg.DEVICE_KINDLE_STATUS_STEP < 8 ∧
      (kin 7).roundsRun = true ∧ (kin 8).fv Reg.DEVICE_KINDLE_STATUS_STEP = 8) ∧
    (up.leaseHeld lsCONV = false ∧ (up.setLease lsCONV ⟨hoCALIB, rkINTEGRITY, 0⟩).leaseHeld lsCONV = true ∧
      ((up.setLease lsCONV ⟨hoCALIB, rkINTEGRITY, 0⟩).lease lsCONV).rank ≠ rkDIAG ∧
      ((up.setLease lsCONV ⟨hoSOFT, rkDIAG, 0⟩).lease lsCONV).rank = rkDIAG ∧ (up.setLease lsCONV ⟨hoSOFT, rkDIAG, 0⟩).leaseHeld lsCONV = true) ∧
    ((inRound 1).roundsRun = true ∧ (-641 : Int) < -640 ∧ (2400 : Int) < 2401 ∧ (-640 : Int) ≤ -640 ∧ isS16 (-641) = true) ∧
    (up.heatOn = true ∧ ({ up with pins := { up.pins with refclk := false } } : Dev).heatOn = false) ∧
    (((dieOf { rateHold := true }).die 13).rateHold = true ∧ ((dieOf { rateHold := true }).die 13).warnRun = 0 ∧
      ((dieOf { rateHold := true, warnRun := 1 }).die 13).warnRun = 1) ∧
    ((((dieOf { demand := 1, e := 400 }).die 13).demand = 1 ∧ (dieOf { demand := 1 }).dieBit Reg.HEAT_STALE_DIES 13 = false) ∧
      (400 : Int) < (16 * (dieOf { demand := 1 }).limit 13 1 : Nat) - (32 : Int) ∧
      (16 * (dieOf { demand := 1 }).limit 13 1 : Nat) - (32 : Int) ≤ 4000) ∧
    (up.tapOn = true ∧ (up.setF Reg.MODES_STATUS_MODE mdSHUTTERED).tapOn = false ∧ up.tapChain = 1 ∧
      ({ up with pins := { up.pins with resetN := false } } : Dev).tapChain = 14 ∧
      ({ up with pins := { up.pins with resetN := false } } : Dev).tapOn = true ∧
      ((up.setF Reg.MODES_STATUS_MODE mdLAMPROOM).setF Reg.SELFTEST_TAP_CTL_TEST_EN 1).tapChain = 14) ∧
    (up.pins.vddaFar = true ∧ up.pins.pwrgood = true ∧ up.mode ≠ mdSHUTTERED ∧
      ({ up with pins := { up.pins with vddUcie := false } } : Dev).pins.vddUcie = false) := by decide +kernel

def tally (t : TallySt) : Dev := { up with tally := t }
def recSev (sev : Nat) : TRec := ⟨0x105, 2, sev, 0, 0, 0, 0⟩
def head (n : Nat) : Dev := up.setF Reg.TALLY_HEAD_SEQ n

theorem test_met_TallyFlashAndFuseHours :
    ((tally { arriving := [recSev 3] }).tally.arriving = [recSev 3] ∧ (recSev 3).sev < 4 ∧ (recSev 3).code ≠ cSNAPSHOT ∧
      (List.replicate 16 (recSev 3)).length = 16 ∧ ((tally { pads := 1 }).tally.pads = 1) ∧
      (⟨cSNAPSHOT, pgTALLY, sevINFO, 2, 0, 0, 0⟩ : TRec).code = cSNAPSHOT ∧ (tally { queue := List.replicate 16 (recSev 3), pads := 1 }).tally.pads ≠ 0 ∧
      up.tally.arriving = []) ∧
    ((up.setF Reg.TALLY_SNAP_STATUS_FROZEN 1).fb Reg.TALLY_SNAP_STATUS_FROZEN = true ∧ up.fb Reg.TALLY_SNAP_STATUS_FROZEN = false) ∧
    (up.fv Reg.TALLY_RATE_CTL_BURST ≤ sget (fun _ => 0) (tally { used := [(0x105, up.fv Reg.TALLY_RATE_CTL_BURST)] }).tally.used 0x105 ∧
      ¬up.fv Reg.TALLY_RATE_CTL_BURST ≤ sget (fun _ => 0) (tally { used := [(0x105, up.fv Reg.TALLY_RATE_CTL_BURST - 1)] }).tally.used 0x105) ∧
    ((tally { queue := [recSev 4] }).tally.queue = [recSev 4] ∧ (tally { queue := [recSev 4] }).tally.pads = 0 ∧
      (tally { pads := 2 }).tally.pads = 0 + 2) ∧
    ((head 8191).unflushed = 8191 ∧ (head 8191).fb Reg.TALLY_SNAP_CTL_CODE_EN = false ∧ (head 8191).fb Reg.TALLY_SNAP_CTL_SEV_EN = false) ∧
    (swf (fun _ => 0) ([(0x105, 3)] : Sparse Nat) = true) := by decide +kernel

theorem test_met_TallyFlashAndFuseHours_flash :
    ((head 127).unflushed = 127 ∧ (head 128).unflushed = 128 ∧ (head 128).pins.mgmtOn = true ∧ (head 128).tally.flushOp = none ∧
      (head 128).leaseHeld lsFLASH = false ∧ ((head 128).setLease lsFLASH ⟨hoHOSTFL, rkDIAG, 0⟩).leaseHeld lsFLASH = true) ∧
    ((tally { flushOp := some (0, 2047, true, false) }).tally.flushOp = some (0, 2047, true, false) ∧
      (tally { flushOp := some (0, 2047, false, true) }).tally.flushOp = some (0, 2047, false, true)) ∧
    ((tally { snapping := true }).tally.snapping = true ∧ up.tally.snapping = false ∧ up.tally.snapBlock = none ∧
      up.fb Reg.TALLY_SNAP_STATUS_FROZEN = false) ∧
    (up.pins.mgmtOn = true ∧ up.leaseHeld lsFLASH = false ∧ ({ up with pins := { up.pins with mgmtOn := false } } : Dev).pins.mgmtOn = false) ∧
    ((up.setF Reg.TALLY_SNAP_CTL_EXT_EN 1).fb Reg.TALLY_SNAP_CTL_EXT_EN = true ∧ (up.setF Reg.TALLY_SNAP_CTL_EXT_EN 0).fb Reg.TALLY_SNAP_CTL_EXT_EN = false ∧
      bitN ((up.setF Reg.CLASSES_URG_CTL_EN 0).fv Reg.CLASSES_URG_CTL_EN) 7 = false ∧
      bitN ((up.setF Reg.CLASSES_URG_CTL_EN 128).fv Reg.CLASSES_URG_CTL_EN) 7 = true) ∧
    (up.mode ≠ mdKINDLE ∧ (kin 6).mode = mdKINDLE ∧ (kin 6).fv Reg.DEVICE_KINDLE_STATUS_STEP < 7) ∧
    (let d := up.setF Reg.TALLY_TIME_HOURS 64
     d.hoursThermo.1 = 0 ∧ d.hoursThermo.1 < d.fv Reg.TALLY_TIME_HOURS / 64 ∧ d.fuse.job = none ∧ d.leaseHeld lsFUSE = false ∧
     (d.setLease lsFUSE ⟨hoRESENSE, rkSERVICE, 0⟩).leaseHeld lsFUSE = true ∧
     ¬(up.setF Reg.TALLY_TIME_HOURS 63).hoursThermo.1 < (up.setF Reg.TALLY_TIME_HOURS 63).fv Reg.TALLY_TIME_HOURS / 64) ∧
    ((up.setLease lsFUSE ⟨hoRESENSE, rkSERVICE, 0⟩).lease lsFUSE).holder = hoRESENSE ∧ (up.lease lsFUSE).holder ≠ hoRESENSE := by
  decide +kernel

end Sys2Proof.Tests
end

