-- ==== Sys2Proof/Tests/WitnessUnits.lean ====
section
/-!
SUPPORT. Tests/WitnessUnits.lean: for the statements about training, references, classes, the dispatcher, the far ports and the pair, states
and operands that meet the hypotheses of each clause, at the ends of their ranges.
-/
set_option Elab.async false
namespace Sys2Proof.Tests
open Sys2Proof.Machine

/-- Shaft 2 in a state of its page, with the rest of its state. -/
def shIn (st : Nat) (p : ShaftSt) : Dev := (unit up 0x202 st).setShaft 2 p
def goodTrain : TrainObs :=
  ⟨1, false, (0, 0, 0), (0, 0, 0), [(0, false, some (40, 90))], [(8, 0, some (90, 110))], some (0, 127), some (0, 255)⟩
/-- A run of the helper: the user pattern, on the array, one burst. -/
def helper1 : HelperRun := ⟨3, true, 1, 0⟩
/-- Shaft 2 with rounds on and out of self-refresh. -/
def rounds (p : ShaftSt) : Dev := ((shIn stONLINE p).setF Reg.SHAFT_RETRAIN_CTL_EN 1 2).setF Reg.SHAFT_STATUS_SELF_REFRESH 0 2

theorem test_met_TrainingAndRetraining :
    ((shIn stONLINE {}).shaft 2).train = none ∧
    (((shIn stONLINE { train := some ⟨true, 7, 1⟩ }).shaft 2).train = some ⟨true, 7, 1⟩ ∧
      ((shIn stKINDLING { train := some ⟨true, 6, 1⟩ }).shaft 2).train = some ⟨true, 6, 1⟩) ∧
    (({ goodTrain with tempMoves := 2 } : TrainObs).tempMoves.val = 2 ∧ goodTrain.tempMoves.val = 1 ∧
      ({ goodTrain with alertTwice := true } : TrainObs).alertTwice = true ∧ goodTrain.alertTwice = false) ∧
    ((List.range 8).any (fun k => (widths { goodTrain with lanes := [(8, 0, none)] } k).any (fun w => w.2.isNone)) = true ∧
      (List.range 8).all (fun k => !((widths goodTrain k).any (fun w => w.2.isNone))) = true) ∧
    (((shIn stONLINE { helper := some helper1 }).shaft 2).helper = some helper1 ∧ ((shIn stONLINE {}).shaft 2).helper = none) ∧
    ((shIn stFAILED {}).shaftSt 2 = stFAILED ∧ ((shIn stFAILED {}).setF Reg.SHAFT_RETRAIN_CTL_EN 1 2).fb Reg.SHAFT_RETRAIN_CTL_EN 2 = true) ∧
    ((rounds {}).roundsOn 2 = true ∧ ((rounds {}).shaft 2).roundOn = false ∧ ((rounds { roundOn := true }).shaft 2).roundOn = true ∧
      ((shIn stONLINE {}).setF Reg.SHAFT_RETRAIN_CTL_EN 0 2).roundsOn 2 = false ∧
      ((rounds {}).setF Reg.HEAT_STATUS_TRIPPED 1).roundsOn 2 = false) := by decide +kernel

theorem test_met_TrainingAndRetraining_touch :
    (let d := rounds { roundOn := true, subst := true, subAt := some 1000, touchAt := 36 }
     (d.shaft 2).roundOn = true ∧ d.roundsOn 2 = true ∧ d.inSR 2 = false ∧ (d.shaft 2).freq = none ∧ (d.shaft 2).parking = false ∧
     (d.shaft 2).subst = true ∧ (d.shaft 2).subAt = some 1000 ∧ (d.shaft 2).ck ≤ 1000 ∧ (d.shaft 2).touchAt = 36 ∧
     d.leaseHeld (lsHelper 2) = false ∧ (d.setLease (lsHelper 2) ⟨hoSOFT, rkDIAG, 0⟩).leaseHeld (lsHelper 2) = true) ∧
    (let d := rounds { roundOn := true, touchAt := 35, tapHit := true }
     (d.shaft 2).subst = false ∧ (d.shaft 2).empty = true ∧ (d.shaft 2).queued = [] ∧ (d.shaft 2).touchAt ≠ 36 ∧ (d.shaft 2).tapHit = true) ∧
    (({ roundOn := true } : ShaftSt).tapHit = false ∧ ({ roundOn := true, localq := [req .rd] } : ShaftSt).queued ≠ [] ∧
      (⟨true, true, true, true, (.stay, .stay, .stay), true⟩ : TouchObs).hit = true) := by decide +kernel

theorem test_met_ReferencesAndLeases :
    up.calMode = true ∧ ({ up with pins := { up.pins with mgmtOn := false } } : Dev).calMode = false ∧
    ((4#5).toNat = 4 ∧ (27#5).toNat = 27 ∧ (3#5).toNat < 4 ∧ 27 < (28#5).toNat ∧ (0#5).toNat = 0 ∧ (31#5).toNat = 31) ∧
    (up.calBusy.1 = 0 ∧ bitN up.calBusy.2 0 = false ∧ up.leaseHeld lsCONV = false ∧
      (up.setLease lsCONV ⟨hoTHERMAL, rkSAFETY, 0⟩).leaseHeld lsCONV = true) ∧
    (({ up with calBusy := (8, 0) } : Dev).calBusy.1 = 8 ∧ ({ up with calBusy := (7, 1) } : Dev).calBusy.1 ≠ 8) ∧
    (bitN ({ up with calBusy := (0, 1) } : Dev).calBusy.2 0 = true ∧ bitN ({ up with calBusy := (0, 2) } : Dev).calBusy.2 1 = true ∧
      bitN up.calBusy.2 1 = false) ∧
    ((up.setLease 33 ⟨hoSOFT, rkSERVICE, 0⟩).lease 33).holder = hoSOFT ∧ (up.lease 33).holder ≠ hoSOFT ∧ isLease 33 = true := by
  decide +kernel

theorem test_met_ClassesLevelsAndWaterline :
    ((up.modCls 5 (fun k => { k with sampled := true })).cls 5).sampled = true ∧ (up.cls 5).sampled = false ∧
    (up.cv Reg.CLASSTAB_MON_MODE 5 % 2 ≠ 1 ∨ up.cv Reg.CLASSTAB_MON_MODE 5 % 2 = 1) ∧
    ((up.setCv Reg.CLASSTAB_MON_MODE 5 1).cv Reg.CLASSTAB_MON_MODE 5 = 1 ∧ (up.setCv Reg.CLASSTAB_MON_MODE 5 2).cv Reg.CLASSTAB_MON_MODE 5 = 2) ∧
    (({ up with fabric := { voq := [⟨0, 0x12, 0, req .rd⟩] } } : Dev).fabric.voq[0]? = some ⟨0, 0x12, 0, req .rd⟩ ∧
      up.fabric.voq[0]? = none ∧ up.haul.held[0]? = none) ∧
    (((up.modHaul (fun p => { p with held := [⟨req .rd, .busy⟩] })).haul.held[0]? = some ⟨req .rd, .busy⟩) ∧
      ((port0 { store := [req .rd] } true).port 0).store[0]? = some (req .rd) ∧
      ((shIn stONLINE { collar := [(req .rd, false)], localq := [req .wr] }).shaft 2).collar[0]? = some (req .rd, false) ∧
      ((shIn stONLINE { collar := [(req .rd, false)], localq := [req .wr] }).shaft 2).localq[0]? = some (req .wr) ∧
      ((shIn stONLINE { win := [⟨req .rd, 0, [], false, 1, 0⟩] }).shaft 2).win[0]? = some ⟨req .rd, 0, [], false, 1, 0⟩) := by decide +kernel

theorem test_met_ClassesLevelsAndWaterline_more :
    (up.wlDue = false ∧ ({ up with wlDue := true } : Dev).wlDue = true) ∧
    ((up.modSpace (fun p => { p with lookupQ := [req .rd] })).space.lookupQ[0]? = some (req .rd) ∧ up.space.lookupQ[0]? = none ∧
      ((port0 { resp1 := [⟨1, 0x20, 3, 5, 0, false, 0, 0, 5, 0, true, false, false, true, false⟩] } true).port 0).resp1[0]? =
        some ⟨1, 0x20, 3, 5, 0, false, 0, 0, 5, 0, true, false, false, true, false⟩ ∧ (up.port 0).resp1[0]? = none ∧
      (up.port 0).store[0]? = none ∧ (up.shaft 2).collar[0]? = none ∧ (up.shaft 2).localq[0]? = none ∧ (up.shaft 2).win[0]? = none) ∧
    (let q : FarWait := ⟨.corr 2 1 0, false, 9, 0, 0, false⟩
     ((up.modFar 1 (fun p => { p with cxlQ := [q] })).far 1).cxlQ[0]? = some q ∧ (up.far 1).cxlQ[0]? = none ∧
     ((up.modFar 1 (fun p => { p with txQ := [{ mtype := 1 }] })).far 1).txQ[0 - 0]? = some { mtype := 1 } ∧ (up.far 1).txQ[0]? = none) ∧
    ((up.modDisp (fun q => { q with back := [job] })).disp.back[0]? = some job ∧ up.disp.back[0]? = none) := by decide +kernel

/-- The dispatcher ONLINE, and a job given back to be placed again; engine 3 ONLINE. -/
def disp (j : Job) : Dev := { unit (unit (unit up dispPage stONLINE) 0x103 stONLINE) 0x203 stONLINE with disp := { back := [j] } }
/-- A record of engine 3, sent or not. -/
def rec3 (sent : Bool) : Rec := ⟨3, 1, 7, 2 ^ 44, 3, 0, sent⟩

theorem test_met_JobsFromRingToRecord :
    ((({ up with answers := [(.desc 126, .retry 20)] } : Dev).takeAnswer (.desc (2 * 63))).map (·.1) = some (.retry 20) ∧
      ({ up with disp := { fetch := [(63, some ⟨none, none, false⟩)] } } : Dev).fetchOf 63 = some ⟨none, none, false⟩ ∧
      ({ up with disp := { fetch := [(63, some ⟨none, none, true⟩)] } } : Dev).fetchOf 63 = some ⟨none, none, true⟩ ∧ up.fetchOf 63 = none ∧
      (({ up with answers := [(.desc 127, .data 5 0)] } : Dev).takeAnswer (.desc (2 * 63 + 1))).map (·.1) = some (.data 5 0) ∧
      (({ up with answers := [(.desc 127, .data 5 0)] } : Dev).takeAnswer (.desc (2 * 63))).isNone = true ∧
      (({ up with answers := [(.desc 126, .poison)] } : Dev).takeAnswer (.desc 126)).map (·.1) = some .poison ∧
      (up.takeAnswer (.desc 126)).isNone = true) ∧
    ((disp job).dispOn = true ∧ up.dispOn = false ∧
      ((disp job).waitingJobs.filter (fun x => !((disp job).eligible x.2.2).isEmpty || ((disp job).candidates x.2.2).1.isEmpty)).length = 1) ∧
    (((disp job).modDisp (fun q => { q with last := 1 })).takeJob 1 true job).eligible job = [] ∧
    ((disp { job with slot := 0 }).fb Reg.ENGINE_JOB_CTL_DRAIN 3 = false) ∧
    (((unit up 0x103 stONLINE).eng 3).run = none ∧ ((eng3 {}).eng 3).run ≠ none ∧ (eng3 {}).engSt 3 = stONLINE ∧
      (((unit up 0x103 stONLINE).modEng 3 (fun g => { g with queue := [job] })).eng 3).queue = [job]) ∧
    (bitN ((eng3 { frozen := 4 }).eng 3).frozen 2 = true ∧ bitN ((eng3 {}).eng 3).frozen 2 = false ∧
      ((eng3 {}).setF Reg.HEAT_STATUS_TRIPPED 1).fb Reg.HEAT_STATUS_TRIPPED = true ∧ (run 2).ending = none) ∧
    ([rec3 false].find? (fun r => r.eng == 3) = some (rec3 false) ∧ [rec3 true].find? (fun r => r.eng == 3 && r.sent) = some (rec3 true) ∧
      (({ up with answers := [(.comp 3, .ack)], disp := { recs := [rec3 true] } } : Dev).takeAnswer (.comp 3)).map (·.1) = some .ack ∧
      (({ up with answers := [(.comp 3, .error 1 0)], disp := { recs := [rec3 true] } } : Dev).takeAnswer (.comp 3)).map (·.1) =
        some (.error 1 0)) := by decide +kernel

/-- Far port 1 with a role in force and at a stage. -/
def far (role stage : Nat) (st : Nat) : Dev :=
  ((unit up 0x21 st).setF Reg.FARPORT_STATUS_ACTIVE_ROLE role 1).setF Reg.FARPORT_STATUS_STAGE stage 1
def tx7 : FarTx := ⟨7, .corr 2 1 0, false⟩

theorem test_met_FarPortsServeFarMemory :
    ((far 1 1 stOFFLINE).fv Reg.FARPORT_STATUS_ACTIVE_ROLE 1 = 1 ∧ (far 1 1 stOFFLINE).fv Reg.FARPORT_STATUS_STAGE 1 = 1 ∧
      (far 1 1 stKINDLING).farSt 1 = stKINDLING ∧ (far 1 1 stOFFLINE).farSt 1 = stOFFLINE ∧ up.fv Reg.FARPORT_STATUS_ACTIVE_ROLE 1 ≠ 1) ∧
    ((up.setF Reg.MODES_STATUS_PADS_LATCHED 1).fb Reg.MODES_STATUS_PADS_LATCHED = true ∧
      (far 1 2 stKINDLING).fb Reg.MODES_STATUS_PADS_LATCHED = false ∧ (far 1 3 stKINDLING).fv Reg.FARPORT_STATUS_STAGE 1 = 3 ∧
      up.pins.vddaFar = true ∧ widthOf (255#8).toNat ((far 1 2 stKINDLING).fv Reg.FARPORT_LANE_EXCL_LANES 1) = 3 ∧
      widthOf (0xF#8).toNat 0 = 1 ∧ widthOf (0xE#8).toNat 0 = 0) ∧
    (let a := ((far 1 2 stKINDLING).setLanes 1 255 false).setF Reg.FARPORT_STATUS_RATE 2 1
     (a.setF Reg.FARPORT_STATUS_FAILS 0 1).fv Reg.FARPORT_STATUS_STAGE 1 = 2) ∧
    ((far 1 4 stKINDLING).fv Reg.FARPORT_CXL_STATUS_ENUM_ERR 1 = 0 ∧ (far 1 4 stKINDLING).fv Reg.FARPORT_STATUS_STAGE 1 = 4 ∧
      (⟨8, 0, true, false, true⟩ : EnumObs).devices = 8 ∧ (⟨9, 0, true, false, true⟩ : EnumObs).devices = 9 ∧
      (⟨0, 0, true, false, true⟩ : EnumObs).devices = 0) ∧
    (((far 1 5 stONLINE).far 1).cxl.find? (fun x => x.tag == 7) = none ∧
      (((far 1 5 stONLINE).modFar 1 (fun q => { q with cxl := [tx7] })).far 1).cxl.find? (fun x => x.tag == 7) = some tx7 ∧
      (far 1 5 stONLINE).fv Reg.FARPORT_STATUS_STAGE 1 = 5) ∧
    (let d := (far 2 5 stONLINE).setF Reg.FARPORT_LANE_STATUS_LOCKED 0x80 1
     bitN (d.fv Reg.FARPORT_LANE_STATUS_LOCKED 1) 7 = true ∧ bitN (d.fv Reg.FARPORT_LANE_STATUS_LOCKED 1) 0 = false ∧
     bitN (d.fv Reg.FARPORT_LANE_STATUS_USED 1) 7 = false ∧
     bitN ((d.setF Reg.FARPORT_LANE_STATUS_USED 0x80 1).fv Reg.FARPORT_LANE_STATUS_USED 1) 7 = true ∧ d.farLinkUp 1 = true ∧
     (far 2 2 stKINDLING).farLinkUp 1 = false ∧ (far 2 1 stKINDLING).fv Reg.FARPORT_STATUS_STAGE 1 < 2) ∧
    ((far 2 5 stONLINE).leaseHeld (lsSampler 1 7) = false ∧
      ((far 2 5 stONLINE).setLease (lsSampler 1 7) ⟨hoSCAN, rkDIAG, 0⟩).leaseHeld (lsSampler 1 7) = true) ∧
    (((up.modFar 1 (fun q => { q with scan := some 7 })).far 1).scan = some 7 ∧ (up.far 1).scan = none ∧
      ((up.modFar 1 (fun q => { q with loop := 2 })).far 1).loop = 2 ∧ (up.far 1).loop = 0) := by decide +kernel

/-- The field of a row's bytes. -/
def field (row : BitVec 512) (i w : Nat) : Nat := row.toNat / 2 ^ (8 * i) % 2 ^ (8 * w)

theorem test_met_PairLinkRowsTakeEffect :
    ((far 2 5 stONLINE).fv Reg.FARPORT_STATUS_ACTIVE_ROLE 1 = 2 ∧ (far 2 5 stONLINE).fv Reg.FARPORT_STATUS_STAGE 1 = 5 ∧
      (far 2 4 stKINDLING).fv Reg.FARPORT_STATUS_STAGE 1 ≠ 5) ∧
    (field 0 0 1 = 0 ∧ field 0x1E 0 1 = 0x1E ∧ field 0x011E 1 1 % 8 = 1 ∧ field 0x4B 0 1 = 0x4B ∧ field 0x55 0 1 = 0x55) ∧
    (nakCount (0, 2) 0 = (0, 3) ∧ nakCount (0, 1) 0 = (0, 2)) ∧
    ((far 2 5 stONLINE).farStage 1 = 5 ∧ (far 2 4 stKINDLING).farStage 1 = 4) ∧
    (let d := (far 2 5 stONLINE).setF Reg.FARPORT_LANE_STATUS_LOCKED 0x80 1
     d.laneLocked 1 7 = true ∧ d.laneLocked 1 0 = false) ∧
    ((far 2 1 stOFFLINE).pins.vddaFar = true ∧ (far 2 1 stOFFLINE).farSt 1 = stOFFLINE ∧
      (far 2 3 stKINDLING).fv Reg.FARPORT_STATUS_STAGE 1 = 3 ∧ (far 2 2 stKINDLING).fv Reg.FARPORT_STATUS_STAGE 1 = 2 ∧
      (far 2 4 stKINDLING).fv Reg.FARPORT_STATUS_STAGE 1 = 4 ∧ (far 2 1 stOFFLINE).fb Reg.MODES_STATUS_PADS_LATCHED = false) ∧
    (widthOf (255#8).toNat ((far 2 3 stKINDLING).fv Reg.FARPORT_LANE_EXCL_LANES 1) ≠ 0 ∧
      widthOf (7#8).toNat ((far 2 3 stKINDLING).fv Reg.FARPORT_LANE_EXCL_LANES 1) = 0) := by decide +kernel

/-- Bytes 2 to 4 of a CAP row can agree with the port's own, whatever their coding (log 42), and can differ. -/
theorem test_met_CapRowsAgreeAndDiffer (d : Dev) (f : Nat) :
    field (BitVec.ofNat 512 (0x55 + d.capOwn f * 2 ^ 16)) 2 3 = d.capOwn f ∧ field (BitVec.ofNat 512 (0x55 + d.capOwn f * 2 ^ 16)) 0 1 = 0x55 ∧
    field (BitVec.ofNat 512 (0x55 + (d.capOwn f + 1) % 2 ^ 24 * 2 ^ 16)) 2 3 ≠ d.capOwn f := by
  have h : d.capOwn f < 2 ^ 24 := by
    simp only [Dev.capOwn]
    omega
  simp only [field, BitVec.toNat_ofNat]
  omega

def wmsg (mtype : Nat) (body : List Nat) : PairMsg := { mtype := mtype, body := body }
/-- The block as SECONDARY, or in another role, with messages come in on port 1. -/
def paired (role : Nat) (q : List PairMsg) : Dev :=
  ((far 2 5 stONLINE).setF Reg.PAIR_CTL_ROLE role).modFar 1 (fun p => { p with rxMsgs := q })
def cpy (mseq win : Nat) (ans : Option (Req × Result)) : MirCopy := ⟨mseq, false, 9, 3, fullMask, 0, 0, win, true, ans, false, 0⟩
/-- The block as PRIMARY with an ACTIVE pair link, its partner a SECONDARY of the same epoch. -/
def primary : Dev := ((paired rolePRIMARY []).setF Reg.PAIR_STATUS_PARTNER_ROLE roleSECONDARY).setF Reg.PAIR_EPOCH_EPOCH 0

theorem test_met_PairMessagesAndCopies :
    (let m : PairMsg := { mtype := 255, flags := 255, epoch := 65535, addr := 2 ^ 39 - 1, cls := 63, mseq := 65535, mpar := 255,
                          body := List.replicate 27 255 }
     m.mtype < 256 ∧ m.flags < 256 ∧ m.epoch < 65536 ∧ m.addr < 2 ^ 39 ∧ m.cls < 64 ∧ m.mseq < 65536 ∧ m.mpar < 256 ∧ m.body.length ≤ 27 ∧
     msgOfRow (msgRow m 0 0) m.data = m) ∧
    (((paired 0 []).far 1).rxMsgs = [] ∧
      [wmsg 1 []].find? (fun m => m.mtype == 1 || m.mtype == 2) = some (wmsg 1 []) ∧
      [wmsg 2 []].find? (fun m => m.mtype == 1 || m.mtype == 2) = some (wmsg 2 [])) ∧
    ((paired roleSECONDARY [wmsg 1 []]).role = roleSECONDARY ∧ (wmsg 1 []).epoch ≠ 7 ∧
      (let d := (paired roleSECONDARY [wmsg 1 []]).setF Reg.PAIR_EPOCH_EPOCH 0
       (decide (d.role = roleSECONDARY) && ((wmsg 1 []).epoch == d.fv Reg.PAIR_EPOCH_EPOCH) && !(d.fb Reg.PAIR_STATUS_CONFLICT)) = true) ∧
      parityOf 8 (0 : Nat) = 255 ∧ (wmsg 1 []).flags / 2 % 2 = 0) ∧
    ([wmsg 3 []].find? (fun m => m.mtype == 3) = some (wmsg 3 []) ∧ [cpy 0 15 none].find? (fun c => c.mseq == 0) = some (cpy 0 15 none) ∧
      (cpy 0 15 none).win < 16) ∧
    ([(2, 9, 0)].find? (fun (a : Nat × Nat × Nat) => a.2.2 == 0) = some (2, 9, 0)) ∧
    ((wmsg 8 []).mtype = 8 ∧ isMirrored 0x9040 = true ∧ isMirrored 0x5050 = false) ∧
    ([cpy 0 15 (some (req .wr, .ack))].find? (fun c => c.mseq == 0 && c.ans.isSome) = some (cpy 0 15 (some (req .wr, .ack)))) ∧
    (up.pairPort = none ∧ primary.pairPort = some 1 ∧ primary.inOrder = true ∧ (paired roleSECONDARY []).inOrder = false ∧
      primary.pairActive 1 = true ∧ (primary.far 1).credit = 0 ∧
      ((primary.modFar 1 (fun q => { q with credit := 1 })).far 1).credit ≠ 0 ∧
      (primary.modPair (fun p => { p with lagQ := [(9, 3, 0)] })).pair.lagQ ≠ []) ∧
    (primary.lag = 0 ∧ (primary.modPair (fun p => { p with lagQ := [(9, 3, 0)] })).lag = 1) := by decide +kernel

theorem test_met_PairServiceAndResync :
    ([wmsg 5 []].find? (fun m => m.mtype == 5) = some (wmsg 5 [])) ∧
    ((primary.setF Reg.PAIR_STATUS_PARTNER_UP 1).fb Reg.PAIR_STATUS_PARTNER_UP = true ∧ primary.pair.heard = false ∧
      (far 2 4 stKINDLING).pairPort = some 1 ∧ (far 2 4 stKINDLING).pairActive 1 = false) ∧
    (primary.fb Reg.PAIR_STATUS_PARTNER_DARK = false ∧ (primary.setF Reg.PAIR_STATUS_PARTNER_DARK 1).fb Reg.PAIR_STATUS_PARTNER_DARK = true) ∧
    ([wmsg 9 []].find? (fun m => m.mtype == 9) = some (wmsg 9 []) ∧ (paired rolePRIMARY [wmsg 9 []]).role = rolePRIMARY ∧
      ((paired roleSECONDARY []).modPair (fun p => { p with handover := true })).pair.handover = true ∧
      ((paired roleSECONDARY []).setF Reg.PAIR_EPOCH_EPOCH 65535).fv Reg.PAIR_EPOCH_EPOCH = 65535) ∧
    ((up.setF Reg.PAIR_MWj_CTL_ENABLING 1 0 15).fb Reg.PAIR_MWj_CTL_ENABLING 0 15 = true ∧ up.fb Reg.PAIR_MWj_CTL_ENABLING 0 15 = false) ∧
    (primary.inOrder = true ∧ primary.pair.resyncing = false ∧ up.inOrder = false) ∧
    (let d := primary.modPair (fun p => { p with resyncing := true, todo := [(5, 5)] })
     d.inOrder = true ∧ ifirst d.resyncAnswers.pair.todo = some 5 ∧
     ifirst (primary.modPair (fun p => { p with resyncing := true })).resyncAnswers.pair.todo = none) ∧
    (let d := primary.modPair (fun p => { p with resyncing := true })
     (d.pair.resyncing && d.pair.todo.isEmpty && d.pair.reads.isEmpty && !((d.pair.copies ++ d.pair.await).any (·.resync))) = true) := by
  decide +kernel

end Sys2Proof.Tests
end

/-!
PROOFS. The fields of a register word and the writes that software makes to them (R6, R460, R462), and the registers after a cold
reset (R7, R361, R375).
-/
namespace Sys2Proof.Machine

/-! ### Bits of a register word -/

/-- A field, bit by bit: its bit `j` is bit `lo + j` of the word. -/
theorem testBit_bitsOf (v : Word32) (hi lo j : Nat) :
    (bitsOf v hi lo).testBit j = (decide (j < hi + 1 - lo) && v.getLsbD (lo + j)) := by
  simp only [bitsOf, Nat.testBit_mod_two_pow, Nat.testBit_div_two_pow, BitVec.testBit_toNat, Nat.add_comm]

theorem bitsOf_lt (v : Word32) (hi lo : Nat) : bitsOf v hi lo < 2 ^ (hi + 1 - lo) :=
  Nat.mod_lt _ (Nat.two_pow_pos _)

/-- A field depends only on its own bits. -/
theorem bitsOf_congr {v w : Word32} {hi lo : Nat} (h : ∀ i, lo ≤ i → i ≤ hi → v.getLsbD i = w.getLsbD i) :
    bitsOf v hi lo = bitsOf w hi lo := by
  refine Nat.eq_of_testBit_eq fun j => ?_
  rw [testBit_bitsOf, testBit_bitsOf]
  by_cases hj : j < hi + 1 - lo
  · rw [h (lo + j) (by omega) (by omega)]
  · simp [hj]

/-- The sum that `withBits` makes, as its three parts: above the field, the field, and below it. -/
theorem withBits_parts (n w lo x : Nat) :
    n - n / 2 ^ lo % 2 ^ w * 2 ^ lo + x % 2 ^ w * 2 ^ lo = 2 ^ lo * (2 ^ w * (n / 2 ^ lo / 2 ^ w) + x % 2 ^ w) + n % 2 ^ lo := by
  have hn : n = 2 ^ lo * (2 ^ w * (n / 2 ^ lo / 2 ^ w) + n / 2 ^ lo % 2 ^ w) + n % 2 ^ lo := by
    rw [Nat.div_add_mod, Nat.div_add_mod]
  rw [Nat.mul_add] at hn ⊢
  rw [Nat.mul_comm _ (2 ^ lo), Nat.mul_comm (x % 2 ^ w)]
  omega

/-- A word with a field replaced, bit by bit. -/
theorem getLsbD_withBits (v : Word32) {hi lo : Nat} (x i : Nat) (hhi : hi < 32) :
    (withBits v hi lo x).getLsbD i = if lo ≤ i ∧ i ≤ hi then x.testBit (i - lo) else v.getLsbD i := by
  by_cases h32 : i < 32
  · have hx : x % 2 ^ (hi + 1 - lo) < 2 ^ (hi + 1 - lo) := Nat.mod_lt _ (Nat.two_pow_pos _)
    simp only [withBits, bitsOf, withBits_parts, BitVec.getLsbD_ofNat, h32, decide_true, Bool.true_and,
      Nat.testBit_two_pow_mul_add _ (Nat.mod_lt _ (Nat.two_pow_pos lo)), Nat.testBit_two_pow_mul_add _ hx,
      Nat.testBit_mod_two_pow, Nat.testBit_div_two_pow, BitVec.testBit_toNat]
    by_cases hbelow : i < lo
    · have hout : ¬(lo ≤ i ∧ i ≤ hi) := by omega
      simp [hbelow, hout]
    · by_cases hin : i ≤ hi
      · have hw : i - lo < hi + 1 - lo := by omega
        simp [hbelow, hw, hin, Nat.le_of_not_lt hbelow]
      · have hw : ¬ i - lo < hi + 1 - lo := by omega
        have hi' : i - lo - (hi + 1 - lo) + (hi + 1 - lo) + lo = i := by omega
        simp [hbelow, hw, hin, hi']
  · rw [BitVec.getLsbD_of_ge _ _ (by omega), if_neg (by omega), BitVec.getLsbD_of_ge _ _ (by omega)]

/-- A field reads back as the number put into it, when that fits. -/
theorem bitsOf_withBits (v : Word32) {hi lo x : Nat} (hhi : hi < 32) (hx : x < 2 ^ (hi + 1 - lo)) :
    bitsOf (withBits v hi lo x) hi lo = x := by
  refine Nat.eq_of_testBit_eq fun j => ?_
  rw [testBit_bitsOf, getLsbD_withBits _ _ _ hhi]
  by_cases hj : j < hi + 1 - lo
  · have hin : lo + j ≤ hi := by omega
    simp [hj, hin]
  · have hle : 2 ^ (hi + 1 - lo) ≤ 2 ^ j := Nat.pow_le_pow_right (by omega) (by omega)
    simp [hj, Nat.testBit_lt_two_pow (Nat.lt_of_lt_of_le hx hle)]

/-! ### One field of a write (R6, R460) -/

/-- The field lies in a register word, and the low end of its legal range fits into it. -/
abbrev FieldD.Fits (f : FieldD) : Prop := f.hi < 32 ∧ f.min < 2 ^ (f.hi + 1 - f.lo)

/-- Two fields that share no bit. -/
abbrev FieldD.Apart (f g : FieldD) : Prop := f.hi < g.lo ∨ g.hi < f.lo

/-- The word after a write of `v` over `old` has come to field `f`, from `w` after the fields before it: one step of `applyWrite`. -/
def writeField (old v w : Word32) (f : FieldD) : Word32 :=
  match f.acc with
  | .rw => withBits w f.hi f.lo (clampTo f.min f.max (bitsOf v f.hi f.lo))
  | .w1c => withBits w f.hi f.lo (Nat.land (bitsOf old f.hi f.lo) (Nat.xor (bitsOf v f.hi f.lo) (2 ^ (f.hi + 1 - f.lo) - 1)))
  | _ => w

/-- What field `f` holds after a write of `v` over `old`. -/
def writtenField (old v : Word32) (f : FieldD) : Nat :=
  match f.acc with
  | .rw => clampTo f.min f.max (bitsOf v f.hi f.lo)
  | .w1c => bitsOf (old &&& ~~~v) f.hi f.lo
  | _ => bitsOf old f.hi f.lo

theorem applyWrite_eq_foldl (r : RegD) (old v : Word32) : applyWrite r old v = r.fields.foldl (writeField old v) old := (rfl)

/-- Clamping into a range whose low end fits keeps a number within the field. -/
theorem clampTo_lt {lo hi x n : Nat} (hlo : lo < n) (hx : x < n) : clampTo lo hi x < n := by
  unfold clampTo
  omega

/-- Clearing the bits written 1: the number that `applyWrite` computes from the two fields is the field of `old &&& ~~~v`. -/
theorem land_xor_bitsOf (old v : Word32) {hi lo : Nat} (hhi : hi < 32) :
    Nat.land (bitsOf old hi lo) (Nat.xor (bitsOf v hi lo) (2 ^ (hi + 1 - lo) - 1)) = bitsOf (old &&& ~~~v) hi lo := by
  refine Nat.eq_of_testBit_eq fun j => ?_
  change (bitsOf old hi lo &&& (bitsOf v hi lo ^^^ (2 ^ (hi + 1 - lo) - 1))).testBit j = _
  simp only [Nat.testBit_and, Nat.testBit_xor, Nat.testBit_two_pow_sub_one, testBit_bitsOf, BitVec.getLsbD_and, BitVec.getLsbD_not]
  by_cases hj : j < hi + 1 - lo
  · have h32 : lo + j < 32 := by omega
    simp [hj, h32]
  · simp [hj]

/-- A field's step changes no bit outside the field. -/
theorem getLsbD_writeField_outside (old v w : Word32) {f : FieldD} {i : Nat} (hf : f.Fits) (hi : ¬(f.lo ≤ i ∧ i ≤ f.hi)) :
    (writeField old v w f).getLsbD i = w.getLsbD i := by
  unfold writeField
  split
  · rw [getLsbD_withBits _ _ _ hf.1, if_neg hi]
  · rw [getLsbD_withBits _ _ _ hf.1, if_neg hi]
  · rfl

/-- A field's step gives the field its value, when the fields before it left the field as it was. -/
theorem bitsOf_writeField (old v w : Word32) {f : FieldD} (hf : f.Fits) (hw : bitsOf w f.hi f.lo = bitsOf old f.hi f.lo) :
    bitsOf (writeField old v w f) f.hi f.lo = writtenField old v f := by
  obtain ⟨hhi, hmin⟩ := hf
  unfold writeField writtenField
  cases f.acc with
  | rw => exact bitsOf_withBits _ hhi (clampTo_lt hmin (bitsOf_lt ..))
  | w1c =>
    rw [land_xor_bitsOf old v hhi]
    exact bitsOf_withBits _ hhi (bitsOf_lt ..)
  | ro => exact hw
  | w1s => exact hw
  | wo => exact hw

/-- A field's step leaves every field that is apart from it. -/
theorem bitsOf_writeField_apart (old v w : Word32) {f g : FieldD} (hg : g.Fits) (h : g.Apart f) :
    bitsOf (writeField old v w g) f.hi f.lo = bitsOf w f.hi f.lo := by
  refine bitsOf_congr fun i hlo hhi => getLsbD_writeField_outside old v w hg ?_
  omega

/-! ### The fields of a write, one after another -/

/-- No bit outside the fields changes. -/
theorem getLsbD_foldl_writeField_outside (old v : Word32) {i : Nat} (fs : List FieldD) (w : Word32) (hfit : ∀ f ∈ fs, f.Fits)
    (hi : ∀ f ∈ fs, ¬(f.lo ≤ i ∧ i ≤ f.hi)) : (fs.foldl (writeField old v) w).getLsbD i = w.getLsbD i := by
  induction fs generalizing w with
  | nil => rfl
  | cons f fs ih =>
    rw [List.forall_mem_cons] at hfit hi
    rw [List.foldl_cons, ih _ hfit.2 hi.2, getLsbD_writeField_outside old v w hfit.1 hi.1]

/-- Fields apart from all that are written stay. -/
theorem bitsOf_foldl_writeField_apart (old v : Word32) {f : FieldD} (fs : List FieldD) (w : Word32) (hfit : ∀ g ∈ fs, g.Fits)
    (h : ∀ g ∈ fs, f.Apart g) : bitsOf (fs.foldl (writeField old v) w) f.hi f.lo = bitsOf w f.hi f.lo := by
  refine bitsOf_congr fun i hlo hhi => getLsbD_foldl_writeField_outside old v fs w hfit fun g hg => ?_
  have hfg := h g hg
  omega

/-- With fields apart from each other, each holds its value in the end: its own step gives it, and no other step touches it. -/
theorem bitsOf_foldl_writeField (old v : Word32) (fs : List FieldD) (w : Word32) (hfit : ∀ f ∈ fs, f.Fits) (hap : fs.Pairwise FieldD.Apart)
    (hw : ∀ f ∈ fs, bitsOf w f.hi f.lo = bitsOf old f.hi f.lo) :
    ∀ f ∈ fs, bitsOf (fs.foldl (writeField old v) w) f.hi f.lo = writtenField old v f := by
  induction fs generalizing w with
  | nil => exact fun _ hf => absurd hf List.not_mem_nil
  | cons g fs ih =>
    rw [List.forall_mem_cons] at hfit hw
    rw [List.pairwise_cons] at hap
    refine List.forall_mem_cons.mpr ⟨?_, ih _ hfit.2 hap.2 fun f hf => ?_⟩
    · rw [List.foldl_cons, bitsOf_foldl_writeField_apart old v fs _ hfit.2 hap.1, bitsOf_writeField old v w hfit.1 hw.1]
    · rw [bitsOf_writeField_apart old v w hfit.1 (hap.1 f hf), hw.2 f hf]

/-! ### The register map -/

/-- A register whose fields fit into a word and share no bit. -/
abbrev RegD.Laid (r : RegD) : Prop := (∀ f ∈ r.fields, f.Fits) ∧ r.fields.Pairwise FieldD.Apart

/-- Every register of the map is laid out so: the tables of the spec, checked field by field. -/
theorem pageGroups_laid : ∀ g ∈ pageGroups, ∀ r ∈ regsHeader ++ g.regs, r.Laid := by decide +kernel

/-- Settles O20: the registers of the map have fields that fit and share no bit, so the steps of a write do not disturb each other. -/
theorem fieldsTakeTheirWrites : Obligations.FieldsTakeTheirWrites := by
  intro g r old v hg hr
  obtain ⟨hfit, hap⟩ := pageGroups_laid g hg r hr
  rw [applyWrite_eq_foldl]
  refine ⟨bitsOf_foldl_writeField old v r.fields old hfit hap fun _ _ => rfl, fun i _ hi => ?_⟩
  rw [BitVec.testBit_toNat, BitVec.testBit_toNat]
  exact getLsbD_foldl_writeField_outside old v r.fields old hfit hi

/-! ### The registers after a cold reset (R7, R361, R375) -/

/-- The file lists RESET_CAUSE alone; every other register reads its reset word. -/
theorem State.reset_rdReg (a : Nat) : State.reset.dev.rdReg a = if a = 0x0044 then 1 else resetWord a := by
  by_cases h : a = 0x0044
  · rw [if_pos h, h]
    rfl
  · rw [if_neg h]
    exact if_neg (Ne.symm h)

/-- Samples of the reset words, written out from the tables of the spec (R158, R364, R374, R401, R455). -/
theorem resetWord_samples :
    resetWord 0x0040 = 0xC4830EA1 ∧ resetWord 0x0050 = 0x80010000 ∧ resetWord 0xE040 = 0x850AD2AA ∧ resetWord 0x13000 = 0x00100003 ∧
    resetWord 0x2008 = 2 ∧ resetWord 0x205008 = 0 := by decide +kernel

/-- Host port 0 starts with MGMT_EN and host port 1 without (R116), and the device in mode KINDLE at step 1 (R364). -/
theorem State.reset_fields :
    State.reset.dev.fv Reg.HOSTPORT_MGMT_MGMT_EN 0 = 1 ∧ State.reset.dev.fv Reg.HOSTPORT_MGMT_MGMT_EN 1 = 0 ∧
    State.reset.dev.mode = mdKINDLE ∧ State.reset.dev.kstep = 1 := by decide +kernel

/-- Settles O5: the register file at reset lists RESET_CAUSE alone, and the samples are the reset words and fields of the tables. -/
theorem resetRegisterValues : Obligations.ResetRegisterValues := by
  obtain ⟨hident, hkindle, hcap, hpage, hnoUnit, hshaft⟩ := resetWord_samples
  exact ⟨rfl, rfl, rfl, State.reset_memoriesWf, State.reset_rdReg, hident, hkindle, hcap, hpage, hnoUnit, hshaft, State.reset_fields⟩

end Sys2Proof.Machine

/-!
PROOFS. One period of REFCLK (R16, R134, R447) and the causes of a warm reset (R16, R361, R375).
-/
namespace Sys2Proof.Machine

/-! ### One period of REFCLK (R16, R134, R447) -/

theorem step_of_empty_queue (d : Dev) : step { dev := d, pending := [] } = .next { dev := d.tick, pending := [] } := (rfl)

/-- The unit of CNT_CREDIT_WAIT leaves the time base alone. -/
@[simp] theorem Dev.creditTick_time (d : Dev) : d.creditTick.time = d.time := by
  unfold Dev.creditTick
  dsimp only
  split
  · rfl
  · split <;> rfl

theorem Dev.tick_of_stopped (d : Dev) (h : d.pins.refclk = false ∨ d.pins.pwrgood = false) : d.tick = d := by
  unfold Dev.tick
  rcases h with h | h <;> simp [h]

/-- The device after the time base and the unit of CNT_CREDIT_WAIT have gone on by one period. -/
def Dev.periodCounted (d : Dev) : Dev :=
  let v : Dev := { d with time := d.time + 1 }
  if d.pins.spineOn then v.creditTick else v

theorem Dev.periodCounted_eq (d : Dev) :
    d.periodCounted = if d.pins.spineOn then ({ d with time := d.time + 1 } : Dev).creditTick else { d with time := d.time + 1 } := (rfl)

theorem Dev.periodCounted_time (d : Dev) : d.periodCounted.time = d.time + 1 := by
  unfold Dev.periodCounted
  split
  · exact Dev.creditTick_time _
  · rfl

/-- A period that passes: tally time counts a second at every 10^8th. -/
theorem Dev.tick_of_running (d : Dev) (hr : d.pins.refclk = true) (hp : d.pins.pwrgood = true) :
    d.tick =
      if (d.time + 1) % 100000000 ≠ 0 then d.periodCounted
      else if d.periodCounted.fv Reg.TALLY_TIME_SEC < 3599 then
        d.periodCounted.setF Reg.TALLY_TIME_SEC (d.periodCounted.fv Reg.TALLY_TIME_SEC + 1)
      else (d.periodCounted.setF Reg.TALLY_TIME_SEC 0).setF Reg.TALLY_TIME_HOURS
        ((d.periodCounted.fv Reg.TALLY_TIME_HOURS + 1) % 2 ^ 20) := by
  unfold Dev.tick
  simp only [hr, hp, ← Dev.periodCounted_eq, Dev.periodCounted_time, bne_iff_ne]
  rfl

/-- Settles O2: the cases of the tick, with the time base of the state after the unit of CNT_CREDIT_WAIT. -/
theorem idleStepIsOneClockPeriod : Obligations.IdleStepIsOneClockPeriod := by
  intro d
  simp only [step_of_empty_queue, ← Dev.periodCounted_eq]
  refine ⟨fun h => by rw [d.tick_of_stopped h], fun hr hp ht => ?_, fun hr hp ht hs => ?_, fun hr hp ht hs => ?_⟩ <;>
    rw [d.tick_of_running hr hp]
  · rw [if_pos ht]
  · rw [if_neg (not_not_intro ht), if_pos hs]
  · rw [if_neg (not_not_intro ht), if_neg (Nat.not_lt.mpr hs)]

/-! ### The causes of a warm reset (R16, R361, R375) -/

/-- A command that does one thing or another, as its condition holds. -/
theorem State.on_ite (s : State) (c : Dev → Bool) (f g : Dev → Dev) :
    (s.on fun d => if c d then .next (f d) else .next (g d)) = .next (s.put (if c s.dev then f s.dev else g s.dev)) := by
  unfold State.on
  cases h : c s.dev <;> simp [h]

theorem exec_resetNFall (stuck : BitVec 48) (s : State) : exec (.resetNFall stuck) s = execResetNFall stuck s := (rfl)
theorem exec_resetNRise (refclk : Bool) (s : State) : exec (.resetNRise refclk) s = execResetNRise refclk s := (rfl)
theorem exec_watchdogExpiry (stuck : BitVec 48) (s : State) : exec (.watchdogExpiry stuck) s = execWatchdogExpiry stuck s := (rfl)
theorem exec_refclkLost (s : State) : exec .refclkLost s = .next (s.put s.dev.refclkLost) := (rfl)

theorem Dev.refclkLost_of_stopped (d : Dev) (h : d.pins.refclk = false ∨ d.pins.pwrgood = false) : d.refclkLost = d := by
  unfold Dev.refclkLost
  rcases h with h | h <;> simp [h]

/-- Settles O9: each of the four commands asks for its occasion first. -/
theorem warmResetCauses : Obligations.WarmResetCauses := by
  intro s stuck refclk
  refine ⟨fun hup => ⟨?_, ?_⟩, fun hdown => ⟨?_, ?_⟩, ?_, fun hr hp => ?_, fun h => ?_⟩
  · cases hp : s.dev.pins.pwrgood <;> simp [exec_resetNFall, execResetNFall, State.on, hup, hp]
  · simp [exec_resetNRise, execResetNRise, State.on, hup]
  · cases hk : s.dev.pins.pwrgood && s.dev.ks.held <;> simp [exec_resetNRise, execResetNRise, State.on, hdown, hk]
  · simp [exec_resetNFall, execResetNFall, State.on, hdown]
  · rw [exec_watchdogExpiry, execWatchdogExpiry, State.on_ite]
    rfl
  · rw [exec_refclkLost]
    unfold Dev.refclkLost
    rw [if_neg (by simp [hr, hp])]
    simp only [beq_iff_eq]
    rfl
  · rw [exec_refclkLost, Dev.refclkLost_of_stopped _ h]

end Sys2Proof.Machine

/-!
PROOFS. One cycle of an engine: what holds its step (R16, R215, R225, R234, R236, R241, R411).
-/
namespace Sys2Proof.Machine

/-! ### Fields of other registers -/

theorem Dev.fv_wrReg_other (s : Dev) (a : Nat) (v : Word32) (f : Fld) (i k : Nat) (h : f.addr i k ≠ a) :
    (s.wrReg a v).fv f i k = s.fv f i k := by
  unfold Dev.fv
  rw [Dev.rdReg_wrReg_other s a _ v h]

/-- Counting in a register leaves the fields of every other register. -/
theorem Dev.fv_bump_other (s : Dev) (f g : Fld) (i k j l : Nat) (h : f.addr i k ≠ g.addr j l) :
    (s.bump g j l).fv f i k = s.fv f i k :=
  s.fv_wrReg_other _ _ f i k h

/-! ### One cycle of an engine (R215) -/

theorem exec_of_stepRow {i : Instr} {n : Fin 48} {o : EOp} {f : StepF} (h : stepRow i = some (n, o, f)) (s : State) :
    exec i s = .next (s.put (s.dev.opIssue n o f)) := by
  unfold stepRow at h
  split at h <;> cases h <;> rfl

theorem exec_stepIssue (n : Fin 48) (parity : Bool) (s : State) :
    exec (.stepIssue n parity) s = .next (s.put (s.dev.stepIssue n parity)) := (rfl)

/-- A step of an engine program, from its row or from the store, is one cycle of its engine. -/
theorem exec_eq_engCycle {i : Instr} {n : Fin 48} (h : (∃ o f, stepRow i = some (n, o, f)) ∨ ∃ parity, i = .stepIssue n parity) :
    ∃ issue : Run → Dev → Dev, ∀ s, exec i s = .next (s.put (s.dev.engCycle n issue)) := by
  rcases h with ⟨o, f, hrow⟩ | ⟨parity, rfl⟩
  · exact ⟨_, exec_of_stepRow hrow⟩
  · exact ⟨_, exec_stepIssue n parity⟩

/-- The cycle is counted, by the engine and by the job. -/
def Dev.counted (d : Dev) (n : Nat) : Dev :=
  (d.bump Reg.ENGINE_CNT_CYCLES_VALUE n).modRun n (fun q => { q with cycles := q.cycles + 1 })

theorem Dev.counted_eq (d : Dev) (n : Nat) :
    d.counted n = (d.bump Reg.ENGINE_CNT_CYCLES_VALUE n).modRun n (fun q => { q with cycles := q.cycles + 1 }) := (rfl)

theorem Dev.cycled_eq (d : Dev) (n : Nat) : d.cycled n = (d.counted n).modRun n (fun q => { q with fence := 0 }) := (rfl)

theorem Dev.eng_counted (d : Dev) (n : Nat) :
    (d.counted n).eng n = (d.eng n).modRun (fun q => { q with cycles := q.cycles + 1 }) := by
  unfold Dev.counted Dev.modRun
  rw [Dev.eng_modEng_same]
  rfl

theorem Dev.fv_counted (d : Dev) (f : Fld) (n : Nat) (h : f.addr n 0 ≠ Reg.ENGINE_CNT_CYCLES_VALUE.addr n 0) :
    (d.counted n).fv f n = d.fv f n :=
  d.fv_bump_other f _ n 0 n 0 h

/-- The status and debug fields that a cycle looks at stand in other registers than the cycle counter. -/
theorem Dev.fv_counted_control (d : Dev) (n : Nat) :
    (d.counted n).fb Reg.ENGINE_EXEC_STATUS_THROTTLED n = d.fb Reg.ENGINE_EXEC_STATUS_THROTTLED n ∧
    (d.cycled n).fb Reg.ENGINE_DEBUG_CTL_BP_EN n = d.fb Reg.ENGINE_DEBUG_CTL_BP_EN n ∧
    (d.cycled n).fv Reg.ENGINE_DEBUG_CTL_BP_PC n = d.fv Reg.ENGINE_DEBUG_CTL_BP_PC n := by
  refine ⟨congrArg (· == 1) (d.fv_counted _ n ?_), congrArg (· == 1) (d.fv_counted _ n ?_), d.fv_counted _ n ?_⟩ <;>
    simp only [Fld.addr, Reg.ENGINE_EXEC_STATUS_THROTTLED, Reg.ENGINE_DEBUG_CTL_BP_EN, Reg.ENGINE_DEBUG_CTL_BP_PC,
      Reg.ENGINE_CNT_CYCLES_VALUE] <;> omega

@[simp] theorem EngSt.modRun_frozen (g : EngSt) (f : Run → Run) : (g.modRun f).frozen = g.frozen := (rfl)
@[simp] theorem EngSt.modRun_passBp (g : EngSt) (f : Run → Run) : (g.modRun f).passBp = g.passBp := (rfl)
@[simp] theorem EngSt.modRun_fenced (g : EngSt) (f : Run → Run) (r : Run) : (g.modRun f).fenced r = g.fenced r := (rfl)

/-- The job ends, the engine is frozen, or it is halted with no debug step asked for. -/
abbrev Dev.heldBack (d : Dev) (n : Nat) (r : Run) : Prop :=
  r.ending ≠ none ∨ (d.eng n).frozen ≠ 0 ∨ (d.fb Reg.ENGINE_EXEC_STATUS_HALTED n = true ∧ (d.eng n).stepReq = false)

/-- The fourth cycle of a throttled engine. -/
abbrev Dev.skips (d : Dev) (n : Nat) (r : Run) : Prop := d.fb Reg.ENGINE_EXEC_STATUS_THROTTLED n = true ∧ r.cycles % 4 = 3

/-- PC stands at the breakpoint, and nothing lets the step pass it. -/
abbrev Dev.meetsBp (d : Dev) (n : Nat) (r : Run) : Prop :=
  d.fb Reg.ENGINE_DEBUG_CTL_BP_EN n = true ∧ d.fv Reg.ENGINE_DEBUG_CTL_BP_PC n = r.pc ∧ (d.eng n).passBp = false ∧
    (d.eng n).stepReq = false

theorem Dev.engCycle_of_idle (d : Dev) (n : Nat) (issue : Run → Dev → Dev) (h : (d.eng n).run = none ∨ d.pins.refclk = false) :
    d.engCycle n issue = d := by
  unfold Dev.engCycle
  split
  · rfl
  · rfl
  next r hr hc => simp [hr, hc] at h

/-- What holds the step of a running job, in the order of a cycle, over the state before the cycle. -/
theorem Dev.engCycle_of_run (d : Dev) (n : Nat) (issue : Run → Dev → Dev) (r : Run) (hr : (d.eng n).run = some r)
    (hc : d.pins.refclk = true) :
    d.engCycle n issue =
      if d.heldBack n r then d.counted n
      else if r.wait ≠ 0 then (d.counted n).modRun n (fun q => { q with wait := q.wait - 1 })
      else if d.skips n r then d.counted n
      else if (d.eng n).fenced r = true then (d.counted n).bump Reg.ENGINE_CNT_STALL_VALUE n
      else if d.meetsBp n r then ((d.cycled n).setF Reg.ENGINE_EXEC_STATUS_HALTED 1 n).raise (enginePage n) Reg.EV_ENGINE_HALTED
      else if r.len ≤ r.pc then ((d.cycled n).engFault n 3 0 r.pc none).engShow n
      else issue r (d.cycled n) := by
  obtain ⟨hthr, hbp, hpc⟩ := d.fv_counted_control n
  unfold Dev.engCycle
  rw [hr, hc]
  simp only [← Dev.counted_eq, ← Dev.cycled_eq, hthr, hbp, hpc, Dev.eng_counted, Dev.stepStall]
  simp [and_assoc, or_assoc, Option.isSome_iff_ne_none]

/-- Settles O35: a step is one cycle of its engine, and the cycle asks in this order what holds the step. -/
theorem engineHoldsItsStep : Obligations.EngineHoldsItsStep := by
  intro s n i hi
  obtain ⟨issue, hexec⟩ := exec_eq_engCycle hi
  simp only [hexec]
  refine ⟨fun h => by rw [Dev.engCycle_of_idle _ _ _ h], fun r hr hc => ?_⟩
  rw [Dev.engCycle_of_run _ _ issue r hr hc]
  refine ⟨fun h => ?_, fun h hw => ?_, fun h hw hi => ?_, fun h hw hi hf => ?_, fun h hw hi hf hm => ?_, fun h hw hi hf hm hl => ?_⟩
  · rw [if_pos h]; rfl
  · rw [if_neg h, if_pos hw]; rfl
  · rw [if_neg h, if_neg (not_not_intro hw), if_pos hi]; rfl
  · rw [if_neg h, if_neg (not_not_intro hw), if_neg hi, if_pos hf]; rfl
  · rw [if_neg h, if_neg (not_not_intro hw), if_neg hi, if_neg (by simp [hf]), if_pos hm]
  · rw [if_neg h, if_neg (not_not_intro hw), if_neg hi, if_neg (by simp [hf]), if_neg hm, if_pos hl]

end Sys2Proof.Machine

/-!
PROOFS. The frame table's lookups, the held requests and their timeout (R32, R46, R55, R58, R71, R74, R138, R139).
-/
namespace Sys2Proof.Machine

/-! ### The greatest key (R138) -/

theorem bestBy_eq_none_iff {α : Type} (key : α → Nat) (l : List α) : bestBy key l = none ↔ l = [] := by
  cases l with
  | nil => simp [bestBy]
  | cons x l =>
    unfold bestBy
    split
    · simp
    · split <;> simp

/-- What is chosen stands in the list, and nothing in the list has a greater key. -/
theorem bestBy_eq_some {α : Type} {key : α → Nat} {l : List α} {x : α} (h : bestBy key l = some x) :
    x ∈ l ∧ ∀ y ∈ l, key y ≤ key x := by
  induction l generalizing x with
  | nil => simp [bestBy] at h
  | cons a l ih =>
    unfold bestBy at h
    split at h
    next hnone =>
      obtain rfl := Option.some.inj h
      simp [(bestBy_eq_none_iff key l).mp hnone]
    next b hb =>
      obtain ⟨hmem, hmax⟩ := ih hb
      rw [List.forall_mem_cons]
      split at h
      next hlt =>
        obtain rfl := Option.some.inj h
        exact ⟨List.mem_cons_of_mem _ hmem, Nat.le_of_lt hlt, hmax⟩
      next hle =>
        obtain rfl := Option.some.inj h
        exact ⟨List.mem_cons_self, Nat.le_refl _, fun y hy => Nat.le_trans (hmax y hy) (Nat.le_of_not_lt hle)⟩

theorem exists_bestBy {α : Type} (key : α → Nat) {l : List α} (h : l ≠ []) :
    ∃ x, bestBy key l = some x ∧ x ∈ l ∧ ∀ y ∈ l, key y ≤ key x := by
  obtain ⟨x, hx⟩ := Option.ne_none_iff_exists'.mp (mt (bestBy_eq_none_iff key l).mp h)
  exact ⟨x, hx, bestBy_eq_some hx⟩

/-! ### The counters of the selected attachment (R134) -/

@[simp] theorem Dev.countCell_space (s : Dev) (src dst net : Nat) : (s.countCell src dst net).space = s.space := by
  unfold Dev.countCell
  dsimp only
  split
  · rfl
  · split <;> split <;> simp only [Dev.setF_space, Dev.bump_space]

/-- Counting a cell leaves every register outside the page of the spine. -/
theorem Dev.rdReg_countCell_other (s : Dev) (src dst net a : Nat) (h : a / 4096 ≠ pgFABRIC) :
    (s.countCell src dst net).rdReg a = s.rdReg a := by
  have hin : a ≠ Reg.FABRIC_CNT_CELLS_IN_VALUE.addr 0 0 := fun e => h (by rw [e]; rfl)
  have hout : a ≠ Reg.FABRIC_CNT_CELLS_OUT_VALUE.addr 0 0 := fun e => h (by rw [e]; rfl)
  have hpeak : a ≠ Reg.FABRIC_POOL_LEVEL_PEAK.addr 0 0 := fun e => h (by rw [e]; rfl)
  unfold Dev.countCell Dev.bump
  dsimp only
  split
  · rfl
  · rw [Dev.rdReg_setF_other _ _ _ _ _ _ hpeak]
    split <;> split <;> simp only [Dev.rdReg_setF_other _ _ _ _ _ _ hin, Dev.rdReg_setF_other _ _ _ _ _ _ hout]

/-! ### Haulage that does not serve (R46, R74) -/

theorem Dev.haulRefusal_of_serves {s : Dev} (h : s.haulServes = true) : s.haulRefusal = none := by
  simp [Dev.haulRefusal, h]

theorem Dev.haulRefusal_of_failed {s : Dev} (h : s.haulServes = false) (hf : s.ust hauPage = stFAILED) :
    s.haulRefusal = some (1000, false) := by
  simp [Dev.haulRefusal, h, hf]

theorem Dev.haulRefusal_of_unfailed {s : Dev} (h : s.haulServes = false) (hf : s.ust hauPage ≠ stFAILED) :
    s.haulRefusal = some (100, s.space.walking || s.space.clearing || s.ust hauPage == stKINDLING) := by
  simp [Dev.haulRefusal, h, hf]

/-- Whether haulage serves depends on its unit state and on the walks of the table only. -/
theorem Dev.haulRefusal_congr {s t : Dev} (hust : s.rdReg (hauPage * 4096 + 8) = t.rdReg (hauPage * 4096 + 8))
    (hwalk : s.space.walking = t.space.walking) (hclear : s.space.clearing = t.space.clearing) : s.haulRefusal = t.haulRefusal := by
  unfold Dev.haulRefusal Dev.haulServes Dev.ust
  rw [hust, hwalk, hclear]

/-! ### FRAME_TABLE_LOOKUP (R32, R139) -/

theorem exec_frameTableLookup (bank : Fin 32) (s : State) :
    exec (.frameTableLookup bank) s = .next (s.put (s.dev.bankServe bank)) := (rfl)

/-- The requests a bank may serve: the first stored one of each port, and those of the other attachments. -/
def Dev.bankRequests (d : Dev) (bank : Nat) : List Req :=
  (List.range 12).filterMap (fun h => d.bankHead h bank) ++
    d.space.lookupQ.filter (fun r => setOf (frameOfLine r.line) % 32 == bank && d.copyNext r)

/-- The key of a request at a bank. -/
def Dev.bankKey (d : Dev) (bank : Nat) (r : Req) : Nat := d.keyAt (arbBank bank) (srcAtt r) r.cls r.urg r.starved

/-- A request is granted its lookup and leaves the place where it waited. -/
def Dev.takeRequest (d : Dev) (bank : Nat) (r : Req) : Dev :=
  let b := (d.granted (arbBank bank) (srcAtt r)).countCell (srcAtt r) 0x48 0
  match r.org with
  | .host h _ => b.modPort h (fun p => { p with store := p.store.filter (fun q => q.id != r.id) })
  | _ => b.modSpace (fun p => { p with lookupQ := p.lookupQ.filter (fun q => q.id != r.id) })

theorem Dev.takeRequest_space (d : Dev) (bank : Nat) (r : Req) :
    (d.takeRequest bank r).space.walking = d.space.walking ∧ (d.takeRequest bank r).space.clearing = d.space.clearing := by
  unfold Dev.takeRequest
  dsimp only
  split <;> simp [Dev.modPort]

theorem Dev.rdReg_takeRequest_other (d : Dev) (bank : Nat) (r : Req) (a : Nat) (h : a / 4096 ≠ pgFABRIC) :
    (d.takeRequest bank r).rdReg a = d.rdReg a := by
  unfold Dev.takeRequest
  dsimp only
  split <;> exact Dev.rdReg_countCell_other _ _ _ _ a h

/-- Taking a request does not change whether haulage serves. -/
theorem Dev.takeRequest_haulRefusal (d : Dev) (bank : Nat) (r : Req) : (d.takeRequest bank r).haulRefusal = d.haulRefusal :=
  Dev.haulRefusal_congr (d.rdReg_takeRequest_other bank r _ (by decide)) (d.takeRequest_space bank r).1 (d.takeRequest_space bank r).2

theorem Dev.bankServe_of_idle (d : Dev) (bank : Nat) (h : d.bankRequests bank = [] ∨ d.pins.refclk = false) : d.bankServe bank = d := by
  unfold Dev.bankServe
  rcases h with h | h
  · rw [Dev.bankRequests] at h
    simp [h, bestBy]
  · simp [h]

/-- What a bank does with the request it has chosen. -/
theorem Dev.bankServe_of_best (d : Dev) (bank : Nat) (r : Req) (hc : d.pins.refclk = true)
    (hr : bestBy (d.bankKey bank) (d.bankRequests bank) = some r) :
    d.bankServe bank =
      match d.haulRefusal with
      | some (us, quiet) => ((d.takeRequest bank r).answer r (.retry us) quiet).countAns (d.takeRequest bank r) r
      | none => ((d.takeRequest bank r).lookup { r with starved := false }).countAns (d.takeRequest bank r) r := by
  unfold Dev.bankServe
  rw [if_neg (by simp [hc])]
  change (match bestBy (d.bankKey bank) (d.bankRequests bank) with | none => d | some r => _) = _
  rw [hr, ← d.takeRequest_haulRefusal bank r]
  rfl

/-- The clauses of O39 on FRAME_TABLE_LOOKUP. -/
theorem Dev.bankServe_cases (d : Dev) (bank : Nat) (h : d.bankRequests bank ≠ []) (hc : d.pins.refclk = true) :
    ∃ r ∈ d.bankRequests bank, (∀ q ∈ d.bankRequests bank, d.bankKey bank q ≤ d.bankKey bank r) ∧
      (d.haulServes = true →
        d.bankServe bank = ((d.takeRequest bank r).lookup { r with starved := false }).countAns (d.takeRequest bank r) r) ∧
      (d.haulServes = false → d.ust hauPage = stFAILED →
        d.bankServe bank = ((d.takeRequest bank r).answer r (.retry 1000)).countAns (d.takeRequest bank r) r) ∧
      (d.haulServes = false → d.ust hauPage ≠ stFAILED →
        d.bankServe bank = ((d.takeRequest bank r).answer r (.retry 100)
          (d.space.walking || d.space.clearing || d.ust hauPage == stKINDLING)).countAns (d.takeRequest bank r) r) := by
  obtain ⟨r, hbest, hmem, hmax⟩ := exists_bestBy (d.bankKey bank) h
  have hserve := d.bankServe_of_best bank r hc hbest
  refine ⟨r, hmem, hmax, fun hs => ?_, fun hs hf => ?_, fun hs hf => ?_⟩
  · rw [hserve, Dev.haulRefusal_of_serves hs]
  · rw [hserve, Dev.haulRefusal_of_failed hs hf]
  · rw [hserve, Dev.haulRefusal_of_unfailed hs hf]

/-! ### HELD_REQUEST_SERVE (R55, R58) -/

theorem exec_heldRequestServe (s : State) : exec .heldRequestServe s = .next (s.put s.dev.serveHeld) := (rfl)

/-- The held requests that can go on, the first of each line and attachment. -/
def Dev.heldReady (d : Dev) : List Held :=
  d.haul.held.filter (fun x => !(d.haul.held.any (fun y => spansMeet y.req.span x.req.span && srcAtt y.req == srcAtt x.req &&
    decide (y.req.id < x.req.id))) && (d.tryHeld x).isSome)

/-- The key of a held request. -/
def Dev.heldKey (d : Dev) (x : Held) : Nat := d.keyAt arbHeld (srcAtt x.req) x.req.cls x.req.urg x.req.starved

theorem Dev.serveHeld_of_idle (d : Dev) (h : d.haulServes = false ∨ d.pins.refclk = false ∨ d.heldReady = []) : d.serveHeld = d := by
  unfold Dev.serveHeld
  rcases h with h | h | h
  · simp [h]
  · simp [h]
  · rw [Dev.heldReady] at h
    simp [h, bestBy]

theorem Dev.serveHeld_of_best (d : Dev) (x : Held) (hs : d.haulServes = true) (hc : d.pins.refclk = true)
    (hx : bestBy d.heldKey d.heldReady = some x) : d.serveHeld = ((d.granted arbHeld (srcAtt x.req)).tryHeld x).getD d := by
  unfold Dev.serveHeld
  rw [if_neg (by simp [hs, hc])]
  change (match bestBy d.heldKey d.heldReady with | none => d | some x => _) = _
  rw [hx]

/-- A held request is looked up again, out of its place; where it waits on, it keeps its place if an eviction has been started for it, and
nothing happens if not. -/
theorem Dev.tryHeld_granted_getD (d : Dev) (p src : Nat) (x : Held) :
    ((d.granted p src).tryHeld x).getD d =
      let t := ((d.granted p src).modHaul (fun p => { p with held := dropFirst (fun y => y == x) p.held })).lookup x.req
      if t.haul.held.any (fun y => y.req == x.req) = false then t
      else if d.haul.evicts.length < t.haul.evicts.length then t.modHaul (fun p => { p with held := d.haul.held })
      else d := by
  unfold Dev.tryHeld
  simp only [Bool.not_eq_true', Dev.granted_haul]
  split
  · rfl
  · split <;> rfl

/-! ### HOLD_TIMEOUT (R58, R71) -/

theorem exec_holdTimeout (i : Fin 1024) (s : State) : exec (.holdTimeout i) s = .next (s.put (s.dev.holdTimeout i)) := (rfl)

theorem Dev.holdTimeout_of_held (d : Dev) (i : Nat) (x : Held) (h : d.haul.held[i]? = some x) :
    d.holdTimeout i = ((d.modHaul (fun p => { p with held := dropFirst (fun y => y == x) p.held })).answer x.req
      (.retry (if x.why = .fill then 100 else 20))).bump Reg.HAULAGE_CNT_HOLD_NACK_VALUE := by
  unfold Dev.holdTimeout
  simp only [h, beq_iff_eq]

/-- A request that gives its place up asks nothing more of the fill. -/
def unasked (r q : Req) : Req := if q.id = r.id then { q with org := .hint } else q

theorem Dev.holdTimeout_of_fillWaiter (d : Dev) (i k : Nat) (r : Req) (b : Fill) (hi : d.haul.held.length ≤ i)
    (hw : d.fillWaiters[i - d.haul.held.length]? = some (k, r)) (hb : d.fill k = some b) :
    d.holdTimeout i =
      let c := d.setFill k (some { b with ops := (b.ops.filter (fun q => q.id != r.id || isWrite q.op)).map (unasked r),
                                          writes := b.writes.map (fun w => (unasked r w.1, w.2)) })
      if r.org = .hint then c else (c.answer r (.retry 100)).bump Reg.HAULAGE_CNT_HOLD_NACK_VALUE := by
  have hwrites : (fun w : Req × Result => if w.1.id = r.id then ({ w.1 with org := .hint }, w.2) else w) =
      fun w => (unasked r w.1, w.2) := by
    funext w
    unfold unasked
    split <;> rfl
  unfold Dev.holdTimeout
  simp only [List.getElem?_eq_none hi, hw, hb, beq_iff_eq, hwrites]
  rfl

theorem Dev.holdTimeout_of_flush (d : Dev) (i : Nat) (w : FlushWait) (hi : d.haul.held.length + d.fillWaiters.length ≤ i)
    (hw : d.haul.flushes[i - d.haul.held.length - d.fillWaiters.length]? = some w) :
    d.holdTimeout i = ((d.modHaul (fun p => { p with flushes := dropFirst (fun y => y == w) p.flushes })).answer w.req
      (.retry 20)).bump Reg.HAULAGE_CNT_HOLD_NACK_VALUE := by
  unfold Dev.holdTimeout
  simp only [List.getElem?_eq_none (show d.haul.held.length ≤ i by omega),
    List.getElem?_eq_none (show d.fillWaiters.length ≤ i - d.haul.held.length by omega), hw]

theorem Dev.holdTimeout_of_none (d : Dev) (i : Nat)
    (hi : d.haul.held.length + d.fillWaiters.length + d.haul.flushes.length ≤ i) : d.holdTimeout i = d := by
  unfold Dev.holdTimeout
  simp only [List.getElem?_eq_none (show d.haul.held.length ≤ i by omega),
    List.getElem?_eq_none (show d.fillWaiters.length ≤ i - d.haul.held.length by omega),
    List.getElem?_eq_none (show d.haul.flushes.length ≤ i - d.haul.held.length - d.fillWaiters.length by omega)]

/-- Settles O39: a lookup takes a request of the greatest key, and a timeout the request at its place. -/
theorem lookupsAreServedInOrderOfKey : Obligations.LookupsAreServedInOrderOfKey := by
  intro s
  refine ⟨fun bank => ?_, ?_, fun i => ?_⟩
  · simp only [exec_frameTableLookup]
    refine ⟨fun h => by rw [Dev.bankServe_of_idle _ _ h], fun h hc => ?_⟩
    obtain ⟨r, hmem, hmax, hserves, hfailed, helse⟩ := s.dev.bankServe_cases bank h hc
    exact ⟨r, hmem, hmax, fun hs => by rw [hserves hs]; rfl, fun hs hf => by rw [hfailed hs hf]; rfl,
      fun hs hf => by rw [helse hs hf]; rfl⟩
  · simp only [exec_heldRequestServe]
    refine ⟨fun h => by rw [Dev.serveHeld_of_idle _ h], fun hs hc h => ?_⟩
    obtain ⟨x, hbest, hmem, hmax⟩ := exists_bestBy s.dev.heldKey (l := s.dev.heldReady) h
    exact ⟨x, hmem, hmax, by rw [Dev.serveHeld_of_best _ x hs hc hbest, Dev.tryHeld_granted_getD]⟩
  · simp only [exec_holdTimeout]
    exact ⟨fun x h => by rw [Dev.holdTimeout_of_held _ _ x h],
      fun k r b hi hw hb => by rw [Dev.holdTimeout_of_fillWaiter _ _ k r b hi hw hb]; rfl,
      fun w hi hw => by rw [Dev.holdTimeout_of_flush _ _ w hi hw],
      fun hi => by rw [Dev.holdTimeout_of_none _ _ hi]⟩

end Sys2Proof.Machine

/-!
PROOFS. The command of a shaft controller, its idle rows, refreshes and rates (R164 to R178, R412).
-/
namespace Sys2Proof.Machine

/-- The oldest of those with the greatest key stands in the list, and nothing in the list has a greater key. -/
theorem bestOldest_eq_some {α : Type} {key age : α → Nat} {l : List α} {x : α} (h : bestOldest key age l = some x) :
    x ∈ l ∧ ∀ y ∈ l, key y ≤ key x := by
  unfold bestOldest at h
  split at h
  · cases h
  next b hb =>
    have hsame := List.mem_filter.mp (List.mem_of_find?_eq_some h)
    obtain ⟨hmem, hkey⟩ := hsame
    rw [beq_iff_eq] at hkey
    exact ⟨hmem, hkey ▸ (bestBy_eq_some hb).2⟩

/-! ### The command that a piece of work needs next (R168, R169, R273) -/

/-- A re-sense that still has to close the row of its bank (R273). -/
def Want.toShut : Want → Bool
  | .again f => f.stage == 3 && !f.shut
  | _ => false

theorem Want.toShut_iff {w : Want} : w.toShut = true ↔ ∃ f, w = .again f ∧ f.stage = 3 ∧ f.shut = false := by
  cases w <;> simp [Want.toShut]

/-- The row open in the work's bank has had its hits, and work of no lower key waits for another row of the bank. -/
def Dev.rowFull (d : Dev) (n : Nat) (kd : List (Want × Nat)) (w : Want) (key : Nat) : Bool :=
  d.fv Reg.SHAFT_SCHED_CTL_ROW_HIT_MAX n ≤ (d.bank n (bankOf w.line)).hits &&
    kd.any (fun v => bankOf v.1.line == bankOf w.line && some (rowOf v.1.line) != (d.bank n (bankOf w.line)).row && decide (key ≤ v.2))

theorem Dev.hits_of_rowFull {d : Dev} {n : Nat} {kd : List (Want × Nat)} {w : Want} {key : Nat} (h : d.rowFull n kd w key = true) :
    d.fv Reg.SHAFT_SCHED_CTL_ROW_HIT_MAX n ≤ (d.bank n (bankOf w.line)).hits :=
  of_decide_eq_true (Bool.and_eq_true_iff.mp h).1

theorem Dev.nextOf_eq (d : Dev) (n : Nat) (kd : List (Want × Nat)) (w : Want) (key : Nat) :
    d.nextOf n kd w key =
      if (d.shaft n).bankHeld (bankOf w.line) then none
      else match (d.bank n (bankOf w.line)).row with
      | some r =>
        if w.toShut then (if d.preLegal n (bankOf w.line) then some .pre else none)
        else if r == rowOf w.line then (if d.rowFull n kd w key || !(d.colLegal n (bankOf w.line) w.isW) then none else some .col)
        else if d.rowFull n kd w key && d.preLegal n (bankOf w.line) then some .pre
        else none
      | none => if d.actLegal n (bankOf w.line) then some .act else none := (rfl)

/-- The state of the work's bank fits a command: its row is open for a column command, the bank is closed for an ACT, and the PRE is of a row
that has had its hits or is to be re-sensed; and the command is legal. -/
def Dev.fitsNext (d : Dev) (n : Nat) (w : Want) : NextC → Prop
  | .col => (d.bank n (bankOf w.line)).row = some (rowOf w.line) ∧ d.colLegal n (bankOf w.line) w.isW = true
  | .act => (d.bank n (bankOf w.line)).row = none ∧ d.actLegal n (bankOf w.line) = true
  | .pre => ∃ r, (d.bank n (bankOf w.line)).row = some r ∧ d.preLegal n (bankOf w.line) = true ∧
      ((r ≠ rowOf w.line ∧ d.fv Reg.SHAFT_SCHED_CTL_ROW_HIT_MAX n ≤ (d.bank n (bankOf w.line)).hits) ∨
       (∃ f, w = .again f ∧ f.stage = 3 ∧ f.shut = false))

/-- A piece of work has a next command only while its bank is not held for a refresh, and one that the bank fits. -/
theorem Dev.nextOf_eq_some {d : Dev} {n : Nat} {kd : List (Want × Nat)} {w : Want} {key : Nat} {c : NextC}
    (h : d.nextOf n kd w key = some c) : (d.shaft n).bankHeld (bankOf w.line) = false ∧ d.fitsNext n w c := by
  rw [Dev.nextOf_eq, Option.ite_none_left_eq_some] at h
  obtain ⟨hheld, h⟩ := h
  refine ⟨(Bool.not_eq_true _).mp hheld, ?_⟩
  split at h
  next r hrow =>
    split at h
    next hshut =>
      obtain ⟨hpre, hc⟩ := Option.ite_none_right_eq_some.mp h
      obtain rfl := Option.some.inj hc
      exact ⟨r, hrow, hpre, .inr (Want.toShut_iff.mp hshut)⟩
    next =>
      split at h
      next hr =>
        obtain ⟨hcol, hc⟩ := Option.ite_none_left_eq_some.mp h
        obtain rfl := Option.some.inj hc
        simp only [Bool.or_eq_true, Bool.not_eq_true', not_or, Bool.not_eq_false] at hcol
        exact ⟨by rw [hrow, beq_iff_eq.mp hr], hcol.2⟩
      next hr =>
        obtain ⟨hpre, hc⟩ := Option.ite_none_right_eq_some.mp h
        obtain rfl := Option.some.inj hc
        obtain ⟨hfull, hlegal⟩ := Bool.and_eq_true_iff.mp hpre
        exact ⟨r, hrow, hlegal, .inl ⟨by simpa using hr, Dev.hits_of_rowFull hfull⟩⟩
  next hrow =>
    obtain ⟨hact, hc⟩ := Option.ite_none_right_eq_some.mp h
    obtain rfl := Option.some.inj hc
    exact ⟨hrow, hact⟩

/-! ### The command of an access (R168) -/

/-- The work that wants the cells; while a frequency change quiesces, only what goes on meanwhile. -/
def Dev.wanting (d : Dev) (n : Nat) : List Want :=
  if (d.shaft n).freq.isSome then (d.shaft n).wants.filter Want.quiesces else (d.shaft n).wants

/-- That work with its keys. -/
def Dev.keyedWants (d : Dev) (n : Nat) : List (Want × Nat) := (d.wanting n).map (fun w => (w, d.wantKey n w))

/-- That work with its keys and the commands it needs next. -/
def Dev.nextWants (d : Dev) (n : Nat) : List (Want × Nat × Option NextC) :=
  (d.keyedWants n).map (fun w => (w.1, w.2, d.nextOf n (d.keyedWants n) w.1 w.2))

/-- Does a command that is legal stand back for nothing: a column command for no re-read of its bank, another for no greater key of its bank? -/
def Dev.mayGo (d : Dev) (n : Nat) (x : Want × Nat × Option NextC) : Bool :=
  match x.2.2 with
  | some .col => x.1.isAgain || !((d.nextWants n).any (fun y => y.1.isAgain && bankOf y.1.line == bankOf x.1.line))
  | some _ => !((d.nextWants n).any (fun y => bankOf y.1.line == bankOf x.1.line && x.2.1 < y.2.1))
  | none => false

/-- A piece of work has its next command issued. -/
def Dev.issueNext (d : Dev) (n : Nat) (w : Want) : NextC → Dev
  | .col => d.doCol n w
  | .act => (d.markShut n w).doAct n (bankOf w.line) (rowOf w.line)
  | .pre => (d.markShut n w).doPre n (bankOf w.line)

/-- The order of the commands that may go: the key of their work, then column commands, then the kind of access that the buffer favours. -/
def Dev.nextRank (d : Dev) (n : Nat) (x : Want × Nat × Option NextC) : Nat :=
  x.2.1 * 4 + b2n (x.2.2 == some .col) * 2 + b2n (x.1.isW == (d.shaft n).drainW)

theorem Dev.accessCmd_eq (d : Dev) (n : Nat) :
    d.accessCmd n = (bestOldest (d.nextRank n) (fun x => x.1.age) ((d.nextWants n).filter (d.mayGo n))).bind
      (fun x => x.2.2.map (d.issueNext n x.1)) := by
  change (match bestOldest (d.nextRank n) (fun x => x.1.age) ((d.nextWants n).filter (d.mayGo n)) with | none => none | some (w, _, c) => _) = _
  rcases bestOldest (d.nextRank n) (fun x => x.1.age) ((d.nextWants n).filter (d.mayGo n)) with _ | ⟨w, key, _ | c⟩
  · rfl
  · rfl
  · cases c <;> rfl

theorem Dev.mem_nextWants {d : Dev} {n : Nat} {x : Want × Nat × Option NextC} :
    x ∈ d.nextWants n ↔ ∃ w ∈ d.wanting n, (w, d.wantKey n w, d.nextOf n (d.keyedWants n) w (d.wantKey n w)) = x := by
  simp [Dev.nextWants, Dev.keyedWants]

/-- A column command that is legal may go when it is a re-read, or when no re-read wants its bank. -/
theorem Dev.mayGo_col {d : Dev} {n : Nat} {v : Want} {key : Nat}
    (h : v.isAgain = true ∨ ∀ u ∈ d.wanting n, u.isAgain = true → bankOf u.line ≠ bankOf v.line) :
    d.mayGo n (v, key, some .col) = true := by
  rcases h with h | h
  · simp [Dev.mayGo, h]
  · simp only [Dev.mayGo, Bool.or_eq_true, Bool.not_eq_true', List.any_eq_false, Dev.mem_nextWants]
    refine .inr ?_
    rintro _ ⟨u, hu, rfl⟩
    simpa using h u hu

/-- What the command of an access is, when there is one. -/
theorem Dev.accessCmd_eq_some {d t : Dev} {n : Nat} (h : d.accessCmd n = some t) :
    ∃ w ∈ d.wanting n, ∃ c, d.nextOf n (d.keyedWants n) w (d.wantKey n w) = some c ∧ t = d.issueNext n w c ∧
      ∀ v ∈ d.wanting n, d.nextOf n (d.keyedWants n) v (d.wantKey n v) = some .col →
        (v.isAgain = true ∨ ∀ u ∈ d.wanting n, u.isAgain = true → bankOf u.line ≠ bankOf v.line) → d.wantKey n v ≤ d.wantKey n w := by
  rw [Dev.accessCmd_eq, Option.bind_eq_some_iff] at h
  obtain ⟨x, hbest, hcmd⟩ := h
  obtain ⟨c, hc, rfl⟩ := Option.map_eq_some_iff.mp hcmd
  obtain ⟨hmem, hmax⟩ := bestOldest_eq_some hbest
  obtain ⟨w, hw, rfl⟩ := Dev.mem_nextWants.mp (List.mem_filter.mp hmem).1
  refine ⟨w, hw, c, hc, rfl, fun v hv hcol hfree => ?_⟩
  have hrank := hmax (v, d.wantKey n v, some .col)
    (List.mem_filter.mpr ⟨Dev.mem_nextWants.mpr ⟨v, hv, by rw [hcol]⟩, Dev.mayGo_col hfree⟩)
  have hb : ∀ b : Bool, b2n b ≤ 1 := by decide
  have h1 := hb (d.nextOf n (d.keyedWants n) w (d.wantKey n w) == some NextC.col)
  have h2 := hb (w.isW == (d.shaft n).drainW)
  simp only [Dev.nextRank, beq_self_eq_true] at hrank
  change _ * 4 + 1 * 2 + _ ≤ _ at hrank
  omega

/-! ### COMMAND_ISSUE (R166 to R168, R178) -/

theorem exec_commandIssue (n : Fin 48) (s : State) :
    exec (.commandIssue n) s = .next (s.put (s.dev.commandIssue n).rekindleNow) := (rfl)

/-- The CK is counted, work is taken as space frees, and reads of full writes in the buffer are answered. -/
def Dev.ckTaken (b : Dev) (n : Nat) : Dev :=
  let c := ((b.modShaft n (fun p => { p with ck := p.ck + 1 })).cleanCmd n).colStep n
  let e := if c.mayTake n then (c.modShaft n (fun p => { p with first := false })).intake n
    else if c.freqBusy n then c.takeRepair n else c
  (e.serveBuffered n).noteDrain n

theorem Dev.ckTaken_eq (b : Dev) (n : Nat) :
    b.ckTaken n =
      let c := ((b.modShaft n (fun p => { p with ck := p.ck + 1 })).cleanCmd n).colStep n
      let e := if c.mayTake n then (c.modShaft n (fun p => { p with first := false })).intake n
        else if c.freqBusy n then c.takeRepair n else c
      (e.serveBuffered n).noteDrain n := (rfl)

/-- The command of the CK: of a replay, else one that is due, else of an access, else the PRE of an idle row. -/
def Dev.ckCommand (a : Dev) (n : Nat) : Dev :=
  match a.replayCmd n with
  | some t => t
  | none => match a.dueCmd n with
    | some t => t
    | none => match a.accessCmd n with
      | some t => t
      | none => (a.idleCmd n).getD a

theorem Dev.commandIssue_of_stopped {d : Dev} (n : Nat) (h : d.pins.refclk = false) : d.commandIssue n = d := by
  simp [Dev.commandIssue, h]

theorem Dev.commandIssue_of_unclocked {d : Dev} {n : Nat} (hc : d.pins.refclk = true) (h : (d.fencedSR n).ckRuns n = false) :
    d.commandIssue n = d.fencedSR n := by
  simp [Dev.commandIssue, hc, h]

theorem Dev.commandIssue_of_clocked {d : Dev} {n : Nat} (hc : d.pins.refclk = true) (h : (d.fencedSR n).ckRuns n = true) :
    d.commandIssue n = ((((d.fencedSR n).ckTaken n).ckCommand n).parkTry n).tripSR n := by
  unfold Dev.commandIssue
  rw [if_neg (by simp [hc]), if_neg (by simp [h])]
  simp only [← Dev.ckTaken_eq]
  generalize (d.fencedSR n).ckTaken n = a
  unfold Dev.ckCommand
  cases a.replayCmd n with
  | some t => rfl
  | none =>
    cases a.dueCmd n with
    | some t => rfl
    | none => cases a.accessCmd n <;> rfl

theorem Dev.replayCmd_nil {a : Dev} {n : Nat} (h : (a.shaft n).replay = []) : a.replayCmd n = none := by
  simp only [Dev.replayCmd, h]

theorem Dev.ckCommand_of_replay_waits {a : Dev} {n : Nat} {x : Issued} {l : List Issued} (h : (a.shaft n).replay = x :: l)
    (hw : (a.shaft n).ck < (a.shaft n).replayAt ∨ a.replayLegal n x.cmd = false) : a.ckCommand n = a := by
  unfold Dev.ckCommand Dev.replayCmd
  simp only [h]
  rw [if_pos (by simpa using hw)]

theorem Dev.ckCommand_of_replay {a : Dev} {n : Nat} {x : Issued} {l : List Issued} (h : (a.shaft n).replay = x :: l)
    (hat : (a.shaft n).replayAt ≤ (a.shaft n).ck) (hlegal : a.replayLegal n x.cmd = true) :
    a.ckCommand n = (a.modShaft n (fun p => { p with replay := l })).reissue n x := by
  unfold Dev.ckCommand Dev.replayCmd
  simp only [h]
  rw [if_neg (by simpa [hlegal] using hat)]

theorem Dev.ckCommand_of_due {a t : Dev} {n : Nat} (h : (a.shaft n).replay = []) (hd : a.dueCmd n = some t) : a.ckCommand n = t := by
  simp only [Dev.ckCommand, Dev.replayCmd_nil h, hd]

theorem Dev.ckCommand_of_access {a t : Dev} {n : Nat} (h : (a.shaft n).replay = []) (hd : a.dueCmd n = none)
    (ha : a.accessCmd n = some t) : a.ckCommand n = t := by
  simp only [Dev.ckCommand, Dev.replayCmd_nil h, hd, ha]

theorem Dev.ckCommand_of_idle {a : Dev} {n : Nat} (h : (a.shaft n).replay = []) (hd : a.dueCmd n = none)
    (ha : a.accessCmd n = none) : a.ckCommand n = (a.idleCmd n).getD a := by
  simp only [Dev.ckCommand, Dev.replayCmd_nil h, hd, ha]

/-! ### Idle rows, refreshes and rates (R169, R173 to R175, R177) -/

theorem exec_rowIdleExpiry (n : Fin 48) (b : Fin 32) (s : State) :
    exec (.rowIdleExpiry n b) s = .next (s.put (s.dev.rowIdle n b)) := (rfl)
theorem exec_refreshSlot (n : Fin 48) (s : State) : exec (.refreshSlot n) s = .next (s.put (s.dev.refreshSlot n)) := (rfl)
theorem exec_refreshRateLower (n : Fin 48) (s : State) : exec (.refreshRateLower n) s = .next (s.put (s.dev.rateLower n)) := (rfl)
theorem exec_tempStale (n : Fin 48) (s : State) : exec (.tempStale n) s = .next (s.put (s.dev.tempStale n)) := (rfl)

/-- A row may be closed in this CK, and no other command goes. -/
def Dev.mayClose (d : Dev) (n b : Nat) : Prop :=
  d.preLegal n b = true ∧ (d.shaft n).replay = [] ∧ d.dueCmd n = none ∧ d.accessCmd n = none

theorem Dev.rowIdle_of_wanted {d : Dev} {n b : Nat} (h : (d.bank n b).row = none ∨ d.rowWanted n b = true) : d.rowIdle n b = d := by
  unfold Dev.rowIdle
  rw [if_pos (by simpa using h)]

theorem Dev.rowIdle_of_mayClose {d : Dev} {n b : Nat} (hr : (d.bank n b).row ≠ none) (hw : d.rowWanted n b = false)
    (h : d.mayClose n b) : d.rowIdle n b = d.doPre n b := by
  unfold Dev.rowIdle
  rw [if_neg (by simp [hr, hw]), if_pos (by simpa [Dev.mayClose, and_assoc] using h)]

theorem Dev.rowIdle_of_not_mayClose {d : Dev} {n b : Nat} (hr : (d.bank n b).row ≠ none) (hw : d.rowWanted n b = false)
    (h : ¬ d.mayClose n b) : d.rowIdle n b = d.modShaft n (fun p => { p with idleDue := p.idleDue.filter (· != b) ++ [b] }) := by
  unfold Dev.rowIdle
  rw [if_neg (by simp [hr, hw]), if_neg (by simpa [Dev.mayClose, and_assoc] using h)]

/-- What REFRESH_SLOT makes due: the next bank's REFpb, or the REFab once in 32 slots, and the oldest queued RFM. -/
theorem Dev.refreshSlot_of_refreshes {d : Dev} {n : Nat} (h : d.refreshes n = true) :
    d.refreshSlot n =
      let all := d.fb Reg.SHAFT_REF_CTL_ALL_BANK n || (d.shaft n).subst
      (d.modShaft n (fun p => { p with
        rfmQ := p.rfmQ.tail, rfmDue := p.rfmDue ++ p.rfmQ.take 1, refAll := p.refAll || (all && p.slotBank == 0),
        refDue := if all then p.refDue else p.refDue ++ [p.slotBank], slotBank := (p.slotBank + 1) % 32 })).showRfm n := by
  unfold Dev.refreshSlot Dev.modShaft
  rw [if_neg (by simp [h])]
  dsimp only
  cases hq : (d.shaft n).rfmQ <;> cases (d.fb Reg.SHAFT_REF_CTL_ALL_BANK n || (d.shaft n).subst) <;> simp [hq]

theorem Dev.rateLower_of_none {d : Dev} {n : Nat} (h : (d.shaft n).lowering = none ∨ (d.shaft n).temp = none) : d.rateLower n = d := by
  unfold Dev.rateLower
  split
  next hl ht => simp [hl, ht] at h
  next => rfl

/-- With no replay and nothing due, the command of the CK is that of an access, when there is one: whose it is, and that its bank fits it. -/
theorem Dev.ckCommand_access_cases {a : Dev} {n : Nat} (h : (a.shaft n).replay = []) (hd : a.dueCmd n = none) (ha : a.accessCmd n ≠ none) :
    ∃ w ∈ a.wanting n, (a.shaft n).bankHeld (bankOf w.line) = false ∧
      (∀ v ∈ a.wanting n, a.nextOf n (a.keyedWants n) v (a.wantKey n v) = some .col →
        (v.isAgain = true ∨ ∀ u ∈ a.wanting n, u.isAgain = true → bankOf u.line ≠ bankOf v.line) → a.wantKey n v ≤ a.wantKey n w) ∧
      ∃ c, a.fitsNext n w c ∧ a.ckCommand n = a.issueNext n w c := by
  obtain ⟨t, ht⟩ := Option.ne_none_iff_exists'.mp ha
  obtain ⟨w, hw, c, hc, rfl, hmax⟩ := Dev.accessCmd_eq_some ht
  obtain ⟨hheld, hfits⟩ := Dev.nextOf_eq_some hc
  exact ⟨w, hw, hheld, hmax, c, hfits, Dev.ckCommand_of_access h hd ht⟩

/-- Settles O44: what each command does, and for an access that the chosen one has the greatest rank of those that may go. -/
theorem shaftControllersIssueCommands : Obligations.ShaftControllersIssueCommands := by
  intro s n
  simp only [exec_commandIssue, exec_rowIdleExpiry, exec_refreshSlot, exec_refreshRateLower, exec_tempStale, ← Dev.ckTaken_eq]
  refine ⟨fun hc => by rw [Dev.commandIssue_of_stopped _ hc], fun hc hck => by rw [Dev.commandIssue_of_unclocked hc hck],
    fun hc hck => ?_, fun b => ⟨fun h => by rw [Dev.rowIdle_of_wanted h], fun hr hw hi => ?_, fun hr hw hi => ?_⟩,
    fun h => by simp [Dev.refreshSlot, h], fun h => by rw [Dev.refreshSlot_of_refreshes h],
    fun h => by rw [Dev.rateLower_of_none h], fun r t hr ht => by simp only [Dev.rateLower, hr, ht],
    fun h => by simp [Dev.tempStale, h], fun h => by simp [Dev.tempStale, h]⟩
  · rw [Dev.commandIssue_of_clocked hc hck]
    refine ⟨fun x l hx => ⟨fun h => ?_, fun hat hlegal => ?_⟩, fun h t ht => ?_, fun h hd ha => ?_, fun h hd ha => ?_⟩
    · rw [Dev.ckCommand_of_replay_waits hx h]
    · rw [Dev.ckCommand_of_replay hx hat hlegal]
    · rw [Dev.ckCommand_of_due h ht]
    · rw [Dev.ckCommand_of_idle h hd ha]
    · obtain ⟨w, hw, hheld, hmax, c, hfits, hcmd⟩ := Dev.ckCommand_access_cases h hd ha
      refine ⟨w, hw, hheld, hmax, ?_⟩
      rw [hcmd]
      cases c with
      | col => exact .inl ⟨hfits.1, hfits.2, rfl⟩
      | act => exact .inr (.inl ⟨hfits.1, hfits.2, rfl⟩)
      | pre =>
        obtain ⟨r, hrow, hlegal, hwhy⟩ := hfits
        exact .inr (.inr ⟨r, hrow, hlegal, hwhy, rfl⟩)
  · rw [Dev.rowIdle_of_mayClose hr hw hi]
  · rw [Dev.rowIdle_of_not_mayClose hr hw hi]

end Sys2Proof.Machine

/-!
PROOFS. Alerts, parking, frequency changes, held requests and the failure of a shaft (R165, R178 to R185, R197, R341, R342).
-/
namespace Sys2Proof.Machine

/-! ### The state of a shaft after a change to it -/

@[simp] theorem Dev.shaft_modShaft_same (d : Dev) (n : Nat) (f : ShaftSt → ShaftSt) : (d.modShaft n f).shaft n = f (d.shaft n) :=
  d.shaft_setShaft_same n _

@[simp] theorem Dev.shaft_bump (d : Dev) (f : Fld) (i k m : Nat) : (d.bump f i k).shaft m = d.shaft m := (rfl)

/-- Only what a change makes of the shaft's state counts. -/
theorem Dev.modShaft_congr {d : Dev} {n : Nat} {f g : ShaftSt → ShaftSt} (h : f (d.shaft n) = g (d.shaft n)) :
    d.modShaft n f = d.modShaft n g := by
  unfold Dev.modShaft
  rw [h]

/-- A change leaves the unit state of every shaft. -/
@[simp] theorem Dev.shaftSt_modShaft (d : Dev) (n m : Nat) (f : ShaftSt → ShaftSt) : (d.modShaft n f).shaftSt m = d.shaftSt m := (rfl)

/-! ### Alerts (R178, R179) -/

theorem exec_alertN (n : Fin 48) (o : AlertObs) (s : State) : exec (.alertN n o) s = .next (s.put (s.dev.alert n o)) := (rfl)

theorem Dev.alert_of_idle {d : Dev} {n : Nat} {o : AlertObs} (h : (d.shaft n).retry.length ≤ o.pos.val ∨ d.inSR n = true) :
    d.alert n o = d := by
  unfold Dev.alert
  rw [if_pos (by simpa using h)]

/-- The place in the retry buffer of the command that the alert names, counted from the oldest. -/
def ShaftSt.alertPlace (p : ShaftSt) (o : AlertObs) : Nat := p.retry.length - 1 - o.pos.val

/-- The alerts in a row with this one, of command `c`. -/
def Dev.alertCount (d : Dev) (n : Nat) (o : AlertObs) (c : Issued) : Nat :=
  let p := d.shaft n
  let clean := !p.alerted || (p.retry.take (p.alertPlace o)).any (fun x => x.again)
  let old := d.fv Reg.SHAFT_ALERT_STATUS_CONSEC n
  if p.probesCa then old else (if clean then 0 else old) + b2n c.again

/-- The cause is counted, and the banks are as before the command. -/
def Dev.alertNoted (d : Dev) (n : Nat) (o : AlertObs) (c : Issued) : Dev :=
  (((d.setF Reg.SHAFT_ALERT_STATUS_LAST_CAUSE (if o.data then 2 else 1) n).bump
    (if o.data then Reg.SHAFT_CNT_ALERT_WD_VALUE else Reg.SHAFT_CNT_ALERT_CA_VALUE) n).setF Reg.SHAFT_ALERT_STATUS_CONSEC
    (min 3 (d.alertCount n o c)) n).modShaft n (fun p => { p with alerted := true, banks := c.was })

/-- The commands the die has discarded. -/
def ShaftSt.discarded (p : ShaftSt) (o : AlertObs) : List Issued :=
  (p.retry.drop (p.alertPlace o)).filter (fun x => x.cmd != .mrr) ++ p.replay.filter (fun x => x.cmd != .mrr)

/-- The replay of the commands `lost` is set up over the state `q`: the retry buffer of `p` keeps the `i` commands before them, and an MRR and
4 CK go ahead. -/
def ShaftSt.replayFrom (p : ShaftSt) (i : Nat) (lost : List Issued) (c : Issued) (q : ShaftSt) : ShaftSt :=
  let reads := lost.filterMap (·.read)
  { q with
    retry := (p.retry.take i).map (fun x => { x with again := false, old := true }),
    replay := { c with cmd := .mrr, read := none, wd := none } :: lost,
    replayAt := p.ck + 4,
    fly := p.fly.map (fun f => if reads.contains (f.req.id, f.idx) && f.wait == 0 && f.stage ≤ 3 then { f with wait := 2 } else f) }

/-- What an alert does once its command is found. -/
theorem Dev.alert_of_command {d : Dev} {n : Nat} {o : AlertObs} {c : Issued} (hsr : d.inSR n = false)
    (hpos : o.pos.val < (d.shaft n).retry.length) (hc : (d.shaft n).retry[(d.shaft n).alertPlace o]? = some c) :
    d.alert n o =
      if 3 ≤ d.alertCount n o c then (d.alertNoted n o c).alertFence n ((d.shaft n).discarded o) o.sreFails.val
      else ((d.alertNoted n o c).bump Reg.SHAFT_CNT_REPLAY_VALUE n).modShaft n
        (fun q => q.replayFrom ((d.shaft n).alertPlace o) ((d.shaft n).discarded o) c q) := by
  rw [ShaftSt.alertPlace] at hc
  unfold Dev.alert
  rw [if_neg (by simp [hsr, hpos])]
  simp only [hc]
  rfl

theorem Dev.alert_of_third {d : Dev} {n : Nat} {o : AlertObs} {c : Issued} (hsr : d.inSR n = false)
    (hpos : o.pos.val < (d.shaft n).retry.length) (hc : (d.shaft n).retry[(d.shaft n).alertPlace o]? = some c)
    (hk : 3 ≤ d.alertCount n o c) :
    d.alert n o = (d.alertNoted n o c).alertFence n ((d.shaft n).discarded o) o.sreFails.val := by
  rw [Dev.alert_of_command hsr hpos hc, if_pos hk]

/-- Counting the cause has left the buffers as they were, so the replay is made of those before the alert. -/
theorem Dev.alert_of_fewer {d : Dev} {n : Nat} {o : AlertObs} {c : Issued} (hsr : d.inSR n = false)
    (hpos : o.pos.val < (d.shaft n).retry.length) (hc : (d.shaft n).retry[(d.shaft n).alertPlace o]? = some c)
    (hk : d.alertCount n o c < 3) :
    d.alert n o = ((d.alertNoted n o c).bump Reg.SHAFT_CNT_REPLAY_VALUE n).modShaft n
      ((d.shaft n).replayFrom ((d.shaft n).alertPlace o) ((d.shaft n).discarded o) c) := by
  rw [Dev.alert_of_command hsr hpos hc, if_neg (Nat.not_le.mpr hk)]
  refine Dev.modShaft_congr ?_
  rw [Dev.shaft_bump, Dev.alertNoted, Dev.shaft_modShaft_same]
  rfl

/-! ### Parking (R180, R185) -/

theorem exec_autoParkExpiry (n : Fin 48) (s : State) :
    exec (.autoParkExpiry n) s = .next (s.put
      (if s.dev.fb Reg.SHAFT_PARK_CTL_AUTO n && (s.dev.shaft n).collar.isEmpty && (s.dev.shaft n).localq.isEmpty then s.dev.park n
        else s.dev)) := by
  change execAutoParkExpiry n s = _
  rw [execAutoParkExpiry, State.on_ite]

theorem Dev.park_of_unready {d : Dev} {n : Nat} (h : d.shaftSt n ≠ stONLINE ∨ d.isParked n = true) : d.park n = d := by
  unfold Dev.park
  rw [if_pos (by simpa using h)]

/-- A shaft ONLINE that is not parked notes the PARK during a frequency change, and else starts to park. -/
theorem Dev.park_of_ready {d : Dev} {n : Nat} (hst : d.shaftSt n = stONLINE) (hp : d.isParked n = false) :
    d.park n = if (d.shaft n).freq.isSome then d.modShaft n (fun q => { q with parkHeld := true })
      else (d.modShaft n (fun q => { q with parking := true })).parkTry n := by
  unfold Dev.park
  rw [if_neg (by simp [hst, hp])]
  rfl

/-- A shaft that starts to park with nothing waiting enters self-refresh if it is empty, and else waits until it is. -/
theorem Dev.parkTry_of_parking {d : Dev} {n : Nat} (hst : d.shaftSt n = stONLINE) (hc : (d.shaft n).collar = [])
    (hl : (d.shaft n).localq = []) :
    (d.modShaft n (fun q => { q with parking := true })).parkTry n =
      let t := d.modShaft n (fun q => { q with parking := true })
      if (d.shaft n).empty then
        ((((t.enterSR n).modShaft n (fun q => { q with parking := false })).setF Reg.SHAFT_STATUS_PARKED 1 n).bump
          Reg.SHAFT_CNT_PARK_VALUE n).wlTrigger
      else t := by
  unfold Dev.parkTry
  dsimp only
  rw [Dev.shaft_modShaft_same, if_neg (by simp), if_neg (by simp [hst, hc, hl])]
  rfl

/-! ### Waking (R180, R185) -/

theorem exec_parkedAccessWake (n : Fin 48) (s : State) :
    exec (.parkedAccessWake n) s = .next (s.put
      (if (!(s.dev.shaft n).collar.isEmpty || !(s.dev.shaft n).localq.isEmpty) && !(s.dev.fb Reg.HEAT_STATUS_TRIPPED) then
        s.dev.wakeShaft n else s.dev)) := by
  change execParkedAccessWake n s = _
  rw [execParkedAccessWake, State.on_ite]

theorem Dev.wakeShaft_of_unready {d : Dev} {n : Nat} (h : d.isParked n = false ∨ d.pins.refclk = false) : d.wakeShaft n = d := by
  unfold Dev.wakeShaft
  rw [if_pos (by simpa using h)]

/-- Writing a field leaves the fields of the register that are apart from it. -/
theorem bitsOf_withBits_apart (v : Word32) {hi lo hi' lo' x : Nat} (hhi : hi < 32) (h : hi < lo' ∨ hi' < lo) :
    bitsOf (withBits v hi lo x) hi' lo' = bitsOf v hi' lo' := by
  refine bitsOf_congr fun i hlo' hhi' => ?_
  rw [getLsbD_withBits _ _ _ hhi, if_neg (by omega)]

/-- Clearing PARKED leaves the point that the shaft runs at. -/
theorem Dev.point_unparked (d : Dev) (n : Nat) : ((d.setF Reg.SHAFT_STATUS_PARKED 0 n).wlTrigger).point n = d.point n := by
  change bitsOf ((d.setF Reg.SHAFT_STATUS_PARKED 0 n).rdReg (Reg.SHAFT_STATUS_PARKED.addr n 0)) 1 0 = _
  unfold Dev.setF
  rw [Dev.rdReg_wrReg_same]
  exact bitsOf_withBits_apart _ (by decide) (by decide)

/-- The shaft wakes, or runs the change that waits for the wake from its step 3. -/
theorem Dev.wakeShaft_of_ready {d : Dev} {n : Nat} (hp : d.isParked n = true) (hc : d.pins.refclk = true) :
    d.wakeShaft n =
      let e := ((d.setF Reg.SHAFT_STATUS_PARKED 0 n).wlTrigger).modShaft n (fun q => { q with changeOnWake := false })
      if (d.shaft n).changeOnWake = true ∧ d.wantPoint n ≠ d.point n then
        (((e.autoChange n).setF Reg.SHAFT_STATUS_FREQ_BUSY 1 n).setF Reg.SHAFT_FREQ_STATUS_BUSY 1 n).modShaft n (fun p =>
          { p with freq := p.freq.map (fun c => { c with step := 3 }) })
      else e.exitSR n := by
  have hwant : ((d.setF Reg.SHAFT_STATUS_PARKED 0 n).wlTrigger).wantPoint n = d.wantPoint n := (rfl)
  unfold Dev.wakeShaft
  rw [if_neg (by simp [hp, hc])]
  simp only [hwant, Dev.point_unparked, Bool.and_eq_true, bne_iff_ne]
  rfl

/-! ### CEILING_CHANGE (R184, R185) -/

theorem exec_ceilingChange (n : Fin 48) (s : State) : exec (.ceilingChange n) s = .next (s.put (s.dev.ceilingChange n)) := (rfl)

theorem Dev.ceilingChange_of_settled {d : Dev} {n : Nat} (h : d.wantPoint n = d.point n ∨ (d.shaft n).freq ≠ none) :
    d.ceilingChange n = d := by
  unfold Dev.ceilingChange
  rw [if_pos (by simpa [Dev.freqBusy, Option.isSome_iff_ne_none] using h)]

/-- A parked shaft changes at its wake, one that is up and out of self-refresh now. -/
theorem Dev.ceilingChange_of_called {d : Dev} {n : Nat} (hp : d.wantPoint n ≠ d.point n) (hf : (d.shaft n).freq = none) :
    d.ceilingChange n =
      if d.isParked n then d.modShaft n (fun q => { q with changeOnWake := true })
      else if (d.shaftSt n = stONLINE ∨ d.shaftSt n = stEVACUATING) ∧ d.inSR n = false then d.autoChange n
      else d := by
  unfold Dev.ceilingChange
  rw [if_neg (by simp [Dev.freqBusy, hp, hf])]
  simp only [Bool.and_eq_true, Bool.or_eq_true, beq_iff_eq, Bool.not_eq_true']

theorem Dev.autoChange_of_called {d : Dev} {n : Nat} (hp : d.wantPoint n ≠ d.point n) :
    d.autoChange n =
      let e := if d.point n < d.wantPoint n ∨ d.idlePoint n ≠ d.wantPoint n then d.loadSet n (d.wantPoint n) else d
      e.startChange n (d.wantPoint n) (e.shaft n).ceilBy := by
  unfold Dev.autoChange
  simp only [beq_iff_eq, hp, if_false, Bool.or_eq_true, decide_eq_true_eq, bne_iff_ne]

/-! ### FREQ_CHANGE_STEP_END (R182, R183) -/

theorem exec_freqChangeStepEnd (n : Fin 48) (ok : Bool) (ns : Nat) (o : ShortObs) (s : State) :
    exec (.freqChangeStepEnd n ok ns o) s = .next (s.put (s.dev.changeStep n ok ns o)) := (rfl)

/-- The change goes on as `c`. -/
def Dev.setChange (d : Dev) (n : Nat) (c : FreqCh) : Dev := d.modShaft n (fun q => { q with freq := some c })

/-- A change that cannot be reversed any more ends with the failure of the shaft (R183). -/
def Dev.changeLost (d : Dev) (n : Nat) (c : FreqCh) : Dev :=
  (((d.changeFail n).setF Reg.SHAFT_STATUS_SELF_REFRESH 1 n).changeEnd n { c with result := 4 }).failShaft n

/-- Step 3 ends: the change goes on to the flip of the sets, back to the old one, or turns back. -/
def Dev.endStep3 (d : Dev) (n : Nat) (ok : Bool) (c : FreqCh) : Dev :=
  if ok then
    if c.back then
      (if d.fv Reg.SHAFT_STATUS_ACTIVE_SET n = c.oldSet then d else d.flipSet n c.old).setChange n { c with step := 5 }
    else d.setChange n { c with step := 4 }
  else if c.back then d.changeLost n c
  else (d.changeFail n).setChange n { c with back := true, result := 2 }

/-- Step 6 ends: the change has succeeded, or turns back with step 3, or is lost. -/
def Dev.endStep6 (d : Dev) (n : Nat) (ok : Bool) (o : ShortObs) (c : FreqCh) : Dev :=
  if ok && o.ok then (d.shortRetrain n o).changeEnd n c
  else
    let failed := d.shortRetrain n { o with ok := false }
    if c.back then failed.changeLost n c
    else ((failed.changeFail n).enterSR n).setChange n { c with back := true, result := 3, step := 3 }

/-- What the end of a step does, by its number. -/
def Dev.endStep (d : Dev) (n : Nat) (ok : Bool) (o : ShortObs) (c : FreqCh) : Nat → Dev
  | 1 => (((d.issueRfms n).setF Reg.SHAFT_STATUS_FREQ_BUSY 1 n).setF Reg.SHAFT_FREQ_STATUS_BUSY 1 n).setChange n { c with step := 2 }
  | 2 => (d.enterSR n).setChange n { c with step := if c.target = c.old then 4 else 3 }
  | 3 => d.endStep3 n ok c
  | 4 => (d.flipSet n c.target).setChange n { c with step := 5 }
  | 5 => (d.exitSR n).setChange n { c with step := 6 }
  | _ => d.endStep6 n ok o c

theorem Dev.endStep_six (d : Dev) (n : Nat) (ok : Bool) (o : ShortObs) (c : FreqCh) : d.endStep n ok o c 6 = d.endStep6 n ok o c := (rfl)

theorem Dev.changeStep_of_idle {d : Dev} {n : Nat} (ok : Bool) (ns : Nat) (o : ShortObs)
    (h : (d.shaft n).freq = none ∨ d.pins.refclk = false) : d.changeStep n ok ns o = d := by
  unfold Dev.changeStep
  split
  · rfl
  next c hc => rw [if_pos (by rcases h with h | h <;> simp_all)]

/-- Step 1 waits for the quiesce, step 6 for the helper. -/
theorem Dev.changeStep_of_waiting {d : Dev} {n : Nat} (ok : Bool) (ns : Nat) (o : ShortObs) {c : FreqCh} (hf : (d.shaft n).freq = some c)
    (h : (c.step = 1 ∧ (d.shaft n).quiesced = false) ∨ (6 ≤ c.step ∧ d.helperTaken n = true)) : d.changeStep n ok ns o = d := by
  unfold Dev.changeStep
  simp only [hf]
  rw [if_pos (by rcases h with h | h <;> simp [h])]

/-- A step that waits for nothing ends. -/
theorem Dev.changeStep_of_step {d : Dev} {n : Nat} (ok : Bool) (ns : Nat) (o : ShortObs) {c : FreqCh} {k : Nat}
    (hf : (d.shaft n).freq = some c) (hc : d.pins.refclk = true) (hk : c.step = k) (hq : k = 1 → (d.shaft n).quiesced = true)
    (hh : 6 ≤ k → d.helperTaken n = false) : d.changeStep n ok ns o = d.endStep n ok o { c with ns := c.ns + ns } k := by
  subst hk
  unfold Dev.changeStep
  simp only [hf]
  rw [if_neg (by simpa [hc] using ⟨hq, hh⟩)]
  simp only [beq_iff_eq]
  rfl

/-! ### FENCED_HOLD_TIMEOUT (R341) -/

theorem exec_fencedHoldTimeout (n : Fin 48) (s : State) :
    exec (.fencedHoldTimeout n) s = .next (s.put (s.dev.fencedTimeout n)) := (rfl)

/-- The oldest request held in the window: not begun, or one whose reads a fence cut short. -/
def ShaftSt.heldInside (p : ShaftSt) : Option WinE :=
  p.win.find? (fun w => !(fencedWork w.req) && (!w.issued || p.fly.any (fun f => f.req.id == w.req.id && f.wait != 0 && f.stage == 0)))

/-- The oldest request held before the window. -/
def ShaftSt.heldOutside (p : ShaftSt) : Option Req := (p.collar.map (·.1) ++ p.localq).find? (fun r => !(fencedWork r))

theorem Dev.fencedTimeout_of_unfenced {d : Dev} {n : Nat} (hf : d.shaftSt n ≠ stFENCED) (ht : d.shaftSt n ≠ stTESTING) :
    d.fencedTimeout n = d := by
  unfold Dev.fencedTimeout
  rw [if_pos (by simp [hf, ht])]

/-- Who gives its place up: the oldest in the window, else the oldest before it. -/
theorem Dev.fencedTimeout_of_fenced {d : Dev} {n : Nat} (h : d.shaftSt n = stFENCED ∨ d.shaftSt n = stTESTING) :
    d.fencedTimeout n =
      match (d.shaft n).heldInside, (d.shaft n).heldOutside with
      | some w, _ => (d.modShaft n (fun p => { p with
          win := dropFirst (fun x => x == w) p.win, fly := p.fly.filter (fun f => f.req.id != w.req.id),
          units := p.units.filter (fun u => u.id != w.req.id || u.value.isSome) })).shaftAnswer n w.req (.retry 100)
      | none, some r => (d.modShaft n (fun p => { p with
          collar := dropFirst (fun x => x.1 == r) p.collar, localq := dropFirst (fun x => x == r) p.localq })).shaftAnswer n r (.retry 100)
      | none, none => d := by
  unfold Dev.fencedTimeout
  rw [if_neg (by rcases h with h | h <;> simp [h, stFENCED, stTESTING])]
  change (match (d.shaft n).heldInside with
    | some w => _
    | none => match (d.shaft n).heldOutside with
      | some r => _
      | none => d) = _
  cases (d.shaft n).heldInside with
  | some w => rfl
  | none => cases (d.shaft n).heldOutside <;> rfl

/-! ### SHAFT_FAILED (R165, R342) -/

theorem exec_shaftFailed (n : Fin 48) (s : State) : exec (.shaftFailed n) s = .next (s.put (s.dev.shaftFault n)) := (rfl)

theorem Dev.shaftFault_of_down {d : Dev} {n : Nat}
    (h : d.shaftSt n = stDARK ∨ d.shaftSt n = stFAILED ∨ d.shaftSt n = stOFFLINE ∨ d.shaftSt n = stRESETTING) : d.shaftFault n = d := by
  unfold Dev.shaftFault
  rw [if_pos (by simpa [or_assoc] using h)]

theorem Dev.shaftFault_of_up {d : Dev} {n : Nat} (hd : d.shaftSt n ≠ stDARK) (hf : d.shaftSt n ≠ stFAILED) (ho : d.shaftSt n ≠ stOFFLINE)
    (hr : d.shaftSt n ≠ stRESETTING) : d.shaftFault n = (d.failShaft n).record (shaftPage n) codeOTHER sevCRITICAL [] := by
  unfold Dev.shaftFault
  rw [if_neg (by simp [hd, hf, ho, hr])]

/-- Settles O45: the cases of each command. -/
theorem shaftsParkChangeSpeedAndFail : Obligations.ShaftsParkChangeSpeedAndFail := by
  intro s n
  simp only [exec_alertN, exec_autoParkExpiry, exec_parkedAccessWake, exec_ceilingChange, exec_freqChangeStepEnd, exec_fencedHoldTimeout,
    exec_shaftFailed]
  refine ⟨fun o => ⟨fun h => ?alertIdle, fun c hsr hpos hc => ?alert⟩, fun h => ?parkIdle, fun ha hc hl hst hp => ?park,
    fun h => ?wakeIdle, fun hw ht hp hc => ?wake, fun h => ?ceilingIdle, fun hne hf => ?ceiling,
    fun ok ns o => ⟨fun h => ?changeIdle, fun c hf hc => ?change⟩, fun hf ht => ?heldIdle, fun h => ?held,
    fun h => ?failedIdle, fun hd hf ho hr => ?failed⟩
  case alertIdle => rw [Dev.alert_of_idle h]
  case alert =>
    refine ⟨fun hk => ?_, fun hk => ?_⟩
    · rw [Dev.alert_of_third hsr hpos hc hk]
      rfl
    · rw [Dev.alert_of_fewer hsr hpos hc hk]
      rfl
  case parkIdle =>
    rcases h with h | h | h | h | h
    · simp [h]
    · simp [h]
    · simp [h]
    · simp [Dev.park_of_unready (.inl h)]
    · simp [Dev.park_of_unready (.inr h)]
  case park =>
    rw [if_pos (by simp [ha, hc, hl]), Dev.park_of_ready hst hp]
    refine ⟨fun hf => ?_, fun hf he => ?_, fun hf he => ?_⟩
    · rw [if_pos (Option.isSome_iff_ne_none.mpr hf)]
    · rw [if_neg (by simp [hf]), Dev.parkTry_of_parking hst hc hl]
      simp [he]
    · rw [if_neg (by simp [hf]), Dev.parkTry_of_parking hst hc hl]
      simp [he]
  case wakeIdle =>
    rcases h with ⟨hc, hl⟩ | h | h | h
    · simp [hc, hl]
    · simp [h]
    · simp [Dev.wakeShaft_of_unready (.inl h)]
    · simp [Dev.wakeShaft_of_unready (.inr h)]
  case wake =>
    rw [if_pos (by simpa [ht] using hw), Dev.wakeShaft_of_ready hp hc]
    refine ⟨fun h => ?_, fun hon hne => ?_⟩
    · rw [if_neg (by rcases h with h | h <;> simp [h])]
    · rw [if_pos ⟨hon, hne⟩]
  case ceilingIdle => rw [Dev.ceilingChange_of_settled h]
  case ceiling =>
    rw [Dev.ceilingChange_of_called hne hf]
    refine ⟨fun hp => ?_, fun hp h => ?_, fun hp hst hsr => ?_⟩
    · rw [if_pos hp]
    · rw [if_neg (by simp [hp]), if_neg (by rcases h with ⟨h1, h2⟩ | h <;> simp [*])]
    · rw [if_neg (by simp [hp]), if_pos ⟨hst, hsr⟩, Dev.autoChange_of_called hne]
  case changeIdle => rw [Dev.changeStep_of_idle ok ns o h]
  case change =>
    have due {k : Nat} (hk : c.step = k) (h1 : k ≠ 1) (h6 : k < 6) := Dev.changeStep_of_step ok ns o hf hc hk (fun h => absurd h h1)
      (fun h => absurd h (Nat.not_le.mpr h6))
    have due6 (hk : c.step = 6) (hh : s.dev.helperTaken n = false) :=
      Dev.changeStep_of_step ok ns o hf hc hk (fun h => absurd h (by decide)) (fun _ => hh)
    refine ⟨fun hk hq => ?_, fun hk hq => ?_, fun hk => ?_, fun hk hok hb => ?_, fun hk hok hb => ?_, fun hk hok hb => ?_,
      fun hk hok hb => ?_, fun hk => ?_, fun hk => ?_, fun hk hh => ?_, fun hk hh hok ho => ?_, fun hk hh hok hb => ?_,
      fun hk hh hok hb => ?_⟩
    · rw [Dev.changeStep_of_waiting ok ns o hf (.inl ⟨hk, hq⟩)]
    · rw [Dev.changeStep_of_step ok ns o hf hc hk (fun _ => hq) (fun h => absurd h (by decide))]
      rfl
    · rw [due hk (by decide) (by decide)]
      rfl
    · rw [due hk (by decide) (by decide), Dev.endStep, Dev.endStep3, if_pos hok, if_neg (by simp [hb])]
      rfl
    · rw [due hk (by decide) (by decide), Dev.endStep, Dev.endStep3, if_pos hok, if_pos hb]
      rfl
    · rw [due hk (by decide) (by decide), Dev.endStep, Dev.endStep3, if_neg (by simp [hok]), if_neg (by simp [hb])]
      rfl
    · rw [due hk (by decide) (by decide), Dev.endStep, Dev.endStep3, if_neg (by simp [hok]), if_pos hb]
      rfl
    · rw [due hk (by decide) (by decide)]
      rfl
    · rw [due hk (by decide) (by decide)]
      rfl
    · rw [Dev.changeStep_of_waiting ok ns o hf (.inr ⟨Nat.le_of_eq hk.symm, hh⟩)]
    · rw [due6 hk hh, Dev.endStep_six, Dev.endStep6, if_pos (by simp [hok, ho])]
    · rw [due6 hk hh, Dev.endStep_six, Dev.endStep6, if_neg (by simpa only [Bool.not_eq_true, Bool.and_eq_false_iff] using hok), if_pos hb]
      rfl
    · rw [due6 hk hh, Dev.endStep_six, Dev.endStep6, if_neg (by simpa only [Bool.not_eq_true, Bool.and_eq_false_iff] using hok),
        if_neg (by simp [hb])]
      rfl
  case heldIdle => rw [Dev.fencedTimeout_of_unfenced hf ht]
  case held =>
    rw [Dev.fencedTimeout_of_fenced h]
    refine ⟨fun w hw => ?_, fun r hw hr => ?_, fun hw hr => ?_⟩
    · rw [ShaftSt.heldInside, hw]
    · rw [ShaftSt.heldInside, ShaftSt.heldOutside, hw, hr]
    · rw [ShaftSt.heldInside, ShaftSt.heldOutside, hw, hr]
  case failedIdle => rw [Dev.shaftFault_of_down h]
  case failed =>
    rw [Dev.shaftFault_of_up hd hf ho hr]
    rfl

end Sys2Proof.Machine

/-!
PROOFS. The edges of PWRGOOD (R39, R361, R362, R471).
-/
namespace Sys2Proof.Machine

theorem exec_pwrgoodFall (s : State) : exec .pwrgoodFall s = .next (s.put (if s.dev.pins.pwrgood then s.dev.powerOff else s.dev)) :=
  s.on_ite (fun d => d.pins.pwrgood) Dev.powerOff id

theorem exec_pwrgoodRise (refclk : Bool) (s : State) : exec (.pwrgoodRise refclk) s = .next (s.put (s.dev.powerOn refclk)) := (rfl)

/-- Every link that is up goes down. -/
def Dev.linksDown (d : Dev) : Dev :=
  (List.range 12).foldl (fun d h => if (d.port h).adapterUp then d.emit (.link h false) else d) d

/-- A link that goes down is something that leaves the device, and changes nothing in it. -/
theorem Dev.linksDown_eq (d : Dev) : d.linksDown = { d with out := d.linksDown.out } := by
  unfold Dev.linksDown
  refine foldl_keeps (fun t : Dev => t = { d with out := t.out }) _ _ d (rfl) ?_
  intro t h ht
  split
  · rw [ht]
    rfl
  · exact ht

theorem Dev.powerOff_eq (d : Dev) :
    d.powerOff = { Dev.reset with
      out := d.linksDown.out, nextId := d.nextId, free := d.free, flash := d.flash, fuse := { array := d.fuse.array },
      ms := { ({} : ModeSt) with wakeMv := d.ms.wakeMv }, tap := d.tap,
      pins := { d.pins with pwrgood := false, mgmtOn := true, spineOn := true } } := by
  unfold Dev.powerOff
  rw [← Dev.linksDown, Dev.linksDown_eq]

theorem Dev.powerOn_of_high {d : Dev} (refclk : Bool) (h : d.pins.pwrgood = true) : d.powerOn refclk = d := by
  rw [Dev.powerOn, if_pos h]

theorem Dev.powerOn_of_low {d : Dev} (refclk : Bool) (h : d.pins.pwrgood = false) :
    d.powerOn refclk =
      let u : Dev := { d with pins := { d.pins with pwrgood := true, refclk := refclk } }
      let c := ((u.setF Reg.DEVICE_RESET_CAUSE_WARM 1).modKs (fun k => { k with cold := true })).kindleStart
      if d.pins.resetN then c else c.modKs (fun k => { k with held := true }) := by
  rw [Dev.powerOn, if_neg (by simp [h])]
  rfl

/-- Settles O8: each edge asks first for the other level of the pin. -/
theorem powerEdges : Obligations.PowerEdges := by
  intro s refclk
  rw [exec_pwrgoodFall, exec_pwrgoodRise]
  refine ⟨fun hhigh => ⟨?_, ?_⟩, fun hlow => ⟨?_, ?_⟩⟩
  · rw [if_pos hhigh, Dev.powerOff_eq, Dev.linksDown]
  · rw [Dev.powerOn_of_high refclk hhigh]
  · rw [if_neg (by simp [hlow])]
  · rw [Dev.powerOn_of_low refclk hlow]

end Sys2Proof.Machine

/-!
PROOFS. The frame table's answer to a read, a write or an atomic (R28, R29, R34, R36, R47, R61, R68, R89, R104).
-/
namespace Sys2Proof.Machine

/-! ### The judgement of the table (R28, R29, R47, R104) -/

theorem Dev.lookup_of_access (d : Dev) {r : Req}
    (h : r.op = .rd ∨ r.op = .rdNa ∨ r.op = .wr ∨ r.op = .wrm ∨ ∃ k, r.op = .atom k) : d.lookup r = d.lookupRW r := by
  unfold Dev.lookup
  rcases h with h | h | h | h | ⟨k, h⟩ <;> rw [h]

theorem Dev.lookupRW_of_hole {d : Dev} {r : Req} (h : d.isHole (frameOfLine r.line) = true) : d.lookupRW r = d.answer r (.error 1 0) := by
  simp [Dev.lookupRW, h]

theorem Dev.lookupRW_of_draining {d : Dev} {r : Req} (hh : d.isHole (frameOfLine r.line) = false)
    (h : d.isDraining (frameOfLine r.line) = true) : d.lookupRW r = d.answer r (.retry 100) := by
  simp [Dev.lookupRW, hh, h]

theorem Dev.lookupRW_of_lost {d : Dev} {r : Req} (hh : d.isHole (frameOfLine r.line) = false)
    (hd : d.isDraining (frameOfLine r.line) = false) (h : d.isLost (frameOfLine r.line) = true) :
    d.lookupRW r = d.answer r (if isWrite r.op then .error 4 1 else .poison) := by
  simp [Dev.lookupRW, hh, hd, h]

/-- The table and the pair let the access go on: its frame is in no hole, not being emptied and not lost. -/
structure Dev.Serves (d : Dev) (r : Req) : Prop where
  inWindow : d.isHole (frameOfLine r.line) = false
  settled : d.isDraining (frameOfLine r.line) = false
  kept : d.isLost (frameOfLine r.line) = false
  paired : d.pairJudge r (isWrite r.op) = .serve

theorem emptyMask_iff (r : Req) : emptyMask r = true ↔ r.op = .wrm ∧ r.mask = 0 := by
  simp [emptyMask]

/-- Only a write has a mask that selects no byte. -/
theorem emptyMask_of_read {r : Req} (h : isWrite r.op = false) : emptyMask r = false := by
  rw [← Bool.not_eq_true, emptyMask_iff]
  rintro ⟨hop, -⟩
  simp [hop, isWrite] at h

/-- A served access to a frame that is not resident (R36, R89). -/
theorem Dev.lookupRW_of_unborn {d : Dev} {r : Req} (hs : d.Serves r) (hk : d.findWay (frameOfLine r.line) = none)
    (hb : d.isBorn (frameOfLine r.line) = false) (hw : isWrite r.op = false) : d.lookupRW r = d.answer r (.data 0 0) := by
  have hp := hs.paired
  rw [hw] at hp
  simp [Dev.lookupRW, hs.inWindow, hs.settled, hs.kept, hp, hk, hb, hw, emptyMask_of_read hw, zeroData]

theorem Dev.lookupRW_of_absent_empty {d : Dev} {r : Req} (hs : d.Serves r) (hk : d.findWay (frameOfLine r.line) = none)
    (he : emptyMask r = true) : d.lookupRW r = d.emptyWrite r := by
  simp [Dev.lookupRW, hs.inWindow, hs.settled, hs.kept, hs.paired, hk, he]

/-- A served access to a resident frame, by the state of its shaft (R89, R342). -/
theorem Dev.lookupRW_of_failed {d : Dev} {r : Req} {k : Nat} (hs : d.Serves r) (hk : d.findWay (frameOfLine r.line) = some k)
    (hf : d.shaftSt (d.way k).shaft = stFAILED) : d.lookupRW r = d.failedAccess r k := by
  simp [Dev.lookupRW, hs.inWindow, hs.settled, hs.kept, hs.paired, hk, hf]

theorem Dev.lookupRW_of_resident {d : Dev} {r : Req} {k : Nat} (hs : d.Serves r) (hk : d.findWay (frameOfLine r.line) = some k)
    (hf : d.shaftSt (d.way k).shaft ≠ stFAILED) :
    d.lookupRW r = (if emptyMask r then d.emptyWrite r else d.entryAccess r k).fcacheNote r := by
  simp only [Dev.lookupRW, hs.inWindow, hs.settled, hs.kept, hs.paired, hk, beq_eq_false_iff_ne.mpr hf, Bool.false_eq_true, if_false]
  split <;> rfl

/-- Only an engine keeps a frame cache. -/
theorem Dev.fcacheNote_of_host (d : Dev) {r : Req} {h tag : Nat} (ho : r.org = .host h tag) : d.fcacheNote r = d := by
  simp [Dev.fcacheNote, ho]

/-! ### Entries -/

@[simp] theorem Dev.way_setWay_same (d : Dev) (k : Nat) (e : Entry) : (d.setWay k e).way k = e := by
  simp [Dev.way]

/-- Changing an entry of the table leaves the ports. -/
@[simp] theorem Dev.port_modEntry (d : Dev) (f : Nat) (g : Entry → Entry) (h : Nat) : (d.modEntry f g).port h = d.port h := by
  unfold Dev.modEntry
  split <;> rfl

/-! ### A write of no byte (R89) -/

/-- The frame's AGE becomes 0, and the answer waits for the earlier requests of the port to the line. -/
theorem Dev.emptyWrite_eq (d : Dev) (r : Req) :
    d.emptyWrite r =
      let c := d.modEntry (frameOfLine r.line) (fun e => { e with age := 0 })
      if d.earlierLive r then c.hold r .order else c.answer r .ack := by
  have hlive : (d.modEntry (frameOfLine r.line) (fun e => { e with age := 0 })).earlierLive r = d.earlierLive r := by
    unfold Dev.earlierLive
    simp only [Dev.port_modEntry]
  unfold Dev.emptyWrite
  simp only [hlive]

theorem Dev.failedAccess_of_empty {d : Dev} {r : Req} {k : Nat} (h : d.stranded (frameOfLine r.line) = false) (he : emptyMask r = true) :
    d.failedAccess r k = d.emptyWrite r := by
  simp [Dev.failedAccess, h, he]

theorem Dev.lookupRW_of_empty {d : Dev} {r : Req} {h tag : Nat} (hs : d.Serves r) (ho : r.org = .host h tag) (he : emptyMask r = true)
    (hn : d.stranded (frameOfLine r.line) = false) : d.lookupRW r = d.emptyWrite r := by
  cases hk : d.findWay (frameOfLine r.line) with
  | none => exact Dev.lookupRW_of_absent_empty hs hk he
  | some k =>
    by_cases hf : d.shaftSt (d.way k).shaft = stFAILED
    · rw [Dev.lookupRW_of_failed hs hk hf, Dev.failedAccess_of_empty hn he]
    · rw [Dev.lookupRW_of_resident hs hk hf, if_pos he, Dev.fcacheNote_of_host _ ho]

/-! ### An access to a sector, by the sector's state (R34, R61, R68) -/

/-- No zero-fill of the sector is under way. -/
abbrev Dev.unfilled (d : Dev) (r : Req) : Prop :=
  d.haul.zfills.find? (fun z => z.frame == frameOfLine r.line && z.sector == sectorOfLine r.line) = none

theorem Dev.entryAccess_of_readZero {d : Dev} {r : Req} {k : Nat} (hz : d.unfilled r) (hw : isWrite r.op = false)
    (h : (d.way k).sec (sectorOfLine r.line) = secZERO) :
    d.entryAccess r k = (d.setWay k (touchEntry (d.way k) r (isWrite r.op))).answer r (.data 0 0) := by
  have hsec : (touchEntry (d.way k) r false).sec (sectorOfLine r.line) = secZERO := h
  simp [Dev.entryAccess, hz, hw, hsec, zeroData]

theorem Dev.entryAccess_of_readHeld {d : Dev} {r : Req} {k : Nat} (hz : d.unfilled r) (hw : isWrite r.op = false)
    (h : (d.way k).sec (sectorOfLine r.line) = secCLEAN ∨ (d.way k).sec (sectorOfLine r.line) = secDIRTY) :
    d.entryAccess r k =
      let e := touchEntry (d.way k) r (isWrite r.op)
      (d.setWay k e).sendShaft (placed r e) := by
  have hsec : ∀ w, (touchEntry (d.way k) r w).sec (sectorOfLine r.line) = (d.way k).sec (sectorOfLine r.line) := fun _ => (rfl)
  rcases h with h | h <;> simp [Dev.entryAccess, hz, hw, hsec, h, secZERO, secINVALID, secCLEAN, secDIRTY]

theorem Dev.entryAccess_of_writeHeld {d : Dev} {r : Req} {k : Nat} (hz : d.unfilled r) (hw : isWrite r.op = true)
    (h : (d.way k).sec (sectorOfLine r.line) = secCLEAN ∨ (d.way k).sec (sectorOfLine r.line) = secDIRTY) :
    d.entryAccess r k =
      let e := touchEntry (d.way k) r (isWrite r.op)
      let q := placed r e
      (((((d.setWay k e).setWay k (e.setSec (sectorOfLine r.line) secDIRTY)).redirty (frameOfLine r.line) (sectorOfLine r.line)).sendShaft
        q).moveWrite q) := by
  have hsec : ∀ w, (touchEntry (d.way k) r w).sec (sectorOfLine r.line) = (d.way k).sec (sectorOfLine r.line) := fun _ => (rfl)
  rcases h with h | h <;> simp [Dev.entryAccess, hz, hw, hsec, h, secZERO, secINVALID, secCLEAN, secDIRTY]

/-- The first write of a ZERO sector: the zero-fill goes to the shaft, and the write waits for it. -/
theorem Dev.entryAccess_of_writeZero {d : Dev} {r : Req} {k : Nat} (hz : d.unfilled r) (hw : isWrite r.op = true)
    (h : (d.way k).sec (sectorOfLine r.line) = secZERO) (hm : d.moving (frameOfLine r.line) = none)
    (ht : d.shaftShut (d.way k).shaft = none) :
    d.entryAccess r k =
      let e := touchEntry (d.way k) r (isWrite r.op)
      let q := placed r e
      let z : Req := { q with id := d.nextId, org := .zfillFor d.nextId, op := .zfill, sline := q.sline / 64 * 64 }
      (((d.setWay k e).modHaul (fun p => { p with zfills := p.zfills ++ [⟨d.nextId, frameOfLine r.line, sectorOfLine r.line, z, [q],
        none⟩] })).fresh).sendShaft z := by
  have hsec : ∀ w, (touchEntry (d.way k) r w).sec (sectorOfLine r.line) = secZERO := fun _ => h
  have hmove : ∀ e, (d.setWay k e).moving (frameOfLine r.line) = none := fun _ => hm
  have htake : ∀ e w, (d.setWay k e).shaftShut (touchEntry (d.way k) r w).shaft = none := fun _ _ => ht
  simp [Dev.entryAccess, hz, hw, hsec, hmove, htake, secZERO, secINVALID]
  rfl

/-- A read of a ZERO sector needs no shaft (R341). -/
theorem Dev.failedAccess_of_readZero {d : Dev} {r : Req} {k : Nat} (hw : isWrite r.op = false)
    (h : (d.way k).sec (sectorOfLine r.line) = secZERO) :
    d.failedAccess r k = (d.setWay k (touchEntry (d.way k) r (isWrite r.op))).answer r (.data 0 0) := by
  simp [Dev.failedAccess, hw, h, emptyMask_of_read hw, secZERO, secDIRTY, zeroData]

/-- A host's access to a resident frame in a shaft that has not failed is served by its sector's state. -/
theorem Dev.lookupRW_of_host {d : Dev} {r : Req} {k h tag : Nat} (hs : d.Serves r) (hk : d.findWay (frameOfLine r.line) = some k)
    (ho : r.org = .host h tag) (he : emptyMask r = false) (hf : d.shaftSt (d.way k).shaft ≠ stFAILED) :
    d.lookupRW r = d.entryAccess r k := by
  rw [Dev.lookupRW_of_resident hs hk hf, if_neg (by simp [he]), Dev.fcacheNote_of_host _ ho]

/-- Settles O40: the judgement of the table in its order, then the cases of the sector. -/
theorem frameTableAnswersAccesses : Obligations.FrameTableAnswersAccesses := by
  intro d r hop
  simp only [Dev.lookup_of_access d hop]
  refine ⟨Dev.lookupRW_of_hole, Dev.lookupRW_of_draining, Dev.lookupRW_of_lost, fun hh hd hl hp => ?_⟩
  have hs : d.Serves r := ⟨hh, hd, hl, hp⟩
  refine ⟨Dev.lookupRW_of_unborn hs, fun h tag ho hwrm hmask hn => ?_, fun k h tag hk ho => ⟨fun hw hz hsec => ?_, fun hf hz => ?_⟩⟩
  · rw [Dev.lookupRW_of_empty hs ho ((emptyMask_iff r).mpr ⟨hwrm, hmask⟩) hn, Dev.emptyWrite_eq]
  · by_cases hf : d.shaftSt (d.way k).shaft = stFAILED
    · rw [Dev.lookupRW_of_failed hs hk hf, Dev.failedAccess_of_readZero hw hsec]
      rfl
    · rw [Dev.lookupRW_of_host hs hk ho (emptyMask_of_read hw) hf, Dev.entryAccess_of_readZero hz hw hsec]
      rfl
  · refine ⟨fun hw hsec => ?_, fun hw he => ⟨fun hsec => ?_, fun hsec hm ht => ?_⟩⟩
    · rw [Dev.lookupRW_of_host hs hk ho (emptyMask_of_read hw) hf, Dev.entryAccess_of_readHeld hz hw hsec]
      rfl
    · rw [Dev.lookupRW_of_host hs hk ho he hf, Dev.entryAccess_of_writeHeld hz hw hsec]
      rfl
    · rw [Dev.lookupRW_of_host hs hk ho he hf, Dev.entryAccess_of_writeZero hz hw hsec hm ht]
      rfl

end Sys2Proof.Machine

/-!
PROOFS. Fill buffers and write-back buffers: their lines, their commits and their failures (R45, R56 to R59, R67).
-/
namespace Sys2Proof.Machine

/-- What a command makes of the device is what it makes of the state. -/
theorem State.next_congr {s : State} {d e : Dev} (h : d = e) :
    (Host.Outcome.next (s.put d) : Host.Outcome State Fault Refusal) = .next (s.put e) := by
  rw [h]

/-! ### FILL_LINE_ARRIVAL (R56, R57) -/

/-- The line leaves the queue of those that have come in. -/
def Dev.dequeued (d : Dev) (x : Nat × Nat × Nat × Result) : Dev :=
  d.modHaul (fun p => { p with farArrived := dropFirst (fun y => y == x) p.farArrived })

@[simp] theorem Dev.fill_dequeued (d : Dev) (x : Nat × Nat × Nat × Result) (i : Nat) : (d.dequeued x).fill i = d.fill i := (rfl)

theorem exec_fillLineArrival_of_none {f : Fin 4} {s : State} (h : s.dev.haul.farArrived.find? (fun x => x.1 == f.val) = none) :
    exec (.fillLineArrival f) s = .next s := by
  change execFillLineArrival f s = _
  simp [execFillLineArrival, State.on, h]

theorem exec_fillLineArrival_of_line {f : Fin 4} {s : State} {x : Nat × Nat × Nat × Result}
    (h : s.dev.haul.farArrived.find? (fun x => x.1 == f.val) = some x) :
    exec (.fillLineArrival f) s = .next (s.put ((s.dev.dequeued x).fillLine x.2.1 x.2.2.1 x.2.2.2)) := by
  change execFillLineArrival f s = _
  simp [execFillLineArrival, State.on, h, Dev.dequeued]

theorem Dev.fillLine_of_none {d : Dev} {i : Nat} (l : Nat) (res : Result) (h : d.fill i = none) : d.fillLine i l res = d := by
  simp [Dev.fillLine, h]

/-- The line enters the buffer, and the accesses that wait for it no longer wait. -/
def Fill.took (b : Fill) (l : Nat) (x : Line) (bad : BitVec 64) : Fill :=
  { b.setLine l x bad with got := b.got ++ [l], ops := b.ops.filter (fun r => r.line % 64 != l) }

/-- A line with its data, or poisoned: the accesses that wait for it are carried out, and with the 64th the sector goes to its slot. -/
theorem Dev.fillLine_of_line {d : Dev} {i : Nat} {b : Fill} (l : Nat) {res : Result} {x : Line} {bad : BitVec 64} (h : d.fill i = some b)
    (hres : res = .data x bad ∨ res = .poison ∧ x = 0 ∧ bad = poisonBad) :
    d.fillLine i l res =
      let t := (b.ops.filter (fun r => r.line % 64 == l)).foldl (fun u r => u.fillOp i r) (d.setFill i (some (b.took l x bad)))
      if (b.took l x bad).got.length = 64 ∧ b.drop = false then t.fillSend i else t := by
  rcases hres with rfl | ⟨rfl, rfl, rfl⟩ <;>
    simp only [Dev.fillLine, h, Option.elim, Bool.and_eq_true, beq_iff_eq, Bool.not_eq_true'] <;> rfl

theorem Dev.fillLine_of_error {d : Dev} {i : Nat} {b : Fill} (l : Nat) {res : Result} (h : d.fill i = some b)
    (hdata : ∀ x bad, res ≠ .data x bad) (hpoison : res ≠ .poison) : d.fillLine i l res = d.setFill i (some { b with failed := true }) := by
  cases res with
  | data x bad => exact absurd rfl (hdata x bad)
  | poison => exact absurd rfl hpoison
  | _ => simp only [Dev.fillLine, h]

/-! ### FILL_COMMIT (R45, R56) -/

theorem exec_fillCommit (i : Fin 512) (ns : Nat) (s : State) : exec (.fillCommit i ns) s = .next (s.put (s.dev.fillCommit i ns)) := (rfl)

theorem Dev.fillCommit_of_none {d : Dev} {i : Nat} (ns : Nat) (h : d.fill i = none) : d.fillCommit i ns = d := by
  simp [Dev.fillCommit, h]

theorem Dev.fillCommit_of_dropped {d : Dev} {i : Nat} {b : Fill} (ns : Nat) (h : d.fill i = some b) (hd : b.drop = true) :
    d.fillCommit i ns =
      if b.got.length = 64 then b.writes.foldl (fun t w => t.answer w.1 (.retry 100)) (d.setFill i none) else d := by
  simp only [Dev.fillCommit, h, hd, if_true, beq_iff_eq]

/-- The acknowledgements a fill has with those that have just come. -/
def Dev.acksOf (d : Dev) (i : Nat) (b : Fill) : Nat := b.acks + (d.answers.filter (fun x => x.1 == Origin.fill i && x.2 == .ack)).length

theorem Dev.fillCommit_of_short {d : Dev} {i : Nat} {b : Fill} (ns : Nat) (h : d.fill i = some b) (hd : b.drop = false)
    (ha : d.acksOf i b < b.need) :
    d.fillCommit i ns = (d.takeAcks (.fill i)).2.setFill i (some { b with acks := d.acksOf i b }) := by
  simp only [Dev.fillCommit, h, hd, Bool.false_eq_true, if_false]
  exact if_pos ha

theorem Dev.fillCommit_of_whole {d : Dev} {i : Nat} {b : Fill} (ns : Nat) (h : d.fill i = some b) (hd : b.drop = false)
    (ha : b.need ≤ d.acksOf i b) :
    d.fillCommit i ns =
      let e := (((d.takeAcks (.fill i)).2.modEntry b.frame (fun e => e.setSec b.sector (if b.dirty then secDIRTY else secCLEAN))).setFill i
        none).settleBusy b.frame
      (b.writes.foldl (fun t w => t.finish w.1 w.2) (e.bump Reg.HAULAGE_CNT_FILL_VALUE)).sample 60 ns := by
  simp only [Dev.fillCommit, h, hd, Bool.false_eq_true, if_false]
  exact if_neg (Nat.not_lt.mpr ha)

/-! ### FILL_ABANDON (R58) -/

theorem exec_fillAbandon (i : Fin 512) (s : State) : exec (.fillAbandon i) s = .next (s.put (s.dev.fillAbandon i)) := (rfl)

theorem Dev.fillAbandon_of_none {d : Dev} {i : Nat} (h : d.fill i = none) : d.fillAbandon i = d := by
  simp [Dev.fillAbandon, h]

theorem Dev.fillAbandon_of_sound {d : Dev} {i : Nat} {b : Fill} (h : d.fill i = some b) (hf : b.failed = false)
    (hn : d.nacked (.fill i) = false) : d.fillAbandon i = d := by
  simp [Dev.fillAbandon, h, hf, hn]

theorem Dev.fillAbandon_of_failed {d : Dev} {i : Nat} {b : Fill} (h : d.fill i = some b)
    (hf : b.failed = true ∨ d.nacked (.fill i) = true) :
    d.fillAbandon i =
      let c := (((d.setFill i none).disown (.fill i)).forgetFar (isFillOrg i)).modHaul (fun p => { p with
        farArrived := p.farArrived.filter (fun x => x.2.1 != i) })
      (((b.writes.map (·.1) ++ b.ops).foldl (fun t r => t.answer r (if isWrite r.op then .retry 100 else .poison)) c).settleBusy
        b.frame).record hauPage 0x102 3 [b.frame, b.sector, b.port, 0] := by
  simp only [Dev.fillAbandon, h]
  exact if_neg (by rcases hf with hf | hf <;> simp [hf])

/-! ### WRITEBACK_CAPTURE (R59) -/

theorem exec_writebackCapture (i : Fin 128) (s : State) : exec (.writebackCapture i) s = .next (s.put (s.dev.wbCapture i)) := (rfl)

theorem Dev.wbCapture_of_none {d : Dev} {i : Nat} (h : d.wback i = none) : d.wbCapture i = d := by
  simp [Dev.wbCapture, h]

theorem Dev.wbCapture_of_idle {d : Dev} {i : Nat} {w : Wback} (h : d.wback i = some w)
    (hi : w.captured = true ∨ d.takeAnswer (.wback i) = none) : d.wbCapture i = d := by
  rcases hi with hi | hi <;> simp [Dev.wbCapture, h, hi]

theorem Dev.wbCapture_of_lines {d t : Dev} {i : Nat} {w : Wback} {ls : List (Line × BitVec 64)} (h : d.wback i = some w)
    (hc : w.captured = false) (ha : d.takeAnswer (.wback i) = some (.lines ls, t)) :
    d.wbCapture i = (List.range 64).foldl (fun u l =>
      u.farIssue w.port (.wback i l) true (t.farLineOf (w.frame * 8192 + w.sector * 64) + l) (ls.getD l (0, 0)).1 (ls.getD l (0, 0)).2)
      (t.setWback i (some { w with lines := ls, captured := true })) := by
  simp only [Dev.wbCapture, h, hc, ha, Bool.false_eq_true, if_false]
  rfl

theorem Dev.wbCapture_of_refused {d t : Dev} {i : Nat} {w : Wback} {res : Result} (h : d.wback i = some w) (hc : w.captured = false)
    (ha : d.takeAnswer (.wback i) = some (res, t)) (hr : ∀ ls, res ≠ .lines ls) :
    d.wbCapture i = t.setWback i (some { w with failed := true }) := by
  simp only [Dev.wbCapture, h, hc, ha, Bool.false_eq_true, if_false]

/-! ### WRITEBACK_COMMIT (R45, R59) -/

theorem exec_writebackCommit (i : Fin 128) (ns : Nat) (s : State) :
    exec (.writebackCommit i ns) s = .next (s.put (s.dev.wbCommit i ns)) := (rfl)

/-- Whether there is a job, and one of which `p` holds. -/
theorem anyJob_eq_match (o : Option WbJob) (p : WbJob → Bool) : o.any p = match o with
    | some j => p j
    | none => false := by
  cases o <;> rfl

theorem Dev.wbCommit_of_none {d : Dev} {i : Nat} (ns : Nat) (h : d.wback i = none) : d.wbCommit i ns = d := by
  simp [Dev.wbCommit, h]

theorem Dev.wbCommit_of_open {d : Dev} {i : Nat} {w : Wback} (ns : Nat) (h : d.wback i = some w) (hw : w.acks < 64 ∨ w.failed = true) :
    d.wbCommit i ns = d := by
  simp only [Dev.wbCommit, h]
  exact if_pos (by simpa using hw)

theorem Dev.wbCommit_of_whole {d : Dev} {i : Nat} {w : Wback} (ns : Nat) (h : d.wback i = some w) (ha : 64 ≤ w.acks)
    (hf : w.failed = false) :
    d.wbCommit i ns =
      let whole := (d.jobOf w.frame).any (fun j => j.whole)
      let b := d.setWback i none
      let c := if whole = true ∨ w.redirty = true then b
        else b.modEntry w.frame (fun e => if e.sec w.sector == secDIRTY then e.setSec w.sector secCLEAN else e)
      let e := (c.jobDone w true).settleBusy w.frame
      let again := (e.jobOf w.frame).any (fun j => j.todo.contains w.sector)
      (((if whole = true ∨ again = true then e else e.settleFlush w.frame w.sector).bump Reg.HAULAGE_CNT_WBACK_VALUE).sample 61 ns).pump := by
  simp only [Dev.wbCommit, h, anyJob_eq_match, ← Bool.or_eq_true]
  exact if_neg (by simp [hf, Nat.not_lt.mpr ha])

/-! ### WRITEBACK_CPL_ERROR and BLOCK_MARK_EXPIRY (R59, R67) -/

theorem exec_writebackCplError (i : Fin 128) (s : State) : exec (.writebackCplError i) s = .next (s.put (s.dev.wbError i)) := (rfl)

theorem exec_blockMarkExpiry (f : Fin 4) (s : State) :
    exec (.blockMarkExpiry f) s = .next (s.put ((s.dev.modHaul (fun p => { p with
      marks := if bitN p.marks f then p.marks - 2 ^ f.val else p.marks })).noteBlocked).pump) := (rfl)

theorem Dev.wbError_of_none {d : Dev} {i : Nat} (h : d.wback i = none) : d.wbError i = d := by
  simp [Dev.wbError, h]

theorem Dev.wbError_of_sound {d : Dev} {i : Nat} {w : Wback} (h : d.wback i = some w) (hf : w.failed = false) : d.wbError i = d := by
  simp [Dev.wbError, h, hf]

theorem Dev.wbError_of_failed {d : Dev} {i : Nat} {w : Wback} (h : d.wback i = some w) (hf : w.failed = true) :
    d.wbError i =
      let c := (d.setWback i none).modHaul (fun p => { p with
        marks := if w.captured then Nat.lor p.marks (2 ^ w.port) else p.marks,
        shoots := p.shoots.filter (fun h => !(h.sector.isSome && h.wb == i)) })
      (((((c.disown (.wback i)).forgetFar (isWbackOrg i)).jobDone w false).settleBusy w.frame).noteBlocked).record
        hauPage 0x102 3 [w.frame, w.sector, w.port, 1] := by
  simp only [Dev.wbError, h]
  exact if_neg (by simp [hf])

/-- Settles O41: what each command finds in its buffer decides what it does. -/
theorem fillsAndWriteBacks : Obligations.FillsAndWriteBacks := by
  intro s
  refine ⟨fun f => ?_, fun i ns => ?_, fun i ns => ?_, fun f => exec_blockMarkExpiry f s⟩
  · refine ⟨exec_fillLineArrival_of_none, fun x i l res h hx => ?_⟩
    rw [exec_fillLineArrival_of_line h, hx]
    rw [← s.dev.fill_dequeued x]
    exact ⟨fun hb => State.next_congr (Dev.fillLine_of_none _ _ hb),
      fun b hb => ⟨fun y bad hres => State.next_congr (Dev.fillLine_of_line l hb hres),
        fun hdata hpoison => State.next_congr (Dev.fillLine_of_error l hb hdata hpoison)⟩⟩
  · simp only [exec_fillCommit, exec_fillAbandon]
    exact ⟨fun h => ⟨State.next_congr (Dev.fillCommit_of_none ns h), State.next_congr (Dev.fillAbandon_of_none h)⟩,
      fun b h => ⟨fun hd => State.next_congr (Dev.fillCommit_of_dropped ns h hd),
        fun hd => ⟨fun ha => State.next_congr (Dev.fillCommit_of_short ns h hd ha),
          fun ha => State.next_congr (Dev.fillCommit_of_whole ns h hd ha)⟩,
        fun hf hn => State.next_congr (Dev.fillAbandon_of_sound h hf hn), fun hf => State.next_congr (Dev.fillAbandon_of_failed h hf)⟩⟩
  · simp only [exec_writebackCapture, exec_writebackCommit, exec_writebackCplError]
    exact ⟨fun h => ⟨State.next_congr (Dev.wbCapture_of_none h), State.next_congr (Dev.wbCommit_of_none ns h),
        State.next_congr (Dev.wbError_of_none h)⟩,
      fun w h => ⟨fun hi => State.next_congr (Dev.wbCapture_of_idle h hi),
        fun res t hc ha => ⟨fun ls hr => State.next_congr (Dev.wbCapture_of_lines h hc (hr ▸ ha)),
          fun hr => State.next_congr (Dev.wbCapture_of_refused h hc ha hr)⟩,
        fun hw => State.next_congr (Dev.wbCommit_of_open ns h hw), fun ha hf => State.next_congr (Dev.wbCommit_of_whole ns h ha hf),
        fun hf => State.next_congr (Dev.wbError_of_sound h hf), fun hf => State.next_congr (Dev.wbError_of_failed h hf)⟩⟩

end Sys2Proof.Machine

/-!
PROOFS. Evictions and releases, shootdowns at the engines, ages, and slots freed ahead (R37, R40, R60 to R64, R66, R74, R231).
-/
namespace Sys2Proof.Machine

/-! ### EVICTION_STEP (R37, R62) -/

theorem exec_evictionStep (frame : BitVec 26) (s : State) : exec (.evictionStep frame) s = .next (s.put (s.dev.evictStep frame.toNat)) := (rfl)

/-- A shootdown of the frame is in progress. -/
def Dev.shooting (d : Dev) (f : Nat) : Bool := d.haul.shoots.any (fun h => h.frame == f && h.sector.isNone)

/-- An eviction becomes another. -/
def Dev.setEvict (d : Dev) (x y : Evict) : Dev :=
  d.modHaul (fun p => { p with evicts := p.evicts.map (fun z => if z == x then y else z) })

theorem Dev.evictStep_of_none {d : Dev} {f : Nat} (h : d.haul.evicts.find? (fun x => x.frame == f) = none) : d.evictStep f = d := by
  simp [Dev.evictStep, h]

theorem Dev.evictStep_of_release {d : Dev} {f : Nat} {x : Evict} (h : d.haul.evicts.find? (fun x => x.frame == f) = some x)
    (hr : x.release = true) :
    d.evictStep f = if d.shooting f = true ∨ d.slotQuiet x.shaft x.slot = false then d else d.freeEvicted x := by
  simp only [Dev.evictStep, h, hr, if_true, Bool.or_eq_true, Bool.not_eq_true']
  rfl

theorem Dev.evictStep_of_absent {d : Dev} {f : Nat} {x : Evict} (h : d.haul.evicts.find? (fun x => x.frame == f) = some x)
    (hr : x.release = false) (he : d.entry f = none) : d.evictStep f = d.freeEvicted x := by
  simp [Dev.evictStep, h, hr, he]

/-- What an eviction of a resident frame does next: step 2 waits for the write-backs, step 3 for the shootdown and the slot. -/
theorem Dev.evictStep_of_entry {d : Dev} {f : Nat} {x : Evict} {e : Entry} (h : d.haul.evicts.find? (fun x => x.frame == f) = some x)
    (hr : x.release = false) (he : d.entry f = some e) :
    d.evictStep f =
      if x.step == 2 then
        if (d.jobOf f).isSome || d.mirrorPending f then d
        else if e.needsWb then d.addJob f e.dirties .evict
        else (d.setEvict x { x with step := 3 }).sendShoot f none 0
      else if d.shooting f then d
      else if e.needsWb then
        if 3 ≤ x.repeats then d.evictGiveUp x
        else (d.setEvict x { x with step := 2, repeats := x.repeats + 1 }).addJob f e.dirties .evict
      else if d.slotQuiet e.shaft e.slot then d.freeEvicted x
      else d := by
  unfold Dev.evictStep
  rw [h]
  dsimp only
  rw [if_neg (by simp [hr]), he]
  rfl

theorem Dev.evictGiveUp_eq (d : Dev) (x : Evict) :
    d.evictGiveUp x =
      let t := (d.modHaul (fun p => { p with evicts := p.evicts.filter (fun z => z != x) })).settleBusy x.frame
      if d.isDraining x.frame = true ∨ d.shaftSt x.shaft = stEVACUATING then t
      else match t.victim (setOf x.frame) (fun k => t.frameOfWay k != x.frame) with
        | some k => t.startEvict (t.frameOfWay k)
        | none => t := by
  unfold Dev.evictGiveUp
  exact ite_congr (by simp only [Bool.or_eq_true, beq_iff_eq]) (fun _ => rfl) (fun _ => rfl)

/-! ### SHOOTDOWN, WRITE_REVOKE and SHOOTDOWN_ACK (R63, R231) -/

theorem exec_engShoot (n : Fin 48) (revoke : Bool) (s : State) :
    exec (if revoke then .writeRevoke n else .shootdown n) s = .next (s.put (s.dev.engShoot n revoke)) := by
  cases revoke <;> rfl

theorem Dev.engShoot_of_none {d : Dev} {n : Nat} {revoke : Bool}
    (h : d.haul.shoots.find? (fun h => h.waiting.contains n && h.sector.isSome == revoke) = none) : d.engShoot n revoke = d := by
  unfold Dev.engShoot
  rw [h]

/-- The engine gives the frame's entry up, or the right to write its sector. -/
def EngSt.giveUp (g : EngSt) (h : Shoot) : EngSt :=
  { g with fcache := match h.sector with
    | none => g.fcache.filter (fun x => x.frame != h.frame)
    | some i => g.fcache.map (fun x => if x.frame == h.frame then
        { x with writable := x.writable &&& (BitVec.allOnes 128 ^^^ BitVec.ofNat 128 (2 ^ i)) } else x) }

theorem Dev.engShoot_of_next {d : Dev} {n : Nat} {revoke : Bool} {h : Shoot}
    (hn : d.haul.shoots.find? (fun h => h.waiting.contains n && h.sector.isSome == revoke) = some h) :
    d.engShoot n revoke =
      let c := d.modEng n (fun g => g.giveUp h)
      if c.engBusyOn n h.frame h.sector = true then c else
        ((c.bump Reg.ENGINE_CNT_SHOOTDOWN_VALUE n).countCell (0x10 + n) 0x48 1).modHaul (fun p => { p with
          shoots := p.shoots.map (fun k => if k == h then { k with waiting := k.waiting.filter (· != n) } else k) }) := by
  unfold Dev.engShoot
  rw [hn]
  rfl

theorem exec_shootdownAck (frame : BitVec 26) (s : State) : exec (.shootdownAck frame) s = .next (s.put (s.dev.shootDone frame.toNat)) := (rfl)

/-! ### AGE_PERIOD and USED_FRAME_REPORT (R61, R231) -/

theorem exec_agePeriod (s : State) :
    exec .agePeriod s = .next (s.put (s.dev.modSpace (fun p => { p with
      ways := p.ways.map (fun x => (x.1, { x.2 with age := if x.2.valid then min 255 (x.2.age + 1) else x.2.age })) }))) := (rfl)

theorem exec_usedFrameReport (n : Fin 48) (s : State) :
    exec (.usedFrameReport n) s = .next (s.put
      ((((s.dev.eng n).fcache.filter (fun x => x.used)).foldl (fun t x => t.modEntry x.frame (fun e =>
        { e with age := 0, cls := x.cls.getD e.cls })) s.dev).modEng n
        (fun g => { g with fcache := g.fcache.map (fun x => { x with used := false }) }))) := (rfl)

/-! ### PRECLEAN (R64, R74) -/

/-- The ways of a set that could be taken without a write-back. -/
def Dev.cleanWays (d : Dev) (set : Nat) : Nat :=
  (((List.range 18).map (wayKey set)).filter (fun k => d.evictable k && (d.way k).dcount == 0)).length

/-- Haulage starts no work of its own, the set has nothing to write back ahead, or no buffer is left for it. -/
abbrev Dev.passesOver (d : Dev) (set : Nat) : Prop :=
  d.workStops = true ∨ d.haulServes = false ∨ d.fb Reg.HAULAGE_FREE_CTL_PRECLEAN = false ∨
    ((List.range 18).map (wayKey set)).all (fun k => (d.way k).valid) = false ∨ 2 ≤ d.cleanWays set ∨ 96 < d.haul.wbacks.length

theorem exec_preclean (set : BitVec 15) (s : State) :
    exec (.preclean set) s = .next (s.put (if s.dev.passesOver set.toNat then s.dev
      else match s.dev.victim set.toNat (fun k => (s.dev.way k).dcount != 0) with
        | some k => s.dev.addJob (s.dev.frameOfWay k) (s.dev.way k).dirties .preclean
        | none => s.dev)) := by
  refine (s.on_ite (fun d => d.workStops || !d.haulServes) id (fun d => d.preclean set.toNat)).trans ?_
  simp only [Dev.preclean, Dev.passesOver, Bool.or_eq_true, Bool.not_eq_true', decide_eq_true_eq, ← or_assoc]
  by_cases h : s.dev.workStops = true ∨ s.dev.haulServes = false
  · simp only [h, true_or, if_true, id]
  · simp only [h, false_or, if_false]
    rfl

/-! ### GLOBAL_EVICTION (R66, R74) -/

theorem exec_globalEviction (s : State) :
    exec .globalEviction s = .next (s.put (if s.dev.workStops || !s.dev.haulServes then s.dev else s.dev.globalEvict)) :=
  s.on_ite (fun d => d.workStops || !d.haulServes) id Dev.globalEvict

@[simp] theorem Dev.raise_haul (d : Dev) (page bit : Nat) : (d.raise page bit).haul = d.haul := by
  rw [Dev.raise_eq]

/-- Global eviction starts where the free slots have fallen below the mark. -/
def Dev.geBegun (d : Dev) : Dev :=
  if d.haul.geOn = false ∧ d.freeSlots < d.fv Reg.HAULAGE_FREE_CTL_LOW then
    (d.modHaul (fun p => { p with geOn := true })).raise hauPage Reg.EV_HAULAGE_FREE_LOW
  else d

/-- It starts at the set where it stopped. -/
theorem Dev.geBegun_gePtr (d : Dev) : d.geBegun.haul.gePtr = d.haul.gePtr := by
  unfold Dev.geBegun
  split
  · rw [Dev.raise_haul]
    rfl
  · rfl

theorem Dev.globalEvict_eq (d : Dev) :
    d.globalEvict =
      let c := d.geBegun.modHaul (fun p => { p with gePtr := (p.gePtr + 1) % 32768 })
      if d.geBegun.haul.geOn = false then d.geBegun
      else if d.fv Reg.HAULAGE_FREE_CTL_LOW + 256 ≤ d.freeSlots then d.geBegun.modHaul (fun p => { p with geOn := false })
      else match c.victim d.haul.gePtr (fun _ => true) with
        | some k => c.startEvict (c.frameOfWay k)
        | none => c := by
  rw [← d.geBegun_gePtr]
  simp only [Dev.globalEvict, Dev.geBegun, Bool.and_eq_true, Bool.not_eq_true', decide_eq_true_eq]
  rfl

/-! ### RESERVED_SLOT_MOVE (R40) -/

theorem exec_reservedSlotMove (i : Fin 64) (s : State) : exec (.reservedSlotMove i) s = .next (s.put (s.dev.resvMove i)) := (rfl)

theorem Dev.resvMove_of_idle {d : Dev} {i : Nat} (h : d.space.resvPend.contains i = false ∨ d.haulServes = false) : d.resvMove i = d := by
  unfold Dev.resvMove
  rw [if_pos (by rcases h with h | h <;> simp only [h, Bool.not_false, Bool.true_or, Bool.or_true])]

theorem Dev.resvMove_of_room {d t : Dev} {i n k m slot : Nat} (hp : d.space.resvPend.contains i = true) (hs : d.haulServes = true)
    (hr : d.space.resv.getD i (0, 0) = (n, k)) (hm : d.mostFree (fun m => m != n) = some m) (ht : d.takeSlot m = some (slot, t)) :
    d.resvMove i = (t.modSpace (fun p => { p with
      resv := setAt p.resv i (m, slot), resvPend := p.resvPend.filter (· != i) })).giveSlot n k := by
  unfold Dev.resvMove
  rw [if_neg (by rw [hp, hs]; decide), hr]
  simp only [hm, ht]

theorem Dev.resvMove_of_full {d : Dev} {i n k : Nat} (hp : d.space.resvPend.contains i = true) (hs : d.haulServes = true)
    (hr : d.space.resv.getD i (0, 0) = (n, k)) (hm : d.mostFree (fun m => m != n) = none) :
    d.resvMove i = if d.haul.evicts.any (fun x => !x.release) = true then d
      else match d.resvVictim n with
        | some w => d.startEvict (d.frameOfWay w)
        | none => d := by
  unfold Dev.resvMove
  rw [if_neg (by rw [hp, hs]; decide), hr]
  dsimp only
  split
  next m hm' => exact absurd (hm.symm.trans hm') (by simp)
  next => rfl

/-- Settles O42: each command looks for its eviction, shootdown, set or slot, and the step it is in decides the rest. -/
theorem evictionsShootdownsAndAges : Obligations.EvictionsShootdownsAndAges := by
  intro s
  refine ⟨fun frame => ?evict, fun n revoke => ?shoot, fun frame => ?ack, exec_agePeriod s, fun n => exec_usedFrameReport n s,
    fun set => ?pre, fun h => ?stopped, fun hw hs => ?global, fun i => ?resv⟩
  case evict =>
    simp only [exec_evictionStep]
    refine ⟨fun h => State.next_congr (Dev.evictStep_of_none h), fun x h => ⟨fun hr => State.next_congr (Dev.evictStep_of_release h hr),
      fun hr he => State.next_congr (Dev.evictStep_of_absent h hr he), fun e hr he => ?_⟩⟩
    rw [Dev.evictStep_of_entry h hr he]
    refine ⟨fun h2 => ?_, fun h2 (hsh : s.dev.shooting frame.toNat = true) => ?_,
      fun h2 (hsh : s.dev.shooting frame.toNat = false) hn h3 => ?_,
      fun h2 (hsh : s.dev.shooting frame.toNat = false) hn h3 => ?_, fun h2 (hsh : s.dev.shooting frame.toNat = false) hn => ?_⟩
    · rw [if_pos (beq_iff_eq.mpr h2)]
      simp only [Bool.or_eq_true]
      rfl
    · rw [if_neg (by simp [h2]), if_pos hsh]
    · rw [if_neg (by simp [h2]), if_neg (by simp [hsh]), if_pos hn, if_neg (Nat.not_le.mpr h3)]
      rfl
    · rw [if_neg (by simp [h2]), if_neg (by simp [hsh]), if_pos hn, if_pos h3]
      exact State.next_congr (s.dev.evictGiveUp_eq x)
    · rw [if_neg (by simp [h2]), if_neg (by simp [hsh]), if_neg (by simp [hn])]
  case shoot =>
    simp only [exec_engShoot]
    exact ⟨fun h => State.next_congr (Dev.engShoot_of_none h), fun h hn => State.next_congr (Dev.engShoot_of_next hn)⟩
  case ack =>
    rw [exec_shootdownAck]
    rfl
  case pre =>
    exact ⟨fun (h : s.dev.passesOver set.toNat) => (exec_preclean set s).trans (State.next_congr (if_pos h)),
      fun (h : ¬ s.dev.passesOver set.toNat) => (exec_preclean set s).trans (State.next_congr (if_neg h))⟩
  case stopped => rw [exec_globalEviction, if_pos (by simpa using h)]
  case global =>
    rw [exec_globalEviction, if_neg (by simp [hw, hs])]
    exact State.next_congr s.dev.globalEvict_eq
  case resv =>
    simp only [exec_reservedSlotMove]
    exact ⟨fun h => State.next_congr (Dev.resvMove_of_idle h), fun n k hp hs hr =>
      ⟨fun m slot t hm ht => State.next_congr (Dev.resvMove_of_room hp hs hr hm ht),
        fun hm => State.next_congr (Dev.resvMove_of_full hp hs hr hm)⟩⟩

end Sys2Proof.Machine

/-!
PROOFS. Moves, drains and the table walk (R29, R46, R65, R68 to R70, R74, R76, R123, R370, R412).
-/
namespace Sys2Proof.Machine

/-! ### MOVE_START (R68, R69, R74, R76) -/

theorem exec_moveStart (s : State) : exec .moveStart s = .next (s.put s.dev.moveStart) := (rfl)

theorem Dev.moveStart_of_stopped {d : Dev} (h : d.workStops = true ∨ d.haulServes = false) : d.moveStart = d := by
  unfold Dev.moveStart
  rw [if_pos (by simpa using h)]

/-- With no move waiting an evacuating shaft's next frame is taken up. -/
def Dev.evacTaken (d : Dev) : Dev :=
  match (List.range 48).find? (fun n => d.shaftSt n == stEVACUATING && (d.evacNext n).isSome) with
  | some n => if d.haul.moveQ.isEmpty then d.evacStep n else d
  | none => d

/-- The first waiting move that can go. -/
def Dev.nextMove (b : Dev) : Option (Nat × Nat × MvCause) :=
  b.haul.moveQ.find? (fun q => !(((b.entry q.1).map (·.busy)).getD false) && !(b.mirrorPending q.1) &&
    !(b.haul.zfills.any (fun z => z.frame == q.1)))

/-- A channel that no move has. -/
def Dev.freeChannel (b : Dev) : Option Nat := (List.range (b.fv Reg.HAULAGE_MOVE_CTL_MAX_MOVES)).find? (fun c => (b.mv c).isNone)

/-- The move leaves the queue. -/
def Dev.moveTaken (b : Dev) (q : Nat × Nat × MvCause) : Dev :=
  b.modHaul (fun p => { p with moveQ := dropFirst (fun y => y == q) p.moveQ })

/-- A move that has been taken up is judged (R76), and its frame allocated or copied. -/
def Dev.moveJudged (c : Dev) (q : Nat × Nat × MvCause) (ch : Nat) : Dev :=
  match c.moveBar q.1, c.entry q.1 with
  | some why, _ => c.moveEnd q.2.2 false why
  | none, none => c.moveAlloc q.1 q.2.1 q.2.2
  | none, some e => c.moveTake q.1 q.2.1 q.2.2 ch e

theorem Dev.moveStart_of_waiting {d : Dev} (hw : d.workStops = false) (hs : d.haulServes = true)
    (h : d.evacTaken.nextMove = none ∨ d.evacTaken.freeChannel = none) : d.moveStart = d.evacTaken := by
  unfold Dev.moveStart
  rw [if_neg (by simp [hw, hs])]
  change (match d.evacTaken.nextMove, d.evacTaken.freeChannel with
    | some (f, n, c), some ch => _
    | _, _ => d.evacTaken) = _
  rcases h with h | h <;> rw [h]
  cases d.evacTaken.nextMove <;> rfl

theorem Dev.moveStart_of_next {d : Dev} {q : Nat × Nat × MvCause} {ch : Nat} (hw : d.workStops = false) (hs : d.haulServes = true)
    (hq : d.evacTaken.nextMove = some q) (hc : d.evacTaken.freeChannel = some ch) :
    d.moveStart = (d.evacTaken.moveTaken q).moveJudged q ch := by
  unfold Dev.moveStart
  rw [if_neg (by simp [hw, hs])]
  change (match d.evacTaken.nextMove, d.evacTaken.freeChannel with
    | some (f, n, c), some ch => (d.evacTaken.moveTaken (f, n, c)).moveJudged (f, n, c) ch
    | _, _ => d.evacTaken) = _
  rw [hq, hc]

theorem Dev.moveJudged_of_barred {c : Dev} {f n why : Nat} {cause : MvCause} (ch : Nat) (h : c.moveBar f = some why) :
    c.moveJudged (f, n, cause) ch = c.moveEnd cause false why := by
  simp only [Dev.moveJudged, h]

theorem Dev.moveJudged_of_absent {c : Dev} {f n : Nat} {cause : MvCause} (ch : Nat) (h : c.moveBar f = none) (he : c.entry f = none) :
    c.moveJudged (f, n, cause) ch = c.moveAlloc f n cause := by
  simp only [Dev.moveJudged, h, he]

theorem Dev.moveJudged_of_entry {c : Dev} {f n : Nat} {cause : MvCause} {e : Entry} (ch : Nat) (h : c.moveBar f = none)
    (he : c.entry f = some e) : c.moveJudged (f, n, cause) ch = c.moveTake f n cause ch e := by
  simp only [Dev.moveJudged, h, he]

theorem Dev.moveAlloc_eq (c : Dev) (f n : Nat) (cause : MvCause) :
    c.moveAlloc f n cause =
      if cause = .evac then c
      else if c.shaftUp n = false then c.moveEnd cause false 3
      else match c.allocate f (match cause with
          | .hint k => k
          | _ => 61) bornEntry (fun m => m == n) with
        | .inl .victim => c.moveEnd cause false 7
        | .inl _ => c.moveEnd cause false 4
        | .inr (_, t) => t.moveEnd cause true 0 := by
  unfold Dev.moveAlloc
  by_cases hc : cause = .evac
  · rw [if_pos (beq_iff_eq.mpr hc), if_pos hc]
  · rw [if_neg (mt beq_iff_eq.mp hc), if_neg hc]
    cases c.shaftUp n <;> rfl

/-! ### The channel a move takes (R68 steps 1 and 2) -/

theorem Dev.moveTake_of_there {c : Dev} {f n ch : Nat} {cause : MvCause} {e : Entry} (h : e.shaft = n) :
    c.moveTake f n cause ch e = c.moveEnd cause true 0 := by
  simp [Dev.moveTake, h]

theorem Dev.moveTake_of_targetDown {c : Dev} {f n ch : Nat} {cause : MvCause} {e : Entry} (h : e.shaft ≠ n) (hn : c.shaftUp n = false) :
    c.moveTake f n cause ch e = c.moveEnd cause false 3 := by
  simp [Dev.moveTake, h, hn]

section
variable {c : Dev} {f n ch : Nat} {cause : MvCause} {e : Entry} (h : e.shaft ≠ n) (hn : c.shaftUp n = true)
include h hn

theorem Dev.moveTake_of_unreadable (hu : unreadable (c.shaftSt e.shaft) = true) : c.moveTake f n cause ch e = c.moveEnd cause false 6 := by
  simp [Dev.moveTake, h, hn, hu]

theorem Dev.moveTake_of_noSlot (hu : unreadable (c.shaftSt e.shaft) = false) (ht : c.takeSlot n = none) :
    c.moveTake f n cause ch e = c.moveEnd cause false 4 := by
  simp [Dev.moveTake, h, hn, hu, ht]

theorem Dev.moveTake_of_slot {slot : Nat} {t : Dev} (hu : unreadable (c.shaftSt e.shaft) = false) (ht : c.takeSlot n = some (slot, t)) :
    c.moveTake f n cause ch e =
      let m : Mv := { frame := f, target := n, srcShaft := e.shaft, srcSlot := e.slot, dstSlot := slot, step := 3, cause := cause, id := t.nextId }
      (((t.setMv ch (some m)).fresh).modEntry f (fun e => { e with busy := true, age := 0 })).moveRead ch := by
  simp [Dev.moveTake, h, hn, hu, ht]

end

/-! ### MOVE_COPY_END, MOVE_COMMIT and MOVE_ABANDON (R68) -/

theorem exec_moveCopyEnd (ch : Fin 4) (s : State) : exec (.moveCopyEnd ch) s = .next (s.put (s.dev.moveCopyEnd ch)) := (rfl)
theorem exec_moveCommit (ch : Fin 4) (s : State) : exec (.moveCommit ch) s = .next (s.put (s.dev.moveCommit ch)) := (rfl)
theorem exec_moveAbandon (ch : Fin 4) (s : State) : exec (.moveAbandon ch) s = .next (s.put (s.dev.moveAbandon ch)) := (rfl)

theorem Dev.moveCopyEnd_of_none {d : Dev} {ch : Nat} (h : (d.moveRead ch).mv ch = none) : d.moveCopyEnd ch = d.moveRead ch := by
  simp [Dev.moveCopyEnd, h]

/-- Every line of the copy has been read, and its write acknowledged. -/
abbrev Mv.copied (m : Mv) : Prop := m.step = 3 ∧ m.failed = 0 ∧ 8192 ≤ m.next ∧ m.out = [] ∧ m.again = [] ∧ m.wr = 0

theorem Dev.moveCopyEnd_of_move {d : Dev} {ch : Nat} {m : Mv} (h : (d.moveRead ch).mv ch = some m) :
    d.moveCopyEnd ch =
      if m.copied then ((d.moveRead ch).setMv ch (some { m with step := 4 })).sendShoot m.frame none 0 else d.moveRead ch := by
  have hcond : (m.step != 3 || m.failed != 0 || m.next < 8192 || !m.out.isEmpty || !m.again.isEmpty || m.wr != 0) = true ↔ ¬ m.copied := by
    simp only [Bool.or_eq_true, bne_iff_ne, decide_eq_true_eq, Bool.not_eq_true', List.isEmpty_eq_false_iff, Mv.copied,
      Classical.not_and_iff_not_or_not, Nat.not_le, or_assoc]
  simp only [Dev.moveCopyEnd, h, hcond, ite_not]

theorem Dev.moveCommit_of_none {d : Dev} {ch : Nat} (h : d.mv ch = none) : d.moveCommit ch = d := by
  simp [Dev.moveCommit, h]

/-- The shootdown of a copied move has ended, and its slots are quiet. -/
abbrev Dev.commits (d : Dev) (m : Mv) : Prop :=
  m.step = 4 ∧ m.failed = 0 ∧ d.haul.shoots.any (fun h => h.frame == m.frame) = false ∧ d.slotQuiet m.srcShaft m.srcSlot = true ∧
    d.slotQuiet m.target m.dstSlot = true ∧ unreadable (d.shaftSt m.srcShaft) = false

theorem Dev.moveCommit_of_move {d : Dev} {ch : Nat} {m : Mv} (h : d.mv ch = some m) :
    d.moveCommit ch =
      if d.commits m then
        let c := (d.setMv ch none).modEntry m.frame (fun e => { e with shaft := m.target, slot := m.dstSlot })
        (((c.giveSlot m.srcShaft m.srcSlot).settleBusy m.frame).bump Reg.HAULAGE_CNT_MOVE_VALUE).moveEnd m.cause true 0
      else d := by
  have hcond : (m.step != 4 || m.failed != 0 || d.haul.shoots.any (fun h => h.frame == m.frame) || !(d.slotQuiet m.srcShaft m.srcSlot) ||
      !(d.slotQuiet m.target m.dstSlot) || unreadable (d.shaftSt m.srcShaft)) = true ↔ ¬ d.commits m := by
    simp only [Bool.or_eq_true, bne_iff_ne, Bool.not_eq_true', Dev.commits, Classical.not_and_iff_not_or_not, or_assoc,
      Bool.not_eq_false, Bool.not_eq_true]
  simp only [Dev.moveCommit, h, hcond, ite_not]

theorem Dev.moveAbandon_of_none {d : Dev} {ch : Nat} (h : d.mv ch = none) : d.moveAbandon ch = d := by
  simp [Dev.moveAbandon, h]

theorem Dev.moveAbandon_of_sound {d : Dev} {ch : Nat} {m : Mv} (h : d.mv ch = some m) (hf : d.moveFail m = none) : d.moveAbandon ch = d := by
  simp [Dev.moveAbandon, h, hf]

theorem Dev.moveAbandon_of_failed {d : Dev} {ch why : Nat} {m : Mv} (h : d.mv ch = some m) (hf : d.moveFail m = some why) :
    d.moveAbandon ch = (((d.setMv ch none).dropDest m).settleBusy m.frame).moveEnd m.cause false why := by
  simp only [Dev.moveAbandon, h, hf]

/-! ### TABLE_WALK and WALK_END (R46) -/

theorem exec_tableWalk (set : BitVec 15) (bad : List (Fin 18 × Bool)) (s : State) :
    exec (.tableWalk set bad) s = .next (s.put (s.dev.walkSet set.toNat bad)) := (rfl)

theorem Dev.walkSet_of_other {d : Dev} {set : Nat} (bad : List (Fin 18 × Bool)) (h : d.space.walking = false ∨ set ≠ d.space.walkFrom) :
    d.walkSet set bad = d := by
  unfold Dev.walkSet
  rw [if_pos (by simpa using h)]

theorem Dev.walkSet_of_next {d : Dev} {set : Nat} (bad : List (Fin 18 × Bool)) (hw : d.space.walking = true) (h : set = d.space.walkFrom) :
    d.walkSet set bad =
      let c := bad.foldl (fun t b => t.upset (wayKey set b.1.val) (upsetOf b.2)) d
      ((List.range 18).foldl (fun t w => t.walkWay (wayKey set w)) c).modSpace (fun p => { p with walkFrom := p.walkFrom + 1 }) := by
  unfold Dev.walkSet
  rw [if_neg (by simp [hw, h])]

theorem Dev.walkEnd_of_going {d : Dev} (h : d.space.walking = false ∨ d.space.walkFrom < 32768) : d.walkEnd = d := by
  unfold Dev.walkEnd
  rw [if_pos (by simpa using h)]

@[simp] theorem Dev.record_space (d : Dev) (page code sev : Nat) (ps : List Nat) : (d.record page code sev ps).space = d.space := (rfl)

/-- The reserved slots that are to move are no matter of the walk. -/
theorem Dev.pendResv_all_walking (t : Dev) :
    (if t.mode == mdKINDLE then (List.range 48).foldl (fun s n => if s.shaftUp n then s else s.pendResv n) t else t).space.walking =
      t.space.walking := by
  split
  · refine foldl_keeps (fun u : Dev => u.space.walking = t.space.walking) _ _ t (rfl) ?_
    intro u n hu
    split <;> exact hu
  · rfl

/-- The walk over: the births in holes cleared, the free lists built again, and what the walk found shown and recorded. -/
def Dev.walkClosed (d : Dev) : Dev :=
  let p := d.space
  let c := d.clearHoles.rebuildFree.modSpace (fun p => { p with walking := false, walkSeen := [] })
  (((c.setSat Reg.HAULAGE_WALK_RESULT_DROPPED p.walkDropped).setSat Reg.HAULAGE_WALK_RESULT_LOST p.walkLost).setSat
    Reg.HAULAGE_WALK_RESULT_SUSPECT p.walkSuspect).record hauPage 0x101
      (if p.walkDropped + p.walkLost + p.walkSuspect == 0 then sevINFO else if p.walkLost != 0 then sevCRITICAL else sevWARNING)
      [p.walkDropped, p.walkLost, p.walkSuspect]

theorem Dev.walkClosed_walking (d : Dev) : d.walkClosed.space.walking = false := by
  simp only [Dev.walkClosed, Dev.record_space, Dev.setSat_space, Dev.modSpace_space]

theorem Dev.walkEnd_of_last {d : Dev} (hw : d.space.walking = true) (hl : 32768 ≤ d.space.walkFrom) :
    d.walkEnd = if d.walkClosed.mode == mdKINDLE then
      (List.range 48).foldl (fun s n => if s.shaftUp n then s else s.pendResv n) d.walkClosed else d.walkClosed := by
  unfold Dev.walkEnd
  rw [if_neg (by simp [hw, hl])]
  rfl

/-- After the last set the walk is over. -/
theorem Dev.walkEnd_walking {d : Dev} (hw : d.space.walking = true) (hl : 32768 ≤ d.space.walkFrom) : d.walkEnd.space.walking = false := by
  rw [Dev.walkEnd_of_last hw hl, Dev.pendResv_all_walking, Dev.walkClosed_walking]

/-- Haulage serves again. -/
def Dev.haulResumed (w : Dev) : Dev := if w.ust hauPage = stKINDLING then w.enter hauPage stONLINE else w

/-- A dispatcher that waited for haulage serves again, but in a ground-die reset and before RUN. -/
def Dev.dispResumed (u : Dev) : Dev :=
  if u.ust dispPage = stKINDLING ∧ u.ks.gdr = none ∧ u.mode ≠ mdKINDLE then (u.enter dispPage stONLINE).ringsPump else u

theorem exec_walkEnd_of_last {s : State} (hw : s.dev.space.walking = true) (hl : 32768 ≤ s.dev.space.walkFrom) :
    exec .walkEnd s = .next (s.put (let v := s.dev.walkEnd.haulResumed.dispResumed
      v.space.drains.foldl (fun t x => t.drainKick x) v)) := by
  change execWalkEnd s = _
  simp only [execWalkEnd, State.on, hw, Dev.walkEnd_walking hw hl, Bool.not_false, Bool.and_self, if_true, Dev.haulResumed, Dev.dispResumed,
    beq_iff_eq, Bool.and_eq_true, bne_iff_ne, Option.isNone_iff_eq_none, and_assoc]
  rfl

theorem exec_walkEnd_of_going {s : State} (h : s.dev.space.walking = false ∨ s.dev.space.walkFrom < 32768) : exec .walkEnd s = .next s := by
  change execWalkEnd s = _
  simp [execWalkEnd, State.on, Dev.walkEnd_of_going h]

/-! ### DRAIN_END (R29) -/

theorem exec_drainEnd (win : Fin 80) (s : State) : exec (.drainEnd win) s = .next (s.put (s.dev.drainEnd win)) := (rfl)

theorem Dev.drainEnd_of_none {d : Dev} {w : Nat} (h : d.space.drains.find? (fun y => y.win == w) = none) : d.drainEnd w = d := by
  simp [Dev.drainEnd, h]

theorem Dev.drainEnd_of_frames {d : Dev} {w : Nat} {x : Drain} (h : d.space.drains.find? (fun y => y.win == w) = some x)
    (hp : ∃ p ∈ x.parts, d.framesIn p.lo p.hi ≠ []) : d.drainEnd w = d.drainKick x := by
  simp only [Dev.drainEnd, h]
  exact if_pos (by simpa using hp)

theorem Dev.drainEnd_of_empty {d : Dev} {w : Nat} {x : Drain} (h : d.space.drains.find? (fun y => y.win == w) = some x)
    (hp : ∀ p ∈ x.parts, d.framesIn p.lo p.hi = []) :
    d.drainEnd w =
      let c := d.modSpace (fun p => { p with
        drains := (p.drains.filter (fun y => y.win != w)).map (fun y => if x.enable then y.less x.parts else y),
        born := x.parts.foldl (fun b q => idel b q.lo q.hi) p.born,
        lost := p.lost.filter (fun f => !(x.parts.any (fun q => q.lo ≤ f && f ≤ q.hi))) })
      let e := winSetDraining c w 0
      ((if x.enable then e.enableRow w else winSetEn e w 0).setOverlaps.setSoTotal).raise hauPage Reg.EV_HAULAGE_DRAIN_DONE := by
  simp only [Dev.drainEnd, h]
  exact if_neg (by simpa using hp)

/-- Settles O43: a move by where it stands, a drain by the frames that are left, and the walk by its last set. -/
theorem movesDrainsAndWalks : Obligations.MovesDrainsAndWalks := by
  intro s
  refine ⟨fun h => State.next_congr (Dev.moveStart_of_stopped h), fun hw hs => ?start, fun ch => ?copy, fun ch h => ?none,
    fun ch m h => ?commit, fun set bad => ?walk, fun win => ?drain,
    fun hw hl => ⟨Dev.walkEnd_walking hw hl, exec_walkEnd_of_last hw hl⟩, exec_walkEnd_of_going⟩
  case start =>
    refine ⟨fun h => State.next_congr (Dev.moveStart_of_waiting hw hs h), fun f n cause ch hq hc => ?_⟩
    rw [exec_moveStart, Dev.moveStart_of_next hw hs hq hc]
    refine ⟨fun why hb => State.next_congr (Dev.moveJudged_of_barred ch hb), fun hb he => ?_, fun e hb he => ?_⟩
    · exact State.next_congr ((Dev.moveJudged_of_absent ch hb he).trans (Dev.moveAlloc_eq _ f n cause))
    · have hj := Dev.moveJudged_of_entry (n := n) (cause := cause) ch hb he
      exact ⟨fun h => State.next_congr (hj.trans (Dev.moveTake_of_there h)),
        fun h hn => State.next_congr (hj.trans (Dev.moveTake_of_targetDown h hn)),
        fun h hn hu => State.next_congr (hj.trans (Dev.moveTake_of_unreadable h hn hu)),
        fun h hn hu => ⟨fun ht => State.next_congr (hj.trans (Dev.moveTake_of_noSlot h hn hu ht)),
          fun slot t ht => State.next_congr (hj.trans (Dev.moveTake_of_slot h hn hu ht))⟩⟩
  case copy =>
    simp only [exec_moveCopyEnd]
    exact ⟨fun h => State.next_congr (Dev.moveCopyEnd_of_none h), fun m h => State.next_congr (Dev.moveCopyEnd_of_move h)⟩
  case none => exact ⟨State.next_congr (Dev.moveCommit_of_none h), State.next_congr (Dev.moveAbandon_of_none h)⟩
  case commit =>
    refine ⟨fun hr => ?_, fun hr => ?_, fun hf => State.next_congr (Dev.moveAbandon_of_sound h hf),
      fun why hf => State.next_congr (Dev.moveAbandon_of_failed h hf)⟩
    · exact State.next_congr ((Dev.moveCommit_of_move h).trans (if_neg hr))
    · exact State.next_congr ((Dev.moveCommit_of_move h).trans (if_pos hr))
  case walk =>
    simp only [exec_tableWalk]
    exact ⟨fun h => State.next_congr (Dev.walkSet_of_other bad h), fun hw h => State.next_congr (Dev.walkSet_of_next bad hw h)⟩
  case drain =>
    simp only [exec_drainEnd]
    exact ⟨fun h => State.next_congr (Dev.drainEnd_of_none h), fun x h => ⟨fun hp => State.next_congr (Dev.drainEnd_of_frames h hp),
      fun hp => State.next_congr (Dev.drainEnd_of_empty h hp)⟩⟩

end Sys2Proof.Machine

/-!
PROOFS. Far ports: bring-up of a CXL root port, its completions and timeouts, and what watches the lanes (R59, R67, R273, R298 to R302,
R307, R310 to R313).
-/
namespace Sys2Proof.Machine

/-! ### Fields of one page that share no bit -/

/-- Two fields of single registers of a page that share no bit. -/
abbrev Fld.Apart (f g : Fld) : Prop := f.page = g.page ∧ g.hi < 32 ∧ (f.off ≠ g.off ∨ g.hi < f.lo ∨ f.hi < g.lo)

/-- A field that stands in a register of the far ports' pages other than their event status. -/
abbrev Fld.InFarPage (f : Fld) : Prop := f.page = 0x20 ∧ f.off ≠ 0x14

/-- Setting a field leaves the fields apart from it. -/
theorem Dev.fv_setF_apart (d : Dev) {f g : Fld} (v i : Nat) (h : f.Apart g) : (d.setF g v i).fv f i = d.fv f i := by
  obtain ⟨hpage, hhi, hbits⟩ := h
  by_cases hoff : f.off = g.off
  · have haddr : f.addr i 0 = g.addr i 0 := by simp only [Fld.addr, hpage, hoff, Nat.mul_zero]
    unfold Dev.fv Dev.setF
    rw [haddr, Dev.rdReg_wrReg_same, bitsOf_withBits_apart _ hhi (by omega)]
  · exact d.fv_wrReg_other _ _ f i 0 (by simp only [Fld.addr]; omega)

/-- Raising an event of a far port leaves the fields of its other registers. -/
theorem Dev.fv_raise_far (d : Dev) {f : Fld} (i bit : Nat) (h : f.InFarPage) : (d.raise (farPage i) bit).fv f i = d.fv f i := by
  obtain ⟨hpage, hoff⟩ := h
  unfold Dev.fv
  rw [Dev.rdReg_raise_other _ _ _ _ (by simp only [Fld.addr, farPage]; omega)]

/-! ### CXL_RECEIVER_DETECTED (R298) -/

/-- The pads are held, or REFCLK is away: no root port trains. -/
abbrev Dev.padsStill (d : Dev) : Prop := d.fb Reg.MODES_STATUS_PADS_LATCHED = true ∨ d.pins.refclk = false

/-- A command that acts only where the pads are released and REFCLK runs. -/
theorem State.on_padsReleased (s : State) (g : Dev → Dev) :
    (s.on fun d => if d.fb Reg.MODES_STATUS_PADS_LATCHED || !d.pins.refclk then .next d else .next (g d)) =
      .next (s.put (if s.dev.padsStill then s.dev else g s.dev)) := by
  refine (s.on_ite (fun d => d.fb Reg.MODES_STATUS_PADS_LATCHED || !d.pins.refclk) id g).trans (State.next_congr ?_)
  exact ite_congr (by simp only [Bool.or_eq_true, Bool.not_eq_true']) (fun _ => rfl) (fun _ => rfl)

theorem exec_cxlReceiverDetected (f : Fin 4) (found : Bool) (s : State) :
    exec (.cxlReceiverDetected f found) s =
      .next (s.put (if s.dev.padsStill then s.dev else s.dev.cxlDetected f (found && s.dev.pins.vddaFar))) :=
  s.on_padsReleased fun d => d.cxlDetected f (found && d.pins.vddaFar)

/-- The root port waits for its receiver. -/
abbrev Dev.detecting (d : Dev) (f : Nat) : Prop :=
  d.farRole f = 1 ∧ d.farStage f = 1 ∧ (d.farSt f = stOFFLINE ∨ d.farSt f = stKINDLING ∨ d.farSt f = stFENCED)

/-- A port that is KINDLING may enter a state of its link. -/
theorem Dev.farEnter_of_kindling {d : Dev} {f : Nat} (st : Nat) (h : d.farSt f = stKINDLING) : d.farEnter f st = d.enter (farPage f) st := by
  unfold Dev.farEnter
  rw [h]
  rfl

theorem Dev.cxlDetected_eq (d : Dev) (f : Nat) (found : Bool) :
    d.cxlDetected f found =
      if d.detecting f then
        if found = true then (d.setF Reg.FARPORT_STATUS_STAGE 2 f).farEnter f stKINDLING
        else if d.farSt f = stKINDLING then d.enter (farPage f) stOFFLINE else d
      else d := by
  simp only [Dev.cxlDetected, Bool.and_eq_true, Bool.or_eq_true, beq_iff_eq, and_assoc, or_assoc]
  exact ite_congr rfl (fun _ => ite_congr rfl (fun _ => rfl) fun _ =>
    ite_congr rfl (fun hk => Dev.farEnter_of_kindling stOFFLINE hk) fun _ => rfl) fun _ => rfl

/-! ### CXL_LINK_TRAINED (R298) -/

theorem exec_cxlLinkTrained (f : Fin 4) (o : CxlTrainObs) (s : State) :
    exec (.cxlLinkTrained f o) s =
      .next (s.put (if s.dev.padsStill then s.dev else s.dev.cxlTrained f (if s.dev.pins.vddaFar then o else .failed))) :=
  s.on_padsReleased fun d => d.cxlTrained f (if d.pins.vddaFar then o else .failed)

theorem Dev.cxlTrained_of_idle {d : Dev} {f : Nat} (o : CxlTrainObs) (h : d.farRole f ≠ 1 ∨ (d.farStage f ≠ 2 ∧ d.farStage f ≠ 3)) :
    d.cxlTrained f o = d := by
  unfold Dev.cxlTrained
  rw [if_pos (by simpa using h)]

/-- The lanes are fixed at the rate reached; a link at 32 GT/s is DEGRADED; the failures in a row are over. -/
def Dev.trainedAt (d : Dev) (f r lanes : Nat) (rev : Bool) : Dev :=
  let a := (d.setLanes f lanes rev).setF Reg.FARPORT_STATUS_RATE r f
  (if r = 1 then a.raise (farPage f) Reg.EV_FARPORT_DEGRADED else a).setF Reg.FARPORT_STATUS_FAILS 0 f

/-- Fixing the lanes leaves the fields apart from those that show the lanes. -/
theorem Dev.fv_setLanes (d : Dev) {g : Fld} (f lanes : Nat) (rev : Bool) (hg : g.InFarPage)
    (h : g.Apart Reg.FARPORT_STATUS_WIDTH ∧ g.Apart Reg.FARPORT_STATUS_REVERSED ∧ g.Apart Reg.FARPORT_LANE_STATUS_LOCKED ∧
      g.Apart Reg.FARPORT_LANE_STATUS_USED ∧ g.Apart Reg.FARPORT_LANE_STATUS_LOS) :
    (d.setLanes f lanes rev).fv g f = d.fv g f := by
  obtain ⟨hwidth, hrev, hlocked, hused, hlos⟩ := h
  unfold Dev.setLanes
  extract_lets w a b c code e
  have he : e.fv g f = d.fv g f := by
    change c.fv g f = _
    rw [Dev.fv_setF_apart _ _ _ hlos, Dev.fv_setF_apart _ _ _ hused, Dev.fv_setF_apart _ _ _ hlocked, Dev.fv_setF_apart _ _ _ hrev,
      Dev.fv_setF_apart _ _ _ hwidth]
  split
  · exact he
  · exact (Dev.fv_raise_far e f _ hg).trans he

/-- The stage and the fields of CXL_STATUS outlast the training. -/
theorem Dev.fv_trainedAt (d : Dev) {g : Fld} (f r lanes : Nat) (rev : Bool)
    (h : g = Reg.FARPORT_STATUS_STAGE ∨ g = Reg.FARPORT_CXL_STATUS_MEM_EN) : (d.trainedAt f r lanes rev).fv g f = d.fv g f := by
  have hg : g.InFarPage := by rcases h with rfl | rfl <;> decide
  have hrate : g.Apart Reg.FARPORT_STATUS_RATE := by rcases h with rfl | rfl <;> decide
  have hfails : g.Apart Reg.FARPORT_STATUS_FAILS := by rcases h with rfl | rfl <;> decide
  have hlanes : (d.setLanes f lanes rev).fv g f = d.fv g f := d.fv_setLanes f lanes rev hg (by rcases h with rfl | rfl <;> decide)
  unfold Dev.trainedAt
  dsimp only
  rw [Dev.fv_setF_apart _ _ _ hfails]
  split
  · rw [Dev.fv_raise_far _ _ _ hg, Dev.fv_setF_apart _ _ _ hrate, hlanes]
  · rw [Dev.fv_setF_apart _ _ _ hrate, hlanes]

section
variable {d : Dev} {f : Nat} (hrole : d.farRole f = 1) (hstage : d.farStage f = 2 ∨ d.farStage f = 3)
include hrole hstage

/-- The root port trains. -/
theorem Dev.cxlTrains : ¬ (d.farRole f != 1 || !(d.farStage f == 2 || d.farStage f == 3)) = true := by
  rcases hstage with h | h <;> simp [hrole, h]

theorem Dev.cxlTrained_of_failed : d.cxlTrained f .failed = d.stageFail f 1 := by
  rw [Dev.cxlTrained, if_neg (Dev.cxlTrains hrole hstage)]

theorem Dev.cxlTrained_of_slow {rate : Fin 3} (lanes : BitVec 8) (rev : Bool) (hr : rate.val = 0) :
    d.cxlTrained f (.trained rate lanes rev) = d.stageFail f 1 := by
  rw [Dev.cxlTrained, if_neg (Dev.cxlTrains hrole hstage)]
  exact if_pos (beq_iff_eq.mpr hr)

theorem Dev.cxlTrained_of_narrow {rate : Fin 3} {lanes : BitVec 8} (rev : Bool) (hr : rate.val ≠ 0)
    (hw : widthOf lanes.toNat (d.fv Reg.FARPORT_LANE_EXCL_LANES f) = 0) :
    d.cxlTrained f (.trained rate lanes rev) = d.stageFail f 5 := by
  rw [Dev.cxlTrained, if_neg (Dev.cxlTrains hrole hstage)]
  exact (if_neg (mt beq_iff_eq.mp hr)).trans (if_pos (beq_iff_eq.mpr hw))

/-- A link that served before its recovery serves again; another is to be enumerated. -/
theorem Dev.cxlTrained_of_up {rate : Fin 3} {lanes : BitVec 8} (rev : Bool) (hr : rate.val ≠ 0)
    (hw : widthOf lanes.toNat (d.fv Reg.FARPORT_LANE_EXCL_LANES f) ≠ 0) :
    d.cxlTrained f (.trained rate lanes rev) =
      let b := d.trainedAt f (if d.fb Reg.FARPORT_CTL_MAX_RATE f then 1 else rate.val) lanes.toNat rev
      if d.farStage f = 3 ∧ d.fb Reg.FARPORT_CXL_STATUS_MEM_EN f = true then
        ((b.setF Reg.FARPORT_STATUS_STAGE 5 f).noteBlocked.farPump f).pump
      else (b.setF Reg.FARPORT_STATUS_STAGE 4 f).wrReg (farPage f * 4096 + 0x68) 0 := by
  rw [Dev.cxlTrained, if_neg (Dev.cxlTrains hrole hstage)]
  refine (if_neg (mt beq_iff_eq.mp hr)).trans ((if_neg (mt beq_iff_eq.mp hw)).trans ?_)
  simp only [beq_iff_eq, Bool.and_eq_true]
  unfold Dev.farStage Dev.fb
  rw [← d.fv_trainedAt f _ lanes.toNat rev (.inl rfl), ← d.fv_trainedAt f _ lanes.toNat rev (.inr rfl)]
  rfl

end

/-! ### ENUMERATION_END and ENUMERATION_TIMEOUT (R300) -/

theorem exec_enumerationEnd (f : Fin 4) (o : EnumObs) (s : State) : exec (.enumerationEnd f o) s = .next (s.put (s.dev.enumEnd f o)) := (rfl)

theorem exec_enumerationTimeout (f : Fin 4) (s : State) :
    exec (.enumerationTimeout f) s = .next (s.put (if s.dev.enumerating f then s.dev.enumFail f 6 else s.dev)) := (rfl)

theorem Dev.enumerating_iff (d : Dev) (f : Nat) :
    d.enumerating f = true ↔ d.farRole f = 1 ∧ d.farStage f = 4 ∧ d.fv Reg.FARPORT_CXL_STATUS_ENUM_ERR f = 0 := by
  simp only [Dev.enumerating, Bool.and_eq_true, beq_iff_eq, and_assoc]

/-- One to eight Type-3 devices and nothing else, no second switch level, and every decoder committed. -/
abbrev enumGood (o : EnumObs) : Prop := 0 < o.devices ∧ o.devices ≤ 8 ∧ o.others = 0 ∧ o.deep = false ∧ o.commits = true

theorem enumErr_of_good {o : EnumObs} (h : enumGood o) : enumErr o = 0 := by
  obtain ⟨hsome, hfit, hothers, hdeep, hcommits⟩ := h
  simp [enumErr, hothers, hdeep, hcommits, Nat.ne_of_gt hsome, Nat.not_lt.mpr hfit]

/-- What is found amiss but for the lower codes is a decoder that does not commit. -/
theorem enumErr_of_bad {o : EnumObs} (h : ¬ enumGood o) :
    enumErr o = if o.devices = 0 ∧ o.others = 0 then 1 else if o.others ≠ 0 then 2 else if o.deep then 3 else if 8 < o.devices then 4 else 5 := by
  unfold enumErr
  simp only [Bool.and_eq_true, beq_iff_eq, bne_iff_ne]
  refine ite_congr rfl (fun _ => rfl) fun hnone => ite_congr rfl (fun _ => rfl) fun hothers => ite_congr rfl (fun _ => rfl) fun hdeep =>
    ite_congr rfl (fun _ => rfl) fun hfit => if_pos ?_
  rw [Bool.not_eq_true', Bool.eq_false_iff]
  intro hcommits
  exact h ⟨by omega, by omega, by omega, by simpa using hdeep, hcommits⟩

theorem enumErr_ne_zero_of_bad {o : EnumObs} (h : ¬ enumGood o) : enumErr o ≠ 0 := by
  rw [enumErr_of_bad h]
  repeat' split
  all_goals decide

/-- What an enumeration found is shown: a switch, and how many devices. -/
def Dev.enumShown (d : Dev) (f : Nat) (o : EnumObs) : Dev :=
  (d.setF Reg.FARPORT_CXL_STATUS_SWITCH (b2n o.switch) f).setF Reg.FARPORT_CXL_STATUS_DEVICES (min 8 o.devices) f

theorem Dev.enumEnd_of_idle {d : Dev} {f : Nat} (o : EnumObs) (h : ¬ d.enumerating f = true) : d.enumEnd f o = d := by
  simp [Dev.enumEnd, h]

theorem Dev.enumEnd_of_good {d : Dev} {f : Nat} {o : EnumObs} (h : d.enumerating f = true) (hg : enumGood o) :
    d.enumEnd f o =
      let a := (((d.enumShown f o).setF Reg.FARPORT_CXL_STATUS_MEM_EN 1 f).setF Reg.FARPORT_CXL_STATUS_ENUM_DONE 1 f).raise
        (farPage f) Reg.EV_FARPORT_ENUM
      (((a.raise (farPage f) Reg.EV_FARPORT_LINK_UP).setF Reg.FARPORT_STATUS_STAGE 5 f).farEnter f stONLINE).noteBlocked.pump := by
  simp only [Dev.enumEnd, h, enumErr_of_good hg]
  rfl

theorem Dev.enumEnd_of_bad {d : Dev} {f : Nat} {o : EnumObs} (h : d.enumerating f = true) (hg : ¬ enumGood o) :
    d.enumEnd f o = (d.enumShown f o).enumFail f (enumErr o) := by
  rw [Dev.enumEnd, if_neg (by simp [h])]
  exact if_pos (bne_iff_ne.mpr (enumErr_ne_zero_of_bad hg))

/-! ### CXL_COMPLETION, FAR_TIMEOUT and DEVICE_INITIATED_REQUEST (R299, R302) -/

theorem exec_cxlCompletion (f : Fin 4) (tag : Nat) (o : CplObs) (s : State) :
    exec (.cxlCompletion f tag o) s = .next (s.put (s.dev.cxlCpl f tag o)) := (rfl)

theorem exec_farTimeout (f : Fin 4) (tag : Nat) (s : State) : exec (.farTimeout f tag) s = .next (s.put (s.dev.farTimeout f tag)) := (rfl)

theorem exec_deviceInitiatedRequest (f : Fin 4) (s : State) :
    exec (.deviceInitiatedRequest f) s = .next (s.put
      (if s.dev.farRole f = 1 ∧ 4 ≤ s.dev.farStage f then s.dev.record (farPage f) codeOTHER sevWARNING [] else s.dev)) :=
  State.next_congr (ite_congr (by simp only [Bool.and_eq_true, beq_iff_eq, decide_eq_true_eq]) (fun _ => rfl) fun _ => rfl)

/-- A far request leaves the port's list. -/
def Dev.dropTx (d : Dev) (f tag : Nat) : Dev := d.modFar f (fun q => { q with cxl := q.cxl.filter (fun y => y.tag != tag) })

theorem Dev.takeTx_of_none {d : Dev} {f tag : Nat} (h : (d.far f).cxl.find? (fun x => x.tag == tag) = none) : d.takeTx f tag = none := by
  simp only [Dev.takeTx, h]

theorem Dev.takeTx_of_some {d : Dev} {f tag : Nat} {x : FarTx} (h : (d.far f).cxl.find? (fun x => x.tag == tag) = some x) :
    d.takeTx f tag = some (x, d.dropTx f tag) := by
  simp only [Dev.takeTx, h]
  rfl

/-- A completion shows the load of the device. -/
def Dev.loadShown (d : Dev) (f : Nat) (o : CplObs) : Dev := d.setF Reg.FARPORT_CXL_STATUS_DEVLOAD o.devload.toNat f

theorem Dev.cxlCpl_of_down {d : Dev} {f : Nat} (tag : Nat) (o : CplObs) (h : d.farRole f ≠ 1 ∨ d.farStage f ≠ 5) :
    d.cxlCpl f tag o = d := by
  rw [Dev.cxlCpl, if_pos (by simpa using h)]

section
variable {d : Dev} {f tag : Nat} (o : CplObs) (hrole : d.farRole f = 1) (hstage : d.farStage f = 5)
include hrole hstage

theorem Dev.cxlCpl_of_unknown (h : (d.far f).cxl.find? (fun x => x.tag == tag) = none) : d.cxlCpl f tag o = d.loadShown f o := by
  have ht : (d.loadShown f o).takeTx f tag = none := Dev.takeTx_of_none h
  rw [Dev.cxlCpl, if_neg (by simp [hrole, hstage]), ← Dev.loadShown]
  simp only [ht]

theorem Dev.cxlCpl_of_known {x : FarTx} (h : (d.far f).cxl.find? (fun x => x.tag == tag) = some x) :
    d.cxlCpl f tag o = (((((d.loadShown f o).dropTx f tag).farDone f x o.kind).countCell (0x40 + f) 0x48 1).farPump f) := by
  have ht : (d.loadShown f o).takeTx f tag = some (x, (d.loadShown f o).dropTx f tag) := Dev.takeTx_of_some h
  rw [Dev.cxlCpl, if_neg (by simp [hrole, hstage]), ← Dev.loadShown]
  simp only [ht]

end

/-- A far request that fails: a correction goes on with poison, another ends as after a completion error. -/
def Dev.failTx (d : Dev) : FarOrg → Dev
  | .corr n id idx => d.farFix n id idx 0 poisonBad
  | o => d.farFailed o

theorem Dev.farTimeout_of_unknown {d : Dev} {f tag : Nat} (h : (d.far f).cxl.find? (fun x => x.tag == tag) = none) :
    d.farTimeout f tag = d := by
  rw [Dev.farTimeout, Dev.takeTx_of_none h]

theorem Dev.farTimeout_of_known {d : Dev} {f tag : Nat} {x : FarTx} (h : (d.far f).cxl.find? (fun x => x.tag == tag) = some x) :
    d.farTimeout f tag =
      (((((d.dropTx f tag).bump Reg.FARPORT_CNT_FAR_TIMEOUT_VALUE f).raise (farPage f) Reg.EV_FARPORT_FAR_TIMEOUT).failTx x.org).farPump f) := by
  rw [Dev.farTimeout, Dev.takeTx_of_some h]
  rfl

/-! ### LOSS_OF_LOCK and LOSS_OF_SIGNAL (R307, R312) -/

theorem exec_lossOfLock (f : Fin 4) (l : Fin 8) (s : State) :
    exec (.lossOfLock f l) s = .next (s.put
      (if s.dev.farRole f ≠ 0 ∧ s.dev.laneLocked f l = true then s.dev.lockLost f l else s.dev)) :=
  State.next_congr (ite_congr (by simp only [Bool.and_eq_true, bne_iff_ne]) (fun _ => rfl) fun _ => rfl)

theorem exec_lossOfSignal (f : Fin 4) (l : Fin 8) (s : State) : exec (.lossOfSignal f l) s = .next (s.put (s.dev.signalLost f l)) := (rfl)

theorem Dev.lockLost_of_locked {d : Dev} {f l : Nat} (h : d.laneLocked f l = true) :
    d.lockLost f l =
      let a := d.setF Reg.FARPORT_LANE_STATUS_LOCKED (d.fv Reg.FARPORT_LANE_STATUS_LOCKED f - 2 ^ l) f
      if bitN (a.fv Reg.FARPORT_LANE_STATUS_USED f) l then a.farRetrain f 3 else a := by
  unfold Dev.laneLocked at h
  simp only [Dev.lockLost, h, if_true]

/-- The lane is marked: its signal is lost, and with it its lock. -/
def Dev.laneMarked (d : Dev) (f l : Nat) : Dev :=
  let m := d.fv Reg.FARPORT_LANE_STATUS_LOCKED f
  let a := (d.setF Reg.FARPORT_LANE_STATUS_LOS (Nat.lor (d.fv Reg.FARPORT_LANE_STATUS_LOS f) (2 ^ l)) f).setF
    Reg.FARPORT_LANE_STATUS_LOCKED (if bitN m l then m - 2 ^ l else m) f
  (a.bump Reg.FARPORT_CNT_LOS_VALUE f).raise (farPage f) Reg.EV_FARPORT_LOS

/-- Marking a lane leaves the role in force, the stage and the lanes in use. -/
theorem Dev.fv_laneMarked (d : Dev) {g : Fld} (f l : Nat)
    (h : g = Reg.FARPORT_STATUS_STAGE ∨ g = Reg.FARPORT_STATUS_ACTIVE_ROLE ∨ g = Reg.FARPORT_LANE_STATUS_USED) :
    (d.laneMarked f l).fv g f = d.fv g f := by
  have hg : g.InFarPage := by rcases h with rfl | rfl | rfl <;> decide
  have hcnt : g.Apart Reg.FARPORT_CNT_LOS_VALUE := by rcases h with rfl | rfl | rfl <;> decide
  have hlocked : g.Apart Reg.FARPORT_LANE_STATUS_LOCKED := by rcases h with rfl | rfl | rfl <;> decide
  have hlos : g.Apart Reg.FARPORT_LANE_STATUS_LOS := by rcases h with rfl | rfl | rfl <;> decide
  unfold Dev.laneMarked
  dsimp only
  rw [Dev.fv_raise_far _ _ _ hg, Dev.bump, Dev.fv_setF_apart _ _ _ hcnt, Dev.fv_setF_apart _ _ _ hlocked, Dev.fv_setF_apart _ _ _ hlos]

theorem Dev.signalLost_of_early {d : Dev} {f : Nat} (l : Nat) (h : d.farRole f = 0 ∨ d.farStage f < 2) : d.signalLost f l = d := by
  rw [Dev.signalLost, if_pos (by simpa using h)]

/-- What a lost signal does, told by the port as it was before the lane was marked. -/
theorem Dev.signalLost_of_training {d : Dev} {f : Nat} (l : Nat) (hrole : d.farRole f ≠ 0) (hstage : 2 ≤ d.farStage f) :
    d.signalLost f l =
      if d.farLinkUp f = true then
        if bitN (d.fv Reg.FARPORT_LANE_STATUS_USED f) l = true then (d.laneMarked f l).farRetrain f (if d.farRole f = 2 then 2 else 3)
        else d.laneMarked f l
      else if d.farRole f = 2 then (d.laneMarked f l).stageFail f 6 else d.laneMarked f l := by
  have hst : (d.laneMarked f l).farStage f = d.farStage f := d.fv_laneMarked f l (.inl rfl)
  have hro : (d.laneMarked f l).farRole f = d.farRole f := d.fv_laneMarked f l (.inr (.inl rfl))
  have hup : (d.laneMarked f l).farLinkUp f = d.farLinkUp f := by rw [Dev.farLinkUp, hst, hro, Dev.farLinkUp]
  have hm : (d.setF Reg.FARPORT_LANE_STATUS_LOS (Nat.lor (d.fv Reg.FARPORT_LANE_STATUS_LOS f) (2 ^ l)) f).fv
      Reg.FARPORT_LANE_STATUS_LOCKED f = d.fv Reg.FARPORT_LANE_STATUS_LOCKED f := Dev.fv_setF_apart d _ f (by decide)
  rw [Dev.signalLost, if_neg (by simp [hrole, Nat.not_lt.mpr hstage])]
  dsimp only
  rw [hm]
  change (if (d.laneMarked f l).farLinkUp f = true then
      if bitN ((d.laneMarked f l).fv Reg.FARPORT_LANE_STATUS_USED f) l = true then
        (d.laneMarked f l).farRetrain f (if ((d.laneMarked f l).farRole f == 2) = true then 2 else 3) else d.laneMarked f l
    else if ((d.laneMarked f l).farRole f == 2) = true then (d.laneMarked f l).stageFail f 6 else d.laneMarked f l) = _
  simp only [hup, hro, d.fv_laneMarked f l (.inr (.inr rfl)), beq_iff_eq]

/-! ### ADAPTATION (R310) -/

theorem exec_adaptation (f : Fin 4) (l : Fin 8) (c e : Move) (s : State) :
    exec (.adaptation f l c e) s = .next (s.put (s.dev.adapt f l c e)) := (rfl)

/-- An adaptation moves the settings of a lane. -/
def FarSt.adapted (p : FarSt) (l : Nat) (c e : Move) : FarSt :=
  { p with ctle := smod (fun _ => 0) p.ctle l (fun x => stepInt x c), dfe := smod (fun _ => 0) p.dfe l (fun x => stepInt x e) }

/-- An adaptation that is over: the settings moved, and the sampler lease given back. -/
def Dev.adapted (d : Dev) (f l : Nat) (c e : Move) : Dev :=
  ((d.setLease (lsSampler f l) ⟨hoADAPT, rkINTEGRITY, d.time⟩).modFar f (fun p => p.adapted l c e)).freeLease (lsSampler f l)

theorem Dev.adapt_of_down {d : Dev} {f : Nat} (l : Nat) (c e : Move) (h : d.farLinkUp f = false) : d.adapt f l c e = d := by
  simp [Dev.adapt, h]

theorem Dev.adapt_of_busy {d : Dev} {f l : Nat} (c e : Move) (h : d.farLinkUp f = true) (hl : d.leaseHeld (lsSampler f l) = true) :
    d.adapt f l c e = d.bump Reg.LEASES_CNT_BUSY_VALUE := by
  simp [Dev.adapt, Dev.askLease, h, hl]

/-- The lease that was asked for is the one given back. -/
theorem Dev.adapt_of_free {d : Dev} {f l : Nat} (c e : Move) (h : d.farLinkUp f = true) (hl : d.leaseHeld (lsSampler f l) = false) :
    d.adapt f l c e = d.adapted f l c e := by
  have hmine : (((d.setLease (lsSampler f l) ⟨hoADAPT, rkINTEGRITY, d.time⟩).lease (lsSampler f l)).holder == hoADAPT) = true := by
    rw [Dev.lease_setLease_same]
    rfl
  simp only [Dev.adapt, Dev.askLease, h, hl, Bool.not_true, Bool.false_eq_true, if_false]
  exact if_pos hmine

/-- How far an adaptation moves a setting. -/
def moveOf : Move → Int
  | .stay => 0
  | .up => 1
  | .down => -1

theorem stepInt_eq (x : Int) (m : Move) : stepInt x m = x + moveOf m := by
  cases m with
  | stay => exact (Int.add_zero x).symm
  | up => rfl
  | down => rfl

theorem FarSt.ctle_adapted (p : FarSt) (l : Nat) (c e : Move) :
    sget (fun _ => 0) (p.adapted l c e).ctle l = sget (fun _ => 0) p.ctle l + moveOf c :=
  (sget_sset_same _ _ _ _).trans (stepInt_eq _ _)

theorem FarSt.dfe_adapted (p : FarSt) (l : Nat) (c e : Move) :
    sget (fun _ => 0) (p.adapted l c e).dfe l = sget (fun _ => 0) p.dfe l + moveOf e :=
  (sget_sset_same _ _ _ _).trans (stepInt_eq _ _)

theorem Dev.far_adapted (d : Dev) (f l : Nat) (c e : Move) : (d.adapted f l c e).far f = (d.far f).adapted l c e :=
  Dev.far_modFar_same (d.setLease (lsSampler f l) ⟨hoADAPT, rkINTEGRITY, d.time⟩) f (fun p => p.adapted l c e)

theorem Dev.leaseHeld_adapted (d : Dev) (f l : Nat) (c e : Move) : (d.adapted f l c e).leaseHeld (lsSampler f l) = false := by
  rw [Dev.leaseHeld, Dev.adapted, Dev.freeLease, Dev.lease_setLease_same]
  rfl

/-! ### SCAN_POINT_END and LOOP_END (R311, R313, R315) -/

theorem exec_scanPointEnd (f : Fin 4) (errors : Nat) (retrain : Bool) (s : State) :
    exec (.scanPointEnd f errors retrain) s = .next (s.put (s.dev.scanEnd f (if retrain then 16777215 else errors))) := (rfl)

theorem exec_loopEnd (f : Fin 4) (fail : BitVec 8) (errors : Nat) (s : State) :
    exec (.loopEnd f fail errors) s = .next (s.put (s.dev.loopEnd f fail errors)) := (rfl)

theorem Dev.scanEnd_of_none {d : Dev} {f : Nat} (errors : Nat) (h : (d.far f).scan = none) : d.scanEnd f errors = d := by
  simp only [Dev.scanEnd, h]

theorem Dev.scanEnd_of_lane {d : Dev} {f l : Nat} (errors : Nat) (h : (d.far f).scan = some l) :
    d.scanEnd f errors =
      let a := (d.modFar f (fun q => { q with scan := none })).dropLease (lsSampler f l) hoSCAN
      let b := (a.setF Reg.FARPORT_SCAN_STATUS_DONE 1 f).setF Reg.FARPORT_SCAN_STATUS_REASON 0 f
      (b.setSat Reg.FARPORT_SCAN_STATUS_ERRORS errors f).raise (farPage f) Reg.EV_FARPORT_SCAN_DONE := by
  simp only [Dev.scanEnd, h]

/-- The loop is over. -/
def Dev.loopOff (d : Dev) (f : Nat) : Dev := d.modFar f (fun q => { q with loop := 0 })

/-- The end of a loop is shown. -/
def Dev.loopDone (d : Dev) (f : Nat) : Dev := (d.setF Reg.FARPORT_LOOP_STATUS_DONE 1 f).raise (farPage f) Reg.EV_FARPORT_LOOP_DONE

theorem Dev.loopEnd_of_going {d : Dev} {f : Nat} (fail : BitVec 8) (errors : Nat)
    (h : (d.far f).loop = 0 ∨ ((d.far f).loop = 3 ∧ d.fv Reg.FARPORT_LOOP_CTL_MODE f ≠ 0)) : d.loopEnd f fail errors = d := by
  rw [Dev.loopEnd, if_pos (by simpa using h)]

theorem Dev.loopEnd_of_farEnd {d : Dev} {f : Nat} (fail : BitVec 8) (errors : Nat) (h : (d.far f).loop = 3)
    (hm : d.fv Reg.FARPORT_LOOP_CTL_MODE f = 0) : d.loopEnd f fail errors = (d.loopOff f).loopDone f := by
  rw [Dev.loopEnd, if_neg (by simp [h, hm]), h]
  rfl

theorem Dev.loopEnd_of_nearEnd {d : Dev} {f : Nat} (fail : BitVec 8) (errors : Nat) (h0 : (d.far f).loop ≠ 0) (h3 : (d.far f).loop ≠ 3) :
    d.loopEnd f fail errors =
      let a := d.loopOff f
      ((a.setF Reg.FARPORT_LOOP_STATUS_FAIL_LANES (Nat.land fail.toNat (a.fv Reg.FARPORT_LOOP_CTL_LANES f)) f).setSat
        Reg.FARPORT_LOOP_STATUS_ERRORS errors f).loopDone f := by
  rw [Dev.loopEnd, if_neg (by simp [h0, h3])]
  dsimp only
  rw [if_neg (mt beq_iff_eq.mp h3)]
  rfl

/-- Settles O52: each command asks whether the port is in the role, the stage or the loop that it is about; what it then tests is read in
registers that the step before has left alone. -/
theorem farPortsServeFarMemory : Obligations.FarPortsServeFarMemory := by
  intro s f d p role stage still
  refine ⟨fun found => ?detected, fun o => ?trained, ?enumeration, fun tag o => ?completion, fun tag => ?timeout, ?device, fun l => ?lanes,
    fun errors retrain => ?scan, fun fail errors => ?loop⟩
  case detected =>
    intro here
    simp only [exec_cxlReceiverDetected, Dev.cxlDetected_eq]
    refine ⟨fun h => ?_, fun hs hh => ⟨fun hf hv => ?_, fun h => ?_⟩⟩
    · rcases h with hs | hh
      · exact State.next_congr (if_pos hs)
      · exact State.next_congr ((ite_congr rfl (fun _ => rfl) fun _ => if_neg hh).trans (ite_self _))
    · exact State.next_congr ((if_neg hs).trans ((if_pos hh).trans (if_pos (by rw [hf, hv]; rfl))))
    · exact State.next_congr ((if_neg hs).trans ((if_pos hh).trans (if_neg (by rcases h with h | h <;> simp [d, h]))))
  case trained =>
    simp only [exec_cxlLinkTrained]
    refine ⟨fun h => ?idle, fun hs hrole hstage => ⟨fun h => ?failed, fun rate lanes rev hv ho => ?up⟩⟩
    case idle =>
      refine State.next_congr ?_
      by_cases hs : still
      · exact if_pos hs
      · exact (if_neg hs).trans (Dev.cxlTrained_of_idle _ (h.resolve_left hs))
    case failed =>
      have ho : (if d.pins.vddaFar then o else .failed) = CxlTrainObs.failed := by rcases h with h | h <;> simp [h]
      exact State.next_congr ((if_neg hs).trans (by rw [ho, Dev.cxlTrained_of_failed hrole hstage]))
    case up =>
      have htr : (if s.dev.padsStill then s.dev else s.dev.cxlTrained f (if s.dev.pins.vddaFar then o else .failed)) =
          d.cxlTrained f (.trained rate lanes rev) := by rw [if_neg hs, if_pos hv, ho]
      rw [htr]
      refine ⟨fun hr => State.next_congr (Dev.cxlTrained_of_slow hrole hstage lanes rev hr),
        fun hr hw => State.next_congr (Dev.cxlTrained_of_narrow hrole hstage rev hr hw),
        fun hr hw => ⟨fun h3 hm => ?_, fun h => ?_⟩⟩ <;>
        refine State.next_congr ((Dev.cxlTrained_of_up hrole hstage rev hr hw).trans ?_)
      · exact if_pos ⟨h3, hm⟩
      · refine if_neg fun ⟨h3, hm⟩ => ?_
        rcases h with h | h
        · exact absurd (h.symm.trans h3) (by decide)
        · exact absurd (hm.symm.trans h) (by decide)
  case enumeration =>
    simp only [exec_enumerationEnd, exec_enumerationTimeout]
    refine ⟨fun h => ?idle, fun h => ?going⟩
    case idle =>
      have hn : ¬ d.enumerating f = true := mt (d.enumerating_iff f).mp h
      exact ⟨State.next_congr (if_neg hn), fun o => State.next_congr (Dev.enumEnd_of_idle o hn)⟩
    case going =>
      have he : d.enumerating f = true := (d.enumerating_iff f).mpr h
      refine ⟨State.next_congr (if_pos he), fun o => ⟨fun hg => State.next_congr (Dev.enumEnd_of_good he hg), fun hg => State.next_congr ?_⟩⟩
      rw [Dev.enumEnd_of_bad he hg, enumErr_of_bad hg]
      rfl
  case completion =>
    simp only [exec_cxlCompletion]
    exact ⟨fun h => State.next_congr (Dev.cxlCpl_of_down tag o h), fun hrole hstage =>
      ⟨fun h => State.next_congr (Dev.cxlCpl_of_unknown o hrole hstage h), fun x h => State.next_congr (Dev.cxlCpl_of_known o hrole hstage h)⟩⟩
  case timeout =>
    simp only [exec_farTimeout]
    refine ⟨fun h => State.next_congr (Dev.farTimeout_of_unknown h), fun x h => State.next_congr ?_⟩
    rw [Dev.farTimeout_of_known h]
    rfl
  case device => exact exec_deviceInitiatedRequest f s
  case lanes =>
    intro m used
    simp only [exec_lossOfLock, exec_lossOfSignal, exec_adaptation]
    refine ⟨fun h => ?unlocked, fun hr hl => ?locked, fun h => State.next_congr (Dev.signalLost_of_early l h), fun hr hst => ?signal,
      fun c e => ?adapt⟩
    case unlocked =>
      refine State.next_congr (if_neg fun ⟨hr, hl⟩ => ?_)
      rcases h with h | h
      · exact hr h
      · exact absurd (hl.symm.trans h) (by decide)
    case locked => exact State.next_congr ((if_pos ⟨hr, hl⟩).trans (Dev.lockLost_of_locked hl))
    case signal =>
      rw [Dev.signalLost_of_training l hr hst]
      refine ⟨fun hup hused => ?_, fun hup hused => ?_, fun hup => ?_⟩
      · exact State.next_congr ((if_pos hup).trans (if_neg (Bool.eq_false_iff.mp hused)))
      · exact State.next_congr ((if_pos hup).trans (if_pos hused))
      · exact State.next_congr (if_neg (Bool.eq_false_iff.mp hup))
    case adapt =>
      refine ⟨fun h => State.next_congr (Dev.adapt_of_down l c e h), fun h hl => State.next_congr (Dev.adapt_of_busy c e h hl), fun h hl => ?_⟩
      exact ⟨d.adapted f l c e, State.next_congr (Dev.adapt_of_free c e h hl), d.leaseHeld_adapted f l c e, rfl,
        by rw [Dev.far_adapted, FarSt.ctle_adapted]; rfl, by rw [Dev.far_adapted, FarSt.dfe_adapted]; rfl⟩
  case scan =>
    simp only [exec_scanPointEnd]
    exact ⟨fun h => State.next_congr (Dev.scanEnd_of_none _ h), fun l h => State.next_congr (Dev.scanEnd_of_lane _ h)⟩
  case loop =>
    simp only [exec_loopEnd]
    exact ⟨fun h => State.next_congr (Dev.loopEnd_of_going fail errors h), fun h hm => State.next_congr (Dev.loopEnd_of_farEnd fail errors h hm),
      fun h0 h3 => State.next_congr (Dev.loopEnd_of_nearEnd fail errors h0 h3)⟩

end Sys2Proof.Machine

/-!
PROOFS. Units: the end of a function reset and of an evacuation, the two views, engines that do not end or answer, and the targets of a
self-test run (R63, R255, R338, R339, R344 to R348, R355).
-/
namespace Sys2Proof.Machine

/-! ### FUNC_RESET_END (R344, R345) -/

theorem exec_funcResetEnd (page : BitVec 14) (o : BringUp) (r : ShortObs) (s : State) :
    exec (.funcResetEnd page o r) s = .next (s.put (s.dev.funcResetEnd page.toNat o r)) := (rfl)

/-- A unit of each kind, KINDLING after its function reset, comes up. -/
def Dev.broughtUp (t : Dev) (page : Nat) (r : ShortObs) : UKind → Dev
  | .shaft n => if r.ok then (((t.shortRetrain n r).exitSR n).drainWbuf n).enter page stONLINE else (t.shortRetrain n r).failShaft n
  | .engine n => (t.engineBack n).enter page stONLINE
  | .host h => if t.fb Reg.HOSTPORT_LINK_CTL_DISABLE h then t.enter page stOFFLINE else t.startTraining h
  | .far f => (t.setF Reg.FARPORT_STATUS_ACTIVE_ROLE (t.fv Reg.FARPORT_CTL_ROLE f) f).farBringUp f
  | .haulage => t.startWalk
  | .dispatcher => if t.space.walking then t else (t.enter page stONLINE).ringsPump

theorem Dev.funcResetEnd_of_idle {d : Dev} {page : Nat} (o : BringUp) (r : ShortObs)
    (h : d.ust page ≠ stRESETTING ∨ unitOf page = none ∨ d.pins.refclk = false) : d.funcResetEnd page o r = d := by
  rcases h with h | h | h <;> simp [Dev.funcResetEnd, h]

section
variable {d : Dev} {page : Nat} {u : UKind} (r : ShortObs) (hst : d.ust page = stRESETTING) (hc : d.pins.refclk = true)
  (hu : unitOf page = some u)
include hst hc hu

theorem Dev.funcResetEnd_of_failed : d.funcResetEnd page .failed r = (d.enter page stKINDLING).failUnit u page := by
  rw [Dev.funcResetEnd, if_neg (by simp [hst, hc]), hu]
  rfl

theorem Dev.funcResetEnd_of_unit {o : BringUp} (ho : o ≠ .failed) :
    d.funcResetEnd page o r = (d.enter page stKINDLING).broughtUp page r u := by
  rw [Dev.funcResetEnd, if_neg (by simp [hst, hc]), hu]
  exact if_neg (mt beq_iff_eq.mp ho)

end

/-! ### STATE_NOTICE (R338) -/

theorem exec_stateNotice (lost : Bool) (s : State) : exec (.stateNotice lost) s = .next (s.put (s.dev.stateNotice lost)) := (rfl)

theorem Dev.stateNotice_of_none {d : Dev} (lost : Bool) (h : d.notice.stateFlight = []) : d.stateNotice lost = d := by
  simp only [Dev.stateNotice, h]

/-- A view after a notice. -/
def viewSet (v : Sparse (Nat × Nat)) (page st e : Nat) : Sparse (Nat × Nat) := sset (fun _ => (stOFFLINE, 0)) v page (st, e)

theorem Dev.stateNotice_of_next {d : Dev} (lost : Bool) {page st e : Nat} {l : List (Nat × Nat × Nat)}
    (h : d.notice.stateFlight = (page, st, e) :: l) :
    d.stateNotice lost =
      let t := { d with notice := { d.notice with
        stateFlight := l
        routeView := viewSet d.notice.routeView page st e
        mgmtView := if lost = true ∨ d.pins.mgmtOn = false then d.notice.mgmtView else viewSet d.notice.mgmtView page st e } }
      ((t.countCell (attOfPage page) 0x48 2).countCell (attOfPage page) 0x49 2).countCell (attOfPage page) 0x4A 2 := by
  simp only [Dev.stateNotice, h, Bool.or_eq_true, Bool.not_eq_true']
  rfl

/-! ### VIEW_COMPARISON (R338) -/

theorem exec_viewComparison (s : State) : exec .viewComparison s = .next (s.put s.dev.compareViews) := (rfl)

/-- The management view of a unit. -/
def Dev.mgmtSees (d : Dev) (page : Nat) : Nat × Nat := sget (fun _ => (stOFFLINE, 0)) d.notice.mgmtView page

/-- The management view adopts the state and epoch of a unit, which is counted and recorded. -/
def Dev.viewAdopted (d : Dev) (page : Nat) : Dev :=
  let a := { d with notice := { d.notice with mgmtView := viewSet d.notice.mgmtView page (d.ust page) (d.epoch page) } }
  (a.bump Reg.SELFTEST_CNT_VIEW_FIX_VALUE).raiseRec pgSELFTEST Reg.EV_SELFTEST_VIEW_FIX sevWARNING
    [page, (d.mgmtSees page).2 * 65536 + (d.mgmtSees page).1, d.epoch page * 65536 + d.ust page]

/-- The comparison of one unit. -/
def Dev.viewFixed (d : Dev) (page : Nat) : Dev := if d.mgmtSees page = (d.ust page, d.epoch page) then d else d.viewAdopted page

theorem Dev.compareViews_of_off {d : Dev} (h : d.pins.mgmtOn = false) : d.compareViews = d := by
  simp [Dev.compareViews, h]

theorem Dev.compareViews_of_on {d : Dev} (h : d.pins.mgmtOn = true) : d.compareViews = unitPages.foldl Dev.viewFixed d := by
  rw [Dev.compareViews, if_neg (by simp [h])]
  refine congrArg (fun g => unitPages.foldl g d) (funext fun t => funext fun page => ?_)
  exact ite_congr (by rw [beq_iff_eq]; rfl) (fun _ => rfl) fun _ => rfl

/-- An event leaves both views. -/
theorem Dev.raise_views (d : Dev) (page bit : Nat) :
    (d.raise page bit).notice.mgmtView = d.notice.mgmtView ∧ (d.raise page bit).notice.routeView = d.notice.routeView := by
  unfold Dev.raise
  dsimp only
  split
  · exact ⟨rfl, rfl⟩
  · split <;> exact ⟨rfl, rfl⟩

/-- The comparison of a unit leaves the word that holds any unit's state. -/
theorem Dev.viewFixed_unitWord (d : Dev) (page q : Nat) : (d.viewFixed page).rdReg (q * 4096 + 8) = d.rdReg (q * 4096 + 8) := by
  have hcnt : q * 4096 + 8 ≠ Reg.SELFTEST_CNT_VIEW_FIX_VALUE.addr 0 0 := by
    simp only [Fld.addr, Reg.SELFTEST_CNT_VIEW_FIX_VALUE]
    omega
  have hevt : q * 4096 + 8 ≠ pgSELFTEST * 4096 + 0x14 := by
    simp only [pgSELFTEST]
    omega
  unfold Dev.viewFixed
  split
  · rfl
  · exact (Dev.rdReg_raise_other _ _ _ _ hevt).trans (Dev.rdReg_setF_other _ _ _ _ _ _ hcnt)

theorem Dev.viewFixed_ust (d : Dev) (page q : Nat) : (d.viewFixed page).ust q = d.ust q := by
  rw [Dev.ust, Dev.viewFixed_unitWord, Dev.ust]

theorem Dev.viewFixed_epoch (d : Dev) (page q : Nat) : (d.viewFixed page).epoch q = d.epoch q := by
  rw [Dev.epoch, Dev.viewFixed_unitWord, Dev.epoch]

theorem Dev.viewFixed_routeView (d : Dev) (page : Nat) : (d.viewFixed page).notice.routeView = d.notice.routeView := by
  unfold Dev.viewFixed
  split
  · rfl
  · exact (Dev.raise_views _ _ _).2

theorem Dev.viewAdopted_mgmtView (d : Dev) (page : Nat) :
    (d.viewAdopted page).notice.mgmtView = viewSet d.notice.mgmtView page (d.ust page) (d.epoch page) :=
  (Dev.raise_views _ _ _).1

theorem Dev.viewFixed_mgmtSees (d : Dev) (page q : Nat) :
    (d.viewFixed page).mgmtSees q = if q = page then (d.ust page, d.epoch page) else d.mgmtSees q := by
  unfold Dev.viewFixed
  split
  case isTrue hsame =>
    split
    · subst q
      exact hsame
    · rfl
  case isFalse => rw [Dev.mgmtSees, Dev.viewAdopted_mgmtView, viewSet, sget_sset, Dev.mgmtSees]

/-- The management view of a unit is the unit's state and epoch. -/
def Dev.viewAgrees (d : Dev) (q : Nat) : Prop := d.mgmtSees q = (d.ust q, d.epoch q)

theorem Dev.viewFixed_agrees (d : Dev) (page : Nat) : (d.viewFixed page).viewAgrees page := by
  rw [Dev.viewAgrees, Dev.viewFixed_mgmtSees, if_pos rfl, Dev.viewFixed_ust, Dev.viewFixed_epoch]

theorem Dev.viewFixed_keeps_agreement {d : Dev} {q : Nat} (page : Nat) (h : d.viewAgrees q) : (d.viewFixed page).viewAgrees q := by
  rw [Dev.viewAgrees, Dev.viewFixed_mgmtSees, Dev.viewFixed_ust, Dev.viewFixed_epoch]
  split
  · subst q
    rfl
  · exact h

/-- Each comparison makes one unit's view agree, and none after it disturbs that. -/
theorem Dev.viewsFixed_agree (l : List Nat) (d : Dev) : ∀ q ∈ l, (l.foldl Dev.viewFixed d).viewAgrees q := by
  induction l generalizing d with
  | nil => exact fun _ hq => absurd hq List.not_mem_nil
  | cons page l ih =>
    refine List.forall_mem_cons.mpr ⟨?_, ih (d.viewFixed page)⟩
    exact foldl_keeps (fun t : Dev => t.viewAgrees page) _ l _ (d.viewFixed_agrees page) fun t p ht => t.viewFixed_keeps_agreement p ht

theorem Dev.viewsFixed_ust (l : List Nat) (d : Dev) (q : Nat) : (l.foldl Dev.viewFixed d).ust q = d.ust q :=
  foldl_keeps (fun t : Dev => t.ust q = d.ust q) _ l d rfl fun t p ht => (t.viewFixed_ust p q).trans ht

theorem Dev.viewsFixed_epoch (l : List Nat) (d : Dev) (q : Nat) : (l.foldl Dev.viewFixed d).epoch q = d.epoch q :=
  foldl_keeps (fun t : Dev => t.epoch q = d.epoch q) _ l d rfl fun t p ht => (t.viewFixed_epoch p q).trans ht

theorem Dev.viewsFixed_routeView (l : List Nat) (d : Dev) : (l.foldl Dev.viewFixed d).notice.routeView = d.notice.routeView :=
  foldl_keeps (fun t : Dev => t.notice.routeView = d.notice.routeView) _ l d rfl fun t p ht => (t.viewFixed_routeView p).trans ht

/-! ### EVACUATION_END (R339) -/

theorem exec_evacuationEnd (n : Fin 48) (s : State) : exec (.evacuationEnd n) s = .next (s.put (s.dev.evacEnd n)) := (rfl)

/-- An entry, an eviction or a reserved slot that is to move names the shaft. -/
def Dev.shaftNamed (d : Dev) (n : Nat) : Bool :=
  d.space.ways.any (fun e => e.2.valid && e.2.shaft == n) || d.haul.evicts.any (fun x => x.shaft == n) ||
    d.space.resvPend.any (fun i => (d.space.resv.getD i (0, 0)).1 == n)

theorem Dev.evacEnd_of_going {d : Dev} {n : Nat} (h : d.shaftSt n ≠ stEVACUATING ∨ d.shaftNamed n = true) : d.evacEnd n = d := by
  rw [Dev.evacEnd, ← Dev.shaftNamed]
  exact if_pos (by simpa using h)

theorem Dev.evacEnd_of_empty {d : Dev} {n : Nat} (hst : d.shaftSt n = stEVACUATING) (h : d.shaftNamed n = false) :
    d.evacEnd n = (((d.drainWbuf n).enter (shaftPage n) stFENCED).enterSR n).raise pgSELFTEST Reg.EV_SELFTEST_EVAC_DONE := by
  rw [Dev.evacEnd, ← Dev.shaftNamed]
  exact if_neg (by simp [hst, h])

/-! ### SHOOTDOWN_TIMEOUT (R63) and JOB_END_TIMEOUT_RESET (R255) -/

theorem exec_shootdownTimeout (frame : BitVec 26) (n : Fin 48) (s : State) :
    exec (.shootdownTimeout frame n) s = .next (s.put (s.dev.shootTimeout frame.toNat n)) := (rfl)

theorem exec_jobEndTimeoutReset (n : Fin 48) (s : State) : exec (.jobEndTimeoutReset n) s = .next (s.put (s.dev.jobEndReset n)) := (rfl)

theorem Dev.shootTimeout_of_acked {d : Dev} {f n : Nat} (h : d.haul.shoots.any (fun h => h.frame == f && h.waiting.contains n) = false) :
    d.shootTimeout f n = d := by
  rw [Dev.shootTimeout, h]
  rfl

theorem Dev.shootTimeout_of_waiting {d : Dev} {f n : Nat} (h : d.haul.shoots.any (fun h => h.frame == f && h.waiting.contains n) = true) :
    d.shootTimeout f n = ((d.engineReset n stRESET).raise (enginePage n) Reg.EV_ENGINE_LATE_ACK).modHaul (fun p => { p with
      shoots := p.shoots.map (fun h => if h.frame == f then { h with waiting := h.waiting.filter (· != n) } else h) }) := by
  rw [Dev.shootTimeout, h]
  rfl

theorem Dev.engineReset_of_off {d : Dev} {n : Nat} (status : Nat) (h : d.engSt n = stDARK ∨ d.engSt n = stRESETTING) :
    d.engineReset n status = d := by
  rw [Dev.engineReset, if_pos (by simpa using h)]

theorem Dev.engineReset_of_on {d : Dev} {n : Nat} (status : Nat) (hd : d.engSt n ≠ stDARK) (hr : d.engSt n ≠ stRESETTING) :
    d.engineReset n status = (d.engReset n status).enter (enginePage n) stRESETTING := by
  rw [Dev.engineReset, if_neg (by simp [hd, hr])]

theorem Dev.jobEndReset_of_none {d : Dev} {n : Nat} (h : (d.eng n).run = none) : d.jobEndReset n = d := by
  simp only [Dev.jobEndReset, h]

theorem Dev.jobEndReset_of_going {d : Dev} {n : Nat} {r : Run} (h : (d.eng n).run = some r) (he : r.ending = none) :
    d.jobEndReset n = d := by
  simp only [Dev.jobEndReset, h, he]

/-- A job that ends is cut off only where it was timed out or aborted. -/
theorem Dev.jobEndReset_of_ending {d : Dev} {n st a b : Nat} {r : Run} (h : (d.eng n).run = some r) (he : r.ending = some (st, a, b)) :
    d.jobEndReset n = if st = stTIMEOUT ∨ st = stABORTED then d.engineReset n st else d := by
  simp only [Dev.jobEndReset, h, he, Bool.or_eq_true, beq_iff_eq]

/-! ### SELFTEST_TARGET_END (R346 to R348) -/

theorem exec_selftestTargetEnd (page : BitVec 14) (o : SelftestObs) (s : State) :
    exec (.selftestTargetEnd page o) s = .next (s.put (s.dev.targetEnd page.toNat o)) := (rfl)

/-- What a test leaves in its target: an array that its patterns have overwritten, an engine with nothing in it. -/
def Dev.testCleared (d : Dev) (kind : Nat) : UKind → Dev
  | .shaft n => if kind == 3 || kind == 7 then d.arrayTested n else d
  | .engine n => d.modEng n (fun g => { g.clearRegs with scratch := [], scratchBad := [] })
  | _ => d

/-- A column of the shaft was found bad. -/
def sparesColumn (o : SelftestObs) : Bool := o.defects.any (fun y => match y with
  | .column _ => true
  | _ => false)

/-- A shaft whose column was spared is trained, and passes where the training does not fail; another target passes where every fault was
repaired. -/
def Dev.testJudged (d : Dev) (o : SelftestObs) (ok : Bool) : UKind → Dev × Bool
  | .shaft n =>
    if sparesColumn o && ok then (d.trainRun n o.train, (d.trainRun n o.train).fv Reg.SHAFT_TRAIN_STATUS_RESULT n != 3) else (d, ok)
  | _ => (d, ok)

/-- A target tested, with what its test says of it. -/
def Dev.tested (d : Dev) (u : UKind) (o : SelftestObs) : Dev × Bool :=
  let x := d.repairAll u o.defects
  (x.1.testCleared d.stest.kind u).testJudged o x.2 u

/-- The marks of a target in REPAIRx and FAILx, and the states that it and the engine tested with it enter. -/
def Dev.testShown (b : Dev) (kind page : Nat) (u : UKind) (o : SelftestObs) (ok : Bool) : Dev :=
  let m := if ok && !o.defects.isEmpty then b.markTarget Reg.SELFTEST_REPAIR_LO_UNITS Reg.SELFTEST_REPAIR_HI_UNITS (targetIndex page) else b
  let m := if ok then m else m.markTarget Reg.SELFTEST_FAIL_LO_UNITS Reg.SELFTEST_FAIL_HI_UNITS (targetIndex page)
  let e := if ok then m.testPass page else m.failUnit u page
  if kind == 1 then (if ok then e.enter (enginePage (page % 256)) stFENCED else e.enter (enginePage (page % 256)) stFAILED) else e

theorem Dev.targetEnd_of_other {d : Dev} {page : Nat} (o : SelftestObs) (h : d.stest.left.contains page = false ∨ unitOf page = none) :
    d.targetEnd page o = d := by
  unfold Dev.targetEnd
  rcases h with h | h
  · rw [h]
    rfl
  · rw [h]
    exact ite_self _

/-- A test in its three parts. -/
theorem Dev.targetEnd_of_unit {d : Dev} {page : Nat} {u : UKind} (o : SelftestObs) (h : d.stest.left.contains page = true)
    (hu : unitOf page = some u) :
    d.targetEnd page o = ((d.tested u o).1.testShown d.stest.kind page u o (d.tested u o).2).targetOut page := by
  rw [Dev.targetEnd, h, hu]
  rfl

/-- The test that two numbers differ, as a proposition decided. -/
theorem bne_nat_eq_decide (x y : Nat) : (x != y) = decide (x ≠ y) := by
  rw [Bool.eq_iff_iff, bne_iff_ne, decide_eq_true_iff]

/-- A shaft's array is overwritten by the kinds that test it, and a spared column is trained. -/
theorem Dev.tested_shaft (d : Dev) (n : Nat) (o : SelftestObs) :
    d.tested (.shaft n) o =
      let x := d.repairAll (.shaft n) o.defects
      let a := if d.stest.kind = 3 ∨ d.stest.kind = 7 then x.1.arrayTested n else x.1
      let b := if sparesColumn o = true ∧ x.2 = true then a.trainRun n o.train else a
      (b, if sparesColumn o = true ∧ x.2 = true then decide (b.fv Reg.SHAFT_TRAIN_STATUS_RESULT n ≠ 3) else x.2) := by
  simp only [Dev.tested, Dev.testCleared, Dev.testJudged, Bool.or_eq_true, Bool.and_eq_true, beq_iff_eq]
  by_cases h : sparesColumn o = true ∧ (d.repairAll (.shaft n) o.defects).2 = true
  · simp only [if_pos h, bne_nat_eq_decide]
  · simp only [if_neg h]

/-- A COLLAR run tests the engine of a tile with its shaft. -/
def Dev.tileMate (d : Dev) (kind page st : Nat) : Dev := if kind = 1 then d.enter (enginePage (page % 256)) st else d

section
variable (b : Dev) (kind page : Nat) (u : UKind) {o : SelftestObs}

theorem Dev.testShown_of_clean (h : o.defects = []) :
    b.testShown kind page u o true = (b.testPass page).tileMate kind page stFENCED := by
  simp [Dev.testShown, Dev.tileMate, h]

theorem Dev.testShown_of_repaired (h : o.defects ≠ []) :
    b.testShown kind page u o true =
      ((b.markTarget Reg.SELFTEST_REPAIR_LO_UNITS Reg.SELFTEST_REPAIR_HI_UNITS (targetIndex page)).testPass page).tileMate kind page stFENCED := by
  simp [Dev.testShown, Dev.tileMate, h]

theorem Dev.testShown_of_failed :
    b.testShown kind page u o false =
      ((b.markTarget Reg.SELFTEST_FAIL_LO_UNITS Reg.SELFTEST_FAIL_HI_UNITS (targetIndex page)).failUnit u page).tileMate kind page stFAILED := by
  simp [Dev.testShown, Dev.tileMate]

end

/-- Settles O56: each command asks for its occasion first; the comparison of the views goes over the units one by one, and a target's test is
told in its parts. -/
theorem unitsResetEvacuateAndTest : Obligations.UnitsResetEvacuateAndTest := by
  intro s d
  refine ⟨fun page o r => ?reset, fun lost => ?notice, fun h => State.next_congr (Dev.compareViews_of_off h), fun h => ?views, fun n => ?unit,
    fun page o => ?target⟩
  case reset =>
    intro t
    simp only [exec_funcResetEnd]
    refine ⟨fun h => State.next_congr (Dev.funcResetEnd_of_idle o r h), fun hst hc => ⟨fun u hu ho => ?failed, fun n hu ho => ?shaft,
      fun n hu ho => ?engine, fun n hu ho => ?host, fun n hu ho => ?far, fun hu ho => ?haulage, fun hu ho => ?dispatcher⟩⟩
    case failed =>
      subst o
      exact State.next_congr (Dev.funcResetEnd_of_failed r hst hc hu)
    case shaft =>
      rw [Dev.funcResetEnd_of_unit r hst hc hu ho]
      exact ⟨fun hr => State.next_congr (if_pos hr), fun hr => State.next_congr (if_neg (Bool.eq_false_iff.mp hr))⟩
    all_goals exact State.next_congr (Dev.funcResetEnd_of_unit r hst hc hu ho)
  case notice =>
    simp only [exec_stateNotice]
    exact ⟨fun h => State.next_congr (Dev.stateNotice_of_none lost h), fun page st e l h => State.next_congr (Dev.stateNotice_of_next lost h)⟩
  case views =>
    refine ⟨unitPages.foldl Dev.viewFixed d, State.next_congr (Dev.compareViews_of_on h), fun p hp => ?_, Dev.viewsFixed_routeView _ _⟩
    have hust := Dev.viewsFixed_ust unitPages d p
    have hepoch := Dev.viewsFixed_epoch unitPages d p
    refine ⟨(Dev.viewsFixed_agree unitPages d p hp).trans ?_, hust, hepoch⟩
    rw [hust, hepoch]
  case unit =>
    simp only [exec_evacuationEnd, exec_shootdownTimeout, exec_jobEndTimeoutReset]
    refine ⟨fun h => State.next_congr (Dev.evacEnd_of_going h), fun hst h => State.next_congr (Dev.evacEnd_of_empty hst h), fun frame => ?shoot,
      fun h => State.next_congr (Dev.jobEndReset_of_none h), fun q hq => ?job⟩
    case shoot =>
      exact ⟨fun h => State.next_congr (Dev.shootTimeout_of_acked h), fun h => State.next_congr (Dev.shootTimeout_of_waiting h)⟩
    case job =>
      refine ⟨fun he => State.next_congr (Dev.jobEndReset_of_going hq he), fun st a b he => ?_⟩
      rw [Dev.jobEndReset_of_ending hq he]
      refine ⟨fun ht ha => State.next_congr (if_neg (by simp [ht, ha])), fun hoff => State.next_congr ?_,
        fun hcut hd hr => State.next_congr ((if_pos hcut).trans (Dev.engineReset_of_on st hd hr))⟩
      rw [Dev.engineReset_of_off st hoff, ite_self]
  case target =>
    refine ⟨fun h => (exec_selftestTargetEnd page o s).trans (State.next_congr (Dev.targetEnd_of_other o h)), fun u h hu => ?_⟩
    intro kind n x a spared b ok fellow
    have htested : d.tested u o = (b, ok) := by
      cases u with
      | shaft n => exact d.tested_shaft n o
      | _ => rfl
    have hend : exec (.selftestTargetEnd page o) s = .next (s.put ((b.testShown kind page.toNat u o ok).targetOut page.toNat)) := by
      rw [exec_selftestTargetEnd, Dev.targetEnd_of_unit o h hu, htested]
    refine ⟨fun hok hclean => ?_, fun hok hfound => ?_, fun hok => ?_⟩ <;> rw [hend, hok]
    · exact State.next_congr (congrArg (fun t => t.targetOut page.toNat) (Dev.testShown_of_clean b kind page.toNat u hclean))
    · exact State.next_congr (congrArg (fun t => t.targetOut page.toNat) (Dev.testShown_of_repaired b kind page.toNat u hfound))
    · exact State.next_congr (congrArg (fun t => t.targetOut page.toNat) (Dev.testShown_of_failed b kind page.toNat u))

end Sys2Proof.Machine

/-!
PROOFS. Read data and its correction, scrub, tracker and row repair, cells granted at a collar queue and stalls (R124, R125, R132, R135, R170,
R271 to R274, R277, R278, R280 to R283, R289).
-/
namespace Sys2Proof.Machine

/-! ### A good line, and the next source (R273, R274) -/

/-- A line goes to its requester; `scrub` and `back` say why it is written back, for a visit or by the correction order. -/
def Dev.giveGood (t : Dev) (n : Nat) (f : RdFly) (y : Line) (scrub back : Bool) : Dev :=
  let u := if scrub then t.bump Reg.SHAFT_CNT_SCRUB_WB_VALUE n else t
  match f.req.op with
  | .atom _ => u.deliverLine n f (f.merged y 0) back
  | _ => (if scrub || back then u.writeBack n f (f.merged y 0) else u).deliverLine n f (f.merged y 0)

/-- The counter and the record of source `k`, which gave the line. -/
def Dev.sourceShown (d : Dev) (n : Nat) (f : RdFly) (k : Nat) : Dev :=
  if k == 1 || k == 2 then d.bump Reg.SHAFT_CNT_REREAD_OK_VALUE n
  else if k == 3 then d.bump Reg.SHAFT_CNT_RESENSE_OK_VALUE n
  else if k == 4 then (d.bump Reg.SHAFT_CNT_FAR_FIX_VALUE n).corrRecord n f 3
  else if k == 5 then (d.bump Reg.SHAFT_CNT_PAIR_FIX_VALUE n).corrRecord n f 4
  else d

theorem Dev.goodLine_of_stage (d : Dev) (n : Nat) {f : RdFly} (y : Line) (corr : Bool) {k : Nat} (hk : f.stage = k) :
    d.goodLine n f y corr = ((d.dropFly n f).sourceShown n f k).giveGood n f y
      ((f.req.org == .scrub 0 && corr) || f.req.org == .scrub 1) (decide (3 ≤ k)) := by
  subst hk
  rfl

/-- A line from far memory or the partner reports no correction of the die: only a rewrite's read is written back as scrub's. -/
theorem Dev.goodLine_uncorrected (d : Dev) (n : Nat) {f : RdFly} (y : Line) {k : Nat} (hk : f.stage = k) :
    d.goodLine n f y false = ((d.dropFly n f).sourceShown n f k).giveGood n f y (f.req.org == .scrub 1) (decide (3 ≤ k)) := by
  rw [Dev.goodLine_of_stage d n y false hk, Bool.and_false, Bool.false_or]

/-- The read goes back to the scheduler, at source `k`. -/
def Dev.readAgain (d : Dev) (n : Nat) (f : RdFly) (k : Nat) : Dev := d.setFly n f { f with stage := k, wait := 1, shut := false }

/-- The partner on far port `q` is asked for the line. -/
def Dev.askPartner (d : Dev) (n : Nat) (f : RdFly) (q : Nat) : Dev :=
  ((d.setFly n f { f with stage := 5 }).modPair (fun x => { x with
    asked := x.asked ++ [(n, f.sline, d.pair.mseq)], mseq := (d.pair.mseq + 1) % 65536 })).sendPair q
    { mtype := 6, addr := f.host, mseq := d.pair.mseq, cls := 60 }

section
variable {d : Dev} {n : Nat} {f : RdFly}

/-- The first re-read; later bursts of the line are read again after it. -/
theorem Dev.nextSource_of_first (hk : f.stage = 0) :
    d.nextSource n f = ((d.bump Reg.SHAFT_CNT_PARITY_RD_VALUE n).readAgain n f 1).modShaft n (fun p => { p with
      fly := p.fly.map (fun g => if g.sline == f.sline && decide (f.age < g.age) then { g with wait := 1 } else g) }) := by
  simp only [Dev.nextSource, hk]
  rfl

theorem Dev.nextSource_of_reread {k : Nat} (hk : f.stage = k) (h : k = 1 ∨ k = 2) : d.nextSource n f = d.readAgain n f (k + 1) := by
  rcases h with rfl | rfl <;> simp only [Dev.nextSource, hk] <;> rfl

theorem Dev.nextSource_of_far {q : Nat} (hk : f.stage = 3) (hq : d.farSource n f = some q)
    (hcover : (List.range 8).any (fun k => d.hdmCovers q k (d.farLineOf f.host)) = true) :
    d.nextSource n f = (d.setFly n f { f with stage := 4 }).farIssue q (.corr n f.req.id f.idx) false (d.farLineOf f.host) 0 0 := by
  simp only [Dev.nextSource, hk, hq]
  exact if_pos hcover

/-- The far source is closed, or has failed. -/
abbrev Dev.pastFar (d : Dev) (n : Nat) (f : RdFly) : Prop := f.stage = 3 ∧ d.farSource n f = none ∨ f.stage = 4

theorem Dev.nextSource_of_pastFar (h : d.pastFar n f) : d.nextSource n f = d.tryPair n f := by
  rcases h with ⟨hk, hq⟩ | hk
  · simp only [Dev.nextSource, hk, hq]
  · simp only [Dev.nextSource, hk]

theorem Dev.nextSource_of_pair {q : Nat} (h : d.pastFar n f) (hp : d.pairSource f = some q) : d.nextSource n f = d.askPartner n f q := by
  rw [Dev.nextSource_of_pastFar h]
  simp only [Dev.tryPair, hp]
  rfl

theorem Dev.nextSource_of_unpaired (h : d.pastFar n f) (hp : d.pairSource f = none) : d.nextSource n f = d.toPoison n f := by
  rw [Dev.nextSource_of_pastFar h]
  simp only [Dev.tryPair, hp]

theorem Dev.nextSource_of_last (hk : f.stage = 5) : d.nextSource n f = d.toPoison n f := by
  simp only [Dev.nextSource, hk]
end

/-! ### READ_DATA_RETURN (R271 to R273, R278, R280) -/

theorem exec_readDataReturn (n : Fin 48) (o : ReadObs) (s : State) :
    exec (.readDataReturn n o) s = .next (s.put (s.dev.readReturn n o)) := (rfl)

theorem Dev.readReturn_of_none {d : Dev} {n : Nat} (o : ReadObs) (h : d.nextBurst n = none) : d.readReturn n o = d := by
  simp only [Dev.readReturn, h]

/-- The words of a burst are counted, and its corrections count toward their row, but for the reads of the row's own rewrite or repair. -/
def Dev.burstCounted (d : Dev) (n : Nat) (o : ReadObs) (f : RdFly) : Dev :=
  if o.corr = 0 ∨ f.req.org = .scrub 1 ∨ f.req.org = .scrub 2 then d.countWords n o else (d.countWords n o).trackCorr n f.sline

/-- The poison signature has come back without a fault. -/
def RdFly.signature (f : RdFly) (o : ReadObs) : Bool :=
  isPoison f.data f.bad && o.bad == 0 && o.unc == 0 && o.corr == 0 && f.ovm != fullMask

/-- The bytes that fail and that the write buffer does not hold. -/
def RdFly.failing (f : RdFly) (o : ReadObs) : BitVec 64 := (f.bad ||| readFails o) &&& (fullMask ^^^ f.ovm)

section
variable {d : Dev} {n : Nat} {o : ReadObs} {f : RdFly} (hf : d.nextBurst n = some f)
include hf

/-- The four things that can become of a burst, once it is counted. -/
theorem Dev.readReturn_of_burst :
    d.readReturn n o =
      let e := d.burstCounted n o f
      if f.signature o then ((e.dropFly n f).listPoison n f.sline).deliverLine n f (0, poisonBad)
      else if f.failing o == 0 then e.goodLine n f f.data (o.corr != 0)
      else if f.stage == 0 && e.scrubIgnores n f then
        ((e.dropFly n f).bump Reg.SHAFT_CNT_SCRUB_IGNORED_VALUE n).deliverLine n f (f.data, 0)
      else e.nextSource n f := by
  have hcount : (if o.corr == 0 || f.req.org == .scrub 1 || f.req.org == .scrub 2 then d.countWords n o
      else (d.countWords n o).trackCorr n f.sline) = d.burstCounted n o f :=
    ite_congr (by simp only [Bool.or_eq_true, beq_iff_eq, or_assoc]) (fun _ => rfl) (fun _ => rfl)
  simp only [Dev.readReturn, hf, hcount]
  rfl

theorem Dev.readReturn_of_signature (hsig : f.signature o = true) :
    d.readReturn n o = (((d.burstCounted n o f).dropFly n f).listPoison n f.sline).deliverLine n f (0, poisonBad) :=
  (Dev.readReturn_of_burst hf).trans (if_pos hsig)

variable (hsig : f.signature o = false)
include hsig

theorem Dev.readReturn_of_good (hbad : f.failing o = 0) :
    d.readReturn n o = (d.burstCounted n o f).goodLine n f f.data (o.corr != 0) :=
  (Dev.readReturn_of_burst hf).trans ((if_neg (Bool.eq_false_iff.mp hsig)).trans (if_pos (beq_iff_eq.mpr hbad)))

variable (hbad : f.failing o ≠ 0)
include hbad

/-- A burst that fails is left alone where haulage answers scrub's query so, and else goes to the next source. -/
theorem Dev.readReturn_of_bad :
    d.readReturn n o =
      let e := d.burstCounted n o f
      if f.stage == 0 && e.scrubIgnores n f then
        ((e.dropFly n f).bump Reg.SHAFT_CNT_SCRUB_IGNORED_VALUE n).deliverLine n f (f.data, 0)
      else e.nextSource n f :=
  (Dev.readReturn_of_burst hf).trans ((if_neg (Bool.eq_false_iff.mp hsig)).trans (if_neg (mt beq_iff_eq.mp hbad)))

theorem Dev.readReturn_of_ignored (hk : f.stage = 0) (hi : (d.burstCounted n o f).scrubIgnores n f = true) :
    d.readReturn n o =
      (((d.burstCounted n o f).dropFly n f).bump Reg.SHAFT_CNT_SCRUB_IGNORED_VALUE n).deliverLine n f (f.data, 0) := by
  rw [Dev.readReturn_of_bad hf hsig hbad]
  exact if_pos (by simp [hk, hi])

theorem Dev.readReturn_of_failed (h : f.stage ≠ 0 ∨ (d.burstCounted n o f).scrubIgnores n f = false) :
    d.readReturn n o = (d.burstCounted n o f).nextSource n f := by
  rw [Dev.readReturn_of_bad hf hsig hbad]
  exact if_neg (by simpa only [Bool.and_eq_true, beq_iff_eq, Classical.not_and_iff_not_or_not, Bool.not_eq_true] using h)
end

/-! ### CORRECTION_SOURCE_TIMEOUT and FAR_FIX_ARRIVAL (R273, R289) -/

theorem exec_correctionSourceTimeout (n : Fin 48) (s : State) :
    exec (.correctionSourceTimeout n) s = .next (s.put (s.dev.sourceTimeout n)) := (rfl)

theorem exec_farFixArrival (n : Fin 48) (l : Nat) (x : SentLine) (s : State) :
    exec (.farFixArrival n l x) s = .next (s.put (s.dev.fixArrival n l x.data (badBytes x.data x.par))) := (rfl)

/-- Far memory, or the partner, is no longer asked for the line. -/
def Dev.sourceLeft (d : Dev) (n : Nat) (f : RdFly) : Dev := if f.stage == 4 then d.dropCorr n f else d.dropAsked n f

theorem Dev.sourceLeft_far (d : Dev) (n : Nat) {f : RdFly} (hk : f.stage = 4) : d.sourceLeft n f = d.dropCorr n f := by
  simp [Dev.sourceLeft, hk]

theorem Dev.sourceLeft_pair (d : Dev) (n : Nat) {f : RdFly} (hk : f.stage = 5) : d.sourceLeft n f = d.dropAsked n f := by
  simp [Dev.sourceLeft, hk]

theorem Dev.sourceTimeout_of_idle {d : Dev} {n : Nat} (h : d.ks.gdr ≠ none ∨ (d.shaft n).fly.find? (fun f => 4 ≤ f.stage) = none) :
    d.sourceTimeout n = d := by
  unfold Dev.sourceTimeout
  rcases h with h | h
  · rw [if_pos (Option.isSome_iff_ne_none.mpr h)]
  · simp [h]

theorem Dev.sourceTimeout_of_waiting {d : Dev} {n : Nat} {f : RdFly} (hg : d.ks.gdr = none)
    (hf : (d.shaft n).fly.find? (fun f => 4 ≤ f.stage) = some f) : d.sourceTimeout n = (d.sourceLeft n f).nextSource n f := by
  simp only [Dev.sourceTimeout, hg, hf]
  rfl

section
variable {d : Dev} {n l : Nat} (y : Line)

theorem Dev.fixArrival_of_none (bad : BitVec 64) (h : (d.shaft n).fly.find? (fun f => 4 ≤ f.stage && f.sline == l) = none) :
    d.fixArrival n l y bad = d := by
  simp only [Dev.fixArrival, h]

variable {bad : BitVec 64} {f : RdFly} (hf : (d.shaft n).fly.find? (fun f => 4 ≤ f.stage && f.sline == l) = some f)
include hf

theorem Dev.fixArrival_of_good (hb : bad = 0) : d.fixArrival n l y bad = (d.sourceLeft n f).goodLine n f y false := by
  simp only [Dev.fixArrival, hf, hb]
  rfl

theorem Dev.fixArrival_of_bad (hb : bad ≠ 0) : d.fixArrival n l y bad = (d.sourceLeft n f).nextSource n f := by
  simp only [Dev.fixArrival, hf]
  exact if_neg (by simpa using hb)
end

/-! ### SCRUB_VISIT (R277) and TRACKER_ENTRY_EXPIRY (R281) -/

theorem exec_scrubVisit (die : Fin 12) (q : Fin 4) (s : State) :
    exec (.scrubVisit die q) s = .next (s.put (s.dev.scrubVisit (4 * die.val + q.val))) := (rfl)

theorem Dev.scrubVisit_of_idle {d : Dev} {n : Nat} (h : d.scrubs n = false ∨ (d.shaft n).scrubLeft ≠ 0) : d.scrubVisit n = d := by
  rw [Dev.scrubVisit, if_pos (by simpa using h)]

theorem Dev.scrubVisit_of_due {d t : Dev} {n : Nat} {ok : Bool} (hs : d.scrubs n = true) (hl : (d.shaft n).scrubLeft = 0)
    (ha : d.askLease (lsHelper n) hoSCRUB rkINTEGRITY = (ok, t)) :
    d.scrubVisit n = if ok then (t.modShaft n (fun p => { p with scrubLeft := 32 })).readRow n 0
      (t.fv Reg.SHAFT_SCRUB_POS_BANK n) (t.fv Reg.SHAFT_SCRUB_POS_ROW n) else t := by
  rw [Dev.scrubVisit, if_neg (by simp [hs, hl]), ha]
  cases ok <;> rfl

theorem exec_trackerEntryExpiry (n : Fin 48) (i : Fin 128) (s : State) :
    exec (.trackerEntryExpiry n i) s = .next (s.put (s.dev.trackExpire n i)) := (rfl)

theorem Dev.trackExpire_of_none {d : Dev} {n i : Nat} (h : (d.shaft n).tracker[i]? = none) : d.trackExpire n i = d := by
  simp only [Dev.trackExpire, h]

theorem Dev.trackExpire_of_entry {d : Dev} {n i : Nat} {e : TrackE} (h : (d.shaft n).tracker[i]? = some e) :
    d.trackExpire n i = if e.st = 2 then d
      else (d.modShaft n (fun q => { q with tracker := dropFirst (fun t => t == e) q.tracker })).showTrack n := by
  simp only [Dev.trackExpire, h, beq_iff_eq]

/-! ### ROW_REPAIR by the tracker (R281 to R283) -/

theorem exec_rowRepair_auto (n : Fin 48) (o : RepairObs) (s : State) :
    exec (.rowRepair n none o) s = .next (s.put (s.dev.autoRepair n o)) := (rfl)

theorem Dev.rowRepair_of_busy {d : Dev} {n : Nat} (b r : Nat) (fw : Bool) (o : RepairObs)
    (h : (d.shaft n).rep ≠ none ∨ (d.shaft n).colRun ≠ none) : d.rowRepair n b r fw o = d := by
  rw [Dev.rowRepair]
  exact if_pos (by simpa [Option.isSome_iff_ne_none] using h)

/-- A shaft that is up, and that R179 does not hold in self-refresh. -/
abbrev Dev.mayRepair (d : Dev) (n : Nat) : Prop :=
  (d.shaftSt n = stONLINE ∨ d.shaftSt n = stEVACUATING ∨ d.shaftSt n = stFENCED) ∧ (d.shaft n).alertFenced = false

section
variable {d : Dev} {n b r : Nat} {fw : Bool} {o : RepairObs}
variable (hst : d.shaftSt n ≠ stTESTING) (hrep : (d.shaft n).rep = none) (hcol : (d.shaft n).colRun = none)
include hst hrep hcol

/-- With no repair under way the state is judged first, then the spares of the bank. -/
theorem Dev.rowRepair_of_idle :
    d.rowRepair n b r fw o =
      if ¬ d.mayRepair n then d.repairEnd n 2 1 0
      else if 64 ≤ d.usedRows n b then
        ((d.repairEnd n 2 2 0).raiseDie n Reg.EV_DIE_SPARE_EXHAUSTED).record (shaftPage n) codeOTHER sevWARNING [b, r]
      else
        (((d.wakeShaft n).modShaft n (fun p => { p with
          rep := some { bank := b, row := r, spare := d.usedRows n b, done := o.done, fw := fw } })).setF
            Reg.SHAFT_REPAIR_STATUS_BUSY 1 n).readRow n 2 b r := by
  rw [Dev.rowRepair, if_neg (by simp [hrep, hcol])]
  refine ite_congr ?_ (fun _ => rfl) (fun _ => rfl)
  simp [hst, and_assoc, Decidable.imp_iff_not_or]
end

/-- The row that the tracker would repair. -/
def Dev.weakRow (d : Dev) (n : Nat) : Option TrackE := (d.shaft n).tracker.find? (fun t => t.st == 2)

theorem Dev.autoRepair_of_weak {d : Dev} {n : Nat} (o : RepairObs) {t : TrackE} (hw : d.weakRow n = some t)
    (ha : d.fb Reg.SHAFT_TRACK_CTL_AUTO_REPAIR n = true) (hst : d.shaftSt n ≠ stTESTING) :
    d.autoRepair n o = d.rowRepair n t.bank t.row false o := by
  rw [Dev.weakRow] at hw
  simp only [Dev.autoRepair, hw]
  exact if_pos (by simp [ha, hst])

theorem Dev.autoRepair_of_idle {d : Dev} {n : Nat} (o : RepairObs)
    (h : d.weakRow n = none ∨ d.fb Reg.SHAFT_TRACK_CTL_AUTO_REPAIR n = false ∨ d.shaftSt n = stTESTING ∨ (d.shaft n).rep ≠ none ∨
      (d.shaft n).colRun ≠ none) : d.autoRepair n o = d := by
  rw [Dev.weakRow] at h
  unfold Dev.autoRepair
  split
  next t hw =>
    split
    next hgo =>
      rw [Bool.and_eq_true, bne_iff_ne] at hgo
      exact Dev.rowRepair_of_busy _ _ _ _ (by simpa [hw, hgo] using h)
    next => rfl
  next => rfl

/-! ### CELL_DELIVERY (R124, R125, R132, R180) -/

theorem exec_cellDelivery (dst : BitVec 7) (net : BitVec 2) (oneBit : Bool) (s : State) :
    exec (.cellDelivery dst net oneBit) s = .next (s.put (s.dev.deliver dst.toNat net.toNat oneBit)) := (rfl)

/-- The spine takes cells. -/
abbrev Dev.spineRuns (d : Dev) : Prop := d.fabric.faulted = false ∧ d.pins.spineOn = true ∧ d.pins.refclk = true

theorem Dev.deliver_of_stopped {d : Dev} (dst net : Nat) (oneBit : Bool) (h : ¬ d.spineRuns) : d.deliver dst net oneBit = d := by
  simp only [Classical.not_and_iff_not_or_not, Bool.not_eq_false, Bool.not_eq_true] at h
  rw [Dev.deliver, if_pos (by simpa [or_assoc] using h)]

theorem Dev.deliver_of_other {d : Dev} {dst net : Nat} (oneBit : Bool) (hr : d.spineRuns) (h : net ≠ 0 ∨ dst < 0x10 ∨ 0x40 ≤ dst) :
    d.deliver dst net oneBit = d.ctrlCorr (oneBit && isAtt dst) := by
  obtain ⟨hfault, hon, hclk⟩ := hr
  rw [Dev.deliver, if_neg (by simp [hfault, hon, hclk]), if_pos (by simpa [or_assoc] using h)]

/-- The heads that find a credit at the collar queue of shaft `n`. -/
def Dev.readyCells (t : Dev) (n dst : Nat) : List Cell :=
  (heads 0 dst [] t.fabric.voq).filter (fun c => (t.creditFor n c.req).isSome)

/-- The key of a head; sources rotate among equal ones. -/
def Dev.cellKey (t : Dev) (dst : Nat) (c : Cell) : Nat :=
  t.key c.req.cls c.req.urg c.req.starved * 128 + turn (sget (fun _ => 127) t.fabric.rotate dst) c.src

/-- Cell `c` is granted credit `k` and delivered. -/
def Dev.grantCell (t : Dev) (n dst : Nat) (oneBit : Bool) (c : Cell) (k : Nat) : Dev :=
  let u : Dev := { t with fabric := { t.fabric with
    voq := dropFirst (fun x => x == c) t.fabric.voq, rotate := sset (fun _ => 127) t.fabric.rotate dst c.src } }
  ((u.ctrlCorr oneBit).modShaft n (fun p => { p with
    collar := p.collar ++ [({ c.req with starved := false }, k == 2)], parking := false })).countCell c.src dst 0

theorem Dev.mem_readyCells {t : Dev} {n dst : Nat} {c : Cell} (h : c ∈ t.readyCells n dst) : ∃ k, t.creditFor n c.req = some k :=
  Option.isSome_iff_exists.mp (List.mem_filter.mp h).2

section
variable {d : Dev} {n : Nat} (oneBit : Bool) (hr : d.spineRuns) (hn : n < 48)
include hr hn

theorem Dev.deliver_of_none (h : (d.takeShare n).readyCells n (0x10 + n) = []) : d.deliver (0x10 + n) 0 oneBit = d.takeShare n := by
  obtain ⟨hfault, hon, hclk⟩ := hr
  rw [Dev.readyCells] at h
  rw [Dev.deliver, if_neg (by simp [hfault, hon, hclk]), if_neg (by simp; omega)]
  simp only [Nat.add_sub_cancel_left, h, bestBy]

theorem Dev.deliver_of_best {c : Cell} {k : Nat}
    (hbest : bestBy ((d.takeShare n).cellKey (0x10 + n)) ((d.takeShare n).readyCells n (0x10 + n)) = some c)
    (hk : (d.takeShare n).creditFor n c.req = some k) :
    d.deliver (0x10 + n) 0 oneBit = (d.takeShare n).grantCell n (0x10 + n) oneBit c k := by
  obtain ⟨hfault, hon, hclk⟩ := hr
  unfold Dev.cellKey Dev.readyCells at hbest
  rw [Dev.deliver, if_neg (by simp [hfault, hon, hclk]), if_neg (by simp; omega)]
  simp only [Nat.add_sub_cancel_left, hbest, hk]
  rfl
end

/-! ### STALL_DETECT (R135) -/

theorem exec_stallDetect (src dst : BitVec 7) (mgt : Bool) (s : State) :
    exec (.stallDetect src dst mgt) s = .next (s.put (s.dev.stall src.toNat dst.toNat mgt)) := (rfl)

/-- Something waits at a source for a destination, on the management network or another. -/
def Dev.stalled (d : Dev) (src dst : Nat) (mgt : Bool) : Bool :=
  if mgt then decide (src < 12) && ((d.port src).wait2 ++ (d.port src).ingress2).any (fun q => attOfPage (q.addr / 4096) == dst)
  else d.fabric.voq.any (fun c => c.src == src && c.dst == dst)

theorem Dev.stall_eq (d : Dev) (src dst : Nat) (mgt : Bool) :
    d.stall src dst mgt =
      if d.stalled src dst mgt = false then d
      else
        let t := ((d.setF Reg.FABRIC_STALL_STATUS_SRC src).setF Reg.FABRIC_STALL_STATUS_DST dst).setF Reg.FABRIC_STALL_STATUS_NET
          (if mgt then 2 else 0)
        (t.bump Reg.FABRIC_CNT_STALL_VALUE).raise pgFABRIC Reg.EV_FABRIC_STALL := by
  rw [Dev.stall, ← Dev.stalled]
  exact ite_congr (by simp) (fun _ => rfl) (fun _ => rfl)

/-- Settles O47: each command asks for its occasion first; a burst is judged once it is counted, and the sources follow one another. -/
theorem readsReturnOrAreCorrected : Obligations.ReadsReturnOrAreCorrected := by
  intro s n d p poison ask give
  simp only [exec_readDataReturn, exec_correctionSourceTimeout, exec_farFixArrival, exec_scrubVisit, exec_trackerEntryExpiry,
    exec_rowRepair_auto, exec_cellDelivery, exec_stallDetect]
  refine ⟨fun o => ⟨fun h => State.next_congr (Dev.readReturn_of_none o h), fun f hf => ?burst⟩,
    fun h => State.next_congr (Dev.sourceTimeout_of_idle h), fun f hg hf => ?timeout,
    fun l data par => ⟨fun h => State.next_congr (Dev.fixArrival_of_none data _ h), fun f hf => ?arrival⟩,
    fun die q hn h => ?unscrubbed, fun die q ok t hn hs hl ha => ?scrub,
    fun i => ⟨fun h => State.next_congr (Dev.trackExpire_of_none h), fun e he => ?entry⟩,
    fun o => ⟨fun h => State.next_congr (Dev.autoRepair_of_idle o h), fun t hw ha hst hrep hcol => ?repair⟩,
    fun dst net oneBit => ?cell, fun src dst mgt => ?stall⟩
  case burst =>
    refine ⟨fun hsig => State.next_congr (Dev.readReturn_of_signature hf hsig), fun hsig hbad => ?good, fun hsig hbad => ?bad⟩
    case good =>
      have good (k : Nat) (hk : f.stage = k) := State.next_congr (s := s)
        ((Dev.readReturn_of_good (o := o) hf hsig hbad).trans (Dev.goodLine_of_stage _ n f.data _ hk))
      exact ⟨good 0, fun hk => hk.elim (good 1) (good 2), good 3⟩
    case bad =>
      have later {k : Nat} {t : Dev} (hk : f.stage = k) (h0 : k ≠ 0) (h : (d.burstCounted n o f).nextSource n f = t) :=
        State.next_congr (s := s) ((Dev.readReturn_of_failed hf hsig hbad (.inl (hk ▸ h0))).trans h)
      refine ⟨fun hk hi => State.next_congr (Dev.readReturn_of_ignored hf hsig hbad hk hi),
        fun hk hi => State.next_congr ((Dev.readReturn_of_failed hf hsig hbad (.inr hi)).trans (Dev.nextSource_of_first hk)),
        fun hk => later hk (by decide) (Dev.nextSource_of_reread hk (by decide)),
        fun hk => later hk (by decide) (Dev.nextSource_of_reread hk (by decide)),
        fun hk => ⟨fun q hq hc => later hk (by decide) (Dev.nextSource_of_far hk hq hc),
          fun q hq hp => later hk (by decide) (Dev.nextSource_of_pair (.inl ⟨hk, hq⟩) hp),
          fun hq hp => later hk (by decide) (Dev.nextSource_of_unpaired (.inl ⟨hk, hq⟩) hp)⟩⟩
  case timeout =>
    rw [Dev.sourceTimeout_of_waiting hg hf]
    refine ⟨fun hk hp => ?_, fun q hk hp => ?_, fun hk => ?_⟩
    · rw [Dev.sourceLeft_far d n hk]
      exact State.next_congr (Dev.nextSource_of_unpaired (.inr hk) hp)
    · rw [Dev.sourceLeft_far d n hk]
      exact State.next_congr (Dev.nextSource_of_pair (.inr hk) hp)
    · rw [Dev.sourceLeft_pair d n hk]
      exact State.next_congr (Dev.nextSource_of_last hk)
  case arrival =>
    have hgood := Dev.fixArrival_of_good data hf (bad := badBytes data par)
    have hbad := Dev.fixArrival_of_bad data hf (bad := badBytes data par)
    refine ⟨fun hk hb => ?_, fun hk hb hp => ?_, fun q hk hb hp => ?_, fun hk hb => ?_, fun hk hb => ?_⟩
    · rw [hgood hb, Dev.sourceLeft_far d n hk]
      exact State.next_congr (Dev.goodLine_uncorrected (k := 4) _ n data hk)
    · rw [hbad hb, Dev.sourceLeft_far d n hk]
      exact State.next_congr (Dev.nextSource_of_unpaired (.inr hk) hp)
    · rw [hbad hb, Dev.sourceLeft_far d n hk]
      exact State.next_congr (Dev.nextSource_of_pair (.inr hk) hp)
    · rw [hgood hb, Dev.sourceLeft_pair d n hk]
      exact State.next_congr (Dev.goodLine_uncorrected (k := 5) _ n data hk)
    · rw [hbad hb, Dev.sourceLeft_pair d n hk]
      exact State.next_congr (Dev.nextSource_of_last hk)
  case unscrubbed =>
    rw [← hn]
    exact State.next_congr (Dev.scrubVisit_of_idle h)
  case scrub =>
    rw [← hn]
    exact State.next_congr (Dev.scrubVisit_of_due hs hl ha)
  case entry =>
    rw [Dev.trackExpire_of_entry he]
    exact ⟨fun hst => State.next_congr (if_pos hst), fun hst => State.next_congr (if_neg hst)⟩
  case repair =>
    rw [Dev.autoRepair_of_weak o hw ha hst, Dev.rowRepair_of_idle hst hrep hcol]
    refine ⟨fun hup => State.next_congr (if_pos hup), fun hup hk => State.next_congr ?_, fun hup hk => State.next_congr ?_⟩
    · exact (if_neg (not_not_intro hup)).trans (if_pos hk)
    · exact (if_neg (not_not_intro hup)).trans (if_neg (Nat.not_le.mpr hk))
  case cell =>
    refine ⟨fun hr => State.next_congr (Dev.deliver_of_stopped _ _ _ hr), fun hr h => State.next_congr ?_, fun hr hnet hdst => ?_⟩
    · rw [Dev.deliver_of_other oneBit hr (by simpa [BitVec.toNat_eq] using h)]
      exact ite_congr (by rw [Bool.and_eq_true]) (fun _ => rfl) (fun _ => rfl)
    · have hn : n.val < 48 := n.isLt
      rw [hnet, hdst]
      refine ⟨fun hnone => State.next_congr (Dev.deliver_of_none oneBit hr hn hnone), fun hsome => ?_⟩
      obtain ⟨c, hbest, hmem, hkey⟩ := exists_bestBy ((d.takeShare n).cellKey (0x10 + n)) hsome
      obtain ⟨k, hk⟩ := Dev.mem_readyCells hmem
      exact ⟨c, hmem, k, hk, hkey, State.next_congr (Dev.deliver_of_best oneBit hr hn hbest hk)⟩
  case stall =>
    rw [Dev.stall_eq]
    exact ⟨fun h => State.next_congr (if_pos h), fun h => State.next_congr (if_neg (ne_false_of_eq_true h))⟩

end Sys2Proof.Machine

/-!
PROOFS. The steps and the timer of start-up, spine faults and the ground-die reset (R132, R364 to R373, R389).
-/
namespace Sys2Proof.Machine

/-! ### KINDLE_STEP_END (R364 to R369) -/

theorem exec_kindleStepEnd (o : KindleObs) (s : State) : exec (.kindleStepEnd o) s = .next (s.put (s.dev.kindleStepEnd o)) := (rfl)

theorem Dev.kindleStepEnd_of_idle {d : Dev} (o : KindleObs) (h : d.kindleRuns = false ∨ 16 ≤ d.kstep) : d.kindleStepEnd o = d := by
  rw [Dev.kindleStepEnd, if_pos (by simpa using h)]

/-- Start-up goes to step `k`. -/
def Dev.setStep (d : Dev) (k : Nat) : Dev := d.setF Reg.DEVICE_KINDLE_STATUS_STEP k

section
variable {d : Dev} {k : Nat} (o : KindleObs) (hr : d.kindleRuns = true) (hk : d.kstep = k)
include hr hk

theorem Dev.kindleStepEnd_of_stops {t : Dev} (hlast : k < 16) (hdo : d.kindleDo k o = (t, false)) : d.kindleStepEnd o = t := by
  rw [Dev.kindleStepEnd, hk, if_neg (by simp [hr, hlast]), hdo]
  rfl

/-- Where `kindleDo` goes on the next step begins; pages come live with steps 2 and 4 (R464, R465). -/
theorem Dev.kindleStepEnd_of_goesOn {t : Dev} (hlast : k < 16) (hdo : d.kindleDo k o = (t, true)) :
    d.kindleStepEnd o = if k = 1 ∨ k = 3 then (t.setStep (k + 1)).liveChange else t.setStep (k + 1) := by
  rw [Dev.kindleStepEnd, hk, if_neg (by simp [hr, hlast]), hdo]
  simp [Dev.setStep]

theorem Dev.kindleStepEnd_of_live {t : Dev} (hlive : k = 1 ∨ k = 3) (hdo : d.kindleDo k o = (t, true)) :
    d.kindleStepEnd o = (t.setStep (k + 1)).liveChange := by
  rw [Dev.kindleStepEnd_of_goesOn o hr hk (by omega) hdo, if_pos hlive]

theorem Dev.kindleStepEnd_of_plain {t : Dev} (hplain : k < 16 ∧ k ≠ 1 ∧ k ≠ 3) (hdo : d.kindleDo k o = (t, true)) :
    d.kindleStepEnd o = t.setStep (d.kstep + 1) := by
  rw [Dev.kindleStepEnd_of_goesOn o hr hk hplain.1 hdo, if_neg (by simp [hplain]), hk]
end

theorem Dev.kindleDo_check_fails {d : Dev} {o : KindleObs} (h : o.selfOk = false) : d.kindleDo 4 o = (d.kindleHalt, false) := by
  simp [Dev.kindleDo, h]

theorem Dev.kindleDo_check_passes {d : Dev} {o : KindleObs} (h : o.selfOk = true) :
    d.kindleDo 4 o = ((if d.ks.cold then d.burnCycle.lifeRestore else d).kindleRefs o.refs, true) := by
  simp [Dev.kindleDo, h]

theorem Dev.kindleDo_boot_passes {d : Dev} {o : KindleObs} (h : (d.bootLoad o.flashBad).2 = true) :
    d.kindleDo 5 o = ((d.bootLoad o.flashBad).1, true) := by
  simp only [Dev.kindleDo, h, if_true]

theorem Dev.kindleDo_boot_fails {d : Dev} {o : KindleObs} (h : (d.bootLoad o.flashBad).2 = false) :
    d.kindleDo 5 o = ((d.bootLoad o.flashBad).1.enterRecovery, false) := by
  simp only [Dev.kindleDo, h, Bool.false_eq_true, if_false]

/-- The boot stage arms the watchdog (R369). -/
def Dev.watchdogArmed (d : Dev) : Dev := (d.setF Reg.DEVICE_WDOG_CTL_EN 1).modKs (fun q => { q with wdogFrom := d.time })

theorem Dev.bootStage_of_halt {d : Dev} (h : d.watchdogArmed.fuseAction = some 2) :
    d.bootStage = ((d.watchdogArmed.setF Reg.DEVICE_KINDLE_STATUS_FAULT 4).kindleHalt.trainMgmt, false) := by
  rw [Dev.watchdogArmed] at h
  simp only [Dev.bootStage, h]
  rfl

theorem Dev.bootStage_of_clamp {d : Dev} (h : d.watchdogArmed.fuseAction = some 0) :
    d.bootStage = (d.watchdogArmed.modKs (fun q => { q with clamp := true }), true) := by
  rw [Dev.watchdogArmed] at h
  simp only [Dev.bootStage, h]
  rfl

theorem Dev.bootStage_of_pass {d : Dev} (h2 : d.watchdogArmed.fuseAction ≠ some 2) (h0 : d.watchdogArmed.fuseAction ≠ some 0) :
    d.bootStage = (d.watchdogArmed, true) := by
  unfold Dev.bootStage
  dsimp only
  split
  next h => exact absurd h h2
  next h => exact absurd h h0
  next => rfl

/-! ### KINDLE_TIMER_EXPIRY (R365) -/

theorem exec_kindleTimerExpiry (s : State) : exec .kindleTimerExpiry s = .next (s.put s.dev.kindleTimer) := (rfl)

theorem Dev.kindleTimer_of_idle {d : Dev} (h : d.kindleRuns = false) : d.kindleTimer = d := by
  simp [Dev.kindleTimer, h]

theorem Dev.kindleTimer_of_early {d : Dev} (hr : d.kindleRuns = true) (hk : d.kstep < 6) : d.kindleTimer = d.kindleHalt := by
  simp [Dev.kindleTimer, hr, hk]

/-- Start-up is left for LAMPROOM, its timeout shown. -/
def Dev.lateShown (d : Dev) : Dev :=
  (((d.setF Reg.MODES_STATUS_MODE mdLAMPROOM).setF Reg.DEVICE_KINDLE_STATUS_ACTIVE 0).setF Reg.DEVICE_KINDLE_STATUS_FAULT 1).setF
    Reg.DEVICE_RESET_CAUSE_KINDLE_TIMEOUT 1

/-- The timeout is recorded, and a fault noted late in start-up is dropped. -/
def Dev.lateRecorded (d : Dev) : Dev :=
  let t := d.modKs (fun k => { k with lateFault := false })
  t.record 0 codeOTHER sevWARNING [t.kstep]

theorem Dev.lateRecorded_fv (d : Dev) (f : Fld) (i k : Nat) : d.lateRecorded.fv f i k = d.fv f i k := (rfl)

theorem Dev.lateRecorded_kept (d : Dev) : d.lateRecorded.shafts = d.shafts ∧ d.lateRecorded.space = d.space ∧ d.lateRecorded.dram = d.dram :=
  ⟨rfl, rfl, rfl⟩

theorem Dev.lateRecorded_arriving (d : Dev) : d.lateRecorded.tally.arriving.length = d.tally.arriving.length + 1 := List.length_append

theorem Dev.kindleTimer_of_late {d : Dev} (hr : d.kindleRuns = true) (hk : 6 ≤ d.kstep) : d.kindleTimer = d.lateShown.lateRecorded := by
  unfold Dev.kindleTimer
  rw [if_neg (by simp [hr]), if_neg (Nat.not_lt.mpr hk)]
  rfl

/-- A field reads back as what was set, when that fits. -/
theorem Dev.fv_setF_same (d : Dev) {f : Fld} {v : Nat} (i : Nat) (hhi : f.hi < 32) (hv : v < 2 ^ (f.hi + 1 - f.lo)) :
    (d.setF f v i).fv f i = v := by
  unfold Dev.fv Dev.setF
  rw [Dev.rdReg_wrReg_same]
  exact bitsOf_withBits _ hhi hv

theorem Dev.lateShown_mode (d : Dev) : d.lateShown.mode = mdLAMPROOM := by
  unfold Dev.mode Dev.lateShown Dev.setF
  rw [Dev.fv_wrReg_other _ _ _ _ _ _ (by decide), Dev.fv_wrReg_other _ _ _ _ _ _ (by decide),
    Dev.fv_wrReg_other _ _ _ _ _ _ (by decide)]
  exact Dev.fv_setF_same d 0 (by decide) (by decide)

theorem Dev.lateShown_fault (d : Dev) : d.lateShown.fv Reg.DEVICE_KINDLE_STATUS_FAULT = 1 := by
  rw [Dev.lateShown, Dev.fv_setF_apart _ _ _ (by decide), Dev.fv_setF_same _ _ (by decide) (by decide)]

theorem Dev.lateShown_timeout (d : Dev) : d.lateShown.fv Reg.DEVICE_RESET_CAUSE_KINDLE_TIMEOUT = 1 := by
  rw [Dev.lateShown, Dev.fv_setF_same _ _ (by decide) (by decide)]

theorem Dev.lateShown_active (d : Dev) : d.lateShown.fv Reg.DEVICE_KINDLE_STATUS_ACTIVE = 0 := by
  rw [Dev.lateShown, Dev.fv_setF_apart _ _ _ (by decide), Dev.fv_setF_apart _ _ _ (by decide),
    Dev.fv_setF_same _ _ (by decide) (by decide)]

theorem Dev.lateShown_kept (d : Dev) :
    d.lateShown.tally = d.tally ∧ d.lateShown.shafts = d.shafts ∧ d.lateShown.space = d.space ∧ d.lateShown.dram = d.dram := by
  simp [Dev.lateShown]

/-! ### SPINE_FAULT and the ground-die triggers (R132, R370, R373, R389) -/

/-- The spine stops taking cells, which is recorded. -/
def Dev.spineStopped (d : Dev) : Dev :=
  ({ d with fabric := { d.fabric with faulted := true } } : Dev).record pgFABRIC codeOTHER sevCRITICAL []

theorem exec_spineFault (s : State) :
    exec .spineFault s = .next (s.put (if s.dev.pins.pwrgood = false ∨ s.dev.pins.spineOn = false then s.dev
      else s.dev.spineStopped.groundTrigger 2)) := by
  refine (s.on_ite (fun d => !d.pins.pwrgood || !d.pins.spineOn) id (fun d => d.spineStopped.groundTrigger 2)).trans (State.next_congr ?_)
  simp only [Bool.or_eq_true, Bool.not_eq_true', id]

section
variable {d : Dev} (cause : Nat) (hp : d.pins.pwrgood = true) (hs : d.pins.spineOn = true)
include hp hs

theorem Dev.groundTrigger_of_kindle (hm : d.mode = mdKINDLE) :
    d.groundTrigger cause = d.nextFree.warmReset 5 (BitVec.ofNat 48 (Config.freeNat d.free)) := by
  simp [Dev.groundTrigger, hp, hs, hm]

theorem Dev.groundTrigger_of_entry (hm : d.mode ≠ mdKINDLE) (hlo : 5 ≤ d.phase) (hhi : d.phase < 9) :
    d.groundTrigger cause = (d.unwind mrUNWOUND).groundReset cause := by
  have hhi : d.phase ≤ 8 := by omega
  simp [Dev.groundTrigger, hp, hs, hm, hlo, hhi]

theorem Dev.groundTrigger_of_other (hm : d.mode ≠ mdKINDLE) (h : d.phase < 5 ∨ 8 < d.phase) :
    d.groundTrigger cause = d.groundReset cause := by
  have hout : ¬(5 ≤ d.phase ∧ d.phase ≤ 8) := by omega
  simp [Dev.groundTrigger, hp, hs, hm, hout]
end

theorem Dev.groundReset_of_none {d : Dev} (cause : Nat) (h : d.ks.gdr = none) :
    d.groundReset cause =
      let u := (d.setF Reg.DEVICE_RESET_CAUSE_GROUND cause).bump Reg.DEVICE_CNT_GROUND_VALUE
      (u.record 0 0x101 sevCRITICAL [(u.rdReg 0x0044).toNat, u.timeLo]).gdrStart false := by
  simp only [Dev.groundReset, h]

/-- A reset under way goes on from step 3, when it has come so far. -/
theorem Dev.groundReset_of_running {d : Dev} (cause : Nat) {g : Gdr} (h : d.ks.gdr = some g) :
    d.groundReset cause =
      let u := d.setF Reg.DEVICE_RESET_CAUSE_GROUND cause
      if g.step < 3 then u
      else ((if 7 ≤ g.step then u.gdrLinks.gdrTiles else u).setGdr (some { g with step := 3 })).gdrReset := by
  simp only [Dev.groundReset, h]

/-! ### GROUND_DIE_RESET_STEP_END (R370) -/

theorem exec_groundDieResetStepEnd (fails : BitVec 48) (s : State) :
    exec (.groundDieResetStepEnd fails) s = .next (s.put (s.dev.gdrStep fails)) := (rfl)

theorem Dev.gdrStep_of_idle {d : Dev} (fails : BitVec 48) (h : d.ks.gdr = none ∨ d.pins.refclk = false) : d.gdrStep fails = d := by
  unfold Dev.gdrStep
  split
  · rfl
  next g hg => rw [if_pos (by rcases h with h | h <;> simp_all)]

/-- The next step of a ground-die reset begins. -/
def Dev.gdrNext (d : Dev) : Dev := d.modKs (fun k => { k with gdr := k.gdr.map (fun (g : Gdr) => { g with step := g.step + 1 }) })

/-- What the end of step `k` of a ground-die reset does. -/
def Dev.gdrStepDone (d : Dev) (g : Gdr) (fails : BitVec 48) : Nat → Dev
  | 1 => d.gdrTiles.gdrNext
  | 2 => d.gdrReset.gdrNext
  | 5 => (d.gdrWalk fails).gdrNext
  | 6 => if d.space.walking then d else (d.gdrDone g).gdrNext
  | 7 => d.gdrPorts.setGdr none
  | _ => d.gdrNext

theorem Dev.gdrStepDone_other (d : Dev) (g : Gdr) (fails : BitVec 48) {k : Nat} (h : k ∉ [1, 2, 5, 6, 7]) :
    d.gdrStepDone g fails k = d.gdrNext := by
  unfold Dev.gdrStepDone
  split
  case h_6 => rfl
  all_goals exact absurd (by decide) h

theorem Dev.gdrStep_of_step {d : Dev} (fails : BitVec 48) {g : Gdr} {k : Nat} (hg : d.ks.gdr = some g) (hc : d.pins.refclk = true)
    (hk : g.step = k) : d.gdrStep fails = d.gdrStepDone g fails k := by
  unfold Dev.gdrStep
  rw [hg]
  simp only [hc, hk]
  rfl

/-- Settles O57: each command asks for its occasion first, and a step does what its number says. -/
theorem kindleAndGroundDieReset : Obligations.KindleAndGroundDieReset := by
  intro s d
  simp only [exec_kindleStepEnd, exec_kindleTimerExpiry, exec_spineFault, exec_groundDieResetStepEnd]
  refine ⟨fun o => ⟨fun h => State.next_congr (Dev.kindleStepEnd_of_idle o h), fun hr => ?kindle⟩,
    fun h => State.next_congr (Dev.kindleTimer_of_idle h),
    fun hr => ⟨fun hk => State.next_congr (Dev.kindleTimer_of_early hr hk), fun hk => ?late⟩,
    fun h => State.next_congr (if_pos h), fun hp hs => ?spine,
    fun fails => ⟨fun h => State.next_congr (Dev.gdrStep_of_idle fails h), fun g hg hc => ?ground⟩⟩
  case kindle =>
    have live {k : Nat} {t : Dev} (hk : d.kstep = k) (hlive : k = 1 ∨ k = 3) (hdo : d.kindleDo k o = (t, true)) :=
      State.next_congr (s := s) (Dev.kindleStepEnd_of_live o hr hk hlive hdo)
    have goes {k : Nat} {t : Dev} (hk : d.kstep = k) (hplain : k < 16 ∧ k ≠ 1 ∧ k ≠ 3) (hdo : d.kindleDo k o = (t, true)) :=
      State.next_congr (s := s) (Dev.kindleStepEnd_of_plain o hr hk hplain hdo)
    have stops {k : Nat} {t : Dev} (hk : d.kstep = k) (hlast : k < 16) (hdo : d.kindleDo k o = (t, false)) :=
      State.next_congr (s := s) (Dev.kindleStepEnd_of_stops o hr hk hlast hdo)
    refine ⟨fun hk => live hk (by decide) rfl, fun hk => goes hk (by decide) rfl, fun hk => live hk (by decide) rfl,
      fun hk hbad => stops hk (by decide) (Dev.kindleDo_check_fails hbad), fun hk hok => goes hk (by decide) (Dev.kindleDo_check_passes hok),
      fun hk hok => goes hk (by decide) (Dev.kindleDo_boot_passes hok), fun hk hbad => stops hk (by decide) (Dev.kindleDo_boot_fails hbad),
      fun hk => ⟨fun h2 => stops hk (by decide) (Dev.bootStage_of_halt h2), fun h0 => goes hk (by decide) (Dev.bootStage_of_clamp h0),
        fun h2 h0 => goes hk (by decide) (Dev.bootStage_of_pass h2 h0)⟩,
      fun hk => goes hk (by decide) rfl, fun hk => goes hk (by decide) rfl, fun hk => goes hk (by decide) rfl,
      fun hk => goes hk (by decide) rfl, fun hk => goes hk (by decide) rfl,
      fun hk hw => stops hk (by decide) (if_pos hw), fun hk hw => goes hk (by decide) (if_neg (Bool.eq_false_iff.mp hw)),
      fun hk => goes hk (by decide) rfl, fun hk => ?idle⟩
    rcases hk with hk | hk | hk <;> exact goes hk (by decide) rfl
  case late =>
    obtain ⟨htally, hshafts, hspace, hdram⟩ := d.lateShown_kept
    obtain ⟨kshafts, kspace, kdram⟩ := d.lateShown.lateRecorded_kept
    have hfv (f : Fld) : d.lateShown.lateRecorded.fv f = d.lateShown.fv f := Dev.lateRecorded_fv _ f 0 0
    refine ⟨d.lateShown.lateRecorded, State.next_congr (Dev.kindleTimer_of_late hr hk), (hfv _).trans d.lateShown_mode,
      (hfv _).trans d.lateShown_fault, ?_, ?_, rfl, ?_, kshafts.trans hshafts, kspace.trans hspace, kdram.trans hdram⟩
    · rw [Dev.fb, hfv, d.lateShown_timeout]
      rfl
    · rw [Dev.fb, hfv, d.lateShown_active]
      rfl
    · rw [Dev.lateRecorded_arriving, htally]
  case spine =>
    rw [if_neg (not_or.mpr ⟨ne_false_of_eq_true hp, ne_false_of_eq_true hs⟩)]
    refine ⟨fun hm => ⟨_, State.next_congr (Dev.groundTrigger_of_kindle 2 hp hs hm)⟩,
      fun hm hlo hhi => State.next_congr (Dev.groundTrigger_of_entry 2 hp hs hm hlo hhi), fun hm hphase => ?_⟩
    rw [Dev.groundTrigger_of_other 2 (d := d.spineStopped) hp hs hm hphase]
    refine ⟨fun hn => State.next_congr (Dev.groundReset_of_none 2 hn), fun g hg => ?_⟩
    rw [Dev.groundReset_of_running 2 (d := d.spineStopped) hg]
    exact ⟨fun h => State.next_congr (if_pos h), fun h => State.next_congr (if_neg (Nat.not_lt.mpr h))⟩
  case ground =>
    have does {k : Nat} (hk : g.step = k) := State.next_congr (s := s) (Dev.gdrStep_of_step fails hg hc hk)
    refine ⟨does, does, fun hk => (does rfl).trans (State.next_congr (Dev.gdrStepDone_other _ _ _ hk)), does,
      fun hk hw => (does hk).trans (State.next_congr (if_pos hw)),
      fun hk hw => (does hk).trans (State.next_congr (if_neg (Bool.eq_false_iff.mp hw))), does⟩

end Sys2Proof.Machine

/-!
PROOFS. The event registers of a page (R455, R456): EVT_STATUS, EVT_ENABLE and EVT_SET on every register page, and the positions that
CLASSES, DISPATCH and DEVICE define (R157, R266, R376).
-/
namespace Sys2Proof.Machine

/-! ### A register word as one field -/

theorem withBits_bitsOf_all (w v : Word32) : withBits w 31 0 (bitsOf v 31 0) = v := by
  refine BitVec.eq_of_getLsbD_eq fun i hi => ?_
  rw [getLsbD_withBits _ _ _ (by decide), if_pos (by omega), testBit_bitsOf]
  simp [hi]

theorem clampTo_bitsOf_all (v : Word32) : clampTo 0 4294967295 (bitsOf v 31 0) = bitsOf v 31 0 := by
  have hlt : bitsOf v 31 0 < 2 ^ 32 := bitsOf_lt v 31 0
  unfold clampTo
  omega

theorem bitN_eq_testBit (n i : Nat) : bitN n i = n.testBit i := by
  rw [Nat.testBit_eq_decide_div_mod_eq]
  rfl

theorem bitN_toNat (v : Word32) (i : Nat) : bitN v.toNat i = v.getLsbD i :=
  bitN_eq_testBit v.toNat i

/-- A register at `off` whose whole word is one field. -/
def wordReg (off : Nat) (acc : Access) : RegD := ⟨off, 0, 1, 0, [⟨31, 0, acc, 0, 4294967295⟩]⟩

theorem applyWrite_wordReg_w1c (off : Nat) (old v : Word32) : applyWrite (wordReg off .w1c) old v = old &&& ~~~v := by
  simp only [applyWrite_eq_foldl, wordReg, List.foldl_cons, List.foldl_nil, writeField]
  rw [land_xor_bitsOf old v (by decide), withBits_bitsOf_all]

theorem applyWrite_wordReg_rw (off : Nat) (old v : Word32) : applyWrite (wordReg off .rw) old v = v := by
  simp only [applyWrite_eq_foldl, wordReg, List.foldl_cons, List.foldl_nil, writeField]
  rw [clampTo_bitsOf_all, withBits_bitsOf_all]

/-! ### The event registers in the map and at a write -/

/-- The register addresses of a page's events (R455). -/
abbrev evtStatusAt (page : Nat) : Nat := page * 4096 + 0x14
abbrev evtEnableAt (page : Nat) : Nat := page * 4096 + 0x18

theorem header_addr (page : Nat) {off : Nat} (h : off < 0x40) : (page * 4096 + off) / 4096 = page ∧ (page * 4096 + off) % 4096 = off := by
  omega

/-- The header of every register page is the common one. -/
theorem regAt_header {page off : Nat} (hp : isRegPage page = true) (h : off < 0x40) :
    regAt (page * 4096 + off) = findReg regsHeader off := by
  obtain ⟨hpage, hoff⟩ := header_addr page h
  obtain ⟨g, hg⟩ := Option.isSome_iff_exists.mp hp
  simp only [regAt, hpage, hoff, hg, if_pos h]

/-- No event is pending after reset, on any page. -/
theorem resetWord_evtStatus (page : Nat) : resetWord (evtStatusAt page) = 0 := by
  obtain ⟨hpage, hoff⟩ := header_addr page (off := 0x14) (by decide)
  unfold resetWord resetNat
  simp only [hpage, hoff]
  cases hg : groupOf page with
  | none => rfl
  | some g =>
    have hreg : regAt (evtStatusAt page) = findReg regsHeader 0x14 := regAt_header (by simp [isRegPage, hg]) (by decide)
    simp [hreg, findReg, regsHeader, classReset]

/-- Nothing that shields registers from writes lies among the event registers. -/
theorem Dev.discards_evt (d : Dev) (page : Nat) {off : Nat} (h : off = 0x14 ∨ off = 0x18) : d.discards (page * 4096 + off) = false := by
  obtain ⟨hpage, hoff⟩ := header_addr page (off := off) (by omega)
  unfold Dev.discards
  simp only [hpage, hoff]
  rcases h with rfl | rfl <;> simp

/-- The fields that a write may not change lie behind the header. -/
theorem Dev.keepFields_header (d : Dev) (page : Nat) {off : Nat} (v : Word32) (h : off < 0x40) :
    d.keepFields (page * 4096 + off) v = v := by
  obtain ⟨hpage, hoff⟩ := header_addr page h
  unfold Dev.keepFields
  simp only [hpage, hoff]
  simp [show ¬ 0x400 ≤ off by omega]

/-- EVT_STATUS has no clamp that depends on another register. -/
theorem Dev.reclamp_evtStatus (d : Dev) (page : Nat) : d.reclamp (evtStatusAt page) = d := by
  obtain ⟨hpage, hoff⟩ := header_addr page (off := 0x14) (by decide)
  unfold Dev.reclamp
  simp only [hpage, hoff]
  simp

/-- EVT_ENABLE keeps the positions that its page defines. -/
theorem Dev.reclamp_evtEnable (d : Dev) (page : Nat) :
    d.reclamp (evtEnableAt page) =
      d.wrReg (evtEnableAt page) (BitVec.ofNat 32 (Nat.land (d.rdReg (evtEnableAt page)).toNat (evMaskOf page))) := by
  obtain ⟨hpage, hoff⟩ := header_addr page (off := 0x18) (by decide)
  unfold Dev.reclamp
  simp only [hpage, hoff]
  rfl

/-! ### What a write of EVT_STATUS and of EVT_ENABLE leaves -/

section
variable {page : Nat} (hp : isRegPage page = true) (d : Dev) (v : Word32)
include hp

/-- EVT_STATUS is W1C as a whole. -/
theorem Dev.storeReg_evtStatus :
    d.storeReg (evtStatusAt page) v = d.wrReg (evtStatusAt page) (d.rdReg (evtStatusAt page) &&& ~~~v) := by
  have hreg : regAt (evtStatusAt page) = some (wordReg 0x14 .w1c) := regAt_header hp (by decide)
  simp only [Dev.storeReg, hreg, d.discards_evt page (.inl rfl), d.keepFields_header page v (show 0x14 < 0x40 by decide),
    applyWrite_wordReg_w1c, Dev.reclamp_evtStatus, Bool.false_eq_true, if_false]

/-- EVT_ENABLE is RW, reserved positions at 0. -/
theorem Dev.rdReg_storeReg_evtEnable :
    (d.storeReg (evtEnableAt page) v).rdReg (evtEnableAt page) = v &&& BitVec.ofNat 32 (evMaskOf page) := by
  have hreg : regAt (evtEnableAt page) = some (wordReg 0x18 .rw) := regAt_header hp (by decide)
  simp only [Dev.storeReg, hreg, d.discards_evt page (.inr rfl), d.keepFields_header page v (show 0x18 < 0x40 by decide),
    applyWrite_wordReg_rw, Dev.reclamp_evtEnable, Bool.false_eq_true, if_false, Dev.rdReg_wrReg_same]
  refine BitVec.eq_of_getLsbD_eq fun i hi => ?_
  change (BitVec.ofNat 32 (v.toNat &&& evMaskOf page)).getLsbD i = _
  simp [hi]
end

/-! ### What a write of EVT_SET leaves -/

/-- Raising an event sets its bit of EVT_STATUS and no other. -/
theorem Dev.getLsbD_rdReg_raise (d : Dev) (page i : Nat) {bit : Nat} (hbit : bit < 32) :
    ((d.raise page bit).rdReg (evtStatusAt page)).getLsbD i = ((d.rdReg (evtStatusAt page)).getLsbD i || decide (i = bit)) := by
  by_cases hset : bitN (d.rdReg (evtStatusAt page)).toNat bit = true
  · rw [Dev.raise_set d page bit hset]
    rw [bitN_toNat] at hset
    by_cases hi : i = bit
    · rw [hi, hset]
      rfl
    · simp [hi]
  · have hword : (d.raise page bit).rdReg (evtStatusAt page) = withBits (d.rdReg (evtStatusAt page)) bit bit 1 := by
      unfold Dev.raise
      dsimp only
      rw [if_neg hset]
      split <;> exact Dev.rdReg_wrReg_same ..
    rw [hword, getLsbD_withBits _ _ _ hbit]
    by_cases hi : i = bit
    · simp [hi]
    · have hout : ¬(bit ≤ i ∧ i ≤ bit) := by omega
      simp [hi, hout]

/-- One bit of a write of EVT_SET. -/
def Dev.evtSetBit (page : Nat) (v : Word32) (d : Dev) (i : Nat) : Dev :=
  if bitN v.toNat i && bitN (evMaskOf page) i then d.raise page i else d

theorem Dev.evtSetWritten_eq_foldl (d : Dev) (page : Nat) (v : Word32) :
    d.evtSetWritten page v = (List.range 32).foldl (Dev.evtSetBit page v) d := (rfl)

theorem Dev.getLsbD_rdReg_evtSetBit (d : Dev) (page i : Nat) (v : Word32) {bit : Nat} (hbit : bit < 32) :
    ((d.evtSetBit page v bit).rdReg (evtStatusAt page)).getLsbD i =
      ((d.rdReg (evtStatusAt page)).getLsbD i || (decide (i = bit) && (v.getLsbD i && (evMaskOf page).testBit i))) := by
  unfold Dev.evtSetBit
  rw [bitN_toNat, bitN_eq_testBit]
  split
  next h =>
    rw [Dev.getLsbD_rdReg_raise d page i hbit]
    by_cases hi : i = bit
    · rw [hi, h, Bool.and_true]
    · simp [hi]
  next h =>
    by_cases hi : i = bit
    · rw [hi, Bool.eq_false_iff.mpr h, Bool.and_false, Bool.or_false]
    · simp [hi]

/-- Of the bits in a list, those end at 1 that stood at 1 or are written 1 and defined. -/
theorem Dev.getLsbD_rdReg_evtSetBits (page i : Nat) (v : Word32) (l : List Nat) (hl : ∀ bit ∈ l, bit < 32) (d : Dev) :
    ((l.foldl (Dev.evtSetBit page v) d).rdReg (evtStatusAt page)).getLsbD i =
      ((d.rdReg (evtStatusAt page)).getLsbD i || (decide (i ∈ l) && (v.getLsbD i && (evMaskOf page).testBit i))) := by
  induction l generalizing d with
  | nil => simp
  | cons bit l ih =>
    rw [List.forall_mem_cons] at hl
    rw [List.foldl_cons, ih hl.2, Dev.getLsbD_rdReg_evtSetBit d page i v hl.1, Bool.or_assoc, ← Bool.and_or_distrib_right]
    simp only [List.mem_cons, Bool.decide_or]

/-- EVT_SET sets the positions that its page defines, on every page. -/
theorem Dev.rdReg_evtSetWritten (d : Dev) (page : Nat) (v : Word32) :
    (d.evtSetWritten page v).rdReg (evtStatusAt page) = d.rdReg (evtStatusAt page) ||| (v &&& BitVec.ofNat 32 (evMaskOf page)) := by
  refine BitVec.eq_of_getLsbD_eq fun i hi => ?_
  rw [Dev.evtSetWritten_eq_foldl, Dev.getLsbD_rdReg_evtSetBits page i v _ (fun _ => List.mem_range.mp)]
  simp only [List.mem_range, BitVec.getLsbD_or, BitVec.getLsbD_and, BitVec.getLsbD_ofNat, hi, decide_true, Bool.true_and]

/-- The event positions of CLASSES, DISPATCH and DEVICE (R157, R266, R376). -/
theorem evMaskOf_threePages : ∀ page mask, (page, mask) ∈ [(9, 0x7), (0xB, 0x1F), (0, 0x7)] →
    isRegPage page = true ∧ evMaskOf page = mask := by
  intro page mask h
  simp only [List.mem_cons, Prod.mk.injEq, List.not_mem_nil, or_false] at h
  rcases h with ⟨rfl, rfl⟩ | ⟨rfl, rfl⟩ | ⟨rfl, rfl⟩ <;> decide +kernel

/-- Settles O7: the event registers follow their page's positions on every page, and the three pages define those of their tables. -/
theorem eventRegistersOfThreePages : Obligations.EventRegistersOfThreePages := by
  refine ⟨rfl, rfl, rfl, rfl, rfl, rfl, rfl, rfl, rfl, rfl, rfl, fun page mask h => ?_⟩
  obtain ⟨hp, rfl⟩ := evMaskOf_threePages page mask h
  refine ⟨rfl, resetWord_evtStatus page, fun d v => ⟨?_, d.rdReg_storeReg_evtEnable hp v, d.rdReg_evtSetWritten page v⟩⟩
  rw [Dev.storeReg_evtStatus hp d v]
  exact Dev.rdReg_wrReg_same ..

end Sys2Proof.Machine

/-!
PROOFS. The lines of DRAM: the bytes and the parity that a write of a line leaves in it and in every other line (R161, R162, R165, R269,
R272).
-/
namespace Sys2Proof.Machine

/-! ### The bytes of a line and the bits of a mask -/

/-- Bit `j` of byte `k` of the number that bytes in a row make, the first byte lowest. -/
theorem testBit_foldr_bytes (f : Nat → BitVec 8) (l : List Nat) {k j : Nat} (hk : k < l.length) (hj : j < 8) :
    (l.foldr (fun i n => n * 256 + (f i).toNat) 0).testBit (8 * k + j) = (f l[k]).getLsbD j := by
  induction l generalizing k with
  | nil => exact absurd hk (Nat.not_lt_zero k)
  | cons x l ih =>
    rw [List.foldr_cons, Nat.mul_comm, Nat.testBit_two_pow_mul_add (i := 8) _ (f x).isLt]
    cases k with
    | zero => simp only [Nat.mul_zero, Nat.zero_add, hj, if_true, List.getElem_cons_zero, BitVec.testBit_toNat]
    | succ k =>
      have hhigh : ¬ 8 * (k + 1) + j < 8 := by omega
      have hnext : 8 * (k + 1) + j - 8 = 8 * k + j := by omega
      rw [if_neg hhigh, hnext, ih (Nat.lt_of_succ_lt_succ hk), List.getElem_cons_succ]

theorem getLsbD_lineByte (d : Line) (i j : Nat) : (lineByte d i).getLsbD j = (decide (j < 8) && d.getLsbD (8 * i + j)) := by
  simp only [lineByte, BitVec.getLsbD_ofNat, Nat.testBit_div_two_pow, BitVec.testBit_toNat, Nat.add_comm]

/-- A line holds the bytes it was made from. -/
theorem lineByte_lineOf (f : Nat → BitVec 8) {i : Nat} (hi : i < 64) : lineByte (lineOf f) i = f i := by
  refine BitVec.eq_of_getLsbD_eq fun j hj => ?_
  have hbits := testBit_foldr_bytes f (List.range 64) (k := i) (by rwa [List.length_range]) hj
  have hin : 8 * i + j < 512 := by omega
  rw [getLsbD_lineByte, lineOf, BitVec.getLsbD_ofNat, hbits, List.getElem_range]
  simp [hj, hin]

theorem lineOf_eq_foldr_map (f : Nat → BitVec 8) :
    lineOf f = BitVec.ofNat 512 (((List.range 64).map f).foldr (fun x n => n * 256 + x.toNat) 0) := by
  rw [List.foldr_map, lineOf]

/-- Only the first 64 bytes count. -/
theorem lineOf_congr {f g : Nat → BitVec 8} (h : ∀ i < 64, f i = g i) : lineOf f = lineOf g := by
  have hbytes : (List.range 64).map f = (List.range 64).map g := List.map_congr_left fun i hi => h i (List.mem_range.mp hi)
  rw [lineOf_eq_foldr_map, lineOf_eq_foldr_map, hbytes]

theorem maskOf_succ (n : Nat) (p : Nat → Bool) : maskOf (n + 1) p = 2 ^ n * (p n).toNat + maskOf n p := by
  simp only [maskOf, List.range_succ, List.foldl_append, List.foldl_cons, List.foldl_nil]
  cases p n with
  | false => simp
  | true => simp [Nat.add_comm]

theorem maskOf_lt (n : Nat) (p : Nat → Bool) : maskOf n p < 2 ^ n := by
  induction n with
  | zero => exact Nat.one_pos
  | succ n ih =>
    have hbit : 2 ^ n * (p n).toNat ≤ 2 ^ n * 1 := Nat.mul_le_mul_left _ (Bool.toNat_le _)
    rw [maskOf_succ, Nat.pow_succ]
    omega

/-- A mask has the bits of the numbers that satisfy `p`. -/
theorem testBit_maskOf (n : Nat) (p : Nat → Bool) (i : Nat) : (maskOf n p).testBit i = (decide (i < n) && p i) := by
  induction n with
  | zero => simp [maskOf]
  | succ n ih =>
    rw [maskOf_succ, Nat.testBit_two_pow_mul_add _ (maskOf_lt n p), ih]
    rcases Nat.lt_trichotomy i n with h | rfl | h
    · simp [h, Nat.lt_succ_of_lt h]
    · cases p i <;> simp
    · have hpos : i - n ≠ 0 := by omega
      have hout : ¬ i < n + 1 := by omega
      have hbit : (p n).toNat < 2 ^ (i - n) := Nat.lt_of_lt_of_le (Bool.toNat_lt _) (Nat.le_self_pow hpos 2)
      simp [Nat.not_lt_of_gt h, hout, Nat.testBit_lt_two_pow hbit]

/-! ### Writing the bytes of a line into a memory -/

section
variable {β : Type} [DecidableEq β]

/-- A memory after the bytes that `sel` selects of a list are written, byte `i` at address `key i`. -/
def putBytes (d : Nat → β) (key : Nat → Nat) (sel : Nat → Bool) (v : Nat → β) (l : List Nat) (m : Sparse β) : Sparse β :=
  l.foldl (fun m i => if sel i then sset d m (key i) (v i) else m) m

theorem putBytes_cons (d : Nat → β) (key : Nat → Nat) (sel : Nat → Bool) (v : Nat → β) (j : Nat) (l : List Nat) (m : Sparse β) :
    putBytes d key sel v (j :: l) m = putBytes d key sel v l (if sel j then sset d m (key j) (v j) else m) := (rfl)

/-- With addresses apart from each other, a selected byte of the list reads as written and every other byte as before. -/
theorem sget_putBytes (d : Nat → β) {key : Nat → Nat} (hkey : Function.Injective key) (sel : Nat → Bool) (v : Nat → β) (l : List Nat)
    (m : Sparse β) (i : Nat) :
    sget d (putBytes d key sel v l m) (key i) = if i ∈ l ∧ sel i = true then v i else sget d m (key i) := by
  induction l generalizing m with
  | nil => simp [putBytes]
  | cons j l ih =>
    have hstep : sget d (if sel j then sset d m (key j) (v j) else m) (key i) =
        if i = j ∧ sel i = true then v i else sget d m (key i) := by
      by_cases hij : i = j
      · subst hij
        by_cases hsel : sel i = true <;> simp [hsel]
      · by_cases hsel : sel j = true
        · simp [hsel, hij, sget_sset_other _ _ _ _ _ (hkey.ne hij)]
        · simp [hsel, hij]
    rw [putBytes_cons, ih, hstep]
    by_cases hil : i ∈ l <;> by_cases hsel : sel i = true <;> simp [hil, hsel]

/-- Addresses apart from those of the list read as before. -/
theorem sget_putBytes_other (d : Nat → β) (key : Nat → Nat) (sel : Nat → Bool) (v : Nat → β) (l : List Nat) (m : Sparse β) {a : Nat}
    (ha : ∀ i ∈ l, a ≠ key i) : sget d (putBytes d key sel v l m) a = sget d m a := by
  induction l generalizing m with
  | nil => rfl
  | cons j l ih =>
    rw [List.forall_mem_cons] at ha
    rw [putBytes_cons, ih _ ha.2]
    split
    · exact sget_sset_other d m (key j) a (v j) ha.1
    · rfl

theorem swf_putBytes (d : Nat → β) (key : Nat → Nat) (sel : Nat → Bool) (v : Nat → β) (l : List Nat) (m : Sparse β) (h : swf d m = true) :
    swf d (putBytes d key sel v l m) = true := by
  refine foldl_keeps (fun m => swf d m = true) _ l m h fun m i hm => ?_
  split
  · exact swf_sset d m (key i) (v i) hm
  · exact hm

end

/-! ### The addresses of DRAM (R161, R162) -/

theorem dramAddr_injective (n l : Nat) : Function.Injective (dramAddr n l) := fun _ _ h => Nat.add_left_cancel h

/-- Two bytes of different lines have different addresses: a line lies within its 64 bytes and a shaft within its 6 GiB. -/
theorem dramAddr_ne {m n k l i j : Nat} (hk : k < 100663296) (hl : l < 100663296) (hi : i < 64) (hj : j < 64) (h : m ≠ n ∨ k ≠ l) :
    dramAddr m k i ≠ dramAddr n l j := by
  unfold dramAddr shaftBytes
  omega

/-! ### What a write of a line does to DRAM (R165, R269, R272) -/

section
variable (d : Dev) (n l : Nat) (data : Line) (mask bad : BitVec 64)

theorem Dev.dramWrite_dram :
    (d.dramWrite n l data mask bad).dram =
      putBytes zeroByte (dramAddr n l) (bitN mask.toNat) (lineByte data) (List.range 64) d.dram := by
  refine (List.foldl_hom Dev.dram fun s i => ?_).symm
  split <;> rfl

theorem Dev.dramWrite_dramBad :
    (d.dramWrite n l data mask bad).dramBad =
      putBytes goodByte (dramAddr n l) (bitN mask.toNat) (bitN bad.toNat) (List.range 64) d.dramBad := by
  refine (List.foldl_hom Dev.dramBad fun s i => ?_).symm
  split <;> rfl

@[simp] theorem Dev.dramWrite_regs : (d.dramWrite n l data mask bad).regs = d.regs := by
  rw [Dev.dramWrite_eq]

@[simp] theorem Dev.dramWrite_engines : (d.dramWrite n l data mask bad).engines = d.engines := by
  rw [Dev.dramWrite_eq]

/-- Bit `i` of the parity of a line is that of its byte `i`. -/
theorem Dev.getLsbD_dramBadOf {i : Nat} (hi : i < 64) :
    (d.dramBadOf n l).getLsbD i = sget goodByte d.dramBad (dramAddr n l i) := by
  simp only [Dev.dramBadOf, BitVec.getLsbD_ofNat, testBit_maskOf, hi, decide_true, Bool.true_and]

/-- The line written holds the new bytes where the mask selects and its old bytes elsewhere. -/
theorem Dev.dramLine_dramWrite_same :
    (d.dramWrite n l data mask bad).dramLine n l = mergeLine (d.dramLine n l) data mask := by
  refine lineOf_congr fun i hi => ?_
  rw [Dev.dramWrite_dram, sget_putBytes _ (dramAddr_injective n l), Dev.dramLine, lineByte_lineOf _ hi]
  simp only [List.mem_range, hi, true_and]

theorem Dev.dramBadOf_dramWrite_same :
    (d.dramWrite n l data mask bad).dramBadOf n l = (d.dramBadOf n l &&& ~~~mask) ||| (bad &&& mask) := by
  refine BitVec.eq_of_getLsbD_eq fun i hi => ?_
  rw [Dev.getLsbD_dramBadOf _ n l hi, Dev.dramWrite_dramBad, sget_putBytes _ (dramAddr_injective n l), ← Dev.getLsbD_dramBadOf d n l hi]
  simp only [List.mem_range, hi, true_and, bitN_eq_testBit, BitVec.testBit_toNat, BitVec.getLsbD_or, BitVec.getLsbD_and,
    BitVec.getLsbD_not, decide_true, Bool.true_and]
  cases mask.getLsbD i with
  | false => simp
  | true => simp

section
variable {m k : Nat} (hl : l < 100663296) (hk : k < 100663296) (h : m ≠ n ∨ k ≠ l)
include hl hk h

theorem Dev.dramLine_dramWrite_other : (d.dramWrite n l data mask bad).dramLine m k = d.dramLine m k := by
  refine lineOf_congr fun i hi => ?_
  rw [Dev.dramWrite_dram, sget_putBytes_other]
  exact fun j hj => dramAddr_ne hk hl hi (List.mem_range.mp hj) h

theorem Dev.dramBadOf_dramWrite_other : (d.dramWrite n l data mask bad).dramBadOf m k = d.dramBadOf m k := by
  refine BitVec.eq_of_getLsbD_eq fun i hi => ?_
  rw [Dev.getLsbD_dramBadOf _ m k hi, Dev.getLsbD_dramBadOf d m k hi, Dev.dramWrite_dramBad, sget_putBytes_other]
  exact fun j hj => dramAddr_ne hk hl hi (List.mem_range.mp hj) h

end

/-- A write of a line keeps the canonical form of DRAM, the scratch memories and the register file. -/
theorem Dev.dramWrite_memoriesWf (h : d.memoriesWf = true) : (d.dramWrite n l data mask bad).memoriesWf = true := by
  simp only [Dev.memoriesWf, Dev.dramWrite_regs, Dev.dramWrite_engines, Bool.and_eq_true] at h ⊢
  obtain ⟨⟨hdram, hscratch⟩, hregs⟩ := h
  refine ⟨⟨?_, hscratch⟩, hregs⟩
  rw [Dev.dramWrite_dram]
  exact swf_putBytes zeroByte _ _ _ _ _ hdram

end

/-- Settles O46: the 64 bytes of a line have addresses of their own, so each reads as the mask says and no other line sees the write. -/
theorem dramLinesReadBackWhatWasWritten : Obligations.DramLinesReadBackWhatWasWritten := by
  intro d n l data mask bad hl
  exact ⟨d.dramLine_dramWrite_same n l data mask bad, d.dramBadOf_dramWrite_same n l data mask bad,
    fun m k hk h => ⟨d.dramLine_dramWrite_other n l data mask bad hl hk h, d.dramBadOf_dramWrite_other n l data mask bad hl hk h⟩,
    d.dramWrite_memoriesWf n l data mask bad, d.dramWrite_regs n l data mask bad, d.dramWrite_engines n l data mask bad⟩

end Sys2Proof.Machine

/-!
PROOFS. The leases: who is answered what, and one that software holds too long (R353, R359, R360). The calibrations of the references:
impedance, converter and wake comparator (R192 to R194, R205, R207).
-/
namespace Sys2Proof.Machine

/-! ### Asking for a lease, and giving it back (R353) -/

section
variable {d : Dev} {i : Nat} (holder rank : Nat)

theorem Dev.askLease_of_held (h : d.leaseHeld i = true) : d.askLease i holder rank = (false, d.bump Reg.LEASES_CNT_BUSY_VALUE) :=
  if_pos h

theorem Dev.askLease_of_free (h : d.leaseHeld i = false) : d.askLease i holder rank = (true, d.setLease i ⟨holder, rank, d.time⟩) :=
  if_neg (by simp [h])

end

theorem exec_longHold (i : BitVec 7) (s : State) : exec (.longHold i) s = .next (s.put (s.dev.longHold i.toNat)) := (rfl)

theorem Dev.longHold_of_software {d : Dev} {i : Nat} (h : (d.lease i).holder = hoSOFT) :
    d.longHold i = d.raiseRec pgLEASES Reg.EV_LEASES_LONG_HOLD sevWARNING [i] :=
  if_pos (beq_iff_eq.mpr h)

theorem Dev.longHold_of_other {d : Dev} {i : Nat} (h : (d.lease i).holder ≠ hoSOFT) : d.longHold i = d :=
  if_neg (by simpa using h)

/-! ### START_IMP (R192) -/

theorem exec_startImp_period (m : BitVec 5) (s : State) :
    exec (.startImp none m) s = .next (s.put (if s.dev.calMode then s.dev.impFound m.toNat else s.dev)) :=
  s.on_ite Dev.calMode (fun d => d.impFound m.toNat) id

/-- The first measurement sets the current outright; a repeat moves it by at most one code (log 183). -/
theorem Dev.impFound_of_inRange {d : Dev} {m : Nat} (hlo : 4 ≤ m) (hhi : m ≤ 27) :
    d.impFound m =
      let code := if d.impRun = false then m else oneToward m (d.fv Reg.CALREF_IMP_MASTER)
      (((({ d with impRun := true }).setF Reg.CALREF_IMP_MASTER code).setF Reg.CALREF_STATUS_IMP_VALID 1).setF
        Reg.CALREF_STATUS_REASON_IMP 0).refStamp := by
  unfold Dev.impFound
  simp only [Bool.not_eq_true']
  exact if_pos (by simp [hlo, hhi])

theorem Dev.impFound_of_outOfRange {d : Dev} {m : Nat} (h : m < 4 ∨ 27 < m) :
    d.impFound m =
      let why := if m = 0 ∨ m = 31 then 1 else 2
      ((({ d with impRun := true }).setF Reg.CALREF_STATUS_REASON_IMP why).setF Reg.CALREF_STATUS_IMP_VALID 0).raiseRec pgCALREF
        Reg.EV_CALREF_IMP_FAIL sevWARNING [m, why] := by
  unfold Dev.impFound
  simp only [Bool.or_eq_true, beq_iff_eq]
  exact if_neg (by simp only [Bool.and_eq_true, decide_eq_true_eq]; omega)

/-! ### STATUS.BUSY (R212) -/

/-- A calibration that begins shows that one runs. -/
theorem Dev.setCal_begun (d : Dev) (b : Nat) :
    d.setCal b true = ({ d with calBusy := (d.calBusy.1, Nat.lor d.calBusy.2 (2 ^ b)) }).setF Reg.CALREF_STATUS_BUSY 1 := by
  have hrun : (Nat.lor d.calBusy.2 (2 ^ b) != 0) = true :=
    bne_iff_ne.mpr (Nat.ne_of_gt (Nat.lt_of_lt_of_le (Nat.two_pow_pos b) Nat.right_le_or))
  simp only [Dev.setCal, if_true, hrun]
  rfl

/-! ### START_CONV and CALIBRATION_LEASE_RETRY (R193) -/

theorem exec_startConv_period (s : State) :
    exec (.startConv none) s = .next (s.put (if s.dev.calMode then s.dev.convStart else s.dev)) :=
  s.on_ite Dev.calMode Dev.convStart id

theorem exec_calibrationLeaseRetry (s : State) : exec .calibrationLeaseRetry s = .next (s.put s.dev.convRetry) := (rfl)

theorem Dev.convStart_of_busy {d : Dev} (h : d.calBusy.1 ≠ 0 ∨ bitN d.calBusy.2 0 = true) : d.convStart = d :=
  if_pos (by simpa using h)

theorem Dev.convStart_of_idle {d : Dev} (hw : d.calBusy.1 = 0) (hr : bitN d.calBusy.2 0 = false) : d.convStart = d.convAsk :=
  if_neg (by simp [hw, hr])

theorem Dev.convRetry_of_none {d : Dev} (h : d.calBusy.1 = 0) : d.convRetry = d :=
  if_pos (beq_iff_eq.mpr h)

theorem Dev.convRetry_of_waiting {d : Dev} (h : d.calBusy.1 ≠ 0) : d.convRetry = d.convAsk :=
  if_neg (by simpa using h)

/-- The commands that ask for the converter lease, with the conditions under which they do. -/
theorem exec_eq_convAsk {i : Instr} {s : State}
    (h : (i = Instr.startConv none ∧ s.dev.calMode = true ∧ s.dev.calBusy.1 = 0 ∧ bitN s.dev.calBusy.2 0 = false) ∨
      (i = .calibrationLeaseRetry ∧ s.dev.calBusy.1 ≠ 0)) :
    exec i s = .next (s.put s.dev.convAsk) := by
  rcases h with ⟨rfl, hm, hw, hr⟩ | ⟨rfl, hw⟩
  · rw [exec_startConv_period, if_pos hm, Dev.convStart_of_idle hw hr]
  · rw [exec_calibrationLeaseRetry, Dev.convRetry_of_waiting hw]

theorem Dev.convAsk_of_free {d : Dev} (h : d.leaseHeld lsCONV = false) :
    d.convAsk = ({ d.setLease lsCONV ⟨hoCALIB, rkINTEGRITY, d.time⟩ with calBusy := (0, Nat.lor d.calBusy.2 1) }).setF
      Reg.CALREF_STATUS_BUSY 1 := by
  unfold Dev.convAsk
  rw [Dev.askLease_of_free _ _ h]
  exact Dev.setCal_begun _ 0

/-- A refusal is repeated; the eighth repeat refused ends the request (log 75). -/
theorem Dev.convAsk_of_held {d : Dev} (h : d.leaseHeld lsCONV = true) :
    d.convAsk =
      let t := d.bump Reg.LEASES_CNT_BUSY_VALUE
      if d.calBusy.1 = 8 then
        (({ t with calBusy := (0, d.calBusy.2) }).setF Reg.CALREF_STATUS_REASON_CONV 6).record pgCALREF codeOTHER sevWARNING [6]
      else { t with calBusy := (d.calBusy.1 + 1, d.calBusy.2) } := by
  unfold Dev.convAsk
  rw [Dev.askLease_of_held _ _ h]
  simp only [beq_iff_eq]
  rfl

/-! ### CONVERTER_CALIBRATION_END (R193) -/

theorem exec_converterCalibrationEnd (zero : Int) (ref : Nat) (s : State) :
    exec (.converterCalibrationEnd zero ref) s = .next (s.put (s.dev.convFound zero ref)) := (rfl)

/-- The converter's calibration is over: its lease is free, and its two conversions stand in the raw registers. -/
def Dev.convRead (d : Dev) (zero : Int) (ref : Nat) : Dev :=
  (((d.dropLease lsCONV hoCALIB).setCal 0 false).setF Reg.CALREF_CONV_RAW_ZERO (ofSigned 16 zero)).setF Reg.CALREF_CONV_RAW_REF (ref % 65536)

section
variable {d : Dev} {zero : Int} {ref : Nat}

theorem Dev.convFound_of_idle (h : bitN d.calBusy.2 0 = false) : d.convFound zero ref = d :=
  if_pos (by simp [h])

theorem Dev.convFound_of_running (h : bitN d.calBusy.2 0 = true) :
    d.convFound zero ref =
      if 47040 ≤ ref ∧ ref ≤ 48960 ∧ -200 ≤ zero ∧ zero ≤ 200 then
        (((((d.convRead zero ref).setF Reg.CALREF_CONV_CORR_GAIN (roundDiv (32768 * 48000) ((ref : Int) - zero).toNat)).setF
          Reg.CALREF_CONV_CORR_OFFSET (ofSigned 12 (-zero))).setF Reg.CALREF_STATUS_CONV_VALID 1).setF
          Reg.CALREF_STATUS_REASON_CONV 0).refStamp
      else
        (((d.convRead zero ref).setF Reg.CALREF_STATUS_CONV_VALID 0).setF Reg.CALREF_STATUS_REASON_CONV 3).raiseRec pgCALREF
          Reg.EV_CALREF_CONV_FAIL sevWARNING [ref, ofSigned 32 zero] := by
  refine (if_neg (by simp [h])).trans ?_
  exact ite_congr (by simp [and_assoc]) (fun _ => rfl) (fun _ => rfl)

end

/-! ### WAKE_CHECK_END (R194) -/

theorem exec_wakeCheckEnd (mv : Nat) (s : State) : exec (.wakeCheckEnd mv) s = .next (s.put (s.dev.wakeFound mv)) := (rfl)

/-- The check of the comparator is over: its lease is free, and its worst error is shown. -/
def Dev.wakeRead (d : Dev) (mv : Nat) : Dev :=
  ((d.dropLease lsWAKE hoCALIB).setCal 1 false).setSat Reg.CALREF_WAKE_CHK_ERR_MV mv

section
variable {d : Dev} {mv : Nat}

theorem Dev.wakeFound_of_idle (h : bitN d.calBusy.2 1 = false) : d.wakeFound mv = d :=
  if_pos (by simp [h])

theorem Dev.wakeFound_of_accepted (h : bitN d.calBusy.2 1 = true) (hmv : mv ≤ 10) :
    d.wakeFound mv = (((d.wakeRead mv).setF Reg.CALREF_STATUS_WAKE_VALID 1).setF Reg.CALREF_STATUS_REASON_WAKE 0).refStamp :=
  (if_neg (by simp [h])).trans (if_pos hmv)

/-- The reason of a rejection is one of the spec's open values (log 30). -/
theorem Dev.wakeFound_of_rejected (h : bitN d.calBusy.2 1 = true) (hmv : 10 < mv) :
    d.wakeFound mv =
      (((((d.wakeRead mv).setF Reg.CALREF_STATUS_REASON_WAKE (Config.freeNat (d.wakeRead mv).free % 16)).nextFree).setF
        Reg.CALREF_STATUS_WAKE_VALID 0).raiseRec pgCALREF Reg.EV_CALREF_WAKE_FAIL sevWARNING [mv]) :=
  (if_neg (by simp [h])).trans (if_neg (Nat.not_le.mpr hmv))

end

/-- Settles O49: each command asks whether it has its occasion, then whether the result lies in its range or the lease is free. -/
theorem referencesAndLeases : Obligations.ReferencesAndLeases := by
  intro s d stamped
  simp only [exec_startImp_period, exec_converterCalibrationEnd, exec_wakeCheckEnd, exec_longHold]
  refine ⟨fun m => ⟨fun hm => ?impOff, fun hm hlo hhi => ?impAccepted, fun hm h => ?impRejected⟩, fun h => ?convIdle, fun h => ?noRetry,
    fun i hi => ?ask, fun zero ref => ⟨fun h => State.next_congr (Dev.convFound_of_idle h), fun h => ?conv⟩,
    fun mv => ⟨fun h => State.next_congr (Dev.wakeFound_of_idle h), fun h => ?wake⟩,
    fun i => ⟨fun h => State.next_congr (Dev.longHold_of_software h), fun h => State.next_congr (Dev.longHold_of_other h)⟩⟩
  case impOff => exact State.next_congr (if_neg (Bool.eq_false_iff.mp hm))
  case impAccepted => exact State.next_congr ((if_pos hm).trans (Dev.impFound_of_inRange hlo hhi))
  case impRejected => exact State.next_congr ((if_pos hm).trans (Dev.impFound_of_outOfRange h))
  case convIdle =>
    rw [exec_startConv_period]
    refine State.next_congr ?_
    split
    next hm => exact Dev.convStart_of_busy (h.resolve_left (ne_false_of_eq_true hm))
    next => rfl
  case noRetry =>
    rw [exec_calibrationLeaseRetry]
    exact State.next_congr (Dev.convRetry_of_none h)
  case ask =>
    rw [exec_eq_convAsk hi]
    refine ⟨fun hl => State.next_congr (Dev.convAsk_of_free hl), fun hl => ⟨fun hk => ?_, fun hk => ?_⟩⟩
    · exact State.next_congr ((Dev.convAsk_of_held hl).trans (if_neg hk))
    · exact State.next_congr ((Dev.convAsk_of_held hl).trans (if_pos hk))
  case conv =>
    rw [Dev.convFound_of_running h]
    refine ⟨fun hlo hhi hz hz' => State.next_congr (if_pos ⟨hlo, hhi, hz, hz'⟩), fun hout => State.next_congr (if_neg ?_)⟩
    omega
  case wake =>
    exact ⟨fun hmv => State.next_congr (Dev.wakeFound_of_accepted h hmv),
      fun hmv => ⟨_, Nat.mod_lt _ (by decide), State.next_congr (Dev.wakeFound_of_rejected h hmv)⟩⟩

end Sys2Proof.Machine

/-!
PROOFS. The training of a shaft, its helper, and periodic retraining (R197 to R207).
-/
namespace Sys2Proof.Machine

/-! ### TRAIN_STEP_END (R198 to R200) -/

theorem exec_trainStepEnd (n : Fin 48) (o : TrainObs) (s : State) :
    exec (.trainStepEnd n o) s = .next (s.put (s.dev.trainStep n o)) := (rfl)

/-- A rejected run ends with result 3, and with it the start-up of its shaft (R199, R200). -/
theorem Dev.trainReject_eq (d : Dev) (n why lane : Nat) :
    d.trainReject n why lane =
      let t := (d.trainEnd n 3 why lane).setReject n why
      if t.shaftSt n = stKINDLING then t.failShaft n else t := by
  simp only [Dev.trainReject, beq_iff_eq]

/-- One of the widths found by a step is below RETRAIN_CTL.MIN_WIDTH (R200). -/
def Dev.foundNarrow (d : Dev) (n step : Nat) (o : TrainObs) : Bool :=
  (widths o step).any (fun w => decide (w.2.getD 255 < d.fv Reg.SHAFT_RETRAIN_CTL_MIN_WIDTH n))

/-- What a step found is applied, and a narrow width shown as a margin warning. -/
def Dev.stepApplied (d : Dev) (n step : Nat) (o : TrainObs) : Dev :=
  let a := d.applyStep n step o
  if a.foundNarrow n step o then a.setMargin n else a

/-- The result of a run after a step: 2 from the first narrow width on. -/
def Dev.worstAfter (d : Dev) (n : Nat) (run : TrainRun) (o : TrainObs) : Nat :=
  if (d.applyStep n run.step o).foundNarrow n run.step o then 2 else run.worst

theorem Dev.trainStep_of_none {d : Dev} {n : Nat} (o : TrainObs) (h : (d.shaft n).train = none) : d.trainStep n o = d := by
  rw [Dev.trainStep, h]

section
variable {d : Dev} {n : Nat} {o : TrainObs} {run : TrainRun} (hrun : (d.shaft n).train = some run)
include hrun

theorem Dev.trainStep_of_tempMoved (ht : 2 ≤ o.tempMoves.val) : d.trainStep n o = d.trainReject n 9 15 := by
  rw [Dev.trainStep, hrun]
  exact if_pos ht

section
variable (ht : o.tempMoves.val < 2)
include ht

theorem Dev.trainStep_of_alertTwice (ha : o.alertTwice = true) (hs : run.step ≠ 2) : d.trainStep n o = d.trainReject n 8 15 := by
  rw [Dev.trainStep, hrun]
  exact (if_neg (Nat.not_le.mpr ht)).trans (if_pos (by simp [ha, hs]))

/-- A run not disturbed looks for its windows; the lane of a rejection is the first without one. With a window everywhere, a run of all steps
goes on to its next step; the last step, or a step asked for alone, ends the run. -/
theorem Dev.trainStep_of_undisturbed (hch : o.alertTwice = false ∨ run.step = 2) :
    d.trainStep n o =
      if (widths o run.step).any (fun w => w.2.isNone) = true then
        d.trainReject n 7 (((widths o run.step).filter (fun w => w.2.isNone)).foldl (fun m w => min m w.1) 15)
      else if run.all = true ∧ run.step < 7 then
        ((d.stepApplied n run.step o).modShaft n (fun q => { q with
          train := some ⟨true, run.step + 1, d.worstAfter n run o⟩ })).setF Reg.SHAFT_TRAIN_STATUS_STEP (run.step + 1) n
      else
        let t := ((d.stepApplied n run.step o).trainEnd n (d.worstAfter n run o) 0 15).calStamp n
        if t.shaftSt n = stKINDLING ∧ run.step = 7 then t.enter (shaftPage n) stONLINE else t := by
  have hcalm : ¬(o.alertTwice && run.step != 2) = true := by rcases hch with h | h <;> simp [h]
  rw [Dev.trainStep, hrun]
  refine (if_neg (Nat.not_le.mpr ht)).trans ((if_neg hcalm).trans (ite_congr rfl (fun _ => rfl) fun _ => ?_))
  refine ite_congr (by simp) (fun _ => rfl) (fun _ => ite_congr ?_ (fun _ => rfl) (fun _ => rfl))
  rw [Bool.and_eq_true, beq_iff_eq, beq_iff_eq]
  rfl

end

end

/-! ### HELPER_RUN_END (R197) -/

theorem exec_helperRunEnd (n : Fin 48) (fail : BitVec 72) (errors : Nat) (s : State) :
    exec (.helperRunEnd n fail errors) s = .next (s.put (s.dev.helperEnd n fail errors)) := (rfl)

/-- Word `x` of the fail mask keeps what it held and takes the failing bits of a run (log 173). -/
def Dev.maskFails (d : Dev) (n : Nat) (fail : BitVec 72) (x : Nat) : Dev :=
  d.setF Reg.SHAFT_HELPER_FAILx_MASK (Nat.lor (d.fv Reg.SHAFT_HELPER_FAILx_MASK n x) (fail.toNat / 2 ^ (32 * x) % 2 ^ 32)) n x

theorem Dev.helperEnd_of_none {d : Dev} {n : Nat} (fail : BitVec 72) (errors : Nat) (h : (d.shaft n).helper = none) :
    d.helperEnd n fail errors = d := by
  rw [Dev.helperEnd, h]

theorem Dev.helperEnd_of_run {d : Dev} {n : Nat} (fail : BitVec 72) (errors : Nat) {run : HelperRun} (h : (d.shaft n).helper = some run) :
    d.helperEnd n fail errors =
      let b := (((d.modShaft n (fun q => { q with helper := none })).maskFails n fail 0).maskFails n fail 1).maskFails n fail 2
      ((b.setSat Reg.SHAFT_HELPER_STATUS_ERRORS (min errors (576 * run.bursts)) n).setF Reg.SHAFT_HELPER_STATUS_DONE 1 n).dropLease
        (lsHelper n) hoSOFT := by
  rw [Dev.helperEnd, h]
  rfl

/-! ### RETRAIN_ROUND (R202, R205, R207) -/

theorem exec_retrainRound (n : Fin 48) (s : State) : exec (.retrainRound n) s = .next (s.put (s.dev.roundDue n)) := (rfl)

section
variable {d : Dev} {n : Nat}

/-- RETRAIN_CTL.EN lets rounds run at all. -/
theorem Dev.roundsOn_of_disabled (h : d.fb Reg.SHAFT_RETRAIN_CTL_EN n = false) : d.roundsOn n = false := by
  simp [Dev.roundsOn, h]

theorem Dev.roundDue_of_failed (hst : d.shaftSt n = stFAILED) (hen : d.fb Reg.SHAFT_RETRAIN_CTL_EN n = true) :
    d.roundDue n =
      ((d.setF Reg.SHAFT_RETRAIN_STATUS_REASON 5 n).bumpSat Reg.SHAFT_RETRAIN_STATUS_SKIPPED n).record (shaftPage n) codeOTHER sevWARNING
        [5] :=
  if_pos (by simp [hst, hen])

/-- A round that is not refused starts where rounds run and none is on. -/
theorem Dev.roundDue_of_allowed (h : d.shaftSt n ≠ stFAILED ∨ d.fb Reg.SHAFT_RETRAIN_CTL_EN n = false) :
    d.roundDue n = if d.roundsOn n = true ∧ (d.shaft n).roundOn = false then d.startRound n else d := by
  refine (if_neg ?_).trans (ite_congr (by simp) (fun _ => rfl) (fun _ => rfl))
  rcases h with h | h <;> simp [h]

theorem Dev.roundDue_of_idle (h : d.shaftSt n ≠ stFAILED ∨ d.fb Reg.SHAFT_RETRAIN_CTL_EN n = false)
    (hr : d.roundsOn n = false ∨ (d.shaft n).roundOn = true) : d.roundDue n = d := by
  rw [Dev.roundDue_of_allowed h, if_neg]
  rcases hr with hr | hr <;> simp [hr]

end

/-! ### TOUCH (R202, R203, R206) -/

theorem exec_touch (n : Fin 48) (o : TouchObs) (s : State) : exec (.touch n o) s = .next (s.put (s.dev.touch n o)) := (rfl)

/-- A touch has its room in a gap, or in the tRFCab of a substituted REFab (log 182). -/
theorem Dev.touchRoom_iff (d : Dev) (n : Nat) :
    d.touchRoom n = true ↔
      (d.shaft n).roundOn = true ∧ d.roundsOn n = true ∧ d.inSR n = false ∧ (d.shaft n).freq = none ∧ (d.shaft n).parking = false ∧
        (((d.shaft n).subst = false ∧ (d.shaft n).empty = true ∧ (d.shaft n).queued = []) ∨
          ((d.shaft n).subst = true ∧ ∃ t, (d.shaft n).subAt = some t ∧ (d.shaft n).ck ≤ t)) := by
  unfold Dev.touchRoom Dev.freqBusy
  cases hs : (d.shaft n).subst with
  | false => simp [and_assoc, hs]
  | true => cases ht : (d.shaft n).subAt <;> simp [and_assoc, hs, ht]

/-- The substituted REFab that a touch uses up serves no other. -/
def Dev.touchTaken (d : Dev) (n : Nat) : Dev := d.modShaft n (fun q => { q with subAt := none })

/-- A touch holds the helper lease. -/
def Dev.touchLeased (d : Dev) (n : Nat) : Dev := (d.touchTaken n).setLease (lsHelper n) ⟨hoTRAIN, rkINTEGRITY, d.time⟩

/-- A touch with the lease tests the impedance or one quantity of one lane, but where firmware wrote the tap meanwhile (log 62). -/
def Dev.touchTested (d : Dev) (n : Nat) (o : TouchObs) : Dev :=
  let b := d.touchLeased n
  let k := (d.shaft n).touchAt
  if k = 36 then b.impTouch n o
  else if o.hit = true ∧ (d.shaft n).tapHit = true then
    (b.touchShow n (k / 4) (k % 4) 0 0).bumpSat Reg.SHAFT_RETRAIN_STATUS_SKIPPED n
  else b.laneTouch n (k / 4) (k % 4) o

section
variable {d : Dev} {n : Nat} (o : TouchObs)

theorem Dev.touch_of_noRoom (h : ¬ d.touchRoom n = true) : d.touch n o = d :=
  if_pos (by simpa using h)

variable (h : d.touchRoom n = true)
include h

theorem Dev.touch_of_held (hl : d.leaseHeld (lsHelper n) = true) :
    d.touch n o =
      (((((d.touchTaken n).bump Reg.LEASES_CNT_BUSY_VALUE).bumpSat Reg.SHAFT_RETRAIN_STATUS_SKIPPED n).setF
        Reg.SHAFT_RETRAIN_STATUS_REASON 6 n).record (shaftPage n) codeOTHER sevWARNING [6]).touchNext n := by
  have hask := Dev.askLease_of_held (d := d.touchTaken n) hoTRAIN rkINTEGRITY hl
  rw [Dev.touchTaken] at hask
  unfold Dev.touch
  rw [if_neg (by simp [h]), hask]
  rfl

theorem Dev.touch_of_free (hl : d.leaseHeld (lsHelper n) = false) :
    d.touch n o = ((d.touchTested n o).dropLease (lsHelper n) hoTRAIN).touchNext n := by
  have hask := Dev.askLease_of_free (d := d.touchTaken n) hoTRAIN rkINTEGRITY hl
  rw [Dev.touchTaken] at hask
  unfold Dev.touch
  rw [if_neg (by simp [h]), hask]
  simp only [beq_iff_eq, Bool.and_eq_true]
  rfl

end

/-! ### GAP_WAIT_EXPIRY (R202) -/

theorem exec_gapWaitExpiry (n : Fin 48) (s : State) : exec (.gapWaitExpiry n) s = .next (s.put (s.dev.gapWait n)) := (rfl)

theorem Dev.gapWait_eq (d : Dev) (n : Nat) :
    d.gapWait n =
      if (d.shaft n).roundOn = true ∧ d.roundsOn n = true then d.modShaft n (fun q => { q with subst := true }) else d :=
  ite_congr (by simp) (fun _ => rfl) (fun _ => rfl)

/-- Settles O48: the end of a step is judged in the order of R200; a round, a touch and a substitution ask for their occasion first. -/
theorem trainingAndRetraining : Obligations.TrainingAndRetraining := by
  intro s n
  simp only [exec_trainStepEnd, exec_helperRunEnd, exec_retrainRound, exec_touch, exec_gapWaitExpiry]
  refine ⟨fun o => ⟨fun h => State.next_congr (Dev.trainStep_of_none o h), fun run hrun => ?train⟩,
    fun fail errors => ⟨fun h => State.next_congr (Dev.helperEnd_of_none fail errors h),
      fun run h => State.next_congr (Dev.helperEnd_of_run fail errors h)⟩,
    fun hst hen => State.next_congr (Dev.roundDue_of_failed hst hen),
    fun hen => State.next_congr (Dev.roundDue_of_idle (.inr hen) (.inl (Dev.roundsOn_of_disabled hen))),
    fun hst hon hr => State.next_congr ((Dev.roundDue_of_allowed (.inl hst)).trans (if_pos ⟨hon, hr⟩)),
    fun hst hr => State.next_congr (Dev.roundDue_of_idle (.inl hst) hr),
    fun o => ?touch, State.next_congr (Dev.gapWait_eq _ _)⟩
  case train =>
    have rejected {why lane : Nat} (h : s.dev.trainStep n o = s.dev.trainReject n why lane) :=
      State.next_congr (s := s) (h.trans (Dev.trainReject_eq ..))
    refine ⟨fun ht => rejected (Dev.trainStep_of_tempMoved hrun ht), fun ht ha hs => rejected (Dev.trainStep_of_alertTwice hrun ht ha hs),
      fun ht hch => ?_⟩
    have step := Dev.trainStep_of_undisturbed hrun ht hch
    refine ⟨fun hw => rejected (step.trans (if_pos hw)), fun hw => ?_⟩
    have applied := step.trans (if_neg (Bool.eq_false_iff.mp hw))
    refine ⟨fun hall hs => State.next_congr (applied.trans (if_pos ⟨hall, hs⟩)), fun hend => State.next_congr (applied.trans (if_neg ?_))⟩
    rcases hend with h | h <;> simp [h]
  case touch =>
    rw [← Dev.touchRoom_iff]
    refine ⟨fun h => State.next_congr (Dev.touch_of_noRoom o h), fun h hl => State.next_congr (Dev.touch_of_held o h hl), fun h hl => ?_⟩
    rw [Dev.touch_of_free o h hl, Dev.touchTested]
    refine ⟨fun hk => ?_, fun hk hhit htap => ?_, fun hk hhit => ?_⟩
    · rw [if_pos hk]
      rfl
    · rw [if_neg hk, if_pos ⟨hhit, htap⟩]
      rfl
    · rw [if_neg hk, if_neg (by rcases hhit with h | h <;> simp [h])]
      rfl

end Sys2Proof.Machine

/-!
PROOFS. The word of a stored step and its fields (R219), and the cycle in which an engine issues its step (R215, R261).
-/
namespace Sys2Proof.Machine

/-! ### The word of a stored step (R219) -/

theorem toNat_append_eq_add {m n : Nat} (x : BitVec m) (y : BitVec n) : (x ++ y).toNat = x.toNat * 2 ^ n + y.toNat := by
  rw [BitVec.toNat_append, ← Nat.shiftLeft_add_eq_or_of_lt y.isLt, Nat.shiftLeft_eq]

/-- The word of a step as a number: each field at its place. -/
theorem stepWord_toNat (op : BitVec 8) (f : StepF) :
    (stepWord op f).toNat =
      op.toNat * 2 ^ 120 + f.typ.toNat * 2 ^ 116 + f.dst.toNat * 2 ^ 111 + f.srcA.toNat * 2 ^ 106 + f.srcB.toNat * 2 ^ 101 +
        f.srcC.toNat * 2 ^ 96 + f.mask.toNat * 2 ^ 93 + f.inv.toNat * 2 ^ 92 + f.cond.toNat * 2 ^ 88 + f.ext.toNat * 2 ^ 64 +
        f.imm.toNat := by
  rw [stepWord]
  change BitVec.toNat (w := 8 + 4 + 5 + 5 + 5 + 5 + 3 + 1 + 4 + 24 + 64) _ = _
  simp only [toNat_append_eq_add, BitVec.toNat_ofBool]
  omega

/-- A slice of a word is the field whose number it has. -/
theorem ofNat_eq_of_eq_toNat {w k : Nat} {x : BitVec w} (h : k = x.toNat) : BitVec.ofNat w k = x := by
  rw [h, BitVec.ofNat_toNat, BitVec.setWidth_eq]

theorem beq_one_eq_of_eq_toNat {k : Nat} {b : Bool} (h : k = b.toNat) : (k == 1) = b := by
  cases b <;> simp [h]

theorem beq_one_toNat {k : Nat} (h : k < 2) : (k == 1).toNat = k := by
  obtain rfl | rfl : k = 0 ∨ k = 1 := by omega
  · rfl
  · rfl

theorem fieldsOf_stepWord (op : BitVec 8) (f : StepF) : fieldsOf (stepWord op f) = f := by
  have hinv := Bool.toNat_lt f.inv
  have hword := stepWord_toNat op f
  obtain ⟨typ, dst, srcA, srcB, srcC, mask, inv, cond, ext, imm⟩ := f
  dsimp only at hinv hword
  simp only [fieldsOf, hword, StepF.mk.injEq]
  refine ⟨ofNat_eq_of_eq_toNat ?_, ofNat_eq_of_eq_toNat ?_, ofNat_eq_of_eq_toNat ?_, ofNat_eq_of_eq_toNat ?_, ofNat_eq_of_eq_toNat ?_,
    ofNat_eq_of_eq_toNat ?_, beq_one_eq_of_eq_toNat ?_, ofNat_eq_of_eq_toNat ?_, ofNat_eq_of_eq_toNat ?_, ofNat_eq_of_eq_toNat ?_⟩ <;>
    omega

theorem stepWord_toNat_op (op : BitVec 8) (f : StepF) : (stepWord op f).toNat / 2 ^ 120 = op.toNat := by
  have hinv := Bool.toNat_lt f.inv
  rw [stepWord_toNat]
  omega

theorem fieldsOf_inv_toNat (x : BitVec 128) : (fieldsOf x).inv.toNat = x.toNat / 2 ^ 92 % 2 ^ 1 :=
  beq_one_toNat (Nat.mod_lt _ Nat.two_pos)

/-- A slice on top of the bits below it. -/
theorem slice_add_mod (k : Nat) {lo w hi : Nat} (h : hi = lo + w) : k / 2 ^ lo % 2 ^ w * 2 ^ lo + k % 2 ^ lo = k % 2 ^ hi := by
  rw [h, Nat.pow_add, Nat.mod_mul, Nat.mul_comm, Nat.add_comm]

/-- A word is made of the slices that its fields are: from the lowest field up, each lies on top of those below it. -/
theorem stepWord_fieldsOf (x : BitVec 128) : stepWord (BitVec.ofNat 8 (x.toNat / 2 ^ 120)) (fieldsOf x) = x := by
  refine BitVec.eq_of_toNat_eq ?_
  rw [stepWord_toNat, fieldsOf_inv_toNat]
  simp only [fieldsOf, BitVec.toNat_ofNat, Nat.mod_mod, Nat.add_assoc, Nat.pow_zero, Nat.div_one, -Nat.reducePow]
  rw [slice_add_mod _ (hi := 88) rfl, slice_add_mod _ (hi := 92) rfl, slice_add_mod _ (hi := 93) rfl, slice_add_mod _ (hi := 96) rfl,
    slice_add_mod _ (hi := 101) rfl, slice_add_mod _ (hi := 106) rfl, slice_add_mod _ (hi := 111) rfl, slice_add_mod _ (hi := 116) rfl,
    slice_add_mod _ (hi := 120) rfl, slice_add_mod _ (hi := 128) rfl, Nat.mod_eq_of_lt x.isLt]

/-- Settles O36: the fields lie side by side in the word and fill it. -/
theorem stepWordsDecodeToTheirFields : Obligations.StepWordsDecodeToTheirFields :=
  ⟨fun op f => ⟨fieldsOf_stepWord op f, stepWord_toNat_op op f⟩, stepWord_fieldsOf⟩

/-! ### A cycle in which the engine issues (R215) -/

theorem Dev.engCycle_of_issues {d : Dev} {n : Nat} {r : Run} (h : d.issues n r) (issue : Run → Dev → Dev) :
    d.engCycle n issue = issue r (d.cycled n) := by
  obtain ⟨hclk, hrun, hend, hfrozen, hhalted, hwait, hthr, hfence, hbp, hpc⟩ := h
  have hheld : ¬ d.heldBack n r := by
    rcases hhalted with h | h <;> simp [hend, hfrozen, h]
  have hskip : ¬ d.skips n r := by
    rcases hthr with h | h <;> simp [h]
  have hmeets : ¬ d.meetsBp n r := by
    rcases hbp with h | h | h | h <;> simp [h]
  rw [Dev.engCycle_of_run d n issue r hrun hclk, if_neg hheld, if_neg (not_not_intro hwait), if_neg hskip, if_neg (by simp [hfence]),
    if_neg hmeets, if_neg (Nat.not_le_of_lt hpc)]

theorem exec_of_issues {i : Instr} {s : State} {n : Fin 48} {o : EOp} {f : StepF} {r : Run} (hrow : stepRow i = some (n, o, f))
    (h : s.dev.issues n r) : exec i s = .next (s.put ((s.dev.cycled n).runStep n r o f)) := by
  rw [exec_of_stepRow hrow, Dev.opIssue, Dev.engCycle_of_issues h]

/-- Settles O24: the cycle of a row hands its step to the engine. -/
theorem engineRowsIssueTheirStep : Obligations.EngineRowsIssueTheirStep := fun _ _ _ _ _ _ hrow h => exec_of_issues hrow h

/-- Counting the cycle changes an engine in its running job only. -/
@[simp] theorem Dev.eng_cycled (d : Dev) (n : Nat) :
    (d.cycled n).eng n = (d.eng n).modRun (fun q => { q with cycles := q.cycles + 1, fence := 0 }) := by
  rw [Dev.cycled_eq, Dev.modRun, Dev.eng_modEng_same, Dev.eng_counted]
  simp only [EngSt.modRun, Option.map_map]
  rfl

/-- Settles O37: the word at PC decodes to the operation and the fields of the row, and a word that fails its parity is not decoded. -/
theorem storedStepRunsAsItsRow : Obligations.StoredStepRunsAsItsRow := by
  intro i s n o f r op hrow hop h hfetch
  have hword : ((s.dev.cycled n).eng n).fetch r = stepWord op f := by
    rw [Dev.eng_cycled]
    exact hfetch
  have hstored (parity : Bool) : exec (.stepIssue n parity) s = .next (s.put ((s.dev.cycled n).issueStored n parity r)) := by
    rw [exec_stepIssue, Dev.stepIssue, Dev.engCycle_of_issues h]
  rw [hstored, hstored, exec_of_issues hrow h]
  refine ⟨State.next_congr ?_, rfl⟩
  simp only [Dev.issueStored, hword, fieldsOf_stepWord, stepWord_toNat_op, hop, Bool.not_true, Bool.false_eq_true, if_false]

end Sys2Proof.Machine

/-!
PROOFS. What a step that an engine issues does: the checks it meets, and each kind of result (R215, R220, R223, R235, R236).
-/
namespace Sys2Proof.Machine

/-! ### The checks of a step (R215, R220, R235) -/

/-- The element type of a step: TYPE where the operation takes it, and 64-bit words for an operation that does not use TYPE. -/
def EOp.typeOf (o : EOp) (f : StepF) : Option Ty :=
  match o.types with
  | some l => if l.contains f.typ.toNat then tyOf f.typ.toNat else none
  | none => some ⟨8, .sint⟩

theorem EOp.typeOf_eq_none {o : EOp} {f : StepF} {l : List Nat} (hl : o.types = some l)
    (h : l.contains f.typ.toNat = false ∨ tyOf f.typ.toNat = none) : o.typeOf f = none := by
  unfold EOp.typeOf
  rw [hl]
  rcases h with h | h
  · exact if_neg (by rw [h]; exact Bool.false_ne_true)
  · simp [h]

theorem EngSt.accepts_iff {g : EngSt} {o : EOp} {f : StepF} {t : Ty} :
    g.accepts o f t ↔ (o.uses f).legal = true ∧ o.typeOf f = some t ∧ g.waitsFor (o.uses f) = false ∧
      (o.uses f).addr.any (fun i => g.spr i) = false := Iff.rfl

/-- What a step has found takes effect: its registers, its accesses or its place in the program, a stall, or a fault. -/
def Dev.stepTaken (s : Dev) (n : Nat) (r : Run) : StepR × Nat → Dev
  | (.fault code addr detail, _) => (s.engFault n code addr r.pc detail).engShow n
  | (.stall, _) => (s.stepStall n).engPump n
  | (.regs g used, met) =>
    if used && r.job.poison == 0 then ((s.notePoison n met).engFault n 11 0 r.pc none).engShow n
    else (((s.modEng n (fun _ => g)).notePoison n met).stepDone n .next).engShow n
  | (.mem d used, _) => if used && r.job.poison == 0 then (s.engFault n 11 0 r.pc none).engShow n else (d.stepDone n .next).engShow n
  | (.seq d go, _) => (d.stepDone n go).engShow n

/-- A step in the order of its checks. -/
theorem Dev.runStep_eq (s : Dev) (n : Nat) (r : Run) (o : EOp) (f : StepF) :
    s.runStep n r o f =
      if (o.uses f).legal = false then (s.engFault n 1 0 r.pc none).engShow n
      else match o.typeOf f with
      | none => (s.engFault n 2 0 r.pc none).engShow n
      | some t =>
        if (s.eng n).waitsFor (o.uses f) = true then s.stepStall n
        else if (o.uses f).addr.any (fun i => (s.eng n).spr i) = true then (s.engFault n 12 0 r.pc none).engShow n
        else s.stepTaken n r (s.stepOf n r o f t) := by
  unfold Dev.runStep
  change (if (!(o.uses f).legal) = true then _ else match o.typeOf f with
    | none => _
    | some t => _) = _
  simp only [Bool.not_eq_true']
  split
  · rfl
  cases o.typeOf f with
  | none => rfl
  | some t =>
    dsimp only
    split
    · rfl
    split
    · rfl
    obtain ⟨res, met⟩ := s.stepOf n r o f t
    cases res <;> rfl

section
variable {s : Dev} {n : Nat} {r : Run} {o : EOp} {f : StepF} {t : Ty}

theorem Dev.runStep_of_illegal (h : (o.uses f).legal = false) : s.runStep n r o f = (s.engFault n 1 0 r.pc none).engShow n := by
  rw [Dev.runStep_eq, if_pos h]

theorem Dev.runStep_of_badType (hl : (o.uses f).legal = true) (h : o.typeOf f = none) :
    s.runStep n r o f = (s.engFault n 2 0 r.pc none).engShow n := by
  rw [Dev.runStep_eq, if_neg (by simp [hl]), h]

theorem Dev.runStep_of_badAddr (hl : (o.uses f).legal = true) (ht : o.typeOf f = some t) (hw : (s.eng n).waitsFor (o.uses f) = false)
    (h : (o.uses f).addr.any (fun i => (s.eng n).spr i) = true) : s.runStep n r o f = (s.engFault n 12 0 r.pc none).engShow n := by
  rw [Dev.runStep_eq, if_neg (by simp [hl]), ht]
  dsimp only
  rw [if_neg (by simp [hw]), if_pos h]

theorem Dev.runStep_of_accepts (h : (s.eng n).accepts o f t) : s.runStep n r o f = s.stepTaken n r (s.stepOf n r o f t) := by
  obtain ⟨hl, ht, hw, ha⟩ := EngSt.accepts_iff.mp h
  rw [Dev.runStep_eq, if_neg (by simp [hl]), ht]
  dsimp only
  rw [if_neg (by simp [hw]), if_neg (by simp [ha])]

end

/-! ### What a running job's registers hold in the cycle -/

section
variable (g : EngSt) (h : Run → Run)

@[simp] theorem EngSt.modRun_accepts (o : EOp) (f : StepF) (t : Ty) : (g.modRun h).accepts o f t ↔ g.accepts o f t := Iff.rfl
@[simp] theorem EngSt.modRun_waitsFor (u : Uses) : (g.modRun h).waitsFor u = g.waitsFor u := (rfl)
@[simp] theorem EngSt.modRun_mr (i : Nat) : (g.modRun h).mr i = g.mr i := (rfl)
@[simp] theorem EngSt.modRun_sr (i : Nat) : (g.modRun h).sr i = g.sr i := (rfl)
@[simp] theorem EngSt.modRun_spr (i : Nat) : (g.modRun h).spr i = g.spr i := (rfl)
@[simp] theorem EngSt.modRun_cond (c : Nat) : (g.modRun h).cond c = g.cond c := (rfl)

end

/-! ### The outcome of a row whose step is accepted (R235, R236) -/

section
variable {i : Instr} {s : State} {n : Fin 48} {o : EOp} {f : StepF} {r : Run} {t : Ty}

theorem exec_of_accepts (hrow : stepRow i = some (n, o, f)) (h : s.dev.issues n r) (ha : (s.dev.eng n).accepts o f t) :
    exec i s = .next (s.put ((s.dev.cycled n).stepTaken n r ((s.dev.cycled n).stepOf n r o f t))) := by
  rw [exec_of_issues hrow h, Dev.runStep_of_accepts (t := t)]
  rwa [Dev.eng_cycled, EngSt.modRun_accepts]

end

section
variable {s : Dev} {n : Nat} {r : Run} {g : EngSt} {d : Dev} {used : Bool} {met : Nat}

theorem strict_eq_false (h : used = true → r.job.poison ≠ 0) : (used && r.job.poison == 0) = false := by
  cases used with
  | false => rfl
  | true => simpa using h rfl

theorem Dev.stepTaken_regs (h : used = true → r.job.poison ≠ 0) :
    s.stepTaken n r (.regs g used, met) = (((s.modEng n (fun _ => g)).notePoison n met).stepDone n .next).engShow n := by
  simp only [Dev.stepTaken, strict_eq_false h, Bool.false_eq_true, if_false]

theorem Dev.stepTaken_mem (h : used = true → r.job.poison ≠ 0) :
    s.stepTaken n r (.mem d used, met) = (d.stepDone n .next).engShow n := by
  simp only [Dev.stepTaken, strict_eq_false h, Bool.false_eq_true, if_false]

theorem Dev.stepTaken_regs_strict (h : r.job.poison = 0) :
    s.stepTaken n r (.regs g true, met) = ((s.notePoison n met).engFault n 11 0 r.pc none).engShow n := by
  simp [Dev.stepTaken, h]

theorem Dev.stepTaken_mem_strict (h : r.job.poison = 0) :
    s.stepTaken n r (.mem d true, met) = (s.engFault n 11 0 r.pc none).engShow n := by
  simp [Dev.stepTaken, h]

end

/-- A step whose result depends on a condition. -/
theorem exec_stepTaken_ite {s : State} {d : Dev} {n : Nat} {r : Run} (c : Prop) [Decidable c] (x y : StepR) (met : Nat) :
    (Host.Outcome.next (s.put (d.stepTaken n r (if c then x else y, met))) : Host.Outcome State Fault Refusal) =
      if c then .next (s.put (d.stepTaken n r (x, met))) else .next (s.put (d.stepTaken n r (y, met))) := by
  split <;> rfl

/-- Settles O25: a step that is accepted takes the effect of its result. -/
theorem engineStepsComplete : Obligations.EngineStepsComplete := by
  intro i s n o f r t hrow h ha
  rw [exec_of_accepts hrow h ha]
  refine ⟨fun g met used hr hp => ?_, fun d met used hr hp => ?_, fun d met go hr => ?_, fun g met hr hp => ?_, fun d met hr hp => ?_,
    fun code addr detail met hr => ?_, fun met hr => ?_⟩ <;> refine State.next_congr ?_ <;> rw [hr]
  · exact Dev.stepTaken_regs hp
  · exact Dev.stepTaken_mem hp
  · rfl
  · exact Dev.stepTaken_regs_strict hp
  · exact Dev.stepTaken_mem_strict hp
  · rfl
  · rfl

theorem exec_eIllegalOp (n : Fin 48) (op : BitVec 8) (f : StepF) (s : State) :
    exec (.eIllegalOp n op f) s = .next (s.put (s.dev.badOp n op.toNat f)) := (rfl)

/-- Settles O34: the checks of a step come in this order, and the first that it fails gives the fault. -/
theorem engineFaultsOnIllegalSteps : Obligations.EngineFaultsOnIllegalSteps := by
  intro s n f r h
  refine ⟨fun op hop => ?_, fun i o hrow => ⟨fun hl => ?_, fun hl ⟨l, htypes, hbad⟩ => ?_, fun t hl ht hw hp => ?_⟩⟩
  · rw [exec_eIllegalOp, Dev.badOp, Dev.engCycle_of_issues h]
    simp only [hop]
  · rw [exec_of_issues hrow h, Dev.runStep_of_illegal hl]
  · rw [exec_of_issues hrow h, Dev.runStep_of_badType hl (EOp.typeOf_eq_none htypes hbad)]
  · rw [exec_of_issues hrow h, Dev.runStep_of_badAddr hl ht (by simpa using hw) (by simpa using hp)]

end Sys2Proof.Machine

/-!
PROOFS. The steps on scalars and masks, and those of the sequencer (R214, R222 to R225, R234 to R236).
-/
namespace Sys2Proof.Machine

/-! ### Steps that write registers -/

@[simp] theorem Dev.notePoison_zero (d : Dev) (n : Nat) : d.notePoison n 0 = d := (rfl)

section
variable {i : Instr} {s : State} {n : Fin 48} {o : EOp} {f : StepF} {r : Run} {t : Ty} {w : EngSt → EngSt} {used : Bool}

/-- A step that changes the registers of its engine by `w`, meets no poison, and uses a poisoned byte only where the job allows it. -/
theorem exec_of_regs (hrow : stepRow i = some (n, o, f)) (h : s.dev.issues n r) (ha : (s.dev.eng n).accepts o f t)
    (hp : used = true → r.job.poison ≠ 0)
    (hstep : (s.dev.cycled n).stepOf n r o f t = (.regs (w ((s.dev.cycled n).eng n)) used, 0)) :
    exec i s = .next (s.put ((((s.dev.cycled n).modEng n w).stepDone n .next).engShow n)) := by
  rw [exec_of_accepts hrow h ha, hstep, Dev.stepTaken_regs hp, Dev.notePoison_zero]
  rfl

/-- A step that moves the sequencer. -/
theorem exec_of_seq {d : Dev} {go : Seq} {met : Nat} (hrow : stepRow i = some (n, o, f)) (h : s.dev.issues n r)
    (ha : (s.dev.eng n).accepts o f t) (hstep : (s.dev.cycled n).stepOf n r o f t = (.seq d go, met)) :
    exec i s = .next (s.put ((d.stepDone n go).engShow n)) := by
  rw [exec_of_accepts hrow h ha, hstep]
  rfl

theorem exec_of_fault {code addr met : Nat} {detail : Option Nat} (hrow : stepRow i = some (n, o, f)) (h : s.dev.issues n r)
    (ha : (s.dev.eng n).accepts o f t) (hstep : (s.dev.cycled n).stepOf n r o f t = (.fault code addr detail, met)) :
    exec i s = .next (s.put (((s.dev.cycled n).engFault n code addr r.pc detail).engShow n)) := by
  rw [exec_of_accepts hrow h ha, hstep]
  rfl

end

/-! ### Scalars and masks (R214, R222) -/

section
variable (s : Dev) (n : Nat) (r : Run) (f : StepF) (t : Ty)

theorem Dev.stepOf_salu {q : SOp} (h : ((EOp.salu q).uses f).ss.any (fun i => (s.eng n).spr i) = false) :
    s.stepOf n r (.salu q) f t = (.regs ((s.eng n).setS f.dst.toNat (scalarOp q ((s.eng n).sr f.srcA.toNat).toNat
      (if StepFext f 4 then f.imm.toNat else ((s.eng n).sr f.srcB.toNat).toNat)) false) false, 0) := by
  simp only [Dev.stepOf, EngSt.regStep, h]

theorem Dev.stepOf_sli : s.stepOf n r .sli f t = (.regs ((s.eng n).setS f.dst.toNat f.imm.toNat false) false, 0) := (rfl)

theorem Dev.stepOf_mld (h : (EOp.mld.uses f).ss.any (fun i => (s.eng n).spr i) = false) :
    s.stepOf n r .mld f t = (.regs ((s.eng n).setM f.dst.toNat ((s.eng n).sr f.srcA.toNat)) false, 0) := by
  simp only [Dev.stepOf, EngSt.regStep, h]

theorem Dev.stepOf_mst :
    s.stepOf n r .mst f t = (.regs ((s.eng n).setS f.dst.toNat ((s.eng n).mr f.srcA.toNat).toNat false) false, 0) := (rfl)

theorem Dev.stepOf_mand :
    s.stepOf n r (.mlog .and) f t =
      (.regs ((s.eng n).setM f.dst.toNat ((s.eng n).mr f.srcA.toNat &&& (s.eng n).mr f.srcB.toNat)) false, 0) := (rfl)

theorem Dev.stepOf_mor :
    s.stepOf n r (.mlog .or) f t =
      (.regs ((s.eng n).setM f.dst.toNat ((s.eng n).mr f.srcA.toNat ||| (s.eng n).mr f.srcB.toNat)) false, 0) := (rfl)

theorem Dev.stepOf_mxor :
    s.stepOf n r (.mlog .xor) f t =
      (.regs ((s.eng n).setM f.dst.toNat ((s.eng n).mr f.srcA.toNat ^^^ (s.eng n).mr f.srcB.toNat)) false, 0) := (rfl)

theorem Dev.stepOf_mnot :
    s.stepOf n r .mnot f t = (.regs ((s.eng n).setM f.dst.toNat (fullMask ^^^ (s.eng n).mr f.srcA.toNat)) false, 0) := (rfl)

end

/-- Settles O29: the result of each of these steps is a change of one register. -/
theorem scalarAndMaskSteps : Obligations.ScalarAndMaskSteps := by
  intro i s n o f r t hrow h ha hgood
  have ends {w : EngSt → EngSt} (hstep : (s.dev.cycled n).stepOf n r o f t = (.regs (w ((s.dev.cycled n).eng n)) false, 0)) :=
    exec_of_regs hrow h ha (fun e => absurd e Bool.false_ne_true) hstep
  have hcycled : (o.uses f).ss.any (fun k => ((s.dev.cycled n).eng n).spr k) = false := by
    simpa only [Dev.eng_cycled, EngSt.modRun_spr] using hgood
  refine ⟨fun q ho => ends ?_, fun ho => ends ?_, fun ho => ends ?_, fun ho => ends ?_, fun ho => ends ?_, fun ho => ends ?_,
    fun ho => ends ?_, fun ho => ends ?_⟩ <;> subst ho
  · simp only [Dev.stepOf_salu _ _ _ _ _ hcycled, Dev.eng_cycled, EngSt.modRun_sr]
  · exact Dev.stepOf_sli _ _ _ _ _
  · simp only [Dev.stepOf_mld _ _ _ _ _ hcycled, Dev.eng_cycled, EngSt.modRun_sr]
  · simp only [Dev.stepOf_mst, Dev.eng_cycled, EngSt.modRun_mr]
  · simp only [Dev.stepOf_mand, Dev.eng_cycled, EngSt.modRun_mr]
  · simp only [Dev.stepOf_mor, Dev.eng_cycled, EngSt.modRun_mr]
  · simp only [Dev.stepOf_mxor, Dev.eng_cycled, EngSt.modRun_mr]
  · simp only [Dev.stepOf_mnot, Dev.eng_cycled, EngSt.modRun_mr]

/-! ### The sequencer (R224, R225, R234) -/

/-- A step that names no register and no TYPE is always accepted. -/
theorem EngSt.accepts_of_no_operands (g : EngSt) {o : EOp} {f : StepF} (hu : o.uses f = {}) (ht : o.types = none) :
    g.accepts o f ⟨8, .sint⟩ := by
  refine EngSt.accepts_iff.mpr ⟨by rw [hu]; rfl, by rw [EOp.typeOf, ht], ?_, by rw [hu]; rfl⟩
  rw [hu, EngSt.waitsFor, List.any_eq_false]
  intro a _
  cases a.dest <;> exact Bool.false_ne_true

section
variable {i : Instr} {s : State} {n : Fin 48} {o : EOp} {f : StepF} {r : Run}

theorem exec_of_plain_seq {d : Dev} {go : Seq} (hrow : stepRow i = some (n, o, f)) (h : s.dev.issues n r) (hu : o.uses f = {})
    (ht : o.types = none) (hstep : (s.dev.cycled n).stepOf n r o f ⟨8, .sint⟩ = (.seq d go, 0)) :
    exec i s = .next (s.put ((d.stepDone n go).engShow n)) :=
  exec_of_seq hrow h (EngSt.accepts_of_no_operands _ hu ht) hstep

theorem exec_of_plain_fault {code : Nat} {detail : Option Nat} (hrow : stepRow i = some (n, o, f)) (h : s.dev.issues n r)
    (hu : o.uses f = {}) (ht : o.types = none)
    (hstep : (s.dev.cycled n).stepOf n r o f ⟨8, .sint⟩ = (.fault code 0 detail, 0)) :
    exec i s = .next (s.put (((s.dev.cycled n).engFault n code 0 r.pc detail).engShow n)) :=
  exec_of_fault hrow h (EngSt.accepts_of_no_operands _ hu ht) hstep

end

section
variable {s : Dev} {n : Nat} {r : Run} {f : StepF} {t : Ty}

theorem Dev.stepOf_br {b : Bool} (h : (s.eng n).cond f.cond.toNat = some b) :
    s.stepOf n r .br f t = (.seq s (if b then .jump (immBits f 11 0) else .next), 0) := by
  simp only [Dev.stepOf, Dev.seqStep, h]

theorem Dev.stepOf_brk {b : Bool} (h : (s.eng n).cond f.cond.toNat = some b) :
    s.stepOf n r .brk f t = (.seq s (if b then .leave else .next), 0) := by
  simp only [Dev.stepOf, Dev.seqStep, h]

theorem Dev.stepOf_fin {b : Bool} (h : (s.eng n).cond f.cond.toNat = some b) :
    s.stepOf n r .fin f t =
      (.seq (if b then (s.flushParts n).modRun n (fun q => { q with ending := some (stDONE, 0, q.pc) }) else s) .next, 0) := by
  simp only [Dev.stepOf, Dev.seqStep, h]
  cases b <;> rfl

/-- A condition code that R224 does not list. -/
theorem Dev.stepOf_of_badCond {o : EOp} (ho : o = .br ∨ o = .brk ∨ o = .fin) (h : (s.eng n).cond f.cond.toNat = none) :
    s.stepOf n r o f t = (.fault 1 0 none, 0) := by
  rcases ho with rfl | rfl | rfl <;> simp only [Dev.stepOf, Dev.seqStep, h] <;> rfl

end

/-! ### PC while partial lines are written out (R234) -/

/-- PC of the job that an engine runs. -/
def Dev.runPc (d : Dev) (n : Nat) : Option Nat := (d.eng n).run.map (·.pc)

theorem Dev.runPc_modEng (d : Dev) (n : Nat) {w : EngSt → EngSt} (h : (w (d.eng n)).run = (d.eng n).run) :
    (d.modEng n w).runPc n = d.runPc n := by
  rw [Dev.runPc, Dev.eng_modEng_same, h, Dev.runPc]

theorem Dev.runPc_modRun (d : Dev) (n : Nat) {w : Run → Run} (h : ∀ q, (w q).pc = q.pc) : (d.modRun n w).runPc n = d.runPc n := by
  simp only [Dev.runPc, Dev.modRun, Dev.eng_modEng_same, EngSt.modRun, Option.map_map]
  exact congrArg (fun k => (d.eng n).run.map k) (funext h)

@[simp] theorem Dev.runPc_cycled (d : Dev) (n : Nat) : (d.cycled n).runPc n = d.runPc n := by
  have hcounted : (d.counted n).runPc n = d.runPc n := Dev.runPc_modRun (d.bump Reg.ENGINE_CNT_CYCLES_VALUE n) n fun _ => rfl
  rw [Dev.cycled_eq, ← hcounted]
  exact Dev.runPc_modRun (d.counted n) n fun _ => rfl

/-- A new access is counted by the job as a line read or written. -/
@[simp] theorem Dev.runPc_addAcc (d : Dev) (n : Nat) (a : Acc) : (d.addAcc n a).runPc n = d.runPc n := by
  unfold Dev.addAcc
  dsimp only
  rw [Dev.runPc_modRun _ _ (fun q => by split <;> rfl)]
  exact Dev.runPc_modEng (w := fun g => { g with acc := g.acc ++ [{ a with id := d.nextId }] }) d n rfl

@[simp] theorem Dev.runPc_flushPart (d : Dev) (n k : Nat) : (d.flushPart n k).runPc n = d.runPc n := by
  have hstrm (x : Option Strm) : (d.modEng n (fun g => g.setStrm k x)).runPc n = d.runPc n := Dev.runPc_modEng d n rfl
  unfold Dev.flushPart
  split
  · split
    · dsimp only
      split
      · exact hstrm _
      · rw [Dev.runPc_addAcc, hstrm]
    · rfl
  · rfl

@[simp] theorem Dev.runPc_flushParts (d : Dev) (n : Nat) : (d.flushParts n).runPc n = d.runPc n := by
  rw [Dev.flushParts, Dev.runPc_flushPart, Dev.runPc_flushPart]

theorem Dev.modRun_congr {d : Dev} {n : Nat} {v w : Run → Run} (h : ∀ q, (d.eng n).run = some q → v q = w q) :
    d.modRun n v = d.modRun n w := by
  have heng : (d.eng n).modRun v = (d.eng n).modRun w := by
    unfold EngSt.modRun
    rw [Option.map_congr h]
  exact congrArg (fun g => { d with engines := sset (fun _ => {}) d.engines n g }) heng

/-- END ends the job at the step that issued. -/
theorem Dev.endAtPc {d : Dev} {n pc : Nat} (h : d.runPc n = some pc) :
    d.modRun n (fun q => { q with ending := some (stDONE, 0, q.pc) }) = d.modRun n (fun q => { q with ending := some (stDONE, 0, pc) }) := by
  refine Dev.modRun_congr fun q hq => ?_
  have hpc : q.pc = pc := Option.some.inj (by rw [← h, Dev.runPc, hq]; rfl)
  rw [hpc]

theorem Dev.runPc_of_issues {d : Dev} {n : Nat} {r : Run} (h : d.issues n r) : d.runPc n = some r.pc := by
  rw [Dev.runPc, h.2.1]
  rfl

/-! ### Loops and parameters (R224, R225) -/

section
variable {s : Dev} {n : Nat} {r : Run} {f : StepF} {t : Ty}

/-- The count a LOOP loads. -/
abbrev EngSt.loopCount (g : EngSt) (f : StepF) : Nat :=
  if StepFext f 4 then (g.sr f.srcA.toNat).toNat % 2 ^ 32 else immBits f 31 0

/-- A LOOP whose body ends at `stop` faults: its counter is in use, its body is empty, or it reaches beyond the innermost body. -/
abbrev EngSt.loopFails (g : EngSt) (f : StepF) (stop : Nat) : Prop :=
  g.loopOn (extBits f 1 0) = true ∨ immBits f 43 32 = 0 ∨ ∃ l, g.loops.head? = some l ∧ l.2.2 < stop

theorem Dev.stepOf_loop :
    s.stepOf n r .loop f t =
      (if (s.eng n).loopFails f (r.pc + immBits f 43 32) then .fault 1 0 none
      else if (s.eng n).loopCount f = 0 then .seq s (.past (r.pc + immBits f 43 32))
      else .seq (s.modEng n (fun g => { g.setL (extBits f 1 0) ((s.eng n).loopCount f) with
        loops := (extBits f 1 0, r.pc + 1, r.pc + immBits f 43 32) :: g.loops })) .next, 0) := by
  simp only [Dev.stepOf, Dev.seqStep, EngSt.loopFails, EngSt.loopCount]
  cases (s.eng n).loops with
  | nil => simp only [Bool.or_false, Bool.or_eq_true, beq_iff_eq, List.head?_nil, reduceCtorEq, false_and, exists_false, or_false, rfault]
  | cons l ls =>
    simp only [Bool.or_eq_true, beq_iff_eq, decide_eq_true_eq, List.head?_cons, Option.some.injEq, exists_eq_left', or_assoc, rfault]

theorem Dev.stepOf_param (h : extBits f 2 0 < 7) :
    s.stepOf n r .param f t = (.regs ((s.eng n).setS f.dst.toNat ([r.job.params.getD 0 0, r.job.params.getD 1 0, r.job.params.getD 2 0,
      r.job.params.getD 3 0, r.job.id, n, r.job.cls].getD (extBits f 2 0) 0) false) false, 0) := by
  simp only [Dev.stepOf, Dev.seqStep]
  generalize extBits f 2 0 = x at h ⊢
  obtain rfl | rfl | rfl | rfl | rfl | rfl | rfl : x = 0 ∨ x = 1 ∨ x = 2 ∨ x = 3 ∨ x = 4 ∨ x = 5 ∨ x = 6 := by omega
  all_goals rfl

end

/-- Settles O30: none of these steps but LOOP and PARAM names a register or a TYPE, so each is accepted and takes its effect. -/
theorem sequencerSteps : Obligations.SequencerSteps := by
  intro s n f r h
  have hcond (c : Nat) : ((s.dev.cycled n).eng n).cond c = (s.dev.eng n).cond c := by rw [Dev.eng_cycled, EngSt.modRun_cond]
  have hpc : ((s.dev.cycled n).flushParts n).runPc n = some r.pc := by
    rw [Dev.runPc_flushParts, Dev.runPc_cycled, Dev.runPc_of_issues h]
  refine ⟨exec_of_plain_seq rfl h rfl rfl rfl, exec_of_plain_seq rfl h rfl rfl rfl, fun b hb => ?_, fun hb => ?_, fun t ha => ?_,
    fun t ha hx => ?_, exec_of_plain_fault rfl h rfl rfl rfl, exec_of_plain_seq rfl h rfl rfl rfl, exec_of_plain_seq rfl h rfl rfl rfl⟩
  · rw [← hcond] at hb
    refine ⟨exec_of_plain_seq rfl h rfl rfl (Dev.stepOf_br hb), exec_of_plain_seq rfl h rfl rfl (Dev.stepOf_brk hb), ?_⟩
    rw [exec_of_plain_seq rfl h rfl rfl (Dev.stepOf_fin hb), Dev.endAtPc hpc]
    cases b <;> rfl
  · rw [← hcond] at hb
    exact ⟨exec_of_plain_fault rfl h rfl rfl (Dev.stepOf_of_badCond (.inl rfl) hb),
      exec_of_plain_fault rfl h rfl rfl (Dev.stepOf_of_badCond (.inr (.inl rfl)) hb),
      exec_of_plain_fault rfl h rfl rfl (Dev.stepOf_of_badCond (.inr (.inr rfl)) hb)⟩
  · rw [exec_of_accepts rfl h ha, Dev.stepOf_loop, Dev.eng_cycled]
    rw [exec_stepTaken_ite, exec_stepTaken_ite]
    rfl
  · exact exec_of_regs rfl h ha (fun e => absurd e Bool.false_ne_true) (Dev.stepOf_param hx)

end Sys2Proof.Machine

/-!
PROOFS. The steps of an engine that send one access, and the answers to its accesses (R216, R223, R228, R232, R233, R236, R237).
-/
namespace Sys2Proof.Machine

/-! ### Atomics, hints and flushes (R232, R233) -/

section
variable (s : Dev) (n : Nat) (r : Run) (f : StepF) (t : Ty)

/-- The host address of a scalar atomic: S[SRCA] plus the signed 32-bit offset. -/
abbrev EngSt.atomAddr (g : EngSt) (f : StepF) : Nat := g.base f (ofSigned 64 (toSigned 32 (immBits f 31 0)))

/-- A scalar is a 64-bit address. -/
theorem EngSt.base_zero (g : EngSt) : g.base f 0 = (g.sr f.srcA.toNat).toNat := by
  rw [EngSt.base, Nat.add_zero, Nat.mod_eq_of_lt (g.sr f.srcA.toNat).isLt]

theorem Dev.stepOf_atom (aop : Nat) (hb : (s.eng n).spr f.srcB.toNat = false) (hc : (s.eng n).spr f.srcC.toNat = false) :
    s.stepOf n r (.atom aop) f t =
      (if 2 ^ 45 ≤ (s.eng n).atomAddr f then .fault 8 ((s.eng n).atomAddr f % 2 ^ 45) none
      else if (s.eng n).atomAddr f % 8 ≠ 0 then .fault 6 ((s.eng n).atomAddr f) none
      else .mem (s.addAcc n ⟨0, .scalar f.dst.toNat, .atom aop, (s.eng n).atomAddr f / 64, 0, 0, 0, (s.eng n).sr f.srcB.toNat,
        (s.eng n).sr f.srcC.toNat, (s.eng n).atomAddr f % 64 / 8, false, false, r.pc, (s.eng n).atomAddr f⟩) false, 0) := by
  simp only [Dev.stepOf, Dev.hostStep, hb, hc, bne_iff_ne, rfault, mkAcc, EngSt.atomAddr, Bool.or_self, Bool.false_eq_true, if_false]

theorem Dev.stepOf_hint (kind : Nat) :
    s.stepOf n r (.hint kind) f t =
      (if 2 ^ 45 ≤ ((s.eng n).sr f.srcA.toNat).toNat then .fault 8 (((s.eng n).sr f.srcA.toNat).toNat % 2 ^ 45) none
      else .mem (s.addAcc n ⟨0, .none, .hint kind (immBits f 5 0 + 1) (immBits f 13 8), ((s.eng n).sr f.srcA.toNat).toNat / 64, 0, 0, 0, 0, 0,
        ((s.eng n).sr f.srcA.toNat).toNat % 64 / 8, false, false, r.pc, ((s.eng n).sr f.srcA.toNat).toNat⟩) false, 0) := by
  simp only [Dev.stepOf, Dev.hostStep, rfault, mkAcc, EngSt.base_zero]

theorem Dev.stepOf_flush (frame : Bool) :
    s.stepOf n r (.flush frame) f t =
      (if 2 ^ 45 ≤ ((s.eng n).sr f.srcA.toNat).toNat then .fault 8 (((s.eng n).sr f.srcA.toNat).toNat % 2 ^ 45) none
      else .mem (s.addAcc n ⟨0, .none, .flush frame, ((s.eng n).sr f.srcA.toNat).toNat / 64, 0, 0, 0, 0, 0,
        ((s.eng n).sr f.srcA.toNat).toNat % 64 / 8, false, false, r.pc, ((s.eng n).sr f.srcA.toNat).toNat⟩) false, 0) := by
  simp only [Dev.stepOf, Dev.hostStep, rfault, mkAcc, EngSt.base_zero]

end

/-- Settles O31: the address decides between the faults and the access. -/
theorem engineMemoryStepsAccess : Obligations.EngineMemoryStepsAccess := by
  intro i s n o f r t hrow h ha hgood
  rw [exec_of_accepts hrow h ha]
  refine ⟨fun aop ho => ?_, fun kind ho => ?_, fun frame ho => ?_⟩ <;> subst ho
  · obtain ⟨-, hb, hc⟩ : (s.dev.eng n).spr f.srcA.toNat = false ∧ (s.dev.eng n).spr f.srcB.toNat = false ∧
        (s.dev.eng n).spr f.srcC.toNat = false := by simpa [EOp.uses] using hgood
    rw [Dev.stepOf_atom, Dev.eng_cycled, exec_stepTaken_ite, exec_stepTaken_ite]
    · rfl
    · simpa using hb
    · simpa using hc
  · rw [Dev.stepOf_hint, Dev.eng_cycled, EngSt.modRun_sr, exec_stepTaken_ite]
    rfl
  · rw [Dev.stepOf_flush, Dev.eng_cycled, EngSt.modRun_sr, exec_stepTaken_ite]
    rfl

/-! ### Answers, retries and points (R216, R228, R237) -/

theorem exec_streamLineArrival (n : Fin 48) (s : State) : exec (.streamLineArrival n) s = .next (s.put (s.dev.engArrival n)) := (rfl)
theorem exec_engineRetryExpiry (n : Fin 48) (s : State) : exec (.engineRetryExpiry n) s = .next (s.put (s.dev.engRetry n)) := (rfl)
theorem exec_engineFreqChange (n : Fin 48) (s : State) : exec (.engineFreqChange n) s = .next (s.put (s.dev.engFreq n)) := (rfl)

/-- Is this an origin of an access of engine `n`? -/
def Origin.ofEngine (n : Nat) : Origin → Bool
  | .engine m _ => m == n
  | _ => false

/-- The oldest answer to an access of the engine reaches an access that waits for it. -/
theorem Dev.engArrival_of_waiting {d : Dev} {n slot : Nat} {res : Result} {a : Acc}
    (hans : d.answers.find? (fun x => x.1.ofEngine n) = some (.engine n slot, res))
    (hacc : (d.eng n).acc.find? (fun y => y.id == slot) = some a) :
    d.engArrival n =
      ((({ d with answers := dropFirst (fun x => x.1 == Origin.engine n slot) d.answers } : Dev).engAnswer n a res).engPump n).tryEnd n := by
  unfold Dev.engArrival
  change (match d.answers.find? (fun x => x.1.ofEngine n) with
    | none => d
    | some (org, res) => _) = _
  rw [hans]
  dsimp only
  change (match (d.eng n).acc.find? (fun y => y.id == slot) with
    | none => _
    | some a => _) = _
  rw [hacc]

/-- Settles O38: the access that the answer names is there, and the other two commands always take effect. -/
theorem engineArrivalsAndPoints : Obligations.EngineArrivalsAndPoints := by
  intro s n
  refine ⟨fun slot res a hans hacc => ?_, exec_engineRetryExpiry n s, exec_engineFreqChange n s⟩
  rw [exec_streamLineArrival, Dev.engArrival_of_waiting _ hacc]
  rw [← hans]
  rfl

end Sys2Proof.Machine

/-!
PROOFS. The steps that work lane by lane: the lanes of a vector destination, and the mask and flags of a compare (R217, R221 to R223, R235).
-/
namespace Sys2Proof.Machine

/-! ### A register made of its elements -/

/-- The number with the digits `f 0` to `f (k - 1)` in base `b`, the first digit lowest. -/
def numOf (b : Nat) (f : Nat → Nat) : Nat → Nat
  | 0 => 0
  | k + 1 => numOf b f k + b ^ k * f k

theorem numOf_congr {b k : Nat} {f g : Nat → Nat} (h : ∀ j < k, f j = g j) : numOf b f k = numOf b g k := by
  induction k with
  | zero => rfl
  | succ k ih => rw [numOf, numOf, ih fun j hj => h j (Nat.lt_succ_of_lt hj), h k (Nat.lt_succ_self k)]

theorem numOf_lt {b : Nat} {f : Nat → Nat} (hf : ∀ i, f i < b) (k : Nat) : numOf b f k < b ^ k := by
  induction k with
  | zero => exact Nat.one_pos
  | succ k ih =>
    have hdigit : b ^ k * (f k + 1) ≤ b ^ k * b := Nat.mul_le_mul_left _ (hf k)
    rw [Nat.mul_succ] at hdigit
    rw [numOf, Nat.pow_succ]
    omega

/-- The digit at place `j`. -/
theorem numOf_div_mod {b k j : Nat} {f : Nat → Nat} (hf : ∀ i, f i < b) (hj : j < k) : numOf b f k / b ^ j % b = f j := by
  have hb : 0 < b := Nat.zero_lt_of_lt (hf 0)
  induction k with
  | zero => exact absurd hj (Nat.not_lt_zero j)
  | succ k ih =>
    rw [numOf]
    rcases Nat.lt_succ_iff_lt_or_eq.mp hj with hlt | rfl
    · have hpow : b ^ k * f k = b ^ j * (b * (b ^ (k - (j + 1)) * f k)) := by
        rw [← Nat.mul_assoc, ← Nat.mul_assoc, ← Nat.pow_succ, ← Nat.pow_add, Nat.add_sub_cancel' hlt]
      rw [hpow, Nat.add_mul_div_left _ _ (Nat.pow_pos hb), Nat.add_mul_mod_self_left, ih hlt]
    · rw [Nat.add_mul_div_left _ _ (Nat.pow_pos hb), Nat.div_eq_of_lt (numOf_lt hf j), Nat.zero_add, Nat.mod_eq_of_lt (hf j)]

/-- The lowest digits of a number make it modulo the power of the base. -/
theorem numOf_slices (b x k : Nat) : numOf b (fun j => x / b ^ j % b) k = x % b ^ k := by
  induction k with
  | zero => rw [Nat.pow_zero, Nat.mod_one, numOf]
  | succ k ih => rw [numOf, ih, Nat.mod_pow_succ]

/-- Digits put together from the highest down, on top of `c`. -/
theorem foldr_digits (b k c : Nat) (f : Nat → Nat) :
    (List.range k).foldr (fun i n => n * b + f i) c = c * b ^ k + numOf b f k := by
  induction k generalizing c with
  | zero => rw [Nat.pow_zero, Nat.mul_one]; rfl
  | succ k ih =>
    rw [List.range_succ, List.foldr_append, List.foldr_cons, List.foldr_nil, ih, numOf, Nat.add_mul, Nat.mul_assoc, ← Nat.pow_succ',
      Nat.mul_comm (f k), Nat.add_assoc, Nat.add_comm (b ^ k * f k)]

theorem foldr_digits_zero (b k : Nat) (f : Nat → Nat) : (List.range k).foldr (fun i n => n * b + f i) 0 = numOf b f k := by
  rw [foldr_digits, Nat.zero_mul, Nat.zero_add]

/-- A slice of a word made of `k` slices of `w` bits. -/
theorem slice_ofNat_foldr {n w k j : Nat} (f : Nat → Nat) (hk : w * k ≤ n) (hj : j < k) :
    (BitVec.ofNat n ((List.range k).foldr (fun i m => m * 2 ^ w + f i % 2 ^ w) 0)).toNat / 2 ^ (w * j) % 2 ^ w = f j % 2 ^ w := by
  have hdigit (i : Nat) : f i % 2 ^ w < 2 ^ w := Nat.mod_lt _ (Nat.two_pow_pos w)
  have hlt : numOf (2 ^ w) (fun i => f i % 2 ^ w) k < 2 ^ n := by
    refine Nat.lt_of_lt_of_le (numOf_lt hdigit k) ?_
    rw [← Nat.pow_mul]
    exact Nat.pow_le_pow_right Nat.two_pos hk
  rw [foldr_digits_zero, BitVec.toNat_ofNat, Nat.mod_eq_of_lt hlt, Nat.pow_mul, numOf_div_mod hdigit hj]

section
variable {w j : Nat} (hj : j < 64 / w) (f : Nat → Nat)
include hj

theorem pos_of_lt_div : 0 < w :=
  Nat.pos_of_ne_zero fun h => Nat.not_lt_zero j (by rwa [h, Nat.div_zero] at hj)

theorem elem_ofElems : elem w (ofElems w f) j = f j % 2 ^ (8 * w) := by
  have hk : 8 * w * (64 / w) ≤ 512 := by
    have := Nat.mul_div_le 64 w
    rw [Nat.mul_assoc]
    omega
  exact slice_ofNat_foldr f hk hj

theorem elemBits_ofBits : elemBits w (ofBits w f) j = f j % 2 ^ w :=
  slice_ofNat_foldr f (Nat.mul_div_le 64 w) hj

end

/-! ### The lanes that a step writes (R221, R235) -/

theorem elemBad_eq (w : Nat) (p : BitVec 64) (j : Nat) : elemBad w p j = decide (elemBits w p j ≠ 0) := (rfl)

theorem wholeBits_mod (w : Nat) (bad : Bool) : wholeBits w bad % 2 ^ w = wholeBits w bad := by
  refine Nat.mod_eq_of_lt ?_
  have := Nat.two_pow_pos w
  unfold wholeBits
  split <;> omega

theorem wholeBits_ne_zero {w : Nat} (hw : 0 < w) (bad : Bool) : decide (wholeBits w bad ≠ 0) = bad := by
  have hpow := Nat.one_lt_two_pow (Nat.ne_of_gt hw)
  cases bad with
  | false => rfl
  | true =>
    refine decide_eq_true ?_
    change 2 ^ w - 1 ≠ 0
    omega

section
variable (g : EngSt) (f : StepF) (w dst : Nat)

/-- A vector destination: `val` in the active lanes, and in the others what it held. -/
abbrev EngSt.lanesOf (val : Nat → Nat) : BitVec 512 := ofElems w (fun i => if g.active f i then val i else elem w (g.vr dst) i)

/-- The poison bits beside it. -/
abbrev EngSt.laneBitsOf (bits : Nat → Nat) : BitVec 64 := ofBits w (fun i => if g.active f i then bits i else elemBits w (g.vpr dst) i)

theorem EngSt.putBytes_eq (val bits : Nat → Nat) :
    g.putBytes f w dst val bits = g.setV dst (g.lanesOf f w dst val) (g.laneBitsOf f w dst bits) := (rfl)

theorem EngSt.putLanes_eq (val : Nat → Nat) (bad : Nat → Bool) :
    g.putLanes f w dst val bad = g.setV dst (g.lanesOf f w dst val) (g.laneBitsOf f w dst (fun i => wholeBits w (bad i))) := (rfl)

variable {w} {j : Nat} (hj : j < 64 / w)
include hj

theorem EngSt.elem_lanesOf (val : Nat → Nat) :
    elem w (g.lanesOf f w dst val) j = if g.active f j then val j % 2 ^ (8 * w) else elem w (g.vr dst) j := by
  rw [elem_ofElems hj]
  split
  · rfl
  · exact Nat.mod_mod _ _

theorem EngSt.elemBad_laneBitsOf (bad : Nat → Bool) :
    elemBad w (g.laneBitsOf f w dst (fun i => wholeBits w (bad i))) j = if g.active f j then bad j else elemBad w (g.vpr dst) j := by
  rw [elemBad_eq, elemBits_ofBits hj]
  split
  · rw [wholeBits_mod, wholeBits_ne_zero (pos_of_lt_div hj)]
  · rw [elemBad_eq, elemBits, Nat.mod_mod]

end

/-- No active lane that is read is poisoned, or the job lets a step use it (R235). -/
theorem EngSt.poison_ne_zero_of_badActive {g : EngSt} {f : StepF} {vs : List Nat} {w lanes poison : Nat}
    (h : poison ≠ 0 ∨ ∀ j < lanes, g.active f j = true → g.badLane vs w j = false) : g.badActive f vs w lanes = true → poison ≠ 0 := by
  intro hbad
  refine h.resolve_right fun hgood => ?_
  obtain ⟨j, hj, hlane⟩ := List.any_eq_true.mp hbad
  rw [Bool.and_eq_true] at hlane
  rw [hgood j (List.mem_range.mp hj) hlane.1] at hlane
  exact Bool.false_ne_true hlane.2

@[simp] theorem Dev.free_cycled (d : Dev) (n : Nat) : (d.cycled n).free = d.free := (rfl)

/-- The rounding mode stands in another register than the cycle counter. -/
@[simp] theorem Dev.round_cycled (d : Dev) (n : Nat) :
    (d.cycled n).fv Reg.ENGINE_FP_CTL_ROUND n = d.fv Reg.ENGINE_FP_CTL_ROUND n := by
  refine d.fv_counted _ n ?_
  simp only [Fld.addr, Reg.ENGINE_FP_CTL_ROUND, Reg.ENGINE_CNT_CYCLES_VALUE]
  omega

section
variable (s : Dev) (n : Nat) (r : Run) (f : StepF) (t : Ty)

theorem Dev.stepOf_lane (l : LOp) :
    s.stepOf n r (.lane l) f t =
      (.regs ((s.eng n).putLanes f t.w f.dst.toNat
        (fun j => t.op (s.fv Reg.ENGINE_FP_CTL_ROUND n) (s.free + j) l (elem t.w ((s.eng n).vr f.srcA.toNat) j)
          ((s.eng n).opB f t (s.fv Reg.ENGINE_FP_CTL_ROUND n) j) (elem t.w ((s.eng n).vr f.srcC.toNat) j))
        ((s.eng n).badLane ((EOp.lane l).uses f).vs t.w)) ((s.eng n).badActive f ((EOp.lane l).uses f).vs t.w t.lanes), 0) := (rfl)

end

/-- Settles O26: the destination is made of its lanes, and each lane reads back. -/
theorem laneStepsWriteActiveLanes : Obligations.LaneStepsWriteActiveLanes := by
  intro i s n l f r t hrow h ha
  dsimp only
  intro hp
  refine ⟨_, _, exec_of_regs hrow h ha (EngSt.poison_ne_zero_of_badActive hp) ?_,
    fun j hj => ⟨EngSt.elem_lanesOf (s.dev.eng n) f f.dst.toNat hj _, EngSt.elemBad_laneBitsOf (s.dev.eng n) f f.dst.toNat hj _⟩⟩
  simp only [Dev.stepOf_lane, Dev.eng_cycled, Dev.round_cycled, Dev.free_cycled]
  rfl

/-! ### Compares (R222) -/

theorem mbit_maskBits (lanes : Nat) (p : Nat → Bool) {j : Nat} (hj : j < 64) :
    mbit (maskBits lanes p) j = (decide (j < lanes) && p j) := by
  rw [mbit, bitN_eq_testBit, maskBits, BitVec.toNat_ofNat, Nat.testBit_mod_two_pow, testBit_maskOf, decide_eq_true hj, Bool.true_and]

theorem EngSt.mem_actives {g : EngSt} {f : StepF} {lanes j : Nat} : j ∈ g.actives f lanes ↔ j < lanes ∧ g.active f j = true := by
  rw [EngSt.actives, List.mem_filter, List.mem_range]

section
variable (g : EngSt) (f : StepF) (t : Ty) (mode : Nat) (q : COp)

/-- The comparison holds in a lane that is active and not poisoned. -/
abbrev EngSt.cmpHolds (j : Nat) : Bool :=
  g.active f j && !(g.badLane ((EOp.cmp q).uses f).vs t.w j) && t.cmp q (elem t.w (g.vr f.srcA.toNat) j) (g.opB f t mode j)

end

theorem Dev.stepOf_cmp (s : Dev) (n : Nat) (r : Run) (f : StepF) (t : Ty) (q : COp) :
    s.stepOf n r (.cmp q) f t =
      (let holds := (s.eng n).cmpHolds f t (s.fv Reg.ENGINE_FP_CTL_ROUND n) q
       .regs { (s.eng n).setM f.dst.toNat (maskBits t.lanes holds) with
          sfAny := ((s.eng n).actives f t.lanes).any holds, sfAll := ((s.eng n).actives f t.lanes).all holds }
        ((s.eng n).badActive f ((EOp.cmp q).uses f).vs t.w t.lanes), 0) := (rfl)

/-- Settles O28: the mask has the bits of the lanes where the comparison holds, and the flags are over the active lanes. -/
theorem compareStepsSetMaskAndFlags : Obligations.CompareStepsSetMaskAndFlags := by
  intro i s n q f r t hrow h ha
  dsimp only
  intro hp
  let holds := (s.dev.eng n).cmpHolds f t (s.dev.fv Reg.ENGINE_FP_CTL_ROUND n) q
  refine ⟨maskBits t.lanes holds, ((s.dev.eng n).actives f t.lanes).any holds, ((s.dev.eng n).actives f t.lanes).all holds,
    exec_of_regs hrow h ha (EngSt.poison_ne_zero_of_badActive hp) ?_, fun j hj => mbit_maskBits _ _ hj, ?_, ?_⟩
  · rw [Dev.stepOf_cmp, Dev.eng_cycled, Dev.round_cycled]
    rfl
  · simp only [List.any_eq_true, EngSt.mem_actives, and_assoc]
    rfl
  · simp only [List.all_eq_true, EngSt.mem_actives, and_imp]
    rfl

end Sys2Proof.Machine

/-!
PROOFS. The results of integer elements (R217, R218, R223).
-/
namespace Sys2Proof.Machine

/-! ### Integer elements as whole numbers (R217) -/

theorem Ty.op_of_isInt {t : Ty} (h : t.isInt = true) (mode k : Nat) (o : LOp) (a b c : Nat) : t.op mode k o a b c = intOp t o a b c := by
  unfold Ty.isInt at h
  unfold Ty.op
  cases hk : t.k with
  | flt fm => simp [hk] at h
  | sint => rfl
  | uint => rfl

theorem Ty.bits_pos_of_tyOf {c : Nat} {t : Ty} (h : tyOf c = some t) : 0 < t.bits := by
  unfold tyOf at h
  split at h <;> cases h <;> decide

/-! ### Equality modulo a number -/

section
variable {a b c d n : Int} (h : a % n = c % n) (k : b % n = d % n)
include h k

theorem emod_add_congr : (a + b) % n = (c + d) % n := by
  rw [Int.add_emod, h, k, ← Int.add_emod]

theorem emod_sub_congr : (a - b) % n = (c - d) % n := by
  rw [Int.sub_emod, h, k, ← Int.sub_emod]

theorem emod_mul_congr : (a * b) % n = (c * d) % n := by
  rw [Int.mul_emod, h, k, ← Int.mul_emod]

end

section
variable (t : Ty)

/-- How many values an element has. -/
abbrev Ty.modulus : Int := (2 ^ t.bits : Nat)

theorem Ty.modulus_pos : 0 < t.modulus := Int.natCast_pos.mpr (Nat.two_pow_pos _)

/-- The number that an element stands for is the element modulo the width. -/
theorem Ty.toI_emod (x : Nat) : t.toI x % t.modulus = x % t.modulus := by
  have hmod : ((x % 2 ^ t.bits : Nat) : Int) % t.modulus = x % t.modulus := by
    rw [Int.natCast_emod, Int.emod_emod]
  unfold Ty.toI toSigned
  split
  · split
    · exact hmod
    · rw [Int.sub_emod_right]
      exact hmod
  · exact hmod

theorem Ty.ofI_emod (x : Int) : (t.ofI x : Int) % t.modulus = x % t.modulus := by
  rw [Ty.ofI, ofSigned, Int.toNat_of_nonneg (Int.emod_nonneg x (Int.ne_of_gt t.modulus_pos)), Int.emod_emod]

theorem Ty.ofI_lt (x : Int) : t.ofI x < 2 ^ t.bits := by
  rw [Ty.ofI, ofSigned, Int.toNat_lt (Int.emod_nonneg x (Int.ne_of_gt t.modulus_pos))]
  exact Int.emod_lt_of_pos x t.modulus_pos

theorem Ty.mod_eq_of_emod_eq {x y : Nat} (h : (x : Int) % t.modulus = y % t.modulus) : x % 2 ^ t.bits = y % 2 ^ t.bits := by
  rw [← Int.natCast_emod, ← Int.natCast_emod] at h
  exact Int.ofNat.inj h

/-- A whole number wraps to the remainder of any number equal to it modulo the width. -/
theorem Ty.ofI_eq_mod {x : Int} {k : Nat} (h : x % t.modulus = k % t.modulus) : t.ofI x = k % 2 ^ t.bits := by
  rw [← Nat.mod_eq_of_lt (t.ofI_lt x)]
  exact t.mod_eq_of_emod_eq ((t.ofI_emod x).trans h)

theorem Ty.toI_bounds (hb : 0 < t.bits) (x : Nat) : t.minI ≤ t.toI x ∧ t.toI x ≤ t.maxI := by
  have hlt : x % 2 ^ t.bits < 2 ^ t.bits := Nat.mod_lt _ (Nat.two_pow_pos _)
  have hhalf : 2 ^ (t.bits - 1) * 2 = 2 ^ t.bits := Nat.two_pow_pred_mul_two hb
  unfold Ty.toI Ty.minI Ty.maxI toSigned
  split
  · split <;> omega
  · omega

theorem Ty.maxI_sub_minI (hb : 0 < t.bits) : t.maxI - t.minI < t.modulus := by
  have hhalf : 2 ^ (t.bits - 1) * 2 = 2 ^ t.bits := Nat.two_pow_pred_mul_two hb
  unfold Ty.minI Ty.maxI Ty.modulus
  split <;> omega

/-- A number of the type's range is the element that it wraps to: both lie in the range and are equal modulo the width. -/
theorem Ty.toI_ofI (hb : 0 < t.bits) {x : Int} (hmin : t.minI ≤ x) (hmax : x ≤ t.maxI) : t.toI (t.ofI x) = x := by
  obtain ⟨hlo, hhi⟩ := t.toI_bounds hb (t.ofI x)
  have hspan := t.maxI_sub_minI hb
  have heq : (t.toI (t.ofI x) - t.minI) % t.modulus = (x - t.minI) % t.modulus :=
    emod_sub_congr ((t.toI_emod _).trans (t.ofI_emod x)) rfl
  rw [Int.emod_eq_of_lt (by omega) (by omega), Int.emod_eq_of_lt (by omega) (by omega)] at heq
  omega

theorem Ty.toI_satI (hb : 0 < t.bits) (x : Int) : t.toI (t.satI x) = max t.minI (min t.maxI x) := by
  obtain ⟨hlo, hhi⟩ := t.toI_bounds hb 0
  exact t.toI_ofI hb (by omega) (by omega)

end

/-! ### Bits of a rotation -/

/-- Bit `i` of a number of `n` bits rotated left by `k`. -/
theorem testBit_rotl {a n k i : Nat} (ha : a < 2 ^ n) (hk : k < n) (hi : i < n) :
    ((a * 2 ^ k + a / 2 ^ (n - k)) % 2 ^ n).testBit i = a.testBit ((i + (n - k)) % n) := by
  have hlow : a / 2 ^ (n - k) < 2 ^ k := by
    rw [Nat.div_lt_iff_lt_mul (Nat.two_pow_pos _), ← Nat.pow_add, Nat.add_sub_cancel' (Nat.le_of_lt hk)]
    exact ha
  rw [Nat.testBit_mod_two_pow, Nat.mul_comm, Nat.testBit_two_pow_mul_add _ hlow, decide_eq_true hi, Bool.true_and]
  split
  next h =>
    rw [Nat.testBit_div_two_pow, Nat.mod_eq_of_lt (by omega)]
  next h =>
    have hwrap : i + (n - k) = n + (i - k) := by omega
    rw [hwrap, Nat.add_mod_left, Nat.mod_eq_of_lt (by omega)]

/-! ### The operations (R218, R223) -/

section
variable (t : Ty) (a b z : Nat)

theorem intOp_add : intOp t .add a b z = (a + b) % 2 ^ t.bits :=
  t.ofI_eq_mod (emod_add_congr (t.toI_emod a) (t.toI_emod b))

theorem intOp_sub (hb : b < 2 ^ t.bits) : intOp t .sub a b z = (a + 2 ^ t.bits - b) % 2 ^ t.bits := by
  refine t.ofI_eq_mod ((emod_sub_congr (t.toI_emod a) (t.toI_emod b)).trans ?_)
  have hcast : ((a + 2 ^ t.bits - b : Nat) : Int) = a - b + t.modulus := by
    unfold Ty.modulus
    omega
  rw [hcast, Int.add_emod_right]

theorem intOp_mul : intOp t .mul a b z = a * b % 2 ^ t.bits :=
  t.ofI_eq_mod (emod_mul_congr (t.toI_emod a) (t.toI_emod b))

theorem intOp_fma : intOp t .fma a b z = (a * b + z) % 2 ^ t.bits :=
  t.ofI_eq_mod (emod_add_congr (emod_mul_congr (t.toI_emod a) (t.toI_emod b)) (t.toI_emod z))

theorem intOp_fms (hz : z < 2 ^ t.bits) : intOp t .fms a b z = (a * b + (2 ^ t.bits - z)) % 2 ^ t.bits := by
  refine t.ofI_eq_mod ((emod_sub_congr (emod_mul_congr (t.toI_emod a) (t.toI_emod b)) (t.toI_emod z)).trans ?_)
  have hcast : ((a * b + (2 ^ t.bits - z) : Nat) : Int) = (a * b : Nat) - z + t.modulus := by
    unfold Ty.modulus
    omega
  rw [hcast, Int.natCast_mul, Int.add_emod_right]

/-- FNMA is what A times B completes to C. -/
theorem intOp_fnma_add (hz : z < 2 ^ t.bits) : (intOp t .fnma a b z + a * b) % 2 ^ t.bits = z := by
  have hsub : (intOp t .fnma a b z : Int) % t.modulus = (z - a * b) % t.modulus :=
    (t.ofI_emod _).trans (emod_sub_congr (t.toI_emod z) (emod_mul_congr (t.toI_emod a) (t.toI_emod b)))
  have hsum : ((intOp t .fnma a b z : Int) + a * b) % t.modulus = z % t.modulus := by
    rw [emod_add_congr hsub rfl, Int.sub_add_cancel]
  exact (t.mod_eq_of_emod_eq hsum).trans (Nat.mod_eq_of_lt hz)

theorem intOp_neg_add : (intOp t .neg a b z + a) % 2 ^ t.bits = 0 := by
  have hneg : (intOp t .neg a b z : Int) % t.modulus = (0 - a) % t.modulus := by
    refine (t.ofI_emod _).trans ?_
    rw [← Int.zero_sub]
    exact emod_sub_congr rfl (t.toI_emod a)
  have hsum : ((intOp t .neg a b z : Int) + a) % t.modulus = (0 : Nat) % t.modulus := by
    rw [emod_add_congr hneg rfl, Int.sub_add_cancel]
    rfl
  exact (t.mod_eq_of_emod_eq hsum).trans (Nat.zero_mod _)

theorem toI_intOp_min : t.toI (intOp t .min a b z) = min (t.toI a) (t.toI b) := by
  rw [Int.min_def]
  exact apply_ite t.toI _ a b

theorem toI_intOp_max : t.toI (intOp t .max a b z) = max (t.toI a) (t.toI b) := by
  rw [Int.max_comm, Int.max_def]
  exact apply_ite t.toI _ a b

section
variable {i : Nat} (hi : i < t.bits)
include hi

theorem testBit_flip : (Nat.xor b (2 ^ t.bits - 1)).testBit i = !b.testBit i := by
  rw [← Bool.xor_true, ← decide_eq_true hi, ← Nat.testBit_two_pow_sub_one]
  exact Nat.testBit_xor ..

theorem testBit_intOp_andn : (intOp t .andn a b z).testBit i = (a.testBit i && !b.testBit i) := by
  rw [← testBit_flip t b hi]
  exact Nat.testBit_and ..

theorem testBit_intOp_shl : (intOp t .shl a b z).testBit i = (decide (b % t.bits ≤ i) && a.testBit (i - b % t.bits)) := by
  change (a * 2 ^ (b % t.bits) % 2 ^ t.bits).testBit i = _
  rw [Nat.testBit_mod_two_pow, decide_eq_true hi, Bool.true_and, Nat.testBit_mul_two_pow]

theorem testBit_intOp_rotl (ha : a < 2 ^ t.bits) :
    (intOp t .rotl a b z).testBit i = a.testBit ((i + (t.bits - b % t.bits)) % t.bits) :=
  testBit_rotl ha (Nat.mod_lt _ (Nat.zero_lt_of_lt hi)) hi

end

end

/-- Settles O27: the operations are those of `intOp`; those that wrap follow from equality modulo the width. -/
theorem integerElementResults : Obligations.IntegerElementResults := by
  intro c t m k a b z ht hint ha hb hz
  have hpos := Ty.bits_pos_of_tyOf ht
  simp only [Ty.op_of_isInt hint]
  exact ⟨intOp_add t a b z, intOp_sub t a b z hb, intOp_mul t a b z, intOp_fma t a b z, intOp_fms t a b z hz, intOp_fnma_add t a b z hz,
    intOp_neg_add t a b z, t.toI_satI hpos _, t.toI_satI hpos _, toI_intOp_min t a b z, toI_intOp_max t a b z,
    fun i hi => ⟨Nat.testBit_and .., Nat.testBit_or .., Nat.testBit_xor .., testBit_intOp_andn t a b z hi, testBit_flip t a hi,
      testBit_intOp_shl t a b z hi, Nat.testBit_div_two_pow .., testBit_intOp_rotl t a b z hi ha⟩, rfl⟩

end Sys2Proof.Machine

/-!
PROOFS. The scratch memory of an engine: its elements, and the steps that move one line (R223, R229, R236).
-/
namespace Sys2Proof.Machine

/-! ### Masks -/

theorem maskOf_bitN (n x : Nat) : maskOf n (bitN x) = x % 2 ^ n := by
  refine Nat.eq_of_testBit_eq fun i => ?_
  rw [testBit_maskOf, Nat.testBit_mod_two_pow, bitN_eq_testBit]

theorem maskOf_congr {n : Nat} {p q : Nat → Bool} (h : ∀ j < n, p j = q j) : maskOf n p = maskOf n q := by
  refine Nat.eq_of_testBit_eq fun i => ?_
  rw [testBit_maskOf, testBit_maskOf]
  by_cases hi : i < n
  · rw [h i hi]
  · simp [hi]

theorem maskOf_ne_zero_iff {n : Nat} {p : Nat → Bool} : maskOf n p ≠ 0 ↔ ∃ j < n, p j = true := by
  constructor
  · intro h
    obtain ⟨j, hj⟩ := Nat.exists_testBit_of_ne_zero h
    rw [testBit_maskOf, Bool.and_eq_true, decide_eq_true_eq] at hj
    exact ⟨j, hj⟩
  · rintro ⟨j, hj, hp⟩ h
    have hbit := testBit_maskOf n p j
    rw [h, Nat.zero_testBit, decide_eq_true hj, hp] at hbit
    exact Bool.false_ne_true hbit

/-! ### Elements of the scratch (R229) -/

section
variable (g : EngSt) (w i x bits : Nat)

theorem EngSt.setScrElem_scratch :
    (g.setScrElem w i x bits).scratch =
      Machine.putBytes zeroByte (i + ·) (fun _ => true) (fun j => BitVec.ofNat 8 (x / 2 ^ (8 * j))) (List.range w) g.scratch :=
  (List.foldl_hom EngSt.scratch fun _ _ => rfl).symm

theorem EngSt.setScrElem_scratchBad :
    (g.setScrElem w i x bits).scratchBad = Machine.putBytes noBit (i + ·) (fun _ => true) (bitN bits) (List.range w) g.scratchBad :=
  (List.foldl_hom EngSt.scratchBad fun _ _ => rfl).symm

variable {w} {j : Nat} (hj : j < w)
include hj

theorem EngSt.scr_setScrElem : (g.setScrElem w i x bits).scr (i + j) = BitVec.ofNat 8 (x / 2 ^ (8 * j)) := by
  rw [EngSt.scr, EngSt.setScrElem_scratch, sget_putBytes zeroByte (fun _ _ => Nat.add_left_cancel), if_pos ⟨List.mem_range.mpr hj, rfl⟩]

theorem EngSt.scrBad_setScrElem : (g.setScrElem w i x bits).scrBad (i + j) = bitN bits j := by
  rw [EngSt.scrBad, EngSt.setScrElem_scratchBad, sget_putBytes noBit (fun _ _ => Nat.add_left_cancel), if_pos ⟨List.mem_range.mpr hj, rfl⟩]

end

section
variable (g : EngSt) (w i x bits : Nat)

theorem EngSt.scr_setScrElem_other {a : Nat} (ha : a < i ∨ i + w ≤ a) :
    (g.setScrElem w i x bits).scr a = g.scr a ∧ (g.setScrElem w i x bits).scrBad a = g.scrBad a := by
  have hout : ∀ j ∈ List.range w, a ≠ i + j := fun j hj => by
    have := List.mem_range.mp hj
    omega
  rw [EngSt.scr, EngSt.setScrElem_scratch, EngSt.scrBad, EngSt.setScrElem_scratchBad]
  exact ⟨sget_putBytes_other _ _ _ _ _ _ hout, sget_putBytes_other _ _ _ _ _ _ hout⟩

/-- An element is the number that its bytes make. -/
theorem EngSt.scrElem_eq_numOf : g.scrElem w i = numOf 256 (fun j => (g.scr (i + j)).toNat) w :=
  foldr_digits_zero 256 w _

theorem EngSt.scrElem_setScrElem : (g.setScrElem w i x bits).scrElem w i = x % 2 ^ (8 * w) := by
  have hbyte : ∀ j < w, ((g.setScrElem w i x bits).scr (i + j)).toNat = x / 256 ^ j % 256 := fun j hj => by
    rw [g.scr_setScrElem i x bits hj, BitVec.toNat_ofNat, Nat.pow_mul]
  rw [EngSt.scrElem_eq_numOf, numOf_congr hbyte, numOf_slices, Nat.pow_mul]

theorem EngSt.scrElemBits_setScrElem : (g.setScrElem w i x bits).scrElemBits w i = bits % 2 ^ w := by
  rw [EngSt.scrElemBits, maskOf_congr fun j hj => g.scrBad_setScrElem i x bits hj]
  exact maskOf_bitN w bits

theorem EngSt.scrElemBad_iff : g.scrElemBad w i = true ↔ g.scrElemBits w i ≠ 0 := by
  simp only [EngSt.scrElemBits, maskOf_ne_zero_iff, EngSt.scrElemBad, List.any_eq_true, List.mem_range]

end

/-- Settles O32: the bytes of the element have addresses of their own, so each reads as its digit and no other byte sees the store. -/
theorem scratchElementsReadBack : Obligations.ScratchElementsReadBack := by
  intro g w i x bits _ _
  refine ⟨g.scrElem_setScrElem w i x bits, g.scrElemBits_setScrElem w i x bits, ?_, fun a ha => g.scr_setScrElem_other w i x bits ha,
    fun h => ?_⟩
  · rw [EngSt.scrElemBad_iff, EngSt.scrElemBits_setScrElem]
  · rw [EngSt.setScrElem_scratch]
    exact swf_putBytes zeroByte _ _ _ _ _ h

end Sys2Proof.Machine

/-!
PROOFS. The steps that move one line between the scratch memory and a vector register (R223, R229, R236).
-/
namespace Sys2Proof.Machine

/-! ### Bytes that are not poisoned (R229, R235) -/

theorem ofBits_congr {w : Nat} {p q : Nat → Nat} (h : ∀ j < 64 / w, p j = q j) : ofBits w p = ofBits w q := by
  have hbits : (List.range (64 / w)).map p = (List.range (64 / w)).map q := List.map_congr_left fun j hj => h j (List.mem_range.mp hj)
  have hfold (p : Nat → Nat) :
      ofBits w p = BitVec.ofNat 64 (((List.range (64 / w)).map p).foldr (fun x n => n * 2 ^ w + x % 2 ^ w) 0) := by
    rw [ofBits, List.foldr_map]
  rw [hfold, hfold, hbits]

theorem EngSt.scrElemBits_eq_zero {g : EngSt} {w i : Nat} (h : ∀ j < w, g.scrBad (i + j) = false) : g.scrElemBits w i = 0 := by
  refine Decidable.of_not_not fun hne => ?_
  obtain ⟨j, hj, hbad⟩ := maskOf_ne_zero_iff.mp hne
  rw [h j hj] at hbad
  exact Bool.false_ne_true hbad

theorem foldl_congr_mem {α β : Type} {p q : β → α → β} {l : List α} (h : ∀ b, ∀ a ∈ l, p b a = q b a) (b : β) :
    l.foldl p b = l.foldl q b := by
  induction l generalizing b with
  | nil => rfl
  | cons a l ih => rw [List.foldl_cons, List.foldl_cons, h b a List.mem_cons_self, ih fun b x hx => h b x (List.mem_cons_of_mem a hx)]

theorem countOf_eq_zero {n : Nat} {p : Nat → Bool} (h : ∀ j < n, p j = false) : countOf n p = 0 := by
  rw [countOf, List.length_eq_zero_iff, List.filter_eq_nil_iff]
  intro j hj
  rw [h j (List.mem_range.mp hj)]
  exact Bool.false_ne_true

/-- The bytes of lane `j` lie in its line. -/
theorem lane_byte_lt {w j b : Nat} (hj : j < 64 / w) (hb : b < w) : w * j + b < 64 := by
  have hle : w * (j + 1) ≤ w * (64 / w) := Nat.mul_le_mul_left w hj
  have hline := Nat.mul_div_le 64 w
  rw [Nat.mul_succ] at hle
  omega

section
variable {g : EngSt} {f : StepF} {t : Ty}

/-- The scratch address of a line step: S[SRCA] plus the 21-bit offset. -/
abbrev EngSt.lineAddr (g : EngSt) (f : StepF) : Nat := g.base f (immBits f 20 0)

theorem EngSt.lane_scrElemBits {x j : Nat} (h : ∀ i < 64, g.scrBad (x + i) = false) (hj : j < t.lanes) :
    g.scrElemBits t.w (x + t.w * j) = 0 := by
  refine EngSt.scrElemBits_eq_zero fun b hb => ?_
  rw [Nat.add_assoc]
  exact h _ (lane_byte_lt hj hb)

/-! ### SCRLD and SCRST -/

section
variable {d : Dev} {n : Nat} {r : Run} {o : EOp} (ho : o = .scrld ∨ o = .scrst)
include ho

theorem Dev.stepOf_of_misaligned (h : (d.eng n).lineAddr f % 64 ≠ 0) :
    d.stepOf n r o f t = (.fault 6 ((d.eng n).lineAddr f) none, 0) := by
  rcases ho with rfl | rfl <;> exact if_pos (bne_iff_ne.mpr h)

theorem Dev.stepOf_of_outside (h : (d.eng n).lineAddr f % 64 = 0) (hout : 2097152 < (d.eng n).lineAddr f + 64) :
    d.stepOf n r o f t = (.fault 7 ((d.eng n).lineAddr f) none, 0) := by
  rcases ho with rfl | rfl <;> exact (if_neg (by simpa using h)).trans (if_pos hout)

end

theorem Dev.stepOf_scrld (d : Dev) (n : Nat) (r : Run) (f : StepF) (t : Ty) :
    d.stepOf n r .scrld f t = (d.eng n).scratchStep .scrld f t (d.fv Reg.ENGINE_FP_CTL_ROUND n) d.free := (rfl)

theorem Dev.stepOf_scrst (d : Dev) (n : Nat) (r : Run) (f : StepF) (t : Ty) :
    d.stepOf n r .scrst f t = (d.eng n).scratchStep .scrst f t (d.fv Reg.ENGINE_FP_CTL_ROUND n) d.free := (rfl)

variable {mode k : Nat}

/-- A line whose bytes are all good is loaded as it is, and no poison is met. -/
theorem EngSt.scratchStep_scrld (h : g.lineAddr f % 64 = 0) (hin : g.lineAddr f + 64 ≤ 2097152)
    (hgood : ∀ i < 64, g.scrBad (g.lineAddr f + i) = false) (hz : g.zeroing = false) :
    g.scratchStep .scrld f t mode k =
      (.regs (g.putLanes f t.w f.dst.toNat (fun j => g.scrElem t.w (g.lineAddr f + t.w * j)) (fun _ => false)) false, 0) := by
  have hbits : ofBits t.w (fun j => if g.active f j then g.scrElemBits t.w (g.lineAddr f + t.w * j) else elemBits t.w (g.vpr f.dst.toNat) j) =
      ofBits t.w (fun j => if g.active f j then wholeBits t.w false else elemBits t.w (g.vpr f.dst.toNat) j) :=
    ofBits_congr fun j hj => by
      rw [EngSt.lane_scrElemBits hgood hj]
      rfl
  have hused : (g.actives f t.lanes).any (fun j => g.scrElemBad t.w (g.lineAddr f + t.w * j)) = false := by
    refine List.any_eq_false.mpr fun j hj => ?_
    rw [EngSt.scrElemBad_iff, EngSt.lane_scrElemBits hgood (EngSt.mem_actives.mp hj).1]
    exact not_not_intro rfl
  have hmet : countOf 64 (fun i => g.scrBad (g.lineAddr f + i)) = 0 := countOf_eq_zero hgood
  refine (if_neg (by simpa using h)).trans ((if_neg (Nat.not_lt.mpr hin)).trans ?_)
  simp only [hz, Bool.false_eq_true, if_false, Bool.not_false, Bool.and_true, EngSt.putBytes_eq, EngSt.putLanes_eq, EngSt.laneBitsOf,
    hbits, hused, hmet]

/-- Lanes that are all good are stored as good bytes. -/
theorem EngSt.scratchStep_scrst (h : g.lineAddr f % 64 = 0) (hin : g.lineAddr f + 64 ≤ 2097152)
    (hgood : ∀ j < t.lanes, elemBad t.w (g.vpr f.srcA.toNat) j = false) :
    g.scratchStep .scrst f t mode k =
      (.regs ((g.actives f t.lanes).foldl
        (fun e j => e.setScrElem t.w (g.lineAddr f + t.w * j) (elem t.w (g.vr f.srcA.toNat) j) 0) g) false, 0) := by
  have hstore : (g.actives f t.lanes).foldl (fun e j => e.setScrElem t.w (g.lineAddr f + t.w * j) (elem t.w (g.vr f.srcA.toNat) j)
      (elemBits t.w (g.vpr f.srcA.toNat) j)) g =
      (g.actives f t.lanes).foldl (fun e j => e.setScrElem t.w (g.lineAddr f + t.w * j) (elem t.w (g.vr f.srcA.toNat) j) 0) g := by
    refine foldl_congr_mem (fun e j hj => ?_) g
    have hlane := hgood j (EngSt.mem_actives.mp hj).1
    rw [elemBad_eq, decide_eq_false_iff_not, Decidable.not_not] at hlane
    rw [hlane]
  have hused : g.badActive f [f.srcA.toNat] t.w t.lanes = false := by
    refine List.any_eq_false.mpr fun j hj => ?_
    simp [EngSt.badLane, hgood j (List.mem_range.mp hj)]
  refine (if_neg (by simpa using h)).trans ((if_neg (Nat.not_lt.mpr hin)).trans ?_)
  rw [hused]
  exact congrArg (fun e => (StepR.regs e false, 0)) hstore

end

@[simp] theorem EngSt.modRun_lineAddr (g : EngSt) (w : Run → Run) (f : StepF) : (g.modRun w).lineAddr f = g.lineAddr f := (rfl)

/-- The job of a cycle in which the engine issues is the one that runs. -/
theorem EngSt.zeroing_cycled {d : Dev} {n : Nat} {r : Run} (h : d.issues n r) (hp : r.job.poison ≠ 2) :
    ((d.cycled n).eng n).zeroing = false := by
  obtain ⟨-, hrun, -⟩ := h
  rw [Dev.eng_cycled, EngSt.zeroing, EngSt.modRun, hrun]
  exact beq_eq_false_iff_ne.mpr hp

/-- Settles O33: the address decides between the faults and the line, and a line without a poisoned byte moves as it is. -/
theorem scratchStepsAddressRules : Obligations.ScratchStepsAddressRules := by
  intro s n f r t h
  have hx : ((s.dev.cycled n).eng n).lineAddr f = (s.dev.eng n).lineAddr f := by rw [Dev.eng_cycled, EngSt.modRun_lineAddr]
  refine ⟨fun ha => ⟨fun hal => ?_, fun hal hout => ?_, fun hal hin hgood hp => ?_⟩,
    fun ha => ⟨fun hal => ?_, fun hal hout => ?_, fun hal hin hgood => ?_⟩⟩
  · refine (exec_of_fault rfl h ha (Dev.stepOf_of_misaligned (.inl rfl) (hx ▸ hal))).trans ?_
    rw [hx]
  · refine (exec_of_fault rfl h ha (Dev.stepOf_of_outside (.inl rfl) (hx ▸ hal) (hx ▸ hout))).trans ?_
    rw [hx]
  · refine exec_of_regs rfl h ha (fun e => absurd e Bool.false_ne_true) ?_
    have hgood' : ∀ i < 64, ((s.dev.cycled n).eng n).scrBad (((s.dev.cycled n).eng n).lineAddr f + i) = false := by
      rw [Dev.eng_cycled]
      exact hgood
    rw [Dev.stepOf_scrld, EngSt.scratchStep_scrld (hx ▸ hal) (hx ▸ hin) hgood' (EngSt.zeroing_cycled h hp), Dev.eng_cycled]
    rfl
  · refine (exec_of_fault rfl h ha (Dev.stepOf_of_misaligned (.inr rfl) (hx ▸ hal))).trans ?_
    rw [hx]
  · refine (exec_of_fault rfl h ha (Dev.stepOf_of_outside (.inr rfl) (hx ▸ hal) (hx ▸ hout))).trans ?_
    rw [hx]
  · refine exec_of_regs rfl h ha (fun e => absurd e Bool.false_ne_true) ?_
    have hgood' : ∀ j < t.lanes, elemBad t.w (((s.dev.cycled n).eng n).vpr f.srcA.toNat) j = false := by
      rw [Dev.eng_cycled]
      exact hgood
    rw [Dev.stepOf_scrst, EngSt.scratchStep_scrst (hx ▸ hal) (hx ▸ hin) hgood', Dev.eng_cycled]
    rfl

end Sys2Proof.Machine

/-!
PROOFS. A job's way from its ring to its completion record: the descriptor's two lines (R247), the job's place (R251, R252), its start and
its time limit (R254, R255), and the record that tells of it (R256, R258).
-/
namespace Sys2Proof.Machine

/-! ### DESCRIPTOR_FETCH_RETURN (R247) -/

theorem exec_descriptorFetchReturn (k : Fin 64) (s : State) : exec (.descriptorFetchReturn k) s = .next (s.put (s.dev.fetchReturn k)) := (rfl)

/-- What the answer to half `half` of ring `k`'s descriptor does. -/
def Dev.lineAnswered (t : Dev) (k half : Nat) (res : Result) : Dev :=
  match t.fetchOf k with
  | none => t
  | some f =>
    if f.stale then t.gotLine k half 0
    else match res with
    | .data line bad => if bad == 0 then t.gotLine k half line else (t.ringStop k).gotLine k half 0
    | .retry _ => t.askLine k half
    | .dark _ _ => t.askLine k half
    | _ => (t.ringStop k).gotLine k half 0

section
variable {d t : Dev} {k : Nat} {res : Result}

theorem Dev.fetchReturn_of_none (hlo : d.takeAnswer (.desc (2 * k)) = none) (hhi : d.takeAnswer (.desc (2 * k + 1)) = none) :
    d.fetchReturn k = d := by
  simp only [Dev.fetchReturn, hlo, hhi]

theorem Dev.fetchReturn_of_low (h : d.takeAnswer (.desc (2 * k)) = some (res, t)) :
    d.fetchReturn k = (t.lineAnswered k 0 res).ringsPump := by
  simp only [Dev.fetchReturn, h]
  rfl

theorem Dev.fetchReturn_of_high (hlo : d.takeAnswer (.desc (2 * k)) = none) (h : d.takeAnswer (.desc (2 * k + 1)) = some (res, t)) :
    d.fetchReturn k = (t.lineAnswered k 1 res).ringsPump := by
  simp only [Dev.fetchReturn, hlo, h]
  rfl

/-- The answer to either half: the low half's is taken first. -/
theorem Dev.fetchReturn_of_half (half : Fin 2) (h : d.takeAnswer (.desc (2 * k + half)) = some (res, t))
    (hfirst : half = 0 ∨ d.takeAnswer (.desc (2 * k)) = none) : d.fetchReturn k = (t.lineAnswered k half res).ringsPump := by
  match half, hfirst with
  | 0, _ => exact Dev.fetchReturn_of_low h
  | 1, .inr hlo => exact Dev.fetchReturn_of_high hlo h

variable {half : Nat} {f : Fetch}

theorem Dev.lineAnswered_of_none (h : t.fetchOf k = none) : t.lineAnswered k half res = t := by
  simp only [Dev.lineAnswered, h]

theorem Dev.lineAnswered_of_stale (h : t.fetchOf k = some f) (hf : f.stale = true) : t.lineAnswered k half res = t.gotLine k half 0 := by
  simp only [Dev.lineAnswered, h, hf, if_true]

/-- A line of a descriptor that is still wanted is kept. -/
theorem Dev.gotLine_of_wanted (h : t.fetchOf k = some f) (hf : f.stale = false) (line : Line) :
    t.gotLine k half line = t.setFetch k (some (if half = 0 then { f with lo := some line } else { f with hi := some line })) := by
  by_cases hhalf : half = 0 <;> simp [Dev.gotLine, h, hf, hhalf]

theorem Dev.lineAnswered_of_data (h : t.fetchOf k = some f) (hf : f.stale = false) {line : Line} (hres : res = .data line 0) :
    t.lineAnswered k half res = t.setFetch k (some (if half = 0 then { f with lo := some line } else { f with hi := some line })) := by
  subst hres
  simp only [Dev.lineAnswered, h, hf, Bool.false_eq_true, if_false, BEq.rfl, if_true, Dev.gotLine_of_wanted h hf]

theorem Dev.lineAnswered_of_again (h : t.fetchOf k = some f) (hf : f.stale = false)
    (hres : (∃ us, res = .retry us) ∨ ∃ us page, res = .dark us page) : t.lineAnswered k half res = t.askLine k half := by
  rcases hres with ⟨us, rfl⟩ | ⟨us, page, rfl⟩ <;> simp only [Dev.lineAnswered, h, hf, Bool.false_eq_true, if_false]

theorem Dev.lineAnswered_of_refused (h : t.fetchOf k = some f) (hf : f.stale = false) (hdata : ∀ line, res ≠ .data line 0)
    (hretry : ∀ us, res ≠ .retry us) (hdark : ∀ us page, res ≠ .dark us page) :
    t.lineAnswered k half res = (t.ringStop k).gotLine k half 0 := by
  simp only [Dev.lineAnswered, h, hf, Bool.false_eq_true, if_false]
  cases res with
  | data line bad => exact if_neg fun hbad => hdata line (by rw [beq_iff_eq.mp hbad])
  | retry us => exact absurd rfl (hretry us)
  | dark us page => exact absurd rfl (hdark us page)
  | _ => rfl

end

/-! ### JOB_PLACEMENT (R251, R252) -/

theorem exec_jobPlacement (s : State) : exec .jobPlacement s = .next (s.put s.dev.placeJob) := (rfl)

/-- The waiting jobs that can be placed, or refused, now: each with its ring, and whether it was given back. -/
def Dev.placeable (d : Dev) : List (Nat × Bool × Job) :=
  d.waitingJobs.filter fun x => !(d.eligible x.2.2).isEmpty || (d.candidates x.2.2).1.isEmpty

/-- The key of a waiting job: its ring's class, then the ring's place in the rotation. -/
def Dev.waitingKey (d : Dev) (x : Nat × Bool × Job) : Nat :=
  d.key (d.ringClass x.1) 0 (if x.2.1 then x.2.2.starved else d.disp.starved.contains x.1) * 64 + (63 - (x.1 + 63 - d.disp.last) % 64)

/-- The device once a waiting job has left its place. -/
def Dev.waitingTaken (d : Dev) (x : Nat × Bool × Job) : Dev :=
  (d.modDisp (fun q => { q with
    last := x.1
    starved := if x.2.1 then q.starved else q.starved.filter (fun r => r != x.1) })).takeJob x.1 x.2.1 x.2.2

/-- A job enters the queue of engine `e`. -/
def Dev.jobQueued (c : Dev) (job : Job) (e : Nat) : Dev :=
  let b := if (c.candidates job).2 then c.bump Reg.DISPATCH_CNT_FALLBACK_VALUE else c
  ((((b.modEng e (fun g => { g with queue := g.queue ++ [job] })).bump Reg.DISPATCH_CNT_JOBS_VALUE).countCell 0x49 (0x10 + e) 0).prehaul
    job e).engShow e

/-- The room that engine `n` has, as the choice among equal scores weighs it. -/
def Dev.engRoom (d : Dev) (n : Nat) : Nat := 7 - (d.eng n).queue.length - b2n (d.eng n).run.isSome

theorem Dev.engRoom_lt (d : Dev) (n : Nat) : d.engRoom n < 8 := by
  unfold Dev.engRoom
  omega

theorem Dev.chooseEngine_of_none {d : Dev} {j : Job} (h : d.eligible j = []) : d.chooseEngine j = none :=
  (bestBy_eq_none_iff _ _).mpr h

/-- The engine chosen can take the job, and none that can has a greater score, or the same and more room. -/
theorem Dev.exists_chooseEngine {d : Dev} {j : Job} (h : d.eligible j ≠ []) :
    ∃ e, d.chooseEngine j = some e ∧ e ∈ d.eligible j ∧
      ∀ g ∈ d.eligible j, d.score j g < d.score j e ∨ (d.score j g = d.score j e ∧ d.engRoom g ≤ d.engRoom e) := by
  obtain ⟨e, hbest, hmem, hmax⟩ := exists_bestBy (fun n => d.score j n * 8 + d.engRoom n) h
  refine ⟨e, hbest, hmem, fun g hg => ?_⟩
  have hle := hmax g hg
  have hroom := d.engRoom_lt e
  omega

theorem Dev.placeJob_of_idle {d : Dev} (h : d.dispOn = false ∨ d.pins.refclk = false ∨ d.placeable = []) : d.placeJob = d := by
  unfold Dev.placeJob
  rcases h with h | h | h
  · simp [h]
  · simp [h]
  · rw [Dev.placeable] at h
    simp [h, bestBy]

section
variable {d : Dev} {x : Nat × Bool × Job} (hon : d.dispOn = true) (hc : d.pins.refclk = true)
  (hx : bestBy d.waitingKey d.placeable = some x)
include hon hc hx

theorem Dev.placeJob_of_best :
    d.placeJob = match (d.waitingTaken x).chooseEngine { x.2.2 with starved := false } with
      | none => (d.waitingTaken x).refuseJob { x.2.2 with starved := false }
      | some e => (d.waitingTaken x).jobQueued { x.2.2 with starved := false } e := by
  unfold Dev.placeJob
  rw [if_neg (by simp [hon, hc])]
  change (match bestBy d.waitingKey d.placeable with | none => d | some (k, back, j) => _) = _
  rw [hx]
  rfl

theorem Dev.placeJob_of_refused (h : (d.waitingTaken x).eligible { x.2.2 with starved := false } = []) :
    d.placeJob = (d.waitingTaken x).refuseJob { x.2.2 with starved := false } := by
  rw [Dev.placeJob_of_best hon hc hx, Dev.chooseEngine_of_none h]

theorem Dev.placeJob_of_chosen {e : Nat} (h : (d.waitingTaken x).chooseEngine { x.2.2 with starved := false } = some e) :
    d.placeJob = (d.waitingTaken x).jobQueued { x.2.2 with starved := false } e := by
  rw [Dev.placeJob_of_best hon hc hx, h]

end

/-! ### JOB_START (R254) -/

theorem exec_jobStart (n : Fin 48) (s : State) : exec (.jobStart n) s = .next (s.put (s.dev.jobStart n)) := (rfl)

/-- The half of its slot that a job runs, with base and length: the active one, empty where it is not VALID. -/
def Dev.jobHalf (d : Dev) (n : Nat) (j : Job) : Nat × Nat × Nat :=
  (d.slotHalf n j.slot).getD (b2n (bitN (d.fv Reg.ENGINE_SLOT_ACTIVE_HALF n) j.slot), 0, 0)

/-- An engine set up for a job: its registers zero, and its scratch where the job asks for it, and the operands its streams. -/
def EngSt.setUpFor (g : EngSt) (j : Job) : EngSt :=
  j.ops.foldl (fun g o => g.setStrm o.1 (some (strmOf o.2)))
    (if j.clr then { g.clearRegs with scratch := [], scratchBad := [] } else g.clearRegs)

section
variable {d : Dev} {n : Nat}

theorem Dev.jobStart_of_idle (h : (d.eng n).run ≠ none ∨ (d.eng n).queue = [] ∨ d.engSt n ≠ stONLINE ∨ (d.eng n).frozen ≠ 0 ∨
    d.pins.refclk = false) : d.jobStart n = d := by
  cases hrun : (d.eng n).run with
  | some r => simp only [Dev.jobStart, hrun]
  | none =>
    cases hq : (d.eng n).queue with
    | nil => simp only [Dev.jobStart, hrun, hq]
    | cons j q =>
      have hheld : d.engSt n ≠ stONLINE ∨ (d.eng n).frozen ≠ 0 ∨ d.pins.refclk = false := by simpa [hrun, hq] using h
      simp only [Dev.jobStart, hrun, hq]
      exact if_pos (by simpa [or_assoc] using hheld)

theorem Dev.jobStart_of_next {j : Job} {q : List Job} (hrun : (d.eng n).run = none) (hq : (d.eng n).queue = j :: q)
    (hst : d.engSt n = stONLINE) (hz : (d.eng n).frozen = 0) (hc : d.pins.refclk = true) :
    d.jobStart n = ((d.modEng n fun _ => { (d.eng n).setUpFor j with
      queue := q
      passBp := false
      run := some ⟨j, (d.jobHalf n j).1, (d.jobHalf n j).2.1, (d.jobHalf n j).2.2, 0, none, 0, 0, 0, 0, 0, 0, 0, d.time, false⟩ }).engPump
        n).engShow n := by
  simp only [Dev.jobStart, hrun, hq]
  exact if_neg (by simp [hst, hz, hc])

end

/-! ### JOB_TIMEOUT (R255, R371, R413) -/

theorem exec_jobTimeout (n : Fin 48) (s : State) : exec (.jobTimeout n) s = .next (s.put (s.dev.jobTimeout n)) := (rfl)

section
variable {d : Dev} {n : Nat}

theorem Dev.jobTimeout_of_groundDieReset (h : bitN (d.eng n).frozen 2 = true) : d.jobTimeout n = d := if_pos h

theorem Dev.jobTimeout_of_tripped (hz : bitN (d.eng n).frozen 2 = false) (ht : d.fb Reg.HEAT_STATUS_TRIPPED = true) :
    d.jobTimeout n = d.modRun n (fun r => { r with expired := true }) := by
  rw [Dev.jobTimeout, hz, if_neg Bool.false_ne_true, if_pos ht]

theorem Dev.jobTimeout_of_untripped (hz : bitN (d.eng n).frozen 2 = false) (ht : d.fb Reg.HEAT_STATUS_TRIPPED = false) :
    d.jobTimeout n = d.jobCut n stTIMEOUT := by
  rw [Dev.jobTimeout, hz, if_neg Bool.false_ne_true, ht, if_neg Bool.false_ne_true]

theorem Dev.jobCut_of_none (status : Nat) (h : (d.eng n).run = none) : d.jobCut n status = d := by
  simp only [Dev.jobCut, h]

variable {r : Run} (status : Nat) (hr : (d.eng n).run = some r)
include hr

/-- The end of a job stands once it has been decided, or its END has issued and waits for nothing that is to be issued again. -/
theorem Dev.jobCut_of_ending
    (h : r.closing = true ∨ (r.ending ≠ none ∧ (d.eng n).acc.any (fun a => a.again) = false)) : d.jobCut n status = d := by
  simp only [Dev.jobCut, hr]
  refine if_pos ?_
  rcases h with h | ⟨hend, hagain⟩
  · rw [h, Bool.or_true]
  · rw [hagain, Option.isSome_iff_ne_none.mpr hend]
    rfl

theorem Dev.beginEnd_of_open (detail pc : Nat) (h : r.closing = false) :
    d.beginEnd n status detail pc =
      (((d.flushParts n).modRun n (fun q => { q with ending := some (status, detail, pc) })).accPump n).tryEnd n := by
  simp only [Dev.beginEnd, hr, h, Bool.false_eq_true, if_false]

theorem Dev.jobCut_of_open (hopen : r.closing = false) (h : r.ending = none ∨ (d.eng n).acc.any (fun a => a.again) = true) :
    d.jobCut n status =
      (((((d.modEng n (fun g => { g with acc := g.acc.filter (fun a => !a.again) })).flushParts n).modRun n
        (fun q => { q with ending := some (status, 0, r.pc) })).accPump n).tryEnd n) := by
  have hcut : ¬((r.ending.isSome && !((d.eng n).acc.any (fun a => a.again)) || r.closing) = true) := by
    rcases h with h | h <;> simp [h, hopen]
  have hrun : ((d.modEng n (fun g => { g with acc := g.acc.filter (fun a => !a.again) })).eng n).run = some r := by
    rw [Dev.eng_modEng_same]
    exact hr
  simp only [Dev.jobCut, hr]
  rw [if_neg hcut, Dev.beginEnd_of_open status hrun 0 r.pc hopen]

end

/-! ### COMPLETION_RECORD_WRITE (R256, R258) -/

theorem exec_completionRecordWrite (n : Fin 48) (s : State) : exec (.completionRecordWrite n) s = .next (s.put (s.dev.recWrite n)) := (rfl)

/-- The record that engine `n` is to write: its own oldest, or else that of a refused job. -/
def Dev.oldestRec (d : Dev) (n : Nat) : Option Rec :=
  (d.disp.recs.find? (fun r => r.eng == n)).or (d.disp.recs.find? (fun r => r.eng == 48))

/-- The bytes of a record in their line. -/
def Rec.line (r : Rec) : Line := BitVec.ofNat 512 (r.bytes.toNat * 2 ^ (8 * (r.addr % 64)))

/-- The masked write of a record, under its job's class. -/
def Rec.write (r : Rec) (id : Nat) : Req :=
  { id := id, org := .comp r.eng, op := .wrm, cls := r.cls, line := r.addr / 64, data := r.line, par := lineParity r.line,
    mask := BitVec.ofNat 64 ((2 ^ 32 - 1) * 2 ^ (r.addr % 64)) }

/-- The record is on its way, or is no longer. -/
def Dev.recMarked (d : Dev) (r : Rec) (sent : Bool) : Dev :=
  d.modDisp (fun p => { p with recs := p.recs.map (fun x => if x == r then { x with sent := sent } else x) })

section
variable {d : Dev} {n : Nat}

theorem Dev.recWrite_eq (d : Dev) (n : Nat) :
    d.recWrite n = match d.oldestRec n with
      | none => d
      | some r => if r.sent then d else
        ((d.recMarked r true).modSpace (fun p => { p with lookupQ := p.lookupQ ++ [r.write d.nextId] })).fresh := by
  cases hmine : d.disp.recs.find? (fun r => r.eng == n) <;>
    simp only [Dev.recWrite, Dev.oldestRec, hmine, Option.none_or, Option.some_or] <;> rfl

theorem Dev.recWrite_of_none (h : d.oldestRec n = none) : d.recWrite n = d := by
  rw [Dev.recWrite_eq, h]

theorem Dev.recWrite_of_sent {r : Rec} (h : d.oldestRec n = some r) (hs : r.sent = true) : d.recWrite n = d := by
  rw [Dev.recWrite_eq, h]
  exact if_pos hs

theorem Dev.recWrite_of_unsent {r : Rec} (h : d.oldestRec n = some r) (hs : r.sent = false) :
    d.recWrite n = ((d.recMarked r true).modSpace (fun p => { p with lookupQ := p.lookupQ ++ [r.write d.nextId] })).fresh := by
  rw [Dev.recWrite_eq, h]
  exact if_neg (by simp [hs])

end

/-! ### COMPLETION_WRITE_ANSWER (R258) -/

theorem exec_completionWriteAnswer (n : Fin 48) (s : State) : exec (.completionWriteAnswer n) s = .next (s.put (s.dev.compAnswer n)) := (rfl)

/-- The record leaves the dispatcher. -/
def Dev.recDropped (d : Dev) (r : Rec) : Dev := d.modDisp (fun p => { p with recs := dropFirst (fun x => x == r) p.recs })

/-- The first record of engine `e` that is on its way. -/
def Dev.sentRec (d : Dev) (e : Nat) : Option Rec := d.disp.recs.find? (fun r => r.eng == e && r.sent)

section
variable {d t : Dev} {n e : Nat} {res : Result}

theorem Dev.compAnswer_of_none (hn : d.takeAnswer (.comp n) = none) (h48 : d.takeAnswer (.comp 48) = none) : d.compAnswer n = d := by
  simp only [Dev.compAnswer, hn, h48]

/-- The answer to the engine's own record is taken first, then that to a refused job's. -/
theorem Dev.compAnswer_of_some (h : e = n ∧ d.takeAnswer (.comp n) = some (res, t) ∨
    e = 48 ∧ d.takeAnswer (.comp n) = none ∧ d.takeAnswer (.comp 48) = some (res, t)) : d.compAnswer n = t.recAnswer e res := by
  rcases h with ⟨rfl, h⟩ | ⟨rfl, hn, h⟩
  · simp only [Dev.compAnswer, h]
  · simp only [Dev.compAnswer, hn, h]

theorem Dev.recAnswer_of_none (h : t.sentRec e = none) : t.recAnswer e res = t := by
  rw [Dev.sentRec] at h
  simp only [Dev.recAnswer, h]

variable {r : Rec} (h : t.sentRec e = some r)
include h

theorem Dev.recAnswer_of_lost {a b : Nat} (hres : res = .error a b) :
    t.recAnswer e res = ((t.bump Reg.DISPATCH_CNT_COMP_LOST_VALUE).recDropped r).raiseRec dispPage Reg.EV_DISPATCH_COMP_LOST sevERROR
      [r.jobId, r.eng] := by
  rw [Dev.sentRec] at h
  subst hres
  simp only [Dev.recAnswer, h]
  rfl

theorem Dev.recAnswer_of_again (hres : (∃ us, res = .retry us) ∨ ∃ us page, res = .dark us page) :
    t.recAnswer e res = (t.recMarked r false).recWrite e := by
  rw [Dev.sentRec] at h
  rcases hres with ⟨us, rfl⟩ | ⟨us, page, rfl⟩ <;> simp only [Dev.recAnswer, h] <;> rfl

theorem Dev.recAnswer_of_done (herror : ∀ a b, res ≠ .error a b) (hretry : ∀ us, res ≠ .retry us)
    (hdark : ∀ us page, res ≠ .dark us page) :
    t.recAnswer e res =
      let c := (t.recDropped r).bump Reg.DISPATCH_CNT_DONE_VALUE
      if c.fb Reg.DISPATCH_RINGk_CTL_EVT_DONE 0 r.ring then c.raise dispPage Reg.EV_DISPATCH_JOB_DONE else c := by
  rw [Dev.sentRec] at h
  simp only [Dev.recAnswer, h]
  cases res with
  | error a b => exact absurd rfl (herror a b)
  | retry us => exact absurd rfl (hretry us)
  | dark us page => exact absurd rfl (hdark us page)
  | _ => rfl

end

/-- Settles O51: each command by the lemmas on its cases; the job placed is the one of the greatest key, and its engine the best by score
and room. -/
theorem jobsFromRingToRecord : Obligations.JobsFromRingToRecord := by
  intro s
  simp only [exec_descriptorFetchReturn, exec_jobPlacement, exec_jobStart, exec_jobTimeout, exec_completionRecordWrite,
    exec_completionWriteAnswer]
  refine ⟨fun k half res t h hfirst => ?_, fun k hlo hhi => ?_, ⟨fun h => ?_, fun hon hc h => ?_⟩, fun n => ⟨fun h => ?_,
    fun j q hrun hq hst hz hc => ?_, fun h => ?_, fun hz ht => ?_, fun hz ht => ?_, ⟨fun h => ?_, fun r hr => ?_⟩, fun hn h48 => ?_,
    fun e res t h => ?_⟩⟩
  · rw [Dev.fetchReturn_of_half half h hfirst]
    refine ⟨fun hf => ?_, fun f hf hs => ?_, fun f hf hs => ⟨fun line hres => ?_, fun hres => ?_, fun hdata hretry hdark => ?_⟩⟩
    · rw [Dev.lineAnswered_of_none hf]
    · rw [Dev.lineAnswered_of_stale hf hs]
    · rw [Dev.lineAnswered_of_data hf hs hres]
      simp only [Fin.ext_iff, Fin.val_zero]
    · rw [Dev.lineAnswered_of_again hf hs hres]
    · rw [Dev.lineAnswered_of_refused hf hs hdata hretry hdark]
  · rw [Dev.fetchReturn_of_none hlo hhi]
  · rw [Dev.placeJob_of_idle h]
  · obtain ⟨x, hx, hmem, hmax⟩ := exists_bestBy s.dev.waitingKey h
    refine ⟨x, hmem, hmax, fun hnone => ?_, fun hsome => ?_⟩
    · rw [Dev.placeJob_of_refused hon hc hx hnone]
      rfl
    · obtain ⟨e, he, hcan, hbest⟩ := Dev.exists_chooseEngine hsome
      refine ⟨e, hcan, hbest, ?_⟩
      rw [Dev.placeJob_of_chosen hon hc hx he]
      rfl
  · rw [Dev.jobStart_of_idle h]
  · rw [Dev.jobStart_of_next hrun hq hst hz hc]
    rfl
  · rw [Dev.jobTimeout_of_groundDieReset h]
  · rw [Dev.jobTimeout_of_tripped hz ht]
  · rw [Dev.jobTimeout_of_untripped hz ht]
    refine ⟨fun h => ?_, fun r hr => ⟨fun h => ?_, fun hopen h => ?_⟩⟩
    · rw [Dev.jobCut_of_none _ h]
    · rw [Dev.jobCut_of_ending _ hr h]
    · rw [Dev.jobCut_of_open _ hr hopen h]
  · rw [Dev.recWrite_of_none h]
  · refine ⟨fun h => ?_, fun h => ?_⟩
    · rw [Dev.recWrite_of_sent hr h]
    · rw [Dev.recWrite_of_unsent hr h]
      rfl
  · rw [Dev.compAnswer_of_none hn h48]
  · rw [Dev.compAnswer_of_some h]
    refine ⟨fun hr => ?_, fun r hr => ⟨fun a b hres => ?_, fun hres => ?_, fun herror hretry hdark => ?_⟩⟩
    · rw [Dev.recAnswer_of_none hr]
    · rw [Dev.recAnswer_of_lost hr hres]
      rfl
    · rw [Dev.recAnswer_of_again hr hres]
      rfl
    · rw [Dev.recAnswer_of_done hr herror hretry hdark]
      rfl

end Sys2Proof.Machine

/-!
PROOFS. What every command answers: a next state with the same queue, or the fault of a supply rail that goes (R472); and what a step does to
the queue.
-/
namespace Sys2Proof.Machine

/-! ### Outcomes -/

/-- The outcome is a next state with the same queue. -/
def State.Answers (s : State) (x : Host.Outcome State Fault Refusal) : Prop := ∃ t, x = .next (s.put t)

theorem State.answers_on {s : State} {f : Dev → Host.Outcome Dev Fault Refusal} (h : ∃ t, f s.dev = .next t) : s.Answers (s.on f) := by
  obtain ⟨t, ht⟩ := h
  exact ⟨t, by rw [State.on, ht]⟩

theorem ite_answers {c : Prop} [Decidable c] {a b : Host.Outcome Dev Fault Refusal} (ha : ∃ t, a = .next t) (hb : ∃ t, b = .next t) :
    ∃ t, (if c then a else b) = .next t := by
  split
  · exact ha
  · exact hb

/-- Every command but SUPPLY_RAIL_CHANGE answers a next state: most carry out one change of the device, the others choose between two or three. -/
theorem exec_answers (i : Instr) (hi : ∀ far on, i ≠ .supplyRailChange far on) (s : State) : s.Answers (exec i s) := by
  cases i
  case supplyRailChange far on => exact absurd rfl (hi far on)
  case pwrgoodFall | creditInitTimeout | responseSend | creditTimeout | linkDown | watchdogExpiry | spineFault | preclean | globalEviction |
      autoParkExpiry | parkedAccessWake | pairStageEnd | cxlLinkTrained | tapBypass | tapSamplePreload | tapIdcode | drainLimit | staleDie |
      urg7Trigger | mDecay | waterlineRecompute | monWindowEnd | wakeSenseCrossing | cxlReceiverDetected | idleParkUnderCap | walkEnd =>
    unfold exec
    exact State.answers_on (ite_answers ⟨_, rfl⟩ ⟨_, rfl⟩)
  case resetNFall | resetNRise | tapExtest | tap1838Config =>
    unfold exec
    exact State.answers_on (ite_answers ⟨_, rfl⟩ (ite_answers ⟨_, rfl⟩ ⟨_, rfl⟩))
  case startImp src _ | startConv src =>
    cases src
    · unfold exec
      exact State.answers_on (ite_answers ⟨_, rfl⟩ ⟨_, rfl⟩)
    · exact ⟨_, rfl⟩
  case rowRepair src _ =>
    cases src
    · exact ⟨_, rfl⟩
    · exact ⟨_, rfl⟩
  case fillLineArrival f =>
    cases h : s.dev.haul.farArrived.find? (fun x => x.1 == f.val) with
    | none => exact ⟨_, exec_fillLineArrival_of_none h⟩
    | some x => exact ⟨_, exec_fillLineArrival_of_line h⟩
  all_goals exact ⟨_, rfl⟩

/-! ### SUPPLY_RAIL_CHANGE (R472) -/

/-- The rail stands, and its loss stops the device (R472). -/
abbrev Dev.railHolds (d : Dev) (far : Bool) : Prop :=
  (if far then d.pins.vddaFar else d.pins.vddUcie) = true ∧ d.pins.pwrgood = true ∧ d.mode ≠ mdSHUTTERED

/-- A rail at its new level. -/
def Dev.railSet (d : Dev) (far on : Bool) : Dev :=
  { d with pins := if far then { d.pins with vddaFar := on } else { d.pins with vddUcie := on } }

theorem exec_supplyRailChange (far on : Bool) (s : State) :
    exec (.supplyRailChange far on) s =
      if on = false ∧ s.dev.railHolds far then .fault .supplyUndefined else .next (s.put (s.dev.railSet far on)) := by
  change execSupplyRailChange far on s = _
  by_cases h : on = false ∧ s.dev.railHolds far
  · obtain ⟨rfl, hrail, hpower, hmode⟩ := h
    simp [execSupplyRailChange, State.on, hrail, hpower, hmode]
  · rw [if_neg h]
    have hcond : ¬(!on && (if far then s.dev.pins.vddaFar else s.dev.pins.vddUcie) && s.dev.pins.pwrgood && s.dev.mode != mdSHUTTERED) = true := by
      simpa [and_assoc] using h
    simp only [execSupplyRailChange, State.on, hcond]
    rfl

/-- No command but a change of a supply rail stops the device. -/
theorem exec_ne_fault {i : Instr} (hi : ∀ far on, i ≠ .supplyRailChange far on) (s : State) (f : Fault) : exec i s ≠ .fault f := by
  obtain ⟨t, ht⟩ := exec_answers i hi s
  simp [ht]

/-- Settles O4: every command but SUPPLY_RAIL_CHANGE answers, and that one tests the rail that goes. -/
theorem onlyALostRailStops : Obligations.OnlyALostRailStops := by
  intro i s
  by_cases hi : ∀ far on, i ≠ .supplyRailChange far on
  · obtain ⟨t, ht⟩ := exec_answers i hi s
    refine ⟨fun r => by simp [ht], fun ⟨f, hf⟩ => absurd hf (exec_ne_fault hi s f), fun ⟨far, h, _⟩ => absurd h (hi far false)⟩
  · push Not at hi
    obtain ⟨far, on, rfl⟩ := hi
    rw [exec_supplyRailChange]
    by_cases h : on = false ∧ s.dev.railHolds far
    · rw [if_pos h]
      obtain ⟨rfl, hrail⟩ := h
      exact ⟨fun r => by simp, fun _ => ⟨far, rfl, hrail⟩, fun _ => ⟨_, rfl⟩⟩
    · rw [if_neg h]
      refine ⟨fun r => by simp, fun ⟨f, hf⟩ => by simp at hf, fun ⟨far', hrow, hrail⟩ => ?_⟩
      obtain ⟨rfl, rfl⟩ := Instr.supplyRailChange.inj hrow
      exact absurd ⟨rfl, hrail⟩ h

/-! ### The queue -/

/-- No command touches the queue. -/
theorem exec_pending {i : Instr} {s t : State} (h : exec i s = .next t) : t.pending = s.pending := by
  by_cases hi : ∀ far on, i ≠ .supplyRailChange far on
  · obtain ⟨d, hd⟩ := exec_answers i hi s
    rw [← Host.Outcome.next.inj (hd.symm.trans h)]
  · push Not at hi
    obtain ⟨far, on, rfl⟩ := hi
    rw [exec_supplyRailChange] at h
    split at h
    · exact absurd h (by simp)
    · rw [← Host.Outcome.next.inj h]

/-- A step takes the front of the queue, and nothing else. -/
theorem step_pending {s t : State} (h : step s = .next t) : t.pending = s.pending.tail := by
  obtain ⟨d, q⟩ := s
  cases q with
  | nil => exact (congrArg State.pending (Host.Outcome.next.inj h)).symm
  | cons c rest => exact exec_pending (s := { dev := d, pending := rest }) h

/-- Settles O3: the command at the front leaves the queue, and no command touches the rest. -/
theorem queueStaysWellFormed : Obligations.QueueStaysWellFormed := by
  intro s t hwf h
  have htail := step_pending h
  exact ⟨fun c hc => hwf c (List.mem_of_mem_tail (htail ▸ hc)), htail⟩

/-- Settles O1: a step hands the command at the front of the queue to its meaning. -/
theorem stepRunsFrontCommand : Obligations.StepRunsFrontCommand := fun _ _ _ => rfl

end Sys2Proof.Machine

/-!
PROOFS. The page POWER: its registers, their reset words, and what a write and a count do to them (R401).
-/
namespace Sys2Proof.Machine

/-! ### Registers that a write leaves -/

/-- A register of which no bit is written from outside. -/
abbrev RegD.ReadOnly (r : RegD) : Prop := ∀ f ∈ r.fields, f.acc = .ro

theorem applyWrite_of_readOnly {r : RegD} (h : r.ReadOnly) (old v : Word32) : applyWrite r old v = old := by
  rw [applyWrite_eq_foldl]
  refine List.foldlRecOn r.fields _ (motive := fun w => w = old) rfl fun w hw f hf => ?_
  rw [writeField, h f hf]
  exact hw

theorem Dev.rdReg_storeReg_of_readOnly {a : Nat} {r : RegD} (d : Dev) (v : Word32) (hr : regAt a = some r) (h : r.ReadOnly)
    (hclamp : ∀ t : Dev, t.reclamp a = t) : (d.storeReg a v).rdReg a = d.rdReg a := by
  simp only [Dev.storeReg, hr, applyWrite_of_readOnly h, hclamp]
  split
  · rfl
  · rw [Dev.rdReg_wrReg_same]

/-- A field that fills its register is the register. -/
theorem withBits_all (w : Word32) (x : Nat) : withBits w 31 0 x = BitVec.ofNat 32 x := by
  refine BitVec.eq_of_getLsbD_eq fun i hi => ?_
  rw [getLsbD_withBits _ _ _ (by decide), if_pos (by omega), BitVec.getLsbD_ofNat]
  simp [hi]

/-- A counter that fills its register goes up by one, modulo 2^32. -/
theorem Dev.rdReg_bump_all (d : Dev) {f : Fld} (hhi : f.hi = 31) (hlo : f.lo = 0) :
    (d.bump f).rdReg (f.addr 0 0) = d.rdReg (f.addr 0 0) + 1 := by
  rw [Dev.bump, Dev.setF, Dev.rdReg_wrReg_same, Dev.fv, hhi, hlo, withBits_all, bitsOf, Nat.pow_zero, Nat.div_one,
    Nat.mod_eq_of_lt (d.rdReg _).isLt, BitVec.ofNat_add, BitVec.ofNat_toNat, BitVec.setWidth_eq]
  rfl

/-! ### The map of the page (R401) -/

/-- The offsets of the six registers of the page that a write does not change. -/
abbrev powerShown : List Nat := [0x44, 0x48, 0x4C, 0x50, 0x54, 0x58]

theorem regAt_power {off : Nat} (hlo : 0x40 ≤ off) (hhi : off < 4096) : regAt (0xE000 + off) = findReg regsPower off := by
  have hpage : (0xE000 + off) / 4096 = 0xE := by omega
  have hoff : (0xE000 + off) % 4096 = off := by omega
  have hg : groupOf 0xE = some ⟨0xe, 1, regsPower, 0x7⟩ := by decide +kernel
  simp only [regAt, hpage, hoff, hg, if_neg (Nat.not_lt.mpr hlo)]

/-- None of the registers is an array, so an offset is that of a register or of none. -/
theorem findReg_power_isSome (off : Nat) : (findReg regsPower off).isSome = true ↔ off ∈ 0x40 :: powerShown := by
  have hsingle : ∀ r ∈ regsPower, r.stride = 0 := by decide
  have hoffs : 0x40 :: powerShown = regsPower.map RegD.off := by decide
  rw [findReg, List.find?_isSome, hoffs, List.mem_map]
  refine exists_congr fun r => and_congr_right fun hr => ?_
  simp only [hsingle r hr, Bool.and_eq_true, decide_eq_true_eq, BEq.rfl, if_true, beq_iff_eq]
  omega

theorem powerShown_bounds : ∀ off ∈ powerShown, 0x40 ≤ off ∧ off < 4096 := by decide

/-- The six registers are read-only, field by field, and reset to 0. -/
theorem findReg_powerShown : ∀ off ∈ powerShown, ∃ r ∈ regsPower, findReg regsPower off = some r ∧ r.ReadOnly := by decide

theorem resetWord_power : resetWord 0xE040 = 0x850AD2AA ∧ ∀ off ∈ powerShown, resetWord (0xE000 + off) = 0 := by decide +kernel

/-- No clamp of the page is about the six registers. -/
theorem Dev.reclamp_powerShown (d : Dev) : ∀ off ∈ powerShown, d.reclamp (0xE000 + off) = d := by
  simp only [List.forall_mem_cons, List.not_mem_nil, false_imp_iff, implies_true, and_true]
  exact ⟨rfl, rfl, rfl, rfl, rfl, rfl⟩

/-- Settles O6: the map of the page lists the seven registers, and all but CAP_CTL are read-only. -/
theorem powerPageRegisters : Obligations.PowerPageRegisters := by
  obtain ⟨hcap, hshown⟩ := resetWord_power
  refine ⟨fun off hlo hhi => ?_, hcap, hshown, fun d v off hoff => ?_, ⟨State.reset.dev, 0, ?_⟩, fun d => ⟨?_, ?_⟩⟩
  · rw [regAt_power hlo hhi]
    exact findReg_power_isSome off
  · obtain ⟨hlo, hhi⟩ := powerShown_bounds off hoff
    obtain ⟨r, _, hr, hro⟩ := findReg_powerShown off hoff
    exact d.rdReg_storeReg_of_readOnly v ((regAt_power hlo hhi).trans hr) hro fun t => t.reclamp_powerShown off hoff
  · decide +kernel
  · exact d.rdReg_bump_all (f := Reg.POWER_CNT_STEP_UP_VALUE) rfl rfl
  · exact d.rdReg_bump_all (f := Reg.POWER_CNT_PEAK_VALUE) rfl rfl

end Sys2Proof.Machine

/-!
PROOFS. Register requests: how they are judged, and what the page that carries one out does and answers (R453, R459, R464).
-/
namespace Sys2Proof.Machine

/-! ### Judging (rows 1 to 4 of R453) -/

/-- A page that the map does not have. -/
def absentPage (page : Nat) : Bool := !(isRegPage page) && !(isWinPage page)

/-- A write that its requester may not make. -/
def Dev.forbids (d : Dev) (reader a : Nat) (write : Bool) : Bool := write && !(d.mayWrite reader a)

/-- The page is dark to the request: the tally ring never is, and a UNIT_REQ that asks a unit back reaches it (R336). -/
def Dev.darkTo (d : Dev) (a : Nat) (write : Bool) : Bool :=
  !(isWinPage (a / 4096) && decide (a / 4096 < 0x2000)) && d.isDark (unitPageOf (a / 4096)) &&
    !(write && a % 4096 == 0x0C && d.canAsk (a / 4096))

/-- The answer of a dark page's stub, and the record of it (R464). -/
def Dev.stubAnswer (d : Dev) (reader a : Nat) (write : Bool) : RegAns × Dev :=
  let t := d.darkRecord (unitPageOf (a / 4096)) a write (if reader = 12 then 0xFF else reader)
  if write = false ∧ isRegPage (a / 4096) = true ∧ a % 4096 = 0 then (.value (d.rdReg a), t)
  else if write = false ∧ isRegPage (a / 4096) = true ∧ a % 4096 = 8 then
    (.value (withBits (if isUnitPage (a / 4096) then d.rdReg a else 0) 3 0 stDARK), t)
  else (.dark 0 (unitPageOf (a / 4096)), t)

section
variable {d : Dev} {reader a : Nat} {w : Option Word32} (o : Option WObs) (late : Bool)

theorem Dev.serveReg_of_absent (h : absentPage (a / 4096) = true) : d.serveReg reader a w o late = (.error 1 0, d) := by
  refine d.serveReg_judged reader a w o late _ ?_
  exact if_pos h

variable (hpage : absentPage (a / 4096) = false)
include hpage

theorem Dev.serveReg_of_misaligned (h : a % 4 ≠ 0) : d.serveReg reader a w o late = (.error 3 7, d) := by
  refine d.serveReg_judged reader a w o late _ ?_
  exact (if_neg (Bool.eq_false_iff.mp hpage)).trans (if_pos (bne_iff_ne.mpr h))

variable (halign : a % 4 = 0)
include halign

theorem Dev.serveReg_of_forbidden (h : d.forbids reader a w.isSome = true) : d.serveReg reader a w o late = (.error 4 2, d) := by
  refine d.serveReg_judged reader a w o late _ ?_
  exact (if_neg (Bool.eq_false_iff.mp hpage)).trans ((if_neg (by simp [halign])).trans (if_pos h))

variable (hmay : d.forbids reader a w.isSome = false)
include hmay

/-- A permitted request of an aligned address on a page of the map meets the last row of judging. -/
theorem Dev.judge_eq_dark :
    d.judge reader a w.isSome = if d.darkTo a w.isSome = true then some (d.stubAnswer reader a w.isSome) else none := by
  rw [Dev.judge]
  refine (if_neg (Bool.eq_false_iff.mp hpage)).trans ((if_neg (by simp [halign])).trans ((if_neg (Bool.eq_false_iff.mp hmay)).trans ?_))
  cases hwin : isWinPage (a / 4096) && decide (a / 4096 < 0x2000) with
  | true => simp [Dev.darkTo, hwin]
  | false =>
    cases hdark : d.isDark (unitPageOf (a / 4096)) with
    | false => simp [Dev.darkTo, hwin, hdark]
    | true =>
      cases hask : w.isSome && a % 4096 == 0x0C && d.canAsk (a / 4096) with
      | true => simp [Dev.darkTo, hwin, hdark, hask]
      | false => simp [Dev.darkTo, Dev.stubAnswer, hwin, hdark, hask, and_assoc, apply_ite some]

theorem Dev.serveReg_of_dark (h : d.darkTo a w.isSome = true) : d.serveReg reader a w o late = d.stubAnswer reader a w.isSome :=
  d.serveReg_judged reader a w o late _ ((Dev.judge_eq_dark hpage halign hmay).trans (if_pos h))

theorem Dev.judge_of_open (h : d.darkTo a w.isSome = false) : d.judge reader a w.isSome = none :=
  (Dev.judge_eq_dark hpage halign hmay).trans (if_neg (Bool.eq_false_iff.mp h))

/-! ### What an open request does (rows 5 to 8 of R453) -/

variable (hopen : d.darkTo a w.isSome = false)
include hopen

theorem Dev.serveReg_of_open_late : (d.serveReg reader a w o true).1 = .dark 0 (unitPageOf (a / 4096)) := by
  rw [Dev.serveReg, Dev.judge_of_open hpage halign hmay hopen]
  rfl

/-- In time, the page carries the request out, between the cells that bring it and take its answer back. -/
theorem Dev.serveReg_of_open {x : RegAns} {e : Dev}
    (h : (d.countCell (readerAtt reader) (attOfPage (unitPageOf (a / 4096))) 2).carryOut reader a w o = (x, e)) :
    d.serveReg reader a w o false = (x, e.countCell (attOfPage (unitPageOf (a / 4096))) (readerAtt reader) 2) := by
  rw [d.serveReg_done reader a w o (Dev.judge_of_open hpage halign hmay hopen)]
  simp only [h]

end

section
variable (b : Dev) (reader : Nat) {a : Nat} (o : Option WObs)

theorem Dev.carryOut_write_window (v : Word32) (h : isWinPage (a / 4096) = true) : (b.carryOut reader a (some v) o).1 = .done := by
  simp only [Dev.carryOut, h, if_true]

theorem Dev.carryOut_read_window (h : isWinPage (a / 4096) = true) : ∃ x, b.carryOut reader a none o = (.value x, b) := by
  simp only [Dev.carryOut, h, if_true]
  exact ⟨_, rfl⟩

/-- A read of FLASH_DATA that does not get the flash lease leaves the page as it is. -/
theorem Dev.flashRead_of_busy {b : Dev} (h : (b.flashRead).2 = none) : b.flashRead = (b, none) := by
  cases hok : (b.askLease lsFLASH hoHOSTFL rkDIAG).1 with
  | false => simp [Dev.flashRead, hok]
  | true => simp [Dev.flashRead, hok] at h

theorem Dev.carryOut_read_flash (h : (b.flashRead).2 = none) : b.carryOut reader 0x5064 none o = (.retry 10, b) := by
  simp [Dev.carryOut, isWinPage, Dev.flashRead_of_busy h]

variable (hwin : isWinPage (a / 4096) = false)
include hwin

theorem Dev.carryOut_undefined (w : Option Word32) (h : regAt a = none) :
    b.carryOut reader a w o = (if w = none then .value 0 else .done, b) := by
  have hflash : a ≠ 0x5064 := fun e => absurd (e ▸ h) (by decide +kernel)
  cases w with
  | none => simp [Dev.carryOut, hwin, h, hflash]
  | some v => simp [Dev.carryOut, hwin, h]

theorem Dev.carryOut_write (v : Word32) (h : (regAt a).isSome = true) :
    b.carryOut reader a (some v) o = (.done, ((b.takeObs a o).2).writeReg a v (b.takeObs a o).1) := by
  simp [Dev.carryOut, hwin, Option.isSome_iff_ne_none.mp h]

theorem Dev.carryOut_read (h : (regAt a).isSome = true) (hflash : a ≠ 0x5064) :
    b.carryOut reader a none o = (.value (b.readReg reader a).1, (b.readReg reader a).2) := by
  simp [Dev.carryOut, hwin, Option.isSome_iff_ne_none.mp h, hflash]

end

/-- Settles O18: the rows of judging come first; an open request goes to its page, which answers by what stands at the address. -/
theorem registerRequestsAreJudged : Obligations.RegisterRequestsAreJudged := by
  intro d reader a w o late page pg absent forbidden dark
  refine ⟨Dev.serveReg_of_absent o late, Dev.serveReg_of_misaligned o late, Dev.serveReg_of_forbidden o late, rfl,
    fun hp ha hm hd => ?_, fun hp ha hm hd => ⟨?late, ?intime⟩⟩
  · rw [Dev.serveReg_of_dark o late hp ha hm hd, Dev.stubAnswer]
    simp only [Option.isSome_eq_false_iff, Option.isNone_iff_eq_none]
    rfl
  case late =>
    rintro rfl
    exact Dev.serveReg_of_open_late o hp ha hm hd
  case intime =>
    rintro rfl
    have served {x : RegAns} {e : Dev} := Dev.serveReg_of_open o hp ha hm hd (x := x) (e := e)
    refine ⟨fun hwin hreg => ?_, fun hw hflash hbusy => ?_, fun hwin hreg => ⟨fun v hw => ?_, fun hw hflash => ?_⟩,
      fun hwin => ⟨fun v hw => ?_, fun hw => ?_⟩⟩
    · exact served (Dev.carryOut_undefined _ reader o hwin w hreg)
    · subst hw hflash
      rw [Dev.flashRead_of_busy hbusy]
      exact ⟨served (Dev.carryOut_read_flash _ reader o hbusy), (Dev.rdReg_countCell_other _ _ _ _ _ (by decide)).trans
        (Dev.rdReg_countCell_other _ _ _ _ _ (by decide))⟩
    · subst hw
      rw [served (Dev.carryOut_write _ reader o hwin v hreg)]
      exact ⟨rfl, rfl⟩
    · subst hw
      exact served (Dev.carryOut_read _ reader o hwin hreg hflash)
    · subst hw
      rw [served rfl]
      exact Dev.carryOut_write_window _ reader o v hwin
    · subst hw
      obtain ⟨x, hx⟩ := Dev.carryOut_read_window _ reader o hwin
      exact ⟨x, served hx⟩

end Sys2Proof.Machine

/-!
PROOFS. Register writes as rows of the table: where their registers stand, what each does beside storing its register, and the answer that
Nguane firmware gets (R453, R459, R460, R463).
-/
namespace Sys2Proof.Machine

/-! ### The registers that rows write -/

theorem exec_of_regRow {i : Instr} {w : Who} {a : Nat} {v : Word32} {o : WObs} (h : regRow i = some (w, a, v, o)) (s : State) :
    exec i s = .next (s.put (s.dev.regWrite w a v o)) := by
  unfold regRow at h
  split at h
  all_goals simp only [Option.some.injEq, Prod.mk.injEq, reduceCtorEq] at h
  all_goals
    obtain ⟨rfl, rfl, rfl, rfl⟩ := h
    rfl

/-- The address of a register that the map defines: aligned, on a register page, not in a window. -/
abbrev RegAddr (a : Nat) : Prop := a % 4 = 0 ∧ isRegPage (a / 4096) = true ∧ a / 4096 < 0x1000 ∧ (regAt a).isSome = true

/-- Register pages lie below the windows. -/
theorem isRegPage_lt {page : Nat} (h : isRegPage page = true) : page < 0x1000 := by
  have hbound : ∀ g ∈ pageGroups, g.page + g.count ≤ 0x1000 := by decide
  obtain ⟨g, hg⟩ := Option.isSome_iff_exists.mp h
  have hmem := hbound g (List.mem_of_find?_eq_some hg)
  have hin := List.find?_some hg
  simp only [Bool.and_eq_true, decide_eq_true_eq] at hin
  omega

theorem regAddr_header {page off : Nat} (hp : isRegPage page = true) (hoff : off ∈ [0x0C, 0x10, 0x1C]) : RegAddr (page * 4096 + off) := by
  have hdef : ∀ off ∈ [0x0C, 0x10, 0x1C], off < 0x40 ∧ off % 4 = 0 ∧ (findReg regsHeader off).isSome = true := by decide
  obtain ⟨hlt, halign, hreg⟩ := hdef off hoff
  obtain ⟨hpage, _⟩ := header_addr page hlt
  refine ⟨by omega, by rw [hpage]; exact hp, by rw [hpage]; exact isRegPage_lt hp, ?_⟩
  rw [regAt_header hp hlt]
  exact hreg

theorem regAddr_host : ∀ h : Fin 12, ∀ off ∈ [0x44, 0x5C], RegAddr ((0x10 + h.val) * 4096 + off) := by decide +kernel
theorem regAddr_shaft : ∀ n : Fin 48, ∀ off ∈ [0x54, 0x58, 0x200, 0x224, 0x328], RegAddr ((0x200 + n.val) * 4096 + off) := by decide +kernel
theorem regAddr_engine : ∀ n : Fin 48, ∀ off ∈ [0x54, 0x5C, 0x10C, 0x114], RegAddr ((0x100 + n.val) * 4096 + off) := by decide +kernel
theorem regAddr_far : ∀ f : Fin 4, ∀ off ∈ [0x40, 0x50, 0x54, 0x5C], RegAddr ((0x20 + f.val) * 4096 + off) := by decide +kernel
theorem regAddr_hdm : ∀ (f : Fin 4) (k : Fin 8), RegAddr ((0x20 + f.val) * 4096 + 0x108 + 16 * k.val) := by decide +kernel
theorem regAddr_farWindow : ∀ k : Fin 64, RegAddr (0xA40C + 16 * k.val) := by decide +kernel
theorem regAddr_soWindow : ∀ j : Fin 16, RegAddr (0xA808 + 16 * j.val) := by decide +kernel
theorem regAddr_doorbell : ∀ k : Fin 64, RegAddr (0xB800 + 4 * k.val) := by decide +kernel
theorem regAddr_ring : ∀ k : Fin 64, RegAddr (0xB408 + 16 * k.val) := by decide +kernel
theorem regAddr_mirrorWindow : ∀ j : Fin 16, RegAddr (0xC408 + 16 * j.val) := by decide +kernel

/-- What a row of a register write says of it. -/
theorem regRow_inj {w w' : Who} {a a' : Nat} {v v' : Word32} {o o' : WObs} (h : some (w, a, v, o) = some (w', a', v', o')) :
    w = w' ∧ a = a' ∧ v = v' ∧ o = o' := by
  simpa only [Option.some.injEq, Prod.mk.injEq] using h

/-- A well-formed row writes a register of the map. -/
theorem regAddr_of_regRow {i : Instr} {w : Who} {a : Nat} {v : Word32} {o : WObs} (h : regRow i = some (w, a, v, o))
    (hwf : i.wellFormed = true) : RegAddr a := by
  cases i
  case rowRepair n src _ => 
    cases src with
    | none => cases h
    | some x =>
      obtain ⟨-, rfl, -, -⟩ := regRow_inj h
      exact regAddr_shaft n _ (by decide)
  case startImp src _ | startConv src => 
    cases src with
    | none => cases h
    | some x =>
      obtain ⟨-, rfl, -, -⟩ := regRow_inj h
      decide +kernel
  all_goals simp only [regRow, Option.some.injEq, Prod.mk.injEq, reduceCtorEq] at h
  all_goals obtain ⟨-, rfl, -, -⟩ := h
  case funcReset | unitReq | evtSet => exact regAddr_header hwf (by decide)
  case retrain h _ _ | linkDisable h _ _ | apply h _ _ => exact regAddr_host h _ (by decide)
  case park n _ _ | wake n _ _ | freqGo n _ _ | trainStart n _ _ | trainAbort n _ _ | helperStart n _ _ | columnRepair n _ _ _ =>
    exact regAddr_shaft n _ (by decide)
  case halt n _ _ | stepDebug n _ _ | invalidate n _ _ | abort n _ _ | slotFlip n _ _ => exact regAddr_engine n _ (by decide)
  case role f _ _ | farPortDisable f _ _ | slipGo f _ _ _ | scanGo f _ _ | loopNearEndSerial f _ _ | loopNearEndParallel f _ _ |
      loopFarEnd f _ _ => exact regAddr_far f _ (by decide)
  case commit f k _ _ => exact regAddr_hdm f k
  case farWindowEnable k _ _ | farWindowDisable k _ _ => exact regAddr_farWindow k
  case soWindowEnable j _ _ | soWindowDisable j _ _ => exact regAddr_soWindow j
  case doorbell k _ _ => exact regAddr_doorbell k
  case resume k _ _ => exact regAddr_ring k
  case mwEnable j _ _ => exact regAddr_mirrorWindow j
  case pairRoleWrite _ e _ => cases e <;> decide +kernel
  all_goals decide +kernel

/-! ### What a row does beside storing its register -/

/-- A bit of a word with a field replaced. -/
theorem bitN_withBits (v : Word32) {hi : Nat} (lo x i : Nat) (hhi : hi < 32) :
    bitN (withBits v hi lo x).toNat i = if lo ≤ i ∧ i ≤ hi then x.testBit (i - lo) else bitN v.toNat i := by
  rw [bitN_toNat, bitN_toNat, getLsbD_withBits _ _ _ hhi]

section
variable (d : Dev) (old size v : Word32) (o : WObs)

theorem Dev.regEffect_header {page off : Nat} (h : off < 0x40) :
    d.regEffect (page * 4096 + off) old size v o = d.effHeader page off v o := by
  obtain ⟨hpage, hoff⟩ := header_addr page h
  simp only [Dev.regEffect, hpage, hoff, if_pos h]

variable {off : Nat} (hlo : 0x40 ≤ off) (hhi : off < 4096)
include hlo hhi

/-- The pages from 0x10 on, beyond those that stand alone. -/
theorem Dev.regEffect_array {page : Nat} (h : 0x10 ≤ page) :
    d.regEffect (page * 4096 + off) old size v o =
      if page < 0x1C then d.effHost (page - 0x10) off old v
      else if page < 0x24 then d.farWritten (page - 0x20) off old v o.pass
      else if page < 0x44 then d.effClasstab (page - 0x40) off
      else if page < 0x130 then d.effEngine (page - 0x100) off v
      else if page < 0x230 then d.effShaft (page - 0x200) off v o
      else d := by
  have hpage : (page * 4096 + off) / 4096 = page := by omega
  have hoff : (page * 4096 + off) % 4096 = off := by omega
  simp only [Dev.regEffect, hpage, hoff, beq_iff_eq]
  iterate 16 rw [if_neg (by omega)]

theorem Dev.regEffect_host (h : Fin 12) : d.regEffect ((0x10 + h.val) * 4096 + off) old size v o = d.effHost h off old v := by
  rw [Dev.regEffect_array d old size v o hlo hhi (by omega), if_pos (by omega), Nat.add_sub_cancel_left]

theorem Dev.regEffect_far (f : Fin 4) : d.regEffect ((0x20 + f.val) * 4096 + off) old size v o = d.farWritten f off old v o.pass := by
  rw [Dev.regEffect_array d old size v o hlo hhi (by omega), if_neg (by omega), if_pos (by omega), Nat.add_sub_cancel_left]

theorem Dev.regEffect_engine (n : Fin 48) : d.regEffect ((0x100 + n.val) * 4096 + off) old size v o = d.effEngine n off v := by
  rw [Dev.regEffect_array d old size v o hlo hhi (by omega), if_neg (by omega), if_neg (by omega), if_neg (by omega), if_pos (by omega),
    Nat.add_sub_cancel_left]

theorem Dev.regEffect_shaft (n : Fin 48) : d.regEffect ((0x200 + n.val) * 4096 + off) old size v o = d.effShaft n off v o := by
  rw [Dev.regEffect_array d old size v o hlo hhi (by omega), if_neg (by omega), if_neg (by omega), if_neg (by omega), if_neg (by omega),
    if_pos (by omega), Nat.add_sub_cancel_left]

end

/-! A row of a fixed page: its offset decides the effect. -/

section
variable (d : Dev) (old size v : Word32) (o : WObs)

theorem Dev.regEffect_haulage {off : Nat} (hlo : 0x400 ≤ off) (hhi : off < 4096) :
    d.regEffect (0xA000 + off) old size v o =
      if off < 0x800 ∧ off % 16 = 12 then d.fwCtlWritten ((off - 0x400) / 16) old v
      else if 0x800 ≤ off ∧ off < 0x900 ∧ off % 16 = 8 then d.swCtlWritten ((off - 0x800) / 16) old v
      else d := by
  have hpage : (0xA000 + off) / 4096 = 0xA := by omega
  have hoff : (0xA000 + off) % 4096 = off := by omega
  simp only [Dev.regEffect, hpage, hoff, if_neg (show ¬off < 0x40 by omega), Nat.reduceBEq, Bool.false_eq_true, if_false, if_true,
    Dev.effHaulage, beq_iff_eq, Bool.and_eq_true, decide_eq_true_eq, hlo, true_and, and_assoc]
  iterate 4 rw [if_neg (by omega)]

theorem Dev.regEffect_farWindow (k : Fin 64) : d.regEffect (0xA40C + 16 * k.val) old size v o = d.fwCtlWritten k old v := by
  rw [show 0xA40C + 16 * k.val = 0xA000 + (0x40C + 16 * k.val) by omega, Dev.regEffect_haulage d old size v o (by omega) (by omega),
    if_pos (by omega), show (0x40C + 16 * k.val - 0x400) / 16 = k.val by omega]

theorem Dev.regEffect_soWindow (j : Fin 16) : d.regEffect (0xA808 + 16 * j.val) old size v o = d.swCtlWritten j old v := by
  rw [show 0xA808 + 16 * j.val = 0xA000 + (0x808 + 16 * j.val) by omega, Dev.regEffect_haulage d old size v o (by omega) (by omega),
    if_neg (by omega), if_pos (by omega), show (0x808 + 16 * j.val - 0x800) / 16 = j.val by omega]

theorem Dev.regEffect_dispatch {off : Nat} (hlo : 0x40 ≤ off) (hhi : off < 4096) :
    d.regEffect (0xB000 + off) old size v o = d.effDispatch off v := by
  have hpage : (0xB000 + off) / 4096 = 0xB := by omega
  have hoff : (0xB000 + off) % 4096 = off := by omega
  simp only [Dev.regEffect, hpage, hoff, if_neg (Nat.not_lt.mpr hlo), Nat.reduceBEq, Bool.false_eq_true, if_false, if_true]

theorem Dev.regEffect_doorbell (k : Fin 64) : d.regEffect (0xB800 + 4 * k.val) old size v o = d.ringBell k v := by
  rw [show 0xB800 + 4 * k.val = 0xB000 + (0x800 + 4 * k.val) by omega, Dev.regEffect_dispatch d old size v o (by omega) (by omega),
    Dev.effDispatch, if_neg (by simp), if_pos (by simp; omega), show (0x800 + 4 * k.val - 0x800) / 4 = k.val by omega]

theorem Dev.regEffect_ring (k : Fin 64) : d.regEffect (0xB408 + 16 * k.val) old size v o = d.ringCtl k v := by
  rw [show 0xB408 + 16 * k.val = 0xB000 + (0x408 + 16 * k.val) by omega, Dev.regEffect_dispatch d old size v o (by omega) (by omega),
    Dev.effDispatch, if_pos (by simp; omega), show (0x408 + 16 * k.val - 0x400) / 16 = k.val by omega]

theorem Dev.regEffect_pair {off : Nat} (hlo : 0x40 ≤ off) (hhi : off < 4096) :
    d.regEffect (0xC000 + off) old size v o = d.pairWritten off old size v := by
  have hpage : (0xC000 + off) / 4096 = 0xC := by omega
  have hoff : (0xC000 + off) % 4096 = off := by omega
  simp only [Dev.regEffect, hpage, hoff, if_neg (Nat.not_lt.mpr hlo), Nat.reduceBEq, Bool.false_eq_true, if_false, if_true]

theorem Dev.regEffect_mirrorWindow (j : Fin 16) : d.regEffect (0xC408 + 16 * j.val) old size v o = d.pairWritten (0x408 + 16 * j.val) old size v := by
  rw [show 0xC408 + 16 * j.val = 0xC000 + (0x408 + 16 * j.val) by omega, Dev.regEffect_pair d old size v o (by omega) (by omega)]

end

theorem Dev.fv_linkDisable (b : Dev) (h : Nat) :
    b.fv Reg.HOSTPORT_LINK_CTL_DISABLE h = bitsOf (b.rdReg ((0x10 + h) * 4096 + 0x44)) 9 9 := by
  simp [Dev.fv, Fld.addr, Reg.HOSTPORT_LINK_CTL_DISABLE]

/-- The effect of a row is the effect of its register's write. -/
theorem Dev.regEffect_of_regRow {i : Instr} {w : Who} {a : Nat} {v : Word32} {o : WObs} (h : regRow i = some (w, a, v, o)) (b d : Dev) :
    d.regEffect a (b.rdReg a) (b.sizeBeside a) v o = rowEffect b d i := by
  cases i
  case rowRepair n src _ => 
    cases src with
    | none => cases h
    | some x =>
      obtain ⟨-, rfl, rfl, rfl⟩ := regRow_inj h
      rw [Dev.regEffect_shaft _ _ _ _ _ (by decide) (by decide)]
      simp [Dev.effShaft, rowEffect, bitN_withBits]
  case startImp src _ | startConv src => 
    cases src with
    | none => cases h
    | some x =>
      obtain ⟨-, rfl, rfl, rfl⟩ := regRow_inj h
      simp [Dev.regEffect, Dev.effCalref, bitN_withBits, rowEffect, Nat.testBit]
  all_goals simp only [regRow, Option.some.injEq, Prod.mk.injEq, reduceCtorEq] at h
  all_goals obtain ⟨-, rfl, rfl, rfl⟩ := h
  case funcReset | unitReq | evtSet =>
    rw [Dev.regEffect_header _ _ _ _ _ (by decide)]
    simp [Dev.effHeader, bitN_withBits, rowEffect]
  case retrain h _ _ | linkDisable h _ _ | apply h _ _ =>
    rw [Dev.regEffect_host _ _ _ _ _ (by decide) (by decide)]
    simp [Dev.effHost, bitN_withBits, rowEffect, Dev.fv_linkDisable]
  case park n _ _ | wake n _ _ | freqGo n _ _ | trainStart n _ _ | trainAbort n _ _ | helperStart n _ _ | columnRepair n _ _ _ =>
    rw [Dev.regEffect_shaft _ _ _ _ _ (by decide) (by decide)]
    simp [Dev.effShaft, rowEffect, bitN_withBits, Nat.testBit]
  case halt n _ _ | stepDebug n _ _ | invalidate n _ _ | abort n _ _ | slotFlip n _ _ =>
    rw [Dev.regEffect_engine _ _ _ _ _ (by decide) (by decide)]
    simp [Dev.effEngine, rowEffect, bitN_withBits]
  case role f _ _ | farPortDisable f _ _ | slipGo f _ _ _ | scanGo f _ _ | loopNearEndSerial f _ _ | loopNearEndParallel f _ _ |
      loopFarEnd f _ _ =>
    rw [Dev.regEffect_far _ _ _ _ _ (by decide) (by decide)]
    rfl
  case commit f k _ _ =>
    simp only [rowEffect, Nat.add_assoc]
    exact d.regEffect_far _ _ _ _ (by omega) (by omega) f
  case farWindowEnable k _ _ | farWindowDisable k _ _ => exact d.regEffect_farWindow _ _ _ _ k
  case soWindowEnable j _ _ | soWindowDisable j _ _ => exact d.regEffect_soWindow _ _ _ _ j
  case doorbell k _ _ => exact d.regEffect_doorbell _ _ _ _ k
  case resume k _ _ => exact d.regEffect_ring _ _ _ _ k
  case mwEnable j _ _ => exact d.regEffect_mirrorWindow _ _ _ _ j
  case takeover => exact d.regEffect_pair _ _ _ _ (off := 0x4C) (by decide) (by decide)
  case pairRoleWrite _ e _ =>
    cases e
    · exact d.regEffect_pair _ _ _ _ (off := 0x40) (by decide) (by decide)
    · exact d.regEffect_pair _ _ _ _ (off := 0x44) (by decide) (by decide)
  all_goals simp [Dev.regEffect, rowEffect, Dev.effDevice, Dev.effModes, Dev.effLeases, Dev.effFuses, Dev.effTally, Dev.effHeat, Dev.effCalref,
    Dev.effHaulage, Dev.effCollar, bitN_withBits, Nat.testBit]

/-! ### Firmware's answer -/

theorem unitPageOf_regPage {page : Nat} (h : page < 0x1000) : unitPageOf page = page := if_neg (by omega)

theorem isWinPage_regPage {page : Nat} (h : page < 0x1000) : isWinPage page = false := by
  simp [isWinPage, Nat.not_le.mpr h]
  omega

/-- Firmware's write of a register of the map, on a page that is not dark. -/
theorem Dev.serveReg_firmware {d : Dev} {a : Nat} (v : Word32) (o : WObs) (ha : RegAddr a) (hdark : d.isDark (a / 4096) = false) :
    d.serveReg 12 a (some v) (some o) false =
      (.done, ((d.countCell 0x4A (attOfPage (a / 4096)) 2).writeReg a v o).countCell (attOfPage (a / 4096)) 0x4A 2) := by
  obtain ⟨halign, hreg, hlt, hdef⟩ := ha
  have hpage : absentPage (a / 4096) = false := by simp [absentPage, hreg]
  have hopen : d.darkTo a true = false := by simp [Dev.darkTo, unitPageOf_regPage hlt, hdark]
  have hfw : readerAtt 12 = 0x4A := rfl
  have hcarry : (d.countCell (readerAtt 12) (attOfPage (unitPageOf (a / 4096))) 2).carryOut 12 a (some v) (some o) = _ :=
    Dev.carryOut_write _ 12 (some o) (isWinPage_regPage hlt) v hdef
  rw [Dev.serveReg_of_open (some o) hpage halign rfl hopen hcarry, unitPageOf_regPage hlt, hfw]
  simp only [Dev.takeObs]

/-- Settles O21: the address of a row is on the map, so that its register is stored; the effect of the write is the row's. -/
theorem registerRowsAsFirmware : Obligations.RegisterRowsAsFirmware := by
  intro i s a v o hrow hwf hruns hdark att b
  rw [exec_of_regRow hrow, ← Dev.regEffect_of_regRow hrow b]
  simp only [Dev.regWrite, Dev.regReq, hruns, if_true, Dev.serveReg_firmware v o (regAddr_of_regRow hrow hwf) hdark]
  rfl

end Sys2Proof.Machine

/-!
PROOFS. The pair link: the stages of its bring-up, and the rows, bad codewords, timeouts and lost locks of an ACTIVE link (R297, R303 to R308,
R312).
-/
namespace Sys2Proof.Machine

/-! ### A link that is up (R304) -/

/-- The port is a pair link with its rows flowing. -/
abbrev Dev.pairUp (d : Dev) (f : Nat) : Prop := d.farRole f = 2 ∧ d.farStage f = 5

theorem Dev.pairDown_iff (d : Dev) (f : Nat) : (d.farRole f != 2 || d.farStage f != 5) = true ↔ ¬d.pairUp f := by
  simp only [Bool.or_eq_true, bne_iff_ne, not_and_or, ne_eq]

/-- A change of a port may be told by what it does to the port as it stands. -/
theorem Dev.modFar_congr {d : Dev} {f : Nat} {g g' : FarSt → FarSt} (h : g (d.far f) = g' (d.far f)) : d.modFar f g = d.modFar f g' :=
  congrArg (fun p => ({ d with fars := sset (fun _ => {}) d.fars f p } : Dev)) h

/-! ### IDLE and NAK (R304, R306) -/

theorem exec_idle (f : Fin 4) (row : BitVec 512) (seen : BitVec 8 × BitVec 8) (s : State) :
    exec (.idle f row seen) s = .next (s.put (s.dev.idleIn f row seen)) := (rfl)

theorem Dev.idleIn_of_other {d : Dev} {f : Nat} {row : BitVec 512} (seen : BitVec 8 × BitVec 8) (h : ¬d.pairUp f ∨ rowField row 0 1 ≠ 0) :
    d.idleIn f row seen = d := by
  rw [Dev.idleIn, if_pos]
  rwa [Bool.or_eq_true, Dev.pairDown_iff, bne_iff_ne]

theorem Dev.idleIn_of_idle {d : Dev} {f : Nat} {row : BitVec 512} (seen : BitVec 8 × BitVec 8) (hup : d.pairUp f) (h : rowField row 0 1 = 0) :
    d.idleIn f row seen = (d.countRx f seen).rowAck f row := by
  rw [Dev.idleIn]
  exact if_neg (by simp [hup, h])

theorem exec_nak (f : Fin 4) (row : BitVec 512) (seen : BitVec 8 × BitVec 8) (s : State) :
    exec (.nak f row seen) s = .next (s.put (s.dev.nakIn f row seen)) := (rfl)

theorem Dev.nakIn_of_other {d : Dev} {f : Nat} {row : BitVec 512} (seen : BitVec 8 × BitVec 8)
    (h : ¬d.pairUp f ∨ rowField row 0 1 ≠ 0x4B) : d.nakIn f row seen = d := by
  rw [Dev.nakIn, if_pos]
  rwa [Bool.or_eq_true, Dev.pairDown_iff, bne_iff_ne]

/-- A NAK counts against its sequence number, and what it acknowledges leaves the replay buffer. -/
def Dev.nakCounted (d : Dev) (f : Nat) (row : BitVec 512) : Dev :=
  d.modFar f (fun q => { q with naks := nakCount q.naks (rowField row 4 2), replay := unacked (rowField row 4 2) q.replay })

theorem Dev.nakIn_of_nak {d : Dev} {f : Nat} {row : BitVec 512} (seen : BitVec 8 × BitVec 8) (hup : d.pairUp f)
    (h : rowField row 0 1 = 0x4B) :
    d.nakIn f row seen =
      let b := (d.countRx f seen).nakCounted f row
      if 3 ≤ (b.far f).naks.2 then (b.modFar f (fun q => { q with naks := (0, 0) })).farRetrain f 3
      else (b.bump Reg.FARPORT_CNT_REPLAY_VALUE f).replayRows f := by
  rw [Dev.nakIn]
  exact if_neg (by simp [hup, h])

/-! ### MSG (R304 to R306) -/

theorem exec_msg (f : Fin 4) (row : BitVec 512) (rows : List (BitVec 512)) (seen : BitVec 8 × BitVec 8) (s : State) :
    exec (.msg f row rows seen) s = .next (s.put (s.dev.msgIn f row rows seen)) := (rfl)

theorem Dev.msgIn_of_down {d : Dev} {f : Nat} (row : BitVec 512) (rows : List (BitVec 512)) (seen : BitVec 8 × BitVec 8) (h : ¬d.pairUp f) :
    d.msgIn f row rows seen = d := by
  rw [Dev.msgIn, if_pos ((d.pairDown_iff f).mpr h)]

/-- The row is a message's, and as many data rows follow as it announces. -/
abbrev msgWhole (row : BitVec 512) (rows : List (BitVec 512)) : Prop := rowField row 0 1 = 0x1E ∧ rows.length = rowField row 1 1 % 8

/-- A message takes its sequence numbers, and waits for its effect; a line takes a cell of the pool. -/
def Dev.msgTaken (d : Dev) (f : Nat) (row : BitVec 512) (rows : List (BitVec 512)) : Dev :=
  let m := msgOfRow row (rows.headD 0)
  d.modFar f (fun q => { q with
    rxSeq := (q.rxSeq + 1 + rows.length) % 65536
    rxMsgs := if 1 ≤ m.mtype ∧ m.mtype ≤ 9 then q.rxMsgs ++ [m] else q.rxMsgs
    pool := if m.mtype = 1 then q.pool + 1 else q.pool
    naksTx := (0, 0) })

theorem Dev.msgIn_of_up {d : Dev} {f : Nat} {row : BitVec 512} {rows : List (BitVec 512)} (seen : BitVec 8 × BitVec 8) (hup : d.pairUp f) :
    d.msgIn f row rows seen =
      if msgWhole row rows then
        let b := (d.countRx f seen).msgTaken f row rows
        ((b.setF Reg.FARPORT_PAIR_LINK_RX_FREE (256 - (b.far f).pool) f).rowAck f row).sendIdle f
      else (d.countRx f seen).farProtocol f (rowField row 0 1) := by
  rw [Dev.msgIn, if_neg (by simp [hup])]
  by_cases h : msgWhole row rows
  · obtain ⟨htype, hlen⟩ := h
    simp [htype, hlen, Dev.msgTaken]
  · rw [if_neg h]
    exact if_pos (by simpa only [Bool.or_eq_true, bne_iff_ne, ne_eq, not_and_or] using h)

/-! ### UNCORRECTABLE_CODEWORD, REPLAY_ACK_TIMEOUT and BLOCK_LOCK_LOSS (R306, R308) -/

theorem exec_uncorrectableCodeword (f : Fin 4) (s : State) :
    exec (.uncorrectableCodeword f) s = .next (s.put (s.dev.badCodeword f)) := (rfl)

theorem Dev.badCodeword_of_down {d : Dev} {f : Nat} (h : ¬d.pairUp f) : d.badCodeword f = d := by
  rw [Dev.badCodeword, if_pos ((d.pairDown_iff f).mpr h)]

theorem Dev.badCodeword_of_up {d : Dev} {f : Nat} (h : d.pairUp f) :
    d.badCodeword f =
      let b := ((d.bump Reg.FARPORT_CNT_RS_UNCORR_VALUE f).raise (farPage f) Reg.EV_FARPORT_RS_UNCORR).modFar f (fun q =>
        { q with naksTx := nakCount q.naksTx q.rxSeq })
      let c := b.emit (.row f (nakRow (b.far f).rxSeq))
      if 3 ≤ (c.far f).naksTx.2 then (c.modFar f (fun q => { q with naksTx := (0, 0) })).farRetrain f 3 else c := by
  rw [Dev.badCodeword]
  exact if_neg (by simp [h])

theorem exec_replayAckTimeout (f : Fin 4) (s : State) :
    exec (.replayAckTimeout f) s = .next (s.put
      (if s.dev.farRole f = 2 ∧ (s.dev.far f).replay ≠ [] then s.dev.farRetrain f 3 else s.dev)) :=
  State.next_congr (ite_congr (by simp) (fun _ => rfl) fun _ => rfl)

theorem exec_blockLockLoss (f : Fin 4) (l : Fin 8) (s : State) :
    exec (.blockLockLoss f l) s = .next (s.put (s.dev.blockLockLoss f l)) := (rfl)

theorem Dev.blockLockLoss_of_unlocked {d : Dev} {f l : Nat} (h : d.farRole f ≠ 2 ∨ d.laneLocked f l = false) : d.blockLockLoss f l = d := by
  rw [Dev.blockLockLoss, if_pos (by simpa using h)]

theorem Dev.blockLockLoss_of_locked {d : Dev} {f l : Nat} (hrole : d.farRole f = 2) (h : d.laneLocked f l = true) :
    d.blockLockLoss f l =
      (((d.bumpBy Reg.FARPORT_CNT_HDR_BAD_VALUE 16 f).bump Reg.FARPORT_CNT_LOCK_LOSS_VALUE f).raise (farPage f) Reg.EV_FARPORT_LOCK_LOSS).lockLost
        f l := by
  rw [Dev.blockLockLoss, if_neg (by simp [hrole, h])]

/-! ### CAP (R304, R308) -/

theorem exec_cap (f : Fin 4) (row : BitVec 512) (seen : BitVec 8 × BitVec 8) (s : State) :
    exec (.cap f row seen) s = .next (s.put (s.dev.capIn f row seen)) := (rfl)

theorem Dev.capIn_of_other {d : Dev} {f : Nat} {row : BitVec 512} (seen : BitVec 8 × BitVec 8)
    (h : d.farRole f ≠ 2 ∨ rowField row 0 1 ≠ 0x55) :
    d.capIn f row seen = d := by
  rw [Dev.capIn, if_pos (by simpa using h)]

/-- A CAP row is compared with the one before: alike, it lengthens the run. -/
def Dev.capCounted (d : Dev) (f : Nat) (row : BitVec 512) : Dev :=
  let body := row &&& ~~~(BitVec.ofNat 512 (2 ^ 15))
  let same := (d.far f).capLast = body ∧ (d.far f).capRun ≠ 0
  d.modFar f (fun q => { q with
    capLast := body
    capRun := if same then q.capRun + 1 else 1
    capAck := if same then q.capAck || bitN row.toNat 15 else bitN row.toNat 15 })

/-- The port sends its own CAP row; with eight alike and an ACK seen, EXCHANGE is over. -/
def Dev.capAnswered (b : Dev) (f : Nat) (row : BitVec 512) : Dev :=
  let c := b.emit (.row f (b.capRow f (8 ≤ (b.far f).capRun)))
  if 8 ≤ (b.far f).capRun ∧ (b.far f).capAck = true then
    (c.peerSeen (rowField row 8 1 % 4) (rowField row 9 2) (rowField row 11 4)).pairActivate f (rowField row 6 2)
  else c

theorem Dev.capCounted_eq (d : Dev) (f : Nat) (row : BitVec 512) :
    d.capCounted f row = d.modFar f (fun p =>
      if p.capLast == row &&& ~~~(BitVec.ofNat 512 (2 ^ 15)) && p.capRun != 0 then
        { p with capRun := p.capRun + 1, capAck := p.capAck || bitN row.toNat 15 }
      else { p with capLast := row &&& ~~~(BitVec.ofNat 512 (2 ^ 15)), capRun := 1, capAck := bitN row.toNat 15 }) := by
  refine Dev.modFar_congr ?_
  simp only [Bool.and_eq_true, beq_iff_eq, bne_iff_ne]
  by_cases h : (d.far f).capLast = row &&& ~~~(BitVec.ofNat 512 (2 ^ 15)) ∧ (d.far f).capRun ≠ 0
  · simp only [if_pos h]
    rw [h.1]
  · simp only [if_neg h]

theorem Dev.capIn_of_cap {d : Dev} {f : Nat} {row : BitVec 512} (seen : BitVec 8 × BitVec 8) (hrole : d.farRole f = 2)
    (h : rowField row 0 1 = 0x55) :
    d.capIn f row seen =
      let a := d.countRx f seen
      if a.farStage f = 5 then a.farProtocol f 0x55
      else if a.farStage f ≠ 4 then a
      else if rowField row 2 3 ≠ a.capOwn f then a.stageFail f 4
      else (a.capCounted f row).capAnswered f row := by
  rw [Dev.capIn, if_neg (by simp [hrole, h])]
  simp only [beq_iff_eq, bne_iff_ne, Dev.capCounted_eq, Dev.capAnswered, Bool.and_eq_true, decide_eq_true_eq]

/-! ### PAIR_STAGE_END (R297, R307) -/

theorem exec_pairStageEnd (f : Fin 4) (o : StageObs) (s : State) :
    exec (.pairStageEnd f o) s = .next (s.put (if s.dev.padsStill then s.dev else s.dev.pairStage f (if s.dev.pins.vddaFar then o else .limit))) :=
  s.on_padsReleased fun d => d.pairStage f (if d.pins.vddaFar then o else .limit)

theorem exec_pairStageEnd_of_released {s : State} (h : ¬s.dev.padsStill) (f : Fin 4) (o : StageObs) :
    exec (.pairStageEnd f o) s = .next (s.put (s.dev.pairStage f (if s.dev.pins.vddaFar then o else .limit))) :=
  (exec_pairStageEnd f o s).trans (State.next_congr (if_neg h))

/-- The port does not train as a pair link: another role is in force, or its unit is out of service. -/
abbrev Dev.pairOut (d : Dev) (f : Nat) : Prop :=
  d.farRole f ≠ 2 ∨ d.farSt f = stFAILED ∨ d.farSt f = stDARK ∨ d.farSt f = stTESTING ∨ d.farSt f = stRESETTING

theorem Dev.pairOut_iff (d : Dev) (f : Nat) :
    (d.farRole f != 2 || d.farSt f == stFAILED || d.farSt f == stDARK || d.farSt f == stTESTING || d.farSt f == stRESETTING) = true ↔
      d.pairOut f := by
  simp only [Bool.or_eq_true, bne_iff_ne, beq_iff_eq, or_assoc]

theorem Dev.pairStage_of_out {d : Dev} {f : Nat} (o : StageObs) (h : d.pairOut f) : d.pairStage f o = d := by
  rw [Dev.pairStage, if_pos ((d.pairOut_iff f).mpr h)]

section
variable {d : Dev} {f : Nat} (h : ¬d.pairOut f)
include h

theorem Dev.pairStage_noSignal :
    d.pairStage f .noSignal = if 2 ≤ d.farStage f ∧ d.farStage f ≤ 4 then d.stageFail f 6 else d := by
  rw [Dev.pairStage, if_neg (mt (d.pairOut_iff f).mp h)]
  simp only [Bool.and_eq_true, decide_eq_true_eq]

theorem Dev.pairStage_noSignal_of_idle (hk : d.farStage f < 2 ∨ 4 < d.farStage f) : d.pairStage f .noSignal = d := by
  rw [Dev.pairStage_noSignal h, if_neg (by omega)]

theorem Dev.pairStage_limit :
    d.pairStage f .limit =
      if d.farStage f = 1 then d.farEnter f stOFFLINE
      else if 2 ≤ d.farStage f ∧ d.farStage f ≤ 4 then d.stageFail f (d.farStage f - 1)
      else d := by
  rw [Dev.pairStage, if_neg (mt (d.pairOut_iff f).mp h)]
  simp only [Bool.and_eq_true, decide_eq_true_eq, beq_iff_eq]

theorem Dev.pairStage_limit_of_stage (h2 : 2 ≤ d.farStage f) (h4 : d.farStage f ≤ 4) :
    d.pairStage f .limit = d.stageFail f (d.farStage f - 1) := by
  rw [Dev.pairStage_limit h, if_neg (by omega), if_pos ⟨h2, h4⟩]

theorem Dev.pairStage_limit_of_idle (hk : d.farStage f = 0 ∨ 4 < d.farStage f) : d.pairStage f .limit = d := by
  rw [Dev.pairStage_limit h, if_neg (by omega), if_neg (by omega)]

theorem Dev.pairStage_ends (lanes : BitVec 8) (rev : Bool) :
    d.pairStage f (.ends lanes rev) =
      let w := widthOf lanes.toNat (d.fv Reg.FARPORT_LANE_EXCL_LANES f)
      if d.farStage f = 1 then (if w = 0 then d else (d.setStage f 2).farEnter f stKINDLING)
      else if d.farStage f = 2 then (d.setStage f 3).emit (.row f (idleRow 0 (d.far f).rxSeq))
      else if d.farStage f = 3 then
        if w = 0 then d.stageFail f 5
        else
          let b := (((d.setLanes f lanes.toNat rev).setF Reg.FARPORT_STATUS_RATE 2 f).setStage f 4).modFar f (fun q => { q with
            capLast := 0, capRun := 0, capAck := false })
          b.emit (.row f (b.capRow f false))
      else d := by
  rw [Dev.pairStage, if_neg (mt (d.pairOut_iff f).mp h)]
  simp only [beq_iff_eq, bne_iff_ne, ite_not]

theorem Dev.pairStage_ends_of_idle (lanes : BitVec 8) (rev : Bool) (hk : d.farStage f = 0 ∨ 4 ≤ d.farStage f) :
    d.pairStage f (.ends lanes rev) = d := by
  rw [Dev.pairStage_ends h]
  dsimp only
  rw [if_neg (by omega), if_neg (by omega), if_neg (by omega)]

theorem Dev.pairStage_ends_of_train (lanes : BitVec 8) (rev : Bool) (hk : d.farStage f = 2) :
    d.pairStage f (.ends lanes rev) = (d.setStage f 3).emit (.row f (idleRow 0 (d.far f).rxSeq)) := by
  rw [Dev.pairStage_ends h]
  dsimp only
  rw [if_neg (by omega), if_pos hk]

/-- In LOCK the lanes that are whole make the link, or none does. -/
theorem Dev.pairStage_ends_of_lock (lanes : BitVec 8) (rev : Bool) (hk : d.farStage f = 3) :
    d.pairStage f (.ends lanes rev) =
      if widthOf lanes.toNat (d.fv Reg.FARPORT_LANE_EXCL_LANES f) = 0 then d.stageFail f 5
      else
        let b := (((d.setLanes f lanes.toNat rev).setF Reg.FARPORT_STATUS_RATE 2 f).setStage f 4).modFar f (fun q => { q with
          capLast := 0, capRun := 0, capAck := false })
        b.emit (.row f (b.capRow f false)) := by
  rw [Dev.pairStage_ends h]
  dsimp only
  rw [if_neg (by omega), if_neg (by omega), if_pos hk]

end

/-- Settles O53: each row, and each event that stands for rows lost, asks first whether the pair link is up, or where its bring-up stands. -/
theorem pairLinkRowsTakeEffect : Obligations.PairLinkRowsTakeEffect := by
  intro s f row seen d p pairUp field a
  simp only [exec_idle, exec_nak, exec_msg, exec_uncorrectableCodeword, exec_cap, exec_replayAckTimeout, exec_blockLockLoss]
  refine ⟨fun hdown => ?down, fun hup => ?up, fun h => ?capOther, fun hrole h => ?cap, ?timeout, fun l => ⟨fun h => ?_, fun hrole h => ?_⟩,
    ?stage⟩
  case down =>
    rw [Dev.idleIn_of_other seen (.inl hdown), Dev.nakIn_of_other seen (.inl hdown), Dev.badCodeword_of_down hdown]
    refine ⟨rfl, rfl, rfl, fun rows => ?_⟩
    rw [Dev.msgIn_of_down row rows seen hdown]
  case up =>
    refine ⟨fun h => ?_, fun h => ?_, fun h => ?_, fun rows => ⟨fun h => ?_, fun h hlen => ?_⟩, fun h => ⟨fun h3 => ?_, fun h3 => ?_⟩, ?_⟩
    · rw [Dev.idleIn_of_other seen (.inr h)]
    · rw [Dev.nakIn_of_other seen (.inr h)]
    · rw [Dev.idleIn_of_idle seen hup h]
      rfl
    · rw [Dev.msgIn_of_up seen hup]
      exact State.next_congr (if_neg (not_and_or.mpr h))
    · rw [Dev.msgIn_of_up seen hup]
      exact State.next_congr (if_pos ⟨h, hlen⟩)
    · rw [Dev.nakIn_of_nak seen hup h]
      exact State.next_congr (if_pos h3)
    · rw [Dev.nakIn_of_nak seen hup h]
      exact State.next_congr (if_neg (Nat.not_le.mpr h3))
    · rw [Dev.badCodeword_of_up hup]
  case capOther => rw [Dev.capIn_of_other seen h]
  case cap =>
    rw [Dev.capIn_of_cap seen hrole h]
    have hnot5 (h4 : a.farStage f = 4) : a.farStage f ≠ 5 := by omega
    refine ⟨fun h5 => ?_, fun h4 h5 => ?_, fun h4 hown => ?_, fun h4 hown => ?_⟩
    · exact State.next_congr (if_pos h5)
    · exact State.next_congr ((if_neg h5).trans (if_pos h4))
    · exact State.next_congr ((if_neg (hnot5 h4)).trans ((if_neg (not_not_intro h4)).trans (if_pos hown)))
    · exact State.next_congr ((if_neg (hnot5 h4)).trans ((if_neg (not_not_intro h4)).trans (if_neg (not_not_intro hown))))
  case timeout => rfl
  · rw [Dev.blockLockLoss_of_unlocked h]
  · rw [Dev.blockLockLoss_of_locked hrole h]
  case stage =>
    refine ⟨fun o h => ?_, fun h => ?_⟩
    · rw [exec_pairStageEnd]
      rcases or_assoc.mpr h with hpads | hout
      · exact State.next_congr (if_pos hpads)
      · exact State.next_congr ((ite_congr rfl (fun _ => rfl) fun _ => Dev.pairStage_of_out _ hout).trans (ite_self _))
    · obtain ⟨hpads, hout⟩ := not_or.mp (mt or_assoc.mp h)
      simp only [exec_pairStageEnd_of_released (s := s) hpads]
      refine ⟨fun o ho => ?_, fun hv => ?_⟩
      · have hlimit : (if s.dev.pins.vddaFar then o else .limit) = .limit := by
          rcases ho with ho | ho
          · rw [ho, ite_self]
          · exact if_neg (Bool.eq_false_iff.mp ho)
        rw [hlimit]
        refine ⟨fun h1 => ?_, fun h2 h4 => ?_, fun h => ?_⟩
        · exact State.next_congr ((Dev.pairStage_limit hout).trans (if_pos h1))
        · exact State.next_congr (Dev.pairStage_limit_of_stage hout h2 h4)
        · exact State.next_congr (Dev.pairStage_limit_of_idle hout h)
      · simp only [if_pos (show s.dev.pins.vddaFar = true from hv)]
        refine ⟨fun h2 h4 => ?_, fun h => ?_, fun lanes rev => ⟨fun h => ?_, fun h1 => ?_, fun h2 => ?_, fun h3 hw => ?_, fun h3 hw => ?_⟩⟩
        · exact State.next_congr ((Dev.pairStage_noSignal hout).trans (if_pos ⟨h2, h4⟩))
        · exact State.next_congr (Dev.pairStage_noSignal_of_idle hout h)
        · exact State.next_congr (Dev.pairStage_ends_of_idle hout lanes rev h)
        · exact State.next_congr ((Dev.pairStage_ends hout lanes rev).trans (if_pos h1))
        · exact State.next_congr (Dev.pairStage_ends_of_train hout lanes rev h2)
        · exact State.next_congr ((Dev.pairStage_ends_of_lock hout lanes rev h3).trans (if_pos hw))
        · exact State.next_congr ((Dev.pairStage_ends_of_lock hout lanes rev h3).trans (if_neg hw))

end Sys2Proof.Machine

/-!
PROOFS. The messages of the pair link in their rows: every field that fits is read back (R304, R326).
-/
namespace Sys2Proof.Machine

/-! ### The body: bytes 37 to 63 of a row -/

/-- The bytes of a message's body as one number, byte 0 lowest. -/
def bodyNat (body : List Nat) : Nat := body.foldr (fun b acc => acc * 256 + b % 256) 0

theorem bodyNat_cons (b : Nat) (body : List Nat) : bodyNat (b :: body) = bodyNat body * 256 + b % 256 := (rfl)

theorem bodyNat_lt (body : List Nat) : bodyNat body < 2 ^ (8 * body.length) := by
  induction body with
  | nil => decide
  | cons b body ih =>
    rw [bodyNat_cons, List.length_cons, Nat.mul_succ 8, Nat.pow_add]
    omega

/-- The bytes of a body are read back, and zeros behind them. -/
theorem bytes_bodyNat (body : List Nat) (hb : ∀ b ∈ body, b < 256) (k : Nat) (hk : body.length ≤ k) :
    (List.range k).map (fun i => bodyNat body / 2 ^ (8 * i) % 2 ^ 8) = body ++ List.replicate (k - body.length) 0 := by
  induction body generalizing k with
  | nil => simp [bodyNat, List.map_const']
  | cons b body ih =>
    obtain ⟨hb0, hbs⟩ := List.forall_mem_cons.mp hb
    obtain ⟨k, rfl⟩ : ∃ j, k = j + 1 := ⟨k - 1, by simp only [List.length_cons] at hk; omega⟩
    have hshift (i : Nat) : bodyNat (b :: body) / 2 ^ (8 * (i + 1)) % 2 ^ 8 = bodyNat body / 2 ^ (8 * i) % 2 ^ 8 := by
      rw [bodyNat_cons, Nat.mul_succ 8, Nat.add_comm (8 * i), Nat.pow_add, ← Nat.div_div_eq_div_mul]
      congr 2
      omega
    have hfirst : bodyNat (b :: body) / 2 ^ (8 * 0) % 2 ^ 8 = b := by
      rw [bodyNat_cons]
      omega
    rw [List.range_succ_eq_map, List.map_cons, List.map_map, hfirst]
    simp only [Function.comp_def, Nat.succ_eq_add_one, hshift]
    rw [ih hbs k (by simpa using hk)]
    simp

/-! ### The fields -/

/-- The fields of a message fit their places in the row. -/
structure PairMsg.Fits (m : PairMsg) : Prop where
  mtype : m.mtype < 256
  flags : m.flags < 256
  epoch : m.epoch < 65536
  addr : m.addr < 2 ^ 39
  cls : m.cls < 64
  mseq : m.mseq < 65536
  mpar : m.mpar < 256
  length : m.body.length ≤ 27

theorem msgLen_lt (m : PairMsg) : msgLen m < 2 := by
  unfold msgLen
  split <;> decide

/-- The row of a message as a number: each field at its place, the body on top. -/
theorem msgRow_toNat {m : PairMsg} (h : m.Fits) (cr ack : Nat) :
    (msgRow m cr ack).toNat =
      bodyNat m.body * 2 ^ 296 + m.mpar * 2 ^ 288 + m.mask.toNat * 2 ^ 224 + m.par.toNat * 2 ^ 160 + m.mseq * 2 ^ 144 + m.cls * 2 ^ 136 +
        m.addr * 2 ^ 96 + m.epoch * 2 ^ 80 + m.flags * 2 ^ 72 + m.mtype * 2 ^ 64 + ack % 65536 * 2 ^ 32 + cr % 256 * 2 ^ 16 +
        msgLen m * 2 ^ 8 + 0x1E := by
  obtain ⟨hmtype, hflags, hepoch, haddr, hcls, hmseq, hmpar, hlength⟩ := h
  have hbody : bodyNat m.body < 2 ^ 216 :=
    Nat.lt_of_lt_of_le (bodyNat_lt m.body) (Nat.pow_le_pow_right (by decide) (by omega))
  have hlen := msgLen_lt m
  have hpar := m.par.isLt
  have hmask := m.mask.isLt
  rw [msgRow, BitVec.toNat_ofNat]
  change (bodyNat m.body * 2 ^ 296 + _) % 2 ^ 512 = _
  omega

/-- A byte of the body is a byte of the row, from bit 296 on. -/
theorem msgRow_body {m : PairMsg} (h : m.Fits) (cr ack i : Nat) :
    (msgRow m cr ack).toNat / 2 ^ (296 + 8 * i) % 2 ^ 8 = bodyNat m.body / 2 ^ (8 * i) % 2 ^ 8 := by
  have hrow := msgRow_toNat h cr ack
  obtain ⟨hmtype, hflags, hepoch, haddr, hcls, hmseq, hmpar, -⟩ := h
  have hlen := msgLen_lt m
  have hpar := m.par.isLt
  have hmask := m.mask.isLt
  have htop : (msgRow m cr ack).toNat / 2 ^ 296 = bodyNat m.body := by
    rw [hrow]
    omega
  rw [Nat.pow_add, ← Nat.div_div_eq_div_mul, htop]

/-- A message whose fields fit is read back from its row, its body padded to 27 bytes. -/
theorem msgOfRow_msgRow {m : PairMsg} (h : m.Fits) (hb : ∀ b ∈ m.body, b < 256) (cr ack : Nat) :
    msgOfRow (msgRow m cr ack) m.data = { m with body := m.body ++ List.replicate (27 - m.body.length) 0, starved := false } := by
  have hrow := msgRow_toNat h cr ack
  have hbody : (List.range 27).map (fun i => (msgRow m cr ack).toNat / 2 ^ (296 + 8 * i) % 2 ^ 8) =
      m.body ++ List.replicate (27 - m.body.length) 0 := by
    simp only [msgRow_body h]
    exact bytes_bodyNat m.body hb 27 h.length
  obtain ⟨hmtype, hflags, hepoch, haddr, hcls, hmseq, hmpar, -⟩ := h
  have hlen := msgLen_lt m
  have hpar := m.par.isLt
  have hmask := m.mask.isLt
  simp only [msgOfRow, hbody]
  simp only [hrow, PairMsg.mk.injEq, and_true]
  refine ⟨?_, ?_, ?_, ?_, ?_, ?_, ofNat_eq_of_eq_toNat ?_, ofNat_eq_of_eq_toNat ?_, ?_⟩ <;> omega

end Sys2Proof.Machine

/-!
PROOFS. Copies at the partner and reports at the PRIMARY: what each message of the pair link does when its turn comes, and the lines of the
lag (R305, R319, R322 to R328, R330).
-/
namespace Sys2Proof.Machine

/-! ### A row that answers one change of the device -/

section
variable {x : Host.Outcome State Fault Refusal} {s : State} {d e : Dev}

theorem State.next_as (hx : x = .next (s.put d)) (h : d = e) : x = .next (s.put e) := hx.trans (State.next_congr h)

theorem State.next_same (hx : x = .next (s.put d)) (h : d = s.dev) : x = .next s := hx.trans (State.next_congr h)

end

/-! ### Messages that wait -/

/-- The messages received on port `f` that wait for their effect. -/
abbrev Dev.waitingMsgs (d : Dev) (f : Nat) : List PairMsg := (d.far f).rxMsgs

/-- A message has been taken up. -/
def Dev.dropMsg (d : Dev) (f : Nat) (m : PairMsg) : Dev :=
  d.modFar f (fun q => { q with rxMsgs := dropFirst (fun x => x == m) q.rxMsgs })

theorem Dev.takeMsg_of_none {d : Dev} {f : Nat} {p : PairMsg → Bool} (h : (d.waitingMsgs f).find? p = none) : d.takeMsg f p = none := by
  simp only [Dev.takeMsg, h]

theorem Dev.takeMsg_of_some {d : Dev} {f : Nat} {p : PairMsg → Bool} {m : PairMsg} (h : (d.waitingMsgs f).find? p = some m) :
    d.takeMsg f p = some (m, d.dropMsg f m) := by
  simp only [Dev.takeMsg, h]
  rfl

/-- The message found, where one is asked for by its type. -/
theorem mem_of_find_mtype {q : List PairMsg} {t : Nat} {m : PairMsg} (h : q.find? (fun m => m.mtype == t) = some m) :
    m ∈ q ∧ m.mtype = t :=
  ⟨List.mem_of_find?_eq_some h, beq_iff_eq.mp (List.find?_some (p := fun m : PairMsg => m.mtype == t) h)⟩

/-- A request of the pair's own waits at the frame table. -/
def Dev.lookAt (t : Dev) (r : Req) : Dev := { t.fresh with space := { t.space with lookupQ := t.space.lookupQ ++ [r] } }

/-! ### MWRITE and MRELEASE (R322, R325, R328) -/

theorem exec_mwrite (f : Fin 4) (s : State) : exec (.mwrite f) s = .next (s.put (s.dev.copyIn f 1 .wrm)) := (rfl)
theorem exec_mrelease (f : Fin 4) (s : State) : exec (.mrelease f) s = .next (s.put (s.dev.copyIn f 2 (.hint 4 1 0))) := (rfl)

theorem Dev.copyIn_of_none {d : Dev} {f t : Nat} {op : MOp}
    (h : (d.waitingMsgs f).find? (fun m => m.mtype == 1 || m.mtype == 2) = none) : d.copyIn f t op = d := by
  rw [Dev.copyIn, Dev.takeMsg_of_none h]

/-- Without a copy and without a release, none is next. -/
theorem find_copy_eq_none {q : List PairMsg} (h1 : q.find? (fun m => m.mtype == 1) = none) (h2 : q.find? (fun m => m.mtype == 2) = none) :
    q.find? (fun m => m.mtype == 1 || m.mtype == 2) = none := by
  rw [List.find?_eq_none] at h1 h2 ⊢
  intro m hm
  simp only [Bool.or_eq_true, not_or]
  exact ⟨h1 m hm, h2 m hm⟩

section
variable {d : Dev} {f t : Nat} {op : MOp} {m : PairMsg}
  (h : (d.waitingMsgs f).find? (fun m => m.mtype == 1 || m.mtype == 2) = some m)
include h

theorem Dev.copyIn_of_other (ht : m.mtype ≠ t) : d.copyIn f t op = d := by
  rw [Dev.copyIn, Dev.takeMsg_of_some h]
  exact if_pos (bne_iff_ne.mpr ht)

theorem Dev.copyIn_of_accepted (ht : m.mtype = t) (hok : d.acceptsCopies m = true) : d.copyIn f t op = (d.dropMsg f m).applyCopy f m op := by
  rw [Dev.copyIn, Dev.takeMsg_of_some h]
  exact (if_neg (by simp [ht])).trans (if_pos hok)

theorem Dev.copyIn_of_refused (ht : m.mtype = t) (hok : d.acceptsCopies m = false) : d.copyIn f t op = (d.dropMsg f m).refuseCopy f m := by
  rw [Dev.copyIn, Dev.takeMsg_of_some h]
  exact (if_neg (by simp [ht])).trans (if_neg (Bool.eq_false_iff.mp hok))

end

/-- The bytes of a line whose mask is good are written where the mask says. -/
theorem Dev.applyCopy_of_good (t : Dev) (f : Nat) {m : PairMsg} (hflags : m.flags / 2 % 2 = 0) (hpar : parityOf 8 m.mask.toNat = m.mpar) :
    t.applyCopy f m .wrm = t.lookAt { id := t.nextId, org := .mirror f m.mseq, op := if m.mask = fullMask then .wr else .wrm, cls := m.cls,
                                      line := m.addr, data := m.data, par := m.par, mask := m.mask } := by
  simp [Dev.applyCopy, Dev.lookAt, hflags, hpar]

/-- A poisoned line, or one whose mask is bad, is written as poison over the whole line (log 45). -/
theorem Dev.applyCopy_of_bad (t : Dev) (f : Nat) {m : PairMsg} (h : m.flags / 2 % 2 = 1 ∨ parityOf 8 m.mask.toNat ≠ m.mpar) :
    t.applyCopy f m .wrm = t.lookAt { id := t.nextId, org := .mirror f m.mseq, op := .wr, cls := m.cls, line := m.addr,
                                      data := 0, par := lineParity 0 ^^^ poisonBad, mask := fullMask } := by
  have hsig : (m.flags / 2 % 2 == 1 || !(parityOf 8 m.mask.toNat == m.mpar)) = true := by simpa using h
  simp [Dev.applyCopy, Dev.lookAt, hsig]

/-! ### MACK and MREFUSE (R323 to R325, R327) -/

theorem exec_mack (f : Fin 4) (s : State) : exec (.mack f) s = .next (s.put (s.dev.mackIn f)) := (rfl)
theorem exec_mrefuse (f : Fin 4) (s : State) : exec (.mrefuse f) s = .next (s.put (s.dev.mrefuseIn f)) := (rfl)

/-- A copy no longer awaits its report. -/
def Dev.dropCopy (d : Dev) (mseq : Nat) : Dev := d.modPair (fun p => { p with await := dropFirst (fun x => x.mseq == mseq) p.await })

theorem Dev.takeCopy_of_none {d : Dev} {mseq : Nat} (h : d.pair.await.find? (fun c => c.mseq == mseq) = none) : d.takeCopy mseq = none := by
  simp only [Dev.takeCopy, h]

theorem Dev.takeCopy_of_some {d : Dev} {mseq : Nat} {c : MirCopy} (h : d.pair.await.find? (fun c => c.mseq == mseq) = some c) :
    d.takeCopy mseq = some (c, d.dropCopy mseq) := by
  simp only [Dev.takeCopy, h]
  rfl

/-- The report is for no copy that awaits one. -/
abbrev Dev.reportLate (d : Dev) (m : PairMsg) : Prop := d.pair.await.find? (fun c => c.mseq == m.mseq) = none

section
variable {d : Dev} {f : Nat}

theorem Dev.mackIn_of_none (h : (d.waitingMsgs f).find? (fun m => m.mtype == 3) = none) : d.mackIn f = d := by
  rw [Dev.mackIn, Dev.takeMsg_of_none h]

theorem Dev.mrefuseIn_of_none (h : (d.waitingMsgs f).find? (fun m => m.mtype == 4) = none) : d.mrefuseIn f = d := by
  rw [Dev.mrefuseIn, Dev.takeMsg_of_none h]

variable {m : PairMsg}

theorem Dev.mackIn_of_late (h : (d.waitingMsgs f).find? (fun m => m.mtype == 3) = some m) (hlate : d.reportLate m) :
    d.mackIn f = d.dropMsg f m := by
  have htake : (d.dropMsg f m).takeCopy m.mseq = none := Dev.takeCopy_of_none hlate
  rw [Dev.mackIn, Dev.takeMsg_of_some h]
  simp only [htake]

theorem Dev.mrefuseIn_of_late (h : (d.waitingMsgs f).find? (fun m => m.mtype == 4) = some m) (hlate : d.reportLate m) :
    d.mrefuseIn f = d.dropMsg f m := by
  have htake : (d.dropMsg f m).takeCopy m.mseq = none := Dev.takeCopy_of_none hlate
  rw [Dev.mrefuseIn, Dev.takeMsg_of_some h]
  simp only [htake]

variable {c : MirCopy} (hc : d.pair.await.find? (fun c => c.mseq == m.mseq) = some c)
include hc

theorem Dev.mackIn_of_copy (h : (d.waitingMsgs f).find? (fun m => m.mtype == 3) = some m) :
    d.mackIn f =
      let t := (d.dropMsg f m).dropCopy m.mseq
      (((if c.release then t else t.bump Reg.PAIR_CNT_MIRROR_LINES_VALUE).copyAck c).noteLag).handoverCheck := by
  have htake : (d.dropMsg f m).takeCopy m.mseq = some (c, (d.dropMsg f m).dropCopy m.mseq) := Dev.takeCopy_of_some hc
  rw [Dev.mackIn, Dev.takeMsg_of_some h]
  simp only [htake]

theorem Dev.mrefuseIn_of_copy (h : (d.waitingMsgs f).find? (fun m => m.mtype == 4) = some m) :
    d.mrefuseIn f =
      let t := (d.dropMsg f m).dropCopy m.mseq
      let u := (if c.win < 16 then t.setF Reg.PAIR_MWj_CTL_BROKEN 1 0 c.win else t).raiseRec pgPAIR Reg.EV_PAIR_MIRROR_BROKEN sevERROR
        [c.win, c.line, m.body.headD 0]
      (((u.noteResync (frameOfLine c.line)).copyAck c).noteLag).handoverCheck := by
  have htake : (d.dropMsg f m).takeCopy m.mseq = some (c, (d.dropMsg f m).dropCopy m.mseq) := Dev.takeCopy_of_some hc
  rw [Dev.mrefuseIn, Dev.takeMsg_of_some h]
  simp only [htake]

end

/-! ### RREQ, RDATA and CFGWR (R326, R330) -/

theorem exec_rreq (f : Fin 4) (s : State) : exec (.rreq f) s = .next (s.put (s.dev.rreqIn f)) := (rfl)
theorem exec_rdata (f : Fin 4) (s : State) : exec (.rdata f) s = .next (s.put (s.dev.rdataIn f)) := (rfl)
theorem exec_cfgwr (f : Fin 4) (s : State) : exec (.cfgwr f) s = .next (s.put (s.dev.cfgwrIn f)) := (rfl)

section
variable {d : Dev} {f : Nat}

theorem Dev.rreqIn_of_none (h : (d.waitingMsgs f).find? (fun m => m.mtype == 6) = none) : d.rreqIn f = d := by
  rw [Dev.rreqIn, Dev.takeMsg_of_none h]

theorem Dev.rdataIn_of_none (h : (d.waitingMsgs f).find? (fun m => m.mtype == 7) = none) : d.rdataIn f = d := by
  rw [Dev.rdataIn, Dev.takeMsg_of_none h]

theorem Dev.cfgwrIn_of_none (h : (d.waitingMsgs f).find? (fun m => m.mtype == 8) = none) : d.cfgwrIn f = d := by
  rw [Dev.cfgwrIn, Dev.takeMsg_of_none h]

variable {m : PairMsg}

theorem Dev.rreqIn_of_some (h : (d.waitingMsgs f).find? (fun m => m.mtype == 6) = some m) :
    d.rreqIn f = (d.dropMsg f m).lookAt { id := (d.dropMsg f m).nextId, org := .rdata f m.mseq, op := .rdNa, cls := m.cls, line := m.addr } := by
  rw [Dev.rreqIn, Dev.takeMsg_of_some h]
  rfl

theorem Dev.rdataIn_of_late (h : (d.waitingMsgs f).find? (fun m => m.mtype == 7) = some m)
    (hlate : d.pair.asked.find? (fun a => a.2.2 == m.mseq) = none) : d.rdataIn f = d.dropMsg f m := by
  have hasked : (d.dropMsg f m).pair.asked.find? (fun a => a.2.2 == m.mseq) = none := hlate
  rw [Dev.rdataIn, Dev.takeMsg_of_some h]
  simp only [hasked]

theorem Dev.rdataIn_of_asked {a : Nat × Nat × Nat} (h : (d.waitingMsgs f).find? (fun m => m.mtype == 7) = some m)
    (ha : d.pair.asked.find? (fun a => a.2.2 == m.mseq) = some a) :
    d.rdataIn f =
      ((d.dropMsg f m).modPair (fun p => { p with asked := dropFirst (fun x => x == a) p.asked })).pairFix a.1 a.2.1
        (if m.flags / 2 % 2 = 1 ∨ badBytes m.data m.par ≠ 0 then none else some m.data) := by
  have hasked : (d.dropMsg f m).pair.asked.find? (fun a => a.2.2 == m.mseq) = some a := ha
  rw [Dev.rdataIn, Dev.takeMsg_of_some h]
  simp only [hasked, Bool.or_eq_true, beq_iff_eq, bne_iff_ne]

/-- A number of four bytes of a message's body, from byte `i` on. -/
def PairMsg.word (m : PairMsg) (i : Nat) : Nat :=
  m.body.getD i 0 + m.body.getD (i + 1) 0 * 2 ^ 8 + m.body.getD (i + 2) 0 * 2 ^ 16 + m.body.getD (i + 3) 0 * 2 ^ 24

theorem Dev.cfgwrIn_of_some (h : (d.waitingMsgs f).find? (fun m => m.mtype == 8) = some m) :
    d.cfgwrIn f =
      if d.role = roleSECONDARY ∧ isMirrored (m.word 0) = true then
        (d.dropMsg f m).modPair (fun p => { p with standby := sput p.standby (m.word 0) (BitVec.ofNat 32 (m.word 4)) })
      else d.dropMsg f m := by
  rw [Dev.cfgwrIn, Dev.takeMsg_of_some h]
  exact ite_congr (by rw [Bool.and_eq_true, beq_iff_eq]; rfl) (fun _ => rfl) fun _ => rfl

end

/-! ### STRICT_COPY_TIMEOUT, LAGGED_COPY_SEND and LAG_TIME_LIMIT (R323, R324) -/

theorem exec_strictCopyTimeout (mseq : BitVec 16) (s : State) :
    exec (.strictCopyTimeout mseq) s = .next (s.put (s.dev.strictTimeout mseq.toNat)) := (rfl)

theorem exec_laggedCopySend (s : State) : exec .laggedCopySend s = .next (s.put s.dev.laggedSend) := (rfl)

theorem exec_lagTimeLimit (s : State) :
    exec .lagTimeLimit s = .next (s.put (if s.dev.lag = 0 then s.dev else (s.dev.modPair (fun p => { p with lagOld := true })).noteLag)) :=
  State.next_congr (ite_congr (by rw [beq_iff_eq]) (fun _ => rfl) fun _ => rfl)

/-- The copies that keep an answer, those awaiting a report first. -/
abbrev Dev.answering (d : Dev) (mseq : Nat) : Option MirCopy :=
  (d.pair.await ++ d.pair.copies).find? (fun c => c.mseq == mseq && c.ans.isSome)

/-- The copies of a sequence number keep no answer. -/
def answersOff (mseq : Nat) (l : List MirCopy) : List MirCopy := l.map (fun x => if x.mseq == mseq then { x with ans := none } else x)

theorem Dev.strictTimeout_of_none {d : Dev} {mseq : Nat} (h : d.answering mseq = none) : d.strictTimeout mseq = d := by
  simp only [Dev.strictTimeout, h]

theorem Dev.strictTimeout_of_copy {d : Dev} {mseq : Nat} {c : MirCopy} {r : Req} {res : Result} (h : d.answering mseq = some c)
    (hans : c.ans = some (r, res)) :
    d.strictTimeout mseq =
      (d.modPair (fun p => { p with await := answersOff mseq p.await, copies := answersOff mseq p.copies })).answer r (.retry 100) := by
  simp only [Dev.strictTimeout, h, hans]
  rfl

/-- The copy of a queued line leaves the lag and goes out. -/
def Dev.sendLagged (d : Dev) (x : Nat × Nat × Nat) : Dev :=
  let t := d.modPair (fun p => { p with lagQ := dropFirst (fun y => y.1 == x.1) p.lagQ })
  let v := (t.slotLine x.1).getD (0, poisonBad)
  (t.addCopy ⟨0, false, x.1, x.2.1, fullMask, v.1, v.2, (t.mirrorWin (frameOfLine x.1)).getD 16, false, none, false, x.2.2⟩).noteLag

section
variable {d : Dev}

theorem Dev.laggedSend_of_noPort (h : d.pairPort = none) : d.laggedSend = d := by
  simp only [Dev.laggedSend, h]

theorem Dev.laggedSend_of_outOfOrder (h : d.inOrder = false) : d.laggedSend = d := by
  cases hport : d.pairPort with
  | none => exact Dev.laggedSend_of_noPort hport
  | some f => simp [Dev.laggedSend, hport, h]

theorem Dev.laggedSend_of_empty (h : d.pair.lagQ = []) : d.laggedSend = d := by
  cases hport : d.pairPort with
  | none => exact Dev.laggedSend_of_noPort hport
  | some f =>
    have hbest : bestBy (fun x : Nat × Nat × Nat => d.key x.2.1 0 false) d.pair.lagQ = none := (bestBy_eq_none_iff _ _).mpr h
    simp only [Dev.laggedSend, hport, hbest, ite_self]

variable {f : Nat} (hport : d.pairPort = some f)
include hport

theorem Dev.laggedSend_of_noCredit (h : d.pairActive f = false ∨ (d.far f).credit = 0) : d.laggedSend = d := by
  have hstop : (!d.inOrder || !d.pairActive f || (d.far f).credit == 0) = true := by
    rcases h with h | h <;> simp [h]
  simp only [Dev.laggedSend, hport, hstop, if_true]

/-- Of the lines of the lag one of the greatest key is sent. -/
theorem Dev.laggedSend_of_best (hord : d.inOrder = true) (hact : d.pairActive f = true) (hcredit : (d.far f).credit ≠ 0)
    {x : Nat × Nat × Nat} (hx : bestBy (fun x : Nat × Nat × Nat => d.key x.2.1 0 false) d.pair.lagQ = some x) :
    d.laggedSend = d.sendLagged x := by
  have hgo : (!d.inOrder || !d.pairActive f || (d.far f).credit == 0) = false := by simp [hord, hact, hcredit]
  simp only [Dev.laggedSend, hport, hgo, hx]
  rfl

end

/-- Settles O54: the messages survive their rows, and each row of a message, of a copy and of the lag by the lemmas above. -/
theorem pairMessagesAndCopies : Obligations.PairMessagesAndCopies := by
  unfold Obligations.PairMessagesAndCopies
  refine ⟨fun m cr ack ht hfl he ha hc hs hp hl hb => msgOfRow_msgRow ⟨ht, hfl, he, ha, hc, hs, hp, hl⟩ hb cr ack, ?_⟩
  intro s f
  have hnil (h : s.dev.waitingMsgs f = []) (p : PairMsg → Bool) : (s.dev.waitingMsgs f).find? p = none := by rw [h]; rfl
  refine ⟨?empty, ?none, ?copies, ?mack, ?mrefuse, ?rreq, ?rdataLate, ?rdata, ?cfgwr, ?strict, ?lagIdle, ?lagSend, exec_lagTimeLimit s⟩
  case empty =>
    intro h i hi
    simp only [List.mem_cons, List.not_mem_nil, or_false] at hi
    rcases hi with rfl | rfl | rfl | rfl | rfl | rfl | rfl
    · exact State.next_same (exec_mwrite f s) (Dev.copyIn_of_none (hnil h _))
    · exact State.next_same (exec_mrelease f s) (Dev.copyIn_of_none (hnil h _))
    · exact State.next_same (exec_mack f s) (Dev.mackIn_of_none (hnil h _))
    · exact State.next_same (exec_mrefuse f s) (Dev.mrefuseIn_of_none (hnil h _))
    · exact State.next_same (exec_rreq f s) (Dev.rreqIn_of_none (hnil h _))
    · exact State.next_same (exec_rdata f s) (Dev.rdataIn_of_none (hnil h _))
    · exact State.next_same (exec_cfgwr f s) (Dev.cfgwrIn_of_none (hnil h _))
  case none =>
    refine ⟨fun h1 h2 => ⟨State.next_same (exec_mwrite f s) (Dev.copyIn_of_none (find_copy_eq_none h1 h2)),
        State.next_same (exec_mrelease f s) (Dev.copyIn_of_none (find_copy_eq_none h1 h2))⟩,
      fun h => State.next_same (exec_mack f s) (Dev.mackIn_of_none h),
      fun h => State.next_same (exec_mrefuse f s) (Dev.mrefuseIn_of_none h),
      fun h => State.next_same (exec_rreq f s) (Dev.rreqIn_of_none h),
      fun h => State.next_same (exec_rdata f s) (Dev.rdataIn_of_none h),
      fun h => State.next_same (exec_cfgwr f s) (Dev.cfgwrIn_of_none h), ?_, ?_⟩
    · rintro ⟨m, hm, hlate⟩
      obtain ⟨hmem, htype⟩ := mem_of_find_mtype hm
      exact ⟨m, hmem, htype, State.next_as (exec_mack f s) (Dev.mackIn_of_late hm hlate)⟩
    · rintro ⟨m, hm, hlate⟩
      obtain ⟨hmem, htype⟩ := mem_of_find_mtype hm
      exact ⟨m, hmem, htype, State.next_as (exec_mrefuse f s) (Dev.mrefuseIn_of_late hm hlate)⟩
  case copies =>
    intro m hm
    refine ⟨fun ht => ⟨State.next_same (exec_mwrite f s) (Dev.copyIn_of_other hm (by simp [ht])), fun hok => ?_, fun hok => ?_⟩,
      fun ht => ⟨State.next_same (exec_mrelease f s) (Dev.copyIn_of_other hm (by simp [ht])), fun hok hflags hpar => ?_,
      fun hok hbad => ?_, fun hok => ?_⟩⟩
    · exact State.next_as (exec_mrelease f s) (Dev.copyIn_of_accepted hm ht hok)
    · exact State.next_as (exec_mrelease f s) ((Dev.copyIn_of_refused hm ht hok).trans (by simp [Dev.refuseCopy, ht]; rfl))
    · exact State.next_as (exec_mwrite f s) ((Dev.copyIn_of_accepted hm ht hok).trans (Dev.applyCopy_of_good _ f hflags hpar))
    · exact State.next_as (exec_mwrite f s) ((Dev.copyIn_of_accepted hm ht hok).trans (Dev.applyCopy_of_bad _ f hbad))
    · exact State.next_as (exec_mwrite f s) ((Dev.copyIn_of_refused hm ht hok).trans (by simp [Dev.refuseCopy, ht]; rfl))
  case mack => exact fun m c hm hc => State.next_as (exec_mack f s) (Dev.mackIn_of_copy hc hm)
  case mrefuse => exact fun m c hm hc => State.next_as (exec_mrefuse f s) (Dev.mrefuseIn_of_copy hc hm)
  case rreq => exact fun m hm => State.next_as (exec_rreq f s) (Dev.rreqIn_of_some hm)
  case rdataLate => exact fun m hm hlate => State.next_as (exec_rdata f s) (Dev.rdataIn_of_late hm hlate)
  case rdata => exact fun m a hm ha => State.next_as (exec_rdata f s) (Dev.rdataIn_of_asked hm ha)
  case cfgwr => exact fun m hm => State.next_as (exec_cfgwr f s) (Dev.cfgwrIn_of_some hm)
  case strict =>
    exact fun mseq => ⟨fun h => State.next_same (exec_strictCopyTimeout mseq s) (Dev.strictTimeout_of_none h),
      fun c r res h hans => State.next_as (exec_strictCopyTimeout mseq s) (Dev.strictTimeout_of_copy h hans)⟩
  case lagIdle =>
    rintro (h | h | h)
    · exact State.next_same (exec_laggedCopySend s) (Dev.laggedSend_of_noPort h)
    · exact State.next_same (exec_laggedCopySend s) (Dev.laggedSend_of_outOfOrder h)
    · exact State.next_same (exec_laggedCopySend s) (Dev.laggedSend_of_empty h)
  case lagSend =>
    intro hport hord hne
    refine ⟨fun h => State.next_same (exec_laggedCopySend s) (Dev.laggedSend_of_noCredit hport h), fun hact hcredit => ?_⟩
    obtain ⟨x, hx, hmem, hbest⟩ := exists_bestBy (fun x : Nat × Nat × Nat => s.dev.key x.2.1 0 false) hne
    exact ⟨x, hmem, hbest, State.next_as (exec_laggedCopySend s) (Dev.laggedSend_of_best hport hord hact hcredit hx)⟩

end Sys2Proof.Machine

/-!
PROOFS. The service of the pair: candles, a dark partner, handover, the birth check of a mirror window, and the resynchronisation (R319 to R321,
R327 to R330).
-/
namespace Sys2Proof.Machine

/-! ### Candles and a dark partner (R327, R328) -/

theorem exec_candle (f : Fin 4) (s : State) : exec (.candle f) s = .next (s.put (s.dev.candleIn f)) := (rfl)
theorem exec_candleSend (s : State) : exec .candleSend s = .next (s.put s.dev.candleSend) := (rfl)

theorem exec_partnerDark (s : State) :
    exec .partnerDark s = .next (s.put (if s.dev.pairPort.isSome then s.dev.partnerDark else s.dev)) := (rfl)

section
variable {d : Dev} {f : Nat}

theorem Dev.candleIn_of_none (h : (d.waitingMsgs f).find? (fun m => m.mtype == 5) = none) : d.candleIn f = d := by
  rw [Dev.candleIn, Dev.takeMsg_of_none h]

/-- What a candle says of the partner, compared with what is known (R327). -/
def Dev.candleSeen (d : Dev) (m : PairMsg) : Dev :=
  ((d.modPair (fun p => { p with heard := true, missed := 0 })).peerSeen (m.body.getD 0 0 % 4) m.epoch
    (m.body.getD 2 0 + m.body.getD 3 0 * 2 ^ 8 + m.body.getD 4 0 * 2 ^ 16 + m.body.getD 5 0 * 2 ^ 24)).partnerUp

/-- A partner that comes back in order is sent every copy again (R329). -/
theorem Dev.candleIn_of_some {m : PairMsg} (h : (d.waitingMsgs f).find? (fun m => m.mtype == 5) = some m) :
    d.candleIn f =
      let t := d.dropMsg f m
      let u := t.candleSeen m
      if u.inOrder = true ∧ (t.inOrder && t.fb Reg.PAIR_STATUS_PARTNER_UP) = false then u.resendCopies else u.pumpCopies := by
  rw [Dev.candleIn, Dev.takeMsg_of_some h]
  exact ite_congr (by rw [Bool.and_eq_true, Bool.not_eq_true']; rfl) (fun _ => rfl) fun _ => rfl

/-- A period without a candle from a partner that is up counts; another begins. -/
def Dev.candlePeriod (d : Dev) : Dev :=
  (if d.fb Reg.PAIR_STATUS_PARTNER_UP = true ∧ d.pair.heard = false then
    (d.modPair (fun p => { p with missed := p.missed + 1 })).bump Reg.PAIR_CNT_CANDLE_MISS_VALUE else d).modPair
    (fun p => { p with heard := false })

/-- The candle this unit sends (R327). -/
def Dev.ownCandle (d : Dev) : PairMsg := { mtype := 5, body := [d.role, 0] ++ bytesLE 4 d.cfgCrc.toNat ++ bytesLE 4 d.lag }

theorem Dev.candleSend_eq (d : Dev) :
    d.candleSend = match d.candlePeriod.pairPort with
      | none => d.candlePeriod
      | some f => if d.candlePeriod.pairActive f then d.candlePeriod.sendPair f d.candlePeriod.ownCandle else d.candlePeriod := by
  have hcond : (d.fb Reg.PAIR_STATUS_PARTNER_UP && !d.pair.heard) = true ↔ d.fb Reg.PAIR_STATUS_PARTNER_UP = true ∧ d.pair.heard = false := by
    rw [Bool.and_eq_true, Bool.not_eq_true']
  simp only [Dev.candleSend, hcond]
  rfl

theorem Dev.candleSend_of_noPort (h : d.candlePeriod.pairPort = none) : d.candleSend = d.candlePeriod := by
  rw [Dev.candleSend_eq, h]

theorem Dev.candleSend_of_idle (h : d.candlePeriod.pairPort = some f) (hact : d.candlePeriod.pairActive f = false) :
    d.candleSend = d.candlePeriod := by
  simp [Dev.candleSend_eq, h, hact]

theorem Dev.candleSend_of_active (h : d.candlePeriod.pairPort = some f) (hact : d.candlePeriod.pairActive f = true) :
    d.candleSend = d.candlePeriod.sendPair f d.candlePeriod.ownCandle := by
  simp [Dev.candleSend_eq, h, hact]

theorem Dev.partnerDark_of_dark (h : d.fb Reg.PAIR_STATUS_PARTNER_DARK = true) : d.partnerDark = d := by
  rw [Dev.partnerDark, if_pos h]

/-- The record of a partner gone dark names the role and the epoch, which the status does not touch. -/
theorem Dev.partnerDark_of_up (h : d.fb Reg.PAIR_STATUS_PARTNER_DARK = false) :
    d.partnerDark =
      let t := (d.setF Reg.PAIR_STATUS_PARTNER_DARK 1).setF Reg.PAIR_STATUS_PARTNER_UP 0
      let u := t.raiseRec pgPAIR Reg.EV_PAIR_PARTNER_DARK sevWARNING [d.role, d.fv Reg.PAIR_EPOCH_EPOCH]
      (u.resyncStop.modPair (fun p => { p with asked := [] })).skipSources none := by
  have hkept {g : Fld} (hdark : g.Apart Reg.PAIR_STATUS_PARTNER_DARK) (hup : g.Apart Reg.PAIR_STATUS_PARTNER_UP) :
      ((d.setF Reg.PAIR_STATUS_PARTNER_DARK 1).setF Reg.PAIR_STATUS_PARTNER_UP 0).fv g = d.fv g := by
    rw [Dev.fv_setF_apart _ _ _ hup, Dev.fv_setF_apart _ _ _ hdark]
  have hrole := hkept (g := Reg.PAIR_CTL_ROLE) (by decide) (by decide)
  have hepoch := hkept (g := Reg.PAIR_EPOCH_EPOCH) (by decide) (by decide)
  simp only [Dev.partnerDark, h, Bool.false_eq_true, if_false, Dev.role, hrole, hepoch]

end

/-! ### Handover (R327, R330) -/

theorem exec_handover (f : Fin 4) (s : State) : exec (.handover f) s = .next (s.put (s.dev.handoverIn f)) := (rfl)

theorem exec_handoverTimeout (s : State) :
    exec .handoverTimeout s = .next (s.put (if s.dev.fb Reg.PAIR_STATUS_HANDOVER then
      (s.dev.setF Reg.PAIR_STATUS_HANDOVER 0).modPair (fun p => { p with handover := false }) else s.dev)) := (rfl)

section
variable {d : Dev} {f : Nat}

theorem Dev.handoverIn_of_none (h : (d.waitingMsgs f).find? (fun m => m.mtype == 9) = none) : d.handoverIn f = d := by
  rw [Dev.handoverIn, Dev.takeMsg_of_none h]

variable {m : PairMsg} (h : (d.waitingMsgs f).find? (fun m => m.mtype == 9) = some m)
include h

theorem Dev.handoverIn_of_primary (hrole : d.role = rolePRIMARY) :
    d.handoverIn f = ((d.dropMsg f m).setF Reg.PAIR_STATUS_HANDOVER 1).handoverCheck := by
  rw [Dev.handoverIn, Dev.takeMsg_of_some h]
  exact if_pos (beq_iff_eq.mpr hrole)

theorem Dev.handoverIn_of_unasked (hrole : d.role ≠ rolePRIMARY) (hidle : d.role ≠ roleSECONDARY ∨ d.pair.handover = false) :
    d.handoverIn f = d.dropMsg f m := by
  have hno : ¬((d.role == roleSECONDARY && d.pair.handover) = true) := by
    rcases hidle with hidle | hidle <;> simp [hidle]
  rw [Dev.handoverIn, Dev.takeMsg_of_some h]
  exact (if_neg (mt beq_iff_eq.mp hrole)).trans (if_neg hno)

theorem Dev.handoverIn_of_asked (hrole : d.role = roleSECONDARY) (hasked : d.pair.handover = true) :
    d.handoverIn f = (d.dropMsg f m).takeOver := by
  have hother : ¬((d.role == rolePRIMARY) = true) := by rw [hrole]; decide
  rw [Dev.handoverIn, Dev.takeMsg_of_some h]
  exact (if_neg hother).trans (if_pos (by rw [Bool.and_eq_true, beq_iff_eq]; exact ⟨hrole, hasked⟩))

end

theorem nextEpoch_eq (e : Nat) : nextEpoch e = if e = 65535 then 1 else e + 1 := by
  simp only [nextEpoch, beq_iff_eq]

/-! ### The birth check of a mirror window (R321) -/

theorem exec_mwBirthCheckEnd (j : Fin 16) (s : State) : exec (.mwBirthCheckEnd j) s = .next (s.put (s.dev.mwCheckEnd j)) := (rfl)

theorem Dev.mwCheckEnd_of_idle {d : Dev} {j : Nat} (h : d.fb Reg.PAIR_MWj_CTL_ENABLING 0 j = false) : d.mwCheckEnd j = d := by
  simp [Dev.mwCheckEnd, h]

theorem Dev.mwCheckEnd_of_enabling {d : Dev} {j : Nat} (h : d.fb Reg.PAIR_MWj_CTL_ENABLING 0 j = true) :
    d.mwCheckEnd j =
      let t := d.setF Reg.PAIR_MWj_CTL_ENABLING 0 0 j
      let r := t.mwRange j
      (if t.space.born.any (fun iv => iv.1 ≤ r.2 && r.1 ≤ iv.2) then t.setF Reg.PAIR_MWj_CTL_EN 0 0 j else t).mwChanged := by
  rw [Dev.mwCheckEnd]
  exact if_neg (by simp [h])

/-! ### The resynchronisation (R329) -/

theorem exec_resync (s : State) : exec .resync s = .next (s.put s.dev.resyncStep) := (rfl)
theorem exec_resyncEnd (s : State) : exec .resyncEnd s = .next (s.put s.dev.resyncEnd) := (rfl)

section
variable {d : Dev}

theorem Dev.resyncStep_of_outOfOrder (h : d.inOrder = false) : d.resyncStep = d := by
  simp [Dev.resyncStep, h]

theorem Dev.resyncStep_of_start (hord : d.inOrder = true) (h : d.pair.resyncing = false) : d.resyncStep = d.resyncStart := by
  simp [Dev.resyncStep, hord, h]

theorem Dev.resyncStep_of_waiting (hord : d.inOrder = true) (h : d.pair.resyncing = true) (hnone : ifirst d.resyncAnswers.pair.todo = none) :
    d.resyncStep = d.resyncAnswers := by
  simp [Dev.resyncStep, hord, h, hnone]

theorem Dev.resyncStep_of_frame (hord : d.inOrder = true) (h : d.pair.resyncing = true) {fr : Nat}
    (hfr : ifirst d.resyncAnswers.pair.todo = some fr) : d.resyncStep = (d.resyncAnswers.resyncFrame fr).showResync := by
  simp [Dev.resyncStep, hord, h, hfr]

/-- Every frame of the resynchronisation has been sent, and none of its copies is without its report. -/
def Dev.resyncDone (d : Dev) : Bool :=
  d.pair.resyncing && d.pair.todo.isEmpty && d.pair.reads.isEmpty && !((d.pair.copies ++ d.pair.await).any (·.resync))

theorem Dev.resyncEnd_of_running (h : d.resyncDone = false) : d.resyncEnd = d := by
  rw [Dev.resyncEnd, if_pos]
  simpa only [Dev.resyncDone, Bool.and_eq_false_iff, Bool.or_eq_true, Bool.not_eq_true', Bool.not_eq_false', or_assoc] using h

theorem Dev.resyncEnd_of_done (h : d.resyncDone = true) :
    d.resyncEnd =
      let t := (d.modPair (fun p => { p with resyncing := false, whole := false, resync := [] })).showResync
      ((((List.range 16).foldl (fun u j => u.setF Reg.PAIR_MWj_CTL_BROKEN 0 0 j) t).wrReg 0xC060 0).raise pgPAIR Reg.EV_PAIR_RESYNC_DONE) := by
  rw [Dev.resyncEnd, if_neg]
  simpa only [Dev.resyncDone, Bool.and_eq_true, Bool.or_eq_true, Bool.not_eq_true', not_or, Bool.not_eq_false, Bool.not_eq_true, and_assoc] using h

end

/-- Settles O55: the rows of the pair's service, each by its lemmas above. -/
theorem pairServiceAndResync : Obligations.PairServiceAndResync := by
  unfold Obligations.PairServiceAndResync
  intro s f
  refine ⟨fun h => State.next_same (exec_candle f s) (Dev.candleIn_of_none h),
    fun m h => State.next_as (exec_candle f s) (Dev.candleIn_of_some h),
    ⟨fun h => State.next_as (exec_candleSend s) (Dev.candleSend_of_noPort h),
      fun h hact => State.next_as (exec_candleSend s) (Dev.candleSend_of_idle h hact),
      fun h hact => State.next_as (exec_candleSend s) (Dev.candleSend_of_active h hact)⟩,
    ?stillDark, ?dark, fun h => State.next_same (exec_handover f s) (Dev.handoverIn_of_none h), ?handover, exec_handoverTimeout s, ?birth,
    fun h => State.next_same (exec_resync s) (Dev.resyncStep_of_outOfOrder h),
    fun hord h => State.next_as (exec_resync s) (Dev.resyncStep_of_start hord h), ?running,
    fun h => State.next_same (exec_resyncEnd s) (Dev.resyncEnd_of_running h),
    fun h => State.next_as (exec_resyncEnd s) (Dev.resyncEnd_of_done h)⟩
  case stillDark =>
    rintro (h | h)
    · exact State.next_same (exec_partnerDark s) (if_neg (by simp [h]))
    · exact State.next_same (exec_partnerDark s) (by rw [Dev.partnerDark_of_dark h, ite_self])
  case dark =>
    intro hport h
    exact State.next_as (exec_partnerDark s) ((if_pos (Option.isSome_iff_ne_none.mpr hport)).trans (Dev.partnerDark_of_up h))
  case handover =>
    intro m hm
    refine ⟨fun hrole => State.next_as (exec_handover f s) (Dev.handoverIn_of_primary hm hrole),
      fun hrole hidle => State.next_as (exec_handover f s) (Dev.handoverIn_of_unasked hm hrole hidle), fun hrole hasked => ?_⟩
    refine State.next_as (exec_handover f s) ((Dev.handoverIn_of_asked hm hrole hasked).trans ?_)
    rw [Dev.takeOver, nextEpoch_eq]
    rfl
  case birth =>
    exact fun j => ⟨fun h => State.next_same (exec_mwBirthCheckEnd j s) (Dev.mwCheckEnd_of_idle h),
      fun h => State.next_as (exec_mwBirthCheckEnd j s) (Dev.mwCheckEnd_of_enabling h)⟩
  case running =>
    exact fun hord h => ⟨fun hnone => State.next_as (exec_resync s) (Dev.resyncStep_of_waiting hord h hnone),
      fun fr hfr => State.next_as (exec_resync s) (Dev.resyncStep_of_frame hord h hfr)⟩

end Sys2Proof.Machine

/-!
PROOFS. Temperatures and the test port: deliveries, rounds and their conversions, the model, stale dies and held demands (R403 to R410), and
the registers a TAP command shifts through (R350, R351).
-/
namespace Sys2Proof.Machine

/-! ### Deliveries and rounds (R404, R408) -/

theorem exec_tempDelivery (n : Fin 48) (s : State) : exec (.tempDelivery n) s = .next (s.put (s.dev.tempArrive n)) := (rfl)
theorem exec_roundStart (late : Bool) (s : State) : exec (.roundStart late) s = .next (s.put (s.dev.roundStart late)) := (rfl)

section
variable {d : Dev} {n : Nat}

theorem Dev.tempArrive_of_none (h : sget (fun _ => none) d.heat.due n = none) : d.tempArrive n = d := by
  rw [Dev.tempArrive, h]

theorem Dev.tempArrive_of_due {t : Int} (h : sget (fun _ => none) d.heat.due n = some t) :
    d.tempArrive n = ({ d with heat := { d.heat with due := sset (fun _ => none) d.heat.due n none } } : Dev).tempIn n t := by
  rw [Dev.tempArrive, h]

end

/-- Setting a field of the lease page leaves every field of other pages. -/
theorem Dev.fv_setF_leases (d : Dev) {f g : Fld} (v : Nat) (hg : g.addr 0 0 / 4096 = pgLEASES) (hf : f.addr 0 0 / 4096 ≠ pgLEASES) :
    (d.setF g v).fv f = d.fv f := by
  have hne : f.addr 0 0 ≠ g.addr 0 0 := fun h => hf (by rw [h, hg])
  rw [Dev.setF, Dev.fv_wrReg_other _ _ _ _ _ _ hne]

/-- An event of the lease page leaves every field of other pages. -/
theorem Dev.fv_raiseRec_leases (d : Dev) {f : Fld} (bit sev : Nat) (ps : List Nat) (hf : f.addr 0 0 / 4096 ≠ pgLEASES) :
    (d.raiseRec pgLEASES bit sev ps).fv f = d.fv f := by
  change bitsOf ((d.raise pgLEASES bit).rdReg (f.addr 0 0)) f.hi f.lo = _
  rw [Dev.rdReg_raise_other _ _ _ _ (by omega)]
  rfl

/-- Thermal control has the converter. -/
def Dev.convForHeat (d : Dev) : Dev := d.setLease lsCONV ⟨hoTHERMAL, rkSAFETY, d.time⟩

/-- A diagnostics holder has lost the converter to thermal control, and software is told if it was the holder. -/
def Dev.convPreempted (d : Dev) : Dev :=
  let t := (d.convForHeat.bump Reg.LEASES_CNT_BUSY_VALUE).bump Reg.LEASES_CNT_PREEMPT_VALUE
  (if (d.lease lsCONV).holder = hoSOFT then t.setF Reg.LEASES_REQ_STATUS_BUSY 1 else t).raiseRec pgLEASES Reg.EV_LEASES_PREEMPT sevWARNING [lsCONV]

theorem Dev.fv_convPreempted (d : Dev) {f : Fld} (hf : f.addr 0 0 / 4096 ≠ pgLEASES) : d.convPreempted.fv f = d.fv f := by
  have hcounted : ((d.convForHeat.bump Reg.LEASES_CNT_BUSY_VALUE).bump Reg.LEASES_CNT_PREEMPT_VALUE).fv f = d.fv f := by
    rw [Dev.bump, Dev.fv_setF_leases _ _ (by decide) hf, Dev.bump, Dev.fv_setF_leases _ _ (by decide) hf]
    rfl
  unfold Dev.convPreempted
  rw [Dev.fv_raiseRec_leases _ _ _ _ hf]
  split
  · rw [Dev.fv_setF_leases _ _ (by decide) hf, hcounted]
  · exact hcounted

section
variable {d : Dev} (late : Bool)

theorem Dev.askConverter_of_free (h : d.leaseHeld lsCONV = false) : d.askConverter = (true, d.convForHeat) := by
  have hholder : ((d.lease lsCONV).holder != 0) = false := h
  simp only [Dev.askConverter, hholder, Bool.false_and, Bool.false_eq_true, if_false]
  exact Dev.askLease_of_free hoTHERMAL rkSAFETY h

theorem Dev.askConverter_of_held (h : d.leaseHeld lsCONV = true) (hrank : (d.lease lsCONV).rank ≠ rkDIAG) :
    d.askConverter = (false, d.bump Reg.LEASES_CNT_BUSY_VALUE) := by
  simp only [Dev.askConverter, beq_eq_false_iff_ne.mpr hrank, Bool.and_false, Bool.false_eq_true, if_false]
  exact Dev.askLease_of_held hoTHERMAL rkSAFETY h

theorem Dev.askConverter_of_diag (h : d.leaseHeld lsCONV = true) (hrank : (d.lease lsCONV).rank = rkDIAG) :
    d.askConverter = (true, d.convPreempted) := by
  have hholder : ((d.lease lsCONV).holder != 0) = true := h
  simp only [Dev.askConverter, hholder, hrank, beq_self_eq_true, Bool.and_self, if_true, beq_iff_eq]
  rfl

/-- The first conversion of a round: the ground die's alone before KINDLE step 8. -/
def Dev.firstConversion (d : Dev) : Nat := if d.mode = mdKINDLE ∧ d.kstep < 8 then 14 else 1

/-- A round has started. -/
def Dev.roundBegun (t : Dev) (first : Nat) (late : Bool) : Dev :=
  let go : Dev := { t with heat := { t.heat with round := first } }
  if late then (go.bump Reg.HEAT_CNT_ROUND_LATE_VALUE).raise pgHEAT Reg.EV_HEAT_ROUND_LATE else go

theorem Dev.roundStart_of_idle (h : d.roundsRun = false ∨ d.heat.round ≠ 0) : d.roundStart late = d := by
  rw [Dev.roundStart, if_pos]
  rcases h with h | h <;> simp [h]

variable (hrun : d.roundsRun = true) (hround : d.heat.round = 0) {t : Dev}
include hrun hround

theorem Dev.roundStart_of_refused (hask : d.askConverter = (false, t)) : d.roundStart late = t := by
  simp [Dev.roundStart, hrun, hround, hask]

theorem Dev.roundStart_of_granted (hask : d.askConverter = (true, t)) (hmode : t.mode = d.mode) (hstep : t.kstep = d.kstep) :
    d.roundStart late = t.roundBegun d.firstConversion late := by
  simp [Dev.roundStart, hrun, hround, hask, hmode, hstep, Dev.roundBegun, Dev.firstConversion]

end

/-! ### Conversions (R403, R405, R407) -/

theorem exec_diodeConversion (raw : Int) (s : State) : exec (.diodeConversion raw) s = .next (s.put (s.dev.conversion raw)) := (rfl)

theorem roundDie_eq (k : Nat) : roundDie k = if k = 14 then 0 else k := by
  simp only [roundDie, beq_iff_eq]

/-- After conversion `k` the round goes on, or ends with the fourteenth. -/
def Dev.afterConversion (t : Dev) (k : Nat) : Dev := if k = 14 then t.roundEnd else { t with heat := { t.heat with round := k + 1 } }

/-- The die's READING, and what follows from it (R405 to R409). -/
def Dev.dieReads (d : Dev) (i : Nat) (raw : Int) : Dev :=
  let t := ((d.modDie i (fun x => { x with reading := some raw, at_ := d.time })).setF Reg.HEAT_TEMPi_READING (ofSigned 16 raw) 0 i).setDieBit
    Reg.HEAT_STALE_DIES i false
  ((t.canary i raw).recompute14 [i]).rateOf i

theorem diodeFault_iff (raw : Int) : diodeFault raw = true ↔ raw < -640 ∨ 2400 < raw := by
  simp [diodeFault]

section
variable {d : Dev} {raw : Int}

theorem Dev.conversion_of_idle (h : d.heat.round = 0 ∨ d.roundsRun = false) : d.conversion raw = d := by
  rw [Dev.conversion, if_pos]
  rcases h with h | h <;> simp [h]

variable (hround : d.heat.round ≠ 0) (hrun : d.roundsRun = true)
include hround hrun

theorem Dev.conversion_eq :
    d.conversion raw =
      (if diodeFault raw = true then (d.diodeFaulted (roundDie d.heat.round)).recompute14 [roundDie d.heat.round]
        else d.dieReads (roundDie d.heat.round) raw).afterConversion d.heat.round := by
  have hgo : ¬((d.heat.round == 0 || !d.roundsRun) = true) := by simp [hround, hrun]
  rw [Dev.conversion]
  exact (if_neg hgo).trans (ite_congr (by rw [beq_iff_eq]) (fun _ => rfl) fun _ => rfl)

theorem Dev.conversion_of_fault (h : raw < -640 ∨ 2400 < raw) :
    d.conversion raw =
      ((d.diodeFaulted (roundDie d.heat.round)).recompute14 [roundDie d.heat.round]).afterConversion d.heat.round := by
  rw [Dev.conversion_eq hround hrun, if_pos ((diodeFault_iff raw).mpr h)]

theorem Dev.conversion_of_reading (hlo : -640 ≤ raw) (hhi : raw ≤ 2400) :
    d.conversion raw = (d.dieReads (roundDie d.heat.round) raw).afterConversion d.heat.round := by
  rw [Dev.conversion_eq hround hrun, if_neg]
  rw [diodeFault_iff]
  omega

end

/-! ### The model, stale dies and held demands (R405, R406, R409, R410) -/

theorem exec_modelUpdate (est : List Int) (s : State) : exec (.modelUpdate est) s = .next (s.put (s.dev.modelUpdate est)) := (rfl)
theorem exec_demandHoldExpiry (i : Fin 14) (s : State) : exec (.demandHoldExpiry i) s = .next (s.put (s.dev.holdExpiry i)) := (rfl)

theorem exec_staleDie (i : Fin 14) (s : State) :
    exec (.staleDie i) s =
      .next (s.put (if s.dev.heatOn = true then (s.dev.setDieBit Reg.HEAT_STALE_DIES i true).recompute14 [i.val] else s.dev)) := by
  change execStaleDie i s = _
  cases h : s.dev.heatOn <;> simp [execStaleDie, State.on, h]

section
variable {d : Dev}

theorem Dev.modelUpdate_of_off (est : List Int) (h : d.heatOn = false) : d.modelUpdate est = d := by
  simp [Dev.modelUpdate, h]

theorem Dev.modelUpdate_of_on (est : List Int) (h : d.heatOn = true) :
    d.modelUpdate est =
      let t := ({ d with heat := { d.heat with raw := (List.range 14).map (fun i => est.getD i 0) } } : Dev).showModel
      t.recompute14 ((List.range 14).filter (fun i => t.dieBit Reg.HEAT_SUSPECT_DIES i || t.dieBit Reg.HEAT_STALE_DIES i)) := by
  rw [Dev.modelUpdate]
  exact if_neg (by simp [h])

variable {i : Nat}

theorem Dev.holdExpiry_of_off (h : d.heatOn = false) : d.holdExpiry i = d := by
  simp [Dev.holdExpiry, h]

variable (hon : d.heatOn = true)
include hon

theorem Dev.holdExpiry_of_rate (h : (d.die i).rateHold = true) :
    d.holdExpiry i = if (d.die i).warnRun = 0 then d.modDie i (fun x => { x with rateHold := false }) else d := by
  simp only [Dev.holdExpiry, hon, h, Bool.not_true, Bool.false_eq_true, if_false, if_true, beq_iff_eq]

/-- The demand of the die stays: it is none or the trip's, the die is stale, or E is not yet 2 °C below the threshold. -/
abbrev Dev.demandStays (d : Dev) (i : Nat) : Prop :=
  (d.die i).demand = 0 ∨ (d.die i).demand = 4 ∨ d.dieBit Reg.HEAT_STALE_DIES i = true ∨
    (16 * d.limit i (d.die i).demand : Nat) - (32 : Int) ≤ (d.die i).e

theorem Dev.holdExpiry_of_noRate (h : (d.die i).rateHold = false) :
    d.holdExpiry i = if d.demandStays i then d else (d.modDie i (fun x => { x with demand := x.demand - 1 })).ladderFollow := by
  simp only [Dev.holdExpiry, hon, h, Bool.not_true, Bool.false_eq_true, if_false, Bool.or_eq_true, beq_iff_eq, decide_eq_true_eq, or_assoc]

end

/-! ### The test port (R350, R351) -/

/-- TDO shows the bits, one after the other. -/
theorem Dev.emitTdo_eq (d : Dev) (l : List Bool) : d.emitTdo l = { d with out := d.out ++ l.map Out.tdo } := by
  induction l generalizing d with
  | nil => simp [Dev.emitTdo]
  | cons b l ih =>
    change (d.emit (.tdo b)).emitTdo l = _
    rw [ih]
    simp [Dev.emit]

/-- As many bits leave a register as are shifted in. -/
theorem length_shiftThrough_fst (reg ins : List Bool) : (shiftThrough reg ins).1.length = ins.length := by
  simp [shiftThrough]

theorem Dev.tapChain_eq (d : Dev) :
    d.tapChain = if d.pins.resetN = false ∨ (d.mode = mdLAMPROOM ∧ d.fb Reg.SELFTEST_TAP_CTL_TEST_EN = true) then 14 else 1 := by
  simp [Dev.tapChain, Dev.tapFull, Dev.tapTest]

/-- The test wrappers are in the chain exactly where it holds all dies. -/
theorem Dev.tapWrappers_iff (d : Dev) : (d.tapFull || d.tapTest) = true ↔ d.tapChain = 14 := by
  unfold Dev.tapChain
  split <;> simp_all

theorem exec_tapBypass (bits : List Bool) (s : State) :
    exec (.tapBypass bits) s = .next (s.put (if s.dev.tapOn = true then s.dev.tapBypass bits else s.dev)) :=
  State.on_ite s (fun d => d.tapOn) (fun d => d.tapBypass bits) fun d => d

theorem exec_tapSamplePreload (bits pads : List Bool) (s : State) :
    exec (.tapSamplePreload bits pads) s = .next (s.put (if s.dev.tapOn = true then s.dev.tapBoundary 1 bits pads else s.dev)) :=
  State.on_ite s (fun d => d.tapOn) (fun d => d.tapBoundary 1 bits pads) fun d => d

theorem exec_tapIdcode (bits : List Bool) (s : State) :
    exec (.tapIdcode bits) s = .next (s.put (if s.dev.tapOn = true then s.dev.tapIdcode bits else s.dev)) :=
  State.on_ite s (fun d => d.tapOn) (fun d => d.tapIdcode bits) fun d => d

theorem exec_tapExtest (bits pads : List Bool) (s : State) :
    exec (.tapExtest bits pads) s = .next (s.put (if s.dev.tapOn = true then
      if s.dev.tapFull = true then s.dev.tapBoundary 2 bits pads else s.dev.tapBypass bits else s.dev)) := by
  change execTapExtest bits pads s = _
  cases h : s.dev.tapOn <;> cases hf : s.dev.tapFull <;> simp [execTapExtest, State.on, h, hf]

theorem exec_tap1838Config (bits : List Bool) (s : State) :
    exec (.tap1838Config bits) s = .next (s.put (if s.dev.tapOn = true then
      if (s.dev.tapFull || s.dev.tapTest) = true then s.dev.tapConfig bits else s.dev.tapBypass bits else s.dev)) := by
  change execTap1838Config bits s = _
  cases h : s.dev.tapOn <;> cases hc : s.dev.tapFull || s.dev.tapTest <;> simp [execTap1838Config, State.on, h, hc]

/-- The boundary register keeps the bits behind the bypass bits of the other dies. -/
theorem Dev.tapBoundary_eq (d : Dev) (inst : Nat) (bits pads : List Bool) :
    d.tapBoundary inst bits pads =
      let bnd := List.replicate (d.tapChain - 1) false ++ pads
      ({ d with tap := { d.tap with inst := inst, boundary := ((bnd ++ bits).drop bits.length).drop (d.tapChain - 1) } } : Dev).emitTdo
        (shiftThrough bnd bits).1 := by
  have hlen : ((List.replicate (d.tapChain - 1) false ++ pads ++ bits).drop bits.length).length - pads.length = d.tapChain - 1 := by
    simp only [List.length_drop, List.length_append, List.length_replicate]
    omega
  simp only [Dev.tapBoundary, shiftThrough, hlen]
  rfl

/-- Cells that a list names take the value, the others stay. -/
theorem sget_foldl_sset {β : Type} [DecidableEq β] (z : Nat → β) (v : β) (l : List Nat) (m : Sparse β) (i : Nat) :
    sget z (l.foldl (fun m k => sset z m k v) m) i = if i ∈ l then v else sget z m i := by
  induction l generalizing m with
  | nil => simp
  | cons k l ih =>
    rw [List.foldl_cons, ih, sget_sset]
    by_cases hl : i ∈ l <;> by_cases hk : i = k <;> simp [hl, hk]

/-- A configuration gives its bits to the wrappers it reaches, and the registers and the boundary register stay (R351). -/
theorem Dev.tapConfig_effect (d : Dev) (bits : List Bool) :
    (d.tapConfig bits).regs = d.regs ∧ (d.tapConfig bits).tap.inst = 4 ∧ (d.tapConfig bits).tap.boundary = d.tap.boundary ∧
      (d.tapConfig bits).out.length = d.out.length + bits.length ∧
      ∀ die < 14, sget (fun _ => []) (d.tapConfig bits).tap.wrappers die =
        if d.tapReach die then bits else sget (fun _ => []) d.tap.wrappers die := by
  unfold Dev.tapConfig
  rw [Dev.emitTdo_eq]
  refine ⟨rfl, rfl, rfl, by simp [Dev.setTap], fun die hdie => ?_⟩
  have hreach : die ∈ (List.range 14).filter (fun x => d.tapReach x) ↔ d.tapReach die = true := by simp [hdie]
  exact (sget_foldl_sset _ bits _ d.tap.wrappers die).trans (if_congr hreach rfl rfl)

theorem exec_trstNLow (s : State) : exec .trstNLow s = .next (s.put { s.dev with tap := {} }) := (rfl)

/-- Settles O59: temperatures, rounds and demands, the test port, and the supply rails, each by its lemmas above. -/
theorem temperaturesAndTestPort : Obligations.TemperaturesAndTestPort := by
  unfold Obligations.TemperaturesAndTestPort
  intro s
  refine ⟨?delivery, ?round, ?conversion, ?model, ?die, ?tapOff, ?tapOn, exec_trstNLow s, ?rail⟩
  case delivery =>
    exact fun n => ⟨fun h => State.next_same (exec_tempDelivery n s) (Dev.tempArrive_of_none h),
      fun t h => State.next_as (exec_tempDelivery n s) (Dev.tempArrive_of_due h)⟩
  case round =>
    intro late
    refine ⟨fun h => State.next_same (exec_roundStart late s) (Dev.roundStart_of_idle late h), fun hrun hround => ⟨fun h => ?_,
      fun h hrank => ?_, fun h hrank => ?_⟩⟩
    · exact State.next_as (exec_roundStart late s) (Dev.roundStart_of_granted late hrun hround (Dev.askConverter_of_free h) rfl rfl)
    · exact State.next_as (exec_roundStart late s) (Dev.roundStart_of_refused late hrun hround (Dev.askConverter_of_held h hrank))
    · exact State.next_as (exec_roundStart late s) (Dev.roundStart_of_granted late hrun hround (Dev.askConverter_of_diag h hrank)
        (Dev.fv_convPreempted _ (by decide)) (Dev.fv_convPreempted _ (by decide)))
  case conversion =>
    intro raw
    refine ⟨fun h => State.next_same (exec_diodeConversion raw s) (Dev.conversion_of_idle h), fun hround hrun => ⟨fun h => ?_,
      fun hlo hhi => ?_⟩⟩
    · refine State.next_as (exec_diodeConversion raw s) ((Dev.conversion_of_fault hround hrun h).trans ?_)
      rw [roundDie_eq]
      rfl
    · refine State.next_as (exec_diodeConversion raw s) ((Dev.conversion_of_reading hround hrun hlo hhi).trans ?_)
      rw [roundDie_eq]
      rfl
  case model =>
    exact fun est => ⟨fun h => State.next_same (exec_modelUpdate est s) (Dev.modelUpdate_of_off est h),
      fun h => State.next_as (exec_modelUpdate est s) (Dev.modelUpdate_of_on est h)⟩
  case die =>
    intro i
    refine ⟨fun h => ⟨?_, State.next_same (exec_demandHoldExpiry i s) (Dev.holdExpiry_of_off h)⟩, fun h => ?_,
      fun h hrate => State.next_as (exec_demandHoldExpiry i s) (Dev.holdExpiry_of_rate h hrate),
      fun h hrate => ⟨fun hstay => ?_, fun h0 h4 hstale he => ?_⟩⟩
    · exact State.next_same (exec_staleDie i s) (if_neg (by simp [h]))
    · exact State.next_as (exec_staleDie i s) (if_pos h)
    · exact State.next_same (exec_demandHoldExpiry i s) ((Dev.holdExpiry_of_noRate h hrate).trans (if_pos hstay))
    · have hfall : ¬s.dev.demandStays i := by
        rintro (h | h | h | h)
        · exact h0 h
        · exact h4 h
        · exact absurd (h.symm.trans hstale) (by decide)
        · omega
      exact State.next_as (exec_demandHoldExpiry i s) ((Dev.holdExpiry_of_noRate h hrate).trans (if_neg hfall))
  case tapOff =>
    intro h bits pads i hi
    have hoff : ¬(s.dev.tapOn = true) := by simp [h]
    simp only [List.mem_cons, List.not_mem_nil, or_false] at hi
    rcases hi with rfl | rfl | rfl | rfl | rfl
    · exact State.next_same (exec_tapBypass bits s) (if_neg hoff)
    · exact State.next_same (exec_tapSamplePreload bits pads s) (if_neg hoff)
    · exact State.next_same (exec_tapExtest bits pads s) (if_neg hoff)
    · exact State.next_same (exec_tapIdcode bits s) (if_neg hoff)
    · exact State.next_same (exec_tap1838Config bits s) (if_neg hoff)
  case tapOn =>
    intro hon bits pads
    have hbypass : exec (.tapBypass bits) s = .next (s.put (s.dev.tapBypass bits)) :=
      State.next_as (exec_tapBypass bits s) (if_pos hon)
    refine ⟨fun reg => length_shiftThrough_fst reg bits, s.dev.tapChain_eq, hbypass,
      State.next_as (exec_tapIdcode bits s) (if_pos hon), ?_, fun hfull => ?_, fun hfull => ?_, fun hone => ?_, fun hall => ?_⟩
    · exact State.next_as (exec_tapSamplePreload bits pads s) ((if_pos hon).trans (Dev.tapBoundary_eq _ 1 bits pads))
    · have hpads : s.dev.tapFull = true := by simp [Dev.tapFull, hfull]
      exact State.next_as (exec_tapExtest bits pads s) ((if_pos hon).trans ((if_pos hpads).trans (Dev.tapBoundary_eq _ 2 bits pads)))
    · have hpads : ¬(s.dev.tapFull = true) := by simp [Dev.tapFull, hfull]
      exact (State.next_as (exec_tapExtest bits pads s) ((if_pos hon).trans (if_neg hpads))).trans hbypass.symm
    · have hno : ¬((s.dev.tapFull || s.dev.tapTest) = true) := by rw [Dev.tapWrappers_iff, hone]; decide
      exact (State.next_as (exec_tap1838Config bits s) ((if_pos hon).trans (if_neg hno))).trans hbypass.symm
    · exact ⟨_, State.next_as (exec_tap1838Config bits s) ((if_pos hon).trans (if_pos (s.dev.tapWrappers_iff.mpr hall))),
        s.dev.tapConfig_effect bits⟩
  case rail =>
    intro far on
    refine ⟨fun hoff hrail hpower hmode => ?_, fun h => ?_⟩
    · exact (exec_supplyRailChange far on s).trans (if_pos ⟨hoff, hrail, hpower, hmode⟩)
    · refine (exec_supplyRailChange far on s).trans (if_neg ?_)
      rintro ⟨hoff, hrail, hpower, hmode⟩
      rcases h with h | h | h | h
      · exact absurd (h.symm.trans hoff) (by decide)
      · exact absurd (hrail.symm.trans h) (by decide)
      · exact absurd (hpower.symm.trans h) (by decide)
      · exact hmode h

end Sys2Proof.Machine

/-!
PROOFS. Modes and power: the groups of DIM, LAMPROOM, the stages of SHUTTERED entry, wakes and the exit, the power ladder, and a re-kindle that
waits for a fuse word (R381 to R397, R431).
-/
namespace Sys2Proof.Machine

/-! ### DIM groups and LAMPROOM (R381, R382) -/

theorem exec_dimGroupEnd (s : State) : exec .dimGroupEnd s = .next (s.put s.dev.groupEnd) := (rfl)
theorem exec_lamproomDrainEnd (s : State) : exec .lamproomDrainEnd s = .next (s.put s.dev.lampDrained) := (rfl)

/-- A request for a mode is done: the mode is reached. -/
def Dev.modeReached (d : Dev) (mode : Nat) : Dev :=
  (((d.setF Reg.MODES_STATUS_MODE mode).setPhase 0).setF Reg.MODES_REQ_STATUS_RESULT 1).raise pgMODES Reg.EV_MODES_MODE_DONE

section
variable {d : Dev}

theorem Dev.groupEnd_of_busy (h : d.ms.group = [] ∨ d.ms.group.any (fun n => d.freqBusy n) = true) : d.groupEnd = d := by
  rw [Dev.groupEnd, if_pos]
  rwa [Bool.or_eq_true, List.isEmpty_iff]

section
variable (hgroup : d.ms.group ≠ []) (hidle : d.ms.group.any (fun n => d.freqBusy n) = false)
include hgroup hidle

theorem Dev.groupEnd_of_more (h : d.nextGroup.ms.group ≠ [] ∨ (d.nextGroup.phase ≠ 1 ∧ d.nextGroup.phase ≠ 2)) :
    d.groupEnd = d.nextGroup := by
  rcases h with h | ⟨h1, h2⟩
  · simp [Dev.groupEnd, hgroup, hidle, h]
  · simp [Dev.groupEnd, hgroup, hidle, h1, h2]

/-- The transition to DIM (phase 1) or back to RUN (phase 2) is complete after its last group. -/
theorem Dev.groupEnd_of_last (hlast : d.nextGroup.ms.group = []) (h : d.nextGroup.phase = 1 ∨ d.nextGroup.phase = 2) :
    d.groupEnd = (d.nextGroup.modeReached (if d.nextGroup.phase = 1 then mdDIM else mdRUN)).wlTrigger := by
  rcases h with h | h
  · simp [Dev.groupEnd, hgroup, hidle, hlast, h]
    rfl
  · simp [Dev.groupEnd, hgroup, hidle, hlast, h]
    rfl

end

/-- Every memory request that was admitted is complete. -/
def Dev.portsQuiet (d : Dev) : Bool := d.ports.all (fun e => e.2.live.isEmpty && e.2.oldIds.isEmpty)

theorem Dev.lampDrained_of_live (h : d.phase ≠ 3 ∨ d.portsQuiet = false) : d.lampDrained = d := by
  rw [Dev.lampDrained, if_pos]
  rwa [Bool.or_eq_true, bne_iff_ne, Bool.not_eq_true']

theorem Dev.lampDrained_of_quiet (hphase : d.phase = 3) (h : d.portsQuiet = true) :
    d.lampDrained = (d.modeReached mdLAMPROOM).modMs (fun m => { m with full := false }) := by
  rw [Dev.lampDrained, if_neg]
  · rfl
  · rw [Bool.or_eq_true, bne_iff_ne, Bool.not_eq_true']
    rintro (h' | h')
    · exact h' hphase
    · exact absurd (h.symm.trans h') (by decide)

end

/-! ### SHUTTERED entry (R384, R388, R389) -/

theorem exec_entryStageEnd (s : State) : exec .entryStageEnd s = .next (s.put s.dev.stageEnd) := (rfl)

theorem exec_drainLimit (s : State) :
    exec .drainLimit s = .next (s.put (if s.dev.phase = 6 then s.dev.unwind mrDRAIN_LIMIT else s.dev)) :=
  (State.on_ite s (fun d => d.phase == 6) (fun d => d.unwind mrDRAIN_LIMIT) fun d => d).trans
    (State.next_congr (if_congr beq_iff_eq rfl rfl))

section
variable {d : Dev}

theorem Dev.stageEnd_of_noEntry (h : d.phase < 5 ∨ 10 < d.phase) : d.stageEnd = d := by
  unfold Dev.stageEnd
  split
  case h_7 => rfl
  all_goals omega

theorem Dev.stageEnd_stage1 (h : d.phase = 5) :
    d.stageEnd = if d.stage1Over = true then
      let t := (d.askLease lsWAKE hoWAKE rkSERVICE).2
      if d.ms.wake = true then t.unwind mrWOKEN else (t.setPhase 6).abortJobs else d := by
  cases hover : d.stage1Over <;> simp [Dev.stageEnd, h, hover]

theorem Dev.stageEnd_stage2 (h : d.phase = 6) :
    d.stageEnd = if d.stage2Over = true then if d.ms.wake = true then d.unwind mrWOKEN else d.setPhase 7 else d := by
  cases hover : d.stage2Over <;> simp [Dev.stageEnd, h, hover]

theorem Dev.stageEnd_stage3 (h : d.phase = 7) :
    d.stageEnd = if d.ms.wake = true then d.saveImage.unwind mrWOKEN else d.saveImage.setPhase 8 := by
  simp only [Dev.stageEnd, h]

/-- The shafts that are awake go into self-refresh, their buffers drained. -/
def Dev.sleepAll (d : Dev) : Dev := d.awake.foldl (fun u n => (u.drainWbuf n).enterSR n) d

theorem Dev.stageEnd_stage4 (h : d.phase = 8) :
    d.stageEnd = if d.shaftsBusy = true then d
      else if d.ms.wake = true then (d.awake.foldl (fun u n => u.exitSR n) d.sleepAll).unwind mrWOKEN else d.sleepAll.setPhase 9 := by
  simp only [Dev.stageEnd, h]
  rfl

theorem Dev.stageEnd_stage5 (h : d.phase = 9) : d.stageEnd = d.latchPads.setPhase 10 := by
  simp only [Dev.stageEnd, h]

theorem Dev.stageEnd_stage6 (h : d.phase = 10) :
    d.stageEnd = if d.ms.wake = true then (d.islandsOff.modeReached mdSHUTTERED).exitStart else d.islandsOff.modeReached mdSHUTTERED := by
  simp only [Dev.stageEnd, h]
  rfl

end

/-! ### Wakes (R388, R390) -/

theorem exec_wakeSenseCrossing (mv : Nat) (s : State) :
    exec (.wakeSenseCrossing mv) s = .next (s.put (if s.dev.pins.pwrgood = true then
      (s.dev.modMs (fun m => { m with wakeMv := mv })).wakeEval else s.dev.modMs (fun m => { m with wakeMv := mv }))) :=
  State.on_ite s (fun d => d.pins.pwrgood) (fun d => (d.modMs (fun m => { m with wakeMv := mv })).wakeEval)
    fun d => d.modMs (fun m => { m with wakeMv := mv })

theorem exec_wakeComparatorWake (s : State) : exec .wakeComparatorWake s = .next (s.put s.dev.wakeUp) := (rfl)

section
variable {d : Dev}

theorem Dev.wakeUp_of_low (h : d.fb Reg.MODES_WAKE_STATUS_LEVEL = false) : d.wakeUp = d := by
  simp [Dev.wakeUp, h]

variable (h : d.fb Reg.MODES_WAKE_STATUS_LEVEL = true)
include h

theorem Dev.wakeUp_of_entry (hlo : 5 ≤ d.phase) (hhi : d.phase ≤ 10) : d.wakeUp = d.modMs (fun m => { m with wake := true }) := by
  simp [Dev.wakeUp, h, hlo, hhi]

theorem Dev.wakeUp_of_shuttered (hphase : d.phase = 0) (hmode : d.mode = mdSHUTTERED) : d.wakeUp = d.exitStart := by
  simp [Dev.wakeUp, h, hphase, hmode]

theorem Dev.wakeUp_of_awake (hphase : d.phase < 5) (hmode : d.mode ≠ mdSHUTTERED) : d.wakeUp = d := by
  have hno : ¬5 ≤ d.phase := by omega
  simp [Dev.wakeUp, h, hno, hmode]

end

/-! ### The exit (R391, R392) -/

theorem exec_exitStepEnd (o : ExitObs) (s : State) : exec (.exitStepEnd o) s = .next (s.put (s.dev.exitStep o)) := (rfl)

/-- An exit is under way, and REFCLK runs. -/
abbrev Dev.exiting (d : Dev) : Prop := d.phase = 11 ∧ d.pins.refclk = true

/-- What follows on `t` when step `k` of the exit has ended in time; after steps 3 and 9 and upward nothing does. -/
def Dev.exitWork (t : Dev) (o : ExitObs) (k : Nat) : Dev :=
  match k with
  | 1 => ({ t with pins := { t.pins with spineOn := true } } : Dev).liveChange
  | 2 => ((({ t with pins := { t.pins with mgmtOn := true } } : Dev).liveChange).wdogKick).compareViews
  | 4 => t.collarTrain o.ports true
  | 5 => t.exitShafts o.shorts
  | 6 => t.imageBack o.blocks
  | 7 => t.sentinels o.banks
  | _ => t

theorem Dev.exitWork_of_plain (t : Dev) (o : ExitObs) {k : Nat} (h : k = 3 ∨ 9 ≤ k) : t.exitWork o k = t := by
  unfold Dev.exitWork
  split
  case h_7 => rfl
  all_goals omega

section
variable {d : Dev} {o : ExitObs}

theorem Dev.exitStep_of_idle (h : ¬d.exiting ∨ d.ms.exit = 0) : d.exitStep o = d := by
  rw [Dev.exitStep, if_pos]
  rcases h with h | h
  · by_cases hphase : d.phase = 11
    · have hclk : d.pins.refclk = false := by simpa [Dev.exiting, hphase] using h
      simp [hclk]
    · simp [hphase]
  · simp [h]

variable (hon : d.exiting)
include hon

theorem Dev.exitStep_of_walk (h : d.ms.exit = 8) : d.exitStep o = if d.space.walking = true then d else d.exitDone := by
  simp [Dev.exitStep, hon.1, hon.2, h]

variable (h0 : d.ms.exit ≠ 0) (h8 : d.ms.exit ≠ 8)
include h0 h8

theorem Dev.exitStep_of_late (hdone : o.done = false) : d.exitStep o = d.exitLate d.ms.exit := by
  simp [Dev.exitStep, hon.1, hon.2, h0, h8, hdone]

theorem Dev.exitStep_of_done (hdone : o.done = true) :
    d.exitStep o = (d.modMs (fun m => { m with exit := d.ms.exit + 1 })).exitWork o d.ms.exit := by
  simp only [Dev.exitStep, hon.1, hon.2, hdone, beq_eq_false_iff_ne.mpr h0, beq_eq_false_iff_ne.mpr h8, bne_self_eq_false, Bool.not_true,
    Bool.or_self, Bool.false_eq_true, if_false]
  rfl

end

/-! ### The power estimate and the ladder (R396, R397) -/

theorem exec_powerEstimate (o : PowerObs) (s : State) : exec (.powerEstimate o) s = .next (s.put (s.dev.powerUpdate o)) := (rfl)

theorem exec_idleParkUnderCap (n : Fin 48) (s : State) :
    exec (.idleParkUnderCap n) s =
      .next (s.put (if s.dev.ladder = 3 ∧ (s.dev.shaft n).collar = [] ∧ (s.dev.shaft n).localq = [] then s.dev.park n else s.dev)) :=
  (State.on_ite s (fun d => d.ladder == 3 && (d.shaft n).collar.isEmpty && (d.shaft n).localq.isEmpty) (fun d => d.park n) fun d => d).trans
    (State.next_congr (if_congr (by simp only [Bool.and_eq_true, beq_iff_eq, List.isEmpty_iff, and_assoc]) rfl rfl))

/-- The device's estimate, saturating at 4,095 (R396). -/
def powerTotal (o : PowerObs) : Nat := min 4095 (o.dram + o.refStatic + o.engine + o.logic + o.host + o.far)

/-- No estimate is made: without power, in SHUTTERED and before KINDLE step 7. -/
abbrev Dev.powerDark (d : Dev) : Prop := d.pins.pwrgood = false ∨ d.mode = mdSHUTTERED ∨ (d.mode = mdKINDLE ∧ d.kstep < 7)

/-- The estimate and its peak stand in their register. -/
def Dev.totalShown (d : Dev) (o : PowerObs) : Dev :=
  (d.setF Reg.POWER_EST_TOTAL (powerTotal o)).setF Reg.POWER_EST_PEAK (max (powerTotal o) (d.fv Reg.POWER_EST_PEAK))

/-- The parts of an estimate and the fields that show them, in watts. -/
def powerParts (o : PowerObs) : List (Fld × Nat) :=
  [(Reg.POWER_EST_PARTS0_REF_STATIC, o.refStatic), (Reg.POWER_EST_PARTS0_DRAM, o.dram), (Reg.POWER_EST_PARTS0_LOGIC, o.logic),
    (Reg.POWER_EST_PARTS0_ENGINE, o.engine), (Reg.POWER_EST_PARTS1_FAR, o.far), (Reg.POWER_EST_PARTS1_HOST, o.host)]

/-- The estimate, its peak and its parts stand in their registers. -/
def Dev.powerShown (d : Dev) (o : PowerObs) : Dev := (powerParts o).foldl (fun t x => t.setSat x.1 (x.2 / 10)) (d.totalShown o)

/-- The shown estimate is above PEAK_W. -/
def Dev.abovePeak (d : Dev) (o : PowerObs) : Bool := decide (10 * (d.powerShown o).fv Reg.POWER_CAP_CTL_PEAK_W < powerTotal o)

/-- An estimate above PEAK_W has been counted and reported. -/
def Dev.peakNoted (d : Dev) (o : PowerObs) : Dev :=
  if d.abovePeak o then ((d.powerShown o).bump Reg.POWER_CNT_PEAK_VALUE).raise pgPOWER Reg.EV_POWER_PEAK else d.powerShown o

theorem Dev.ladderActs_iff (d : Dev) :
    d.ladderActs = true ↔ d.mode ≠ mdKINDLE ∧ d.mode ≠ mdSHUTTERED ∧ d.phase < 5 ∧ d.fb Reg.POWER_CAP_CTL_EN = true := by
  simp only [Dev.ladderActs, Bool.and_eq_true, bne_iff_ne, decide_eq_true_eq, and_assoc, ne_eq]

section
variable {d : Dev} {o : PowerObs}

theorem Dev.powerUpdate_of_dark (h : d.powerDark) : d.powerUpdate o = d := by
  rw [Dev.powerUpdate, if_pos]
  simpa [or_assoc] using h

section
variable (h : ¬d.powerDark)
include h

theorem Dev.powerUpdate_eq :
    d.powerUpdate o =
      let t := d.peakNoted o
      let cap := 10 * (d.powerShown o).fv Reg.POWER_CAP_CTL_CAP_W
      if (!t.ladderActs) = true then t
      else if cap < powerTotal o then t.overCap (d.abovePeak o)
      else t.underCap (decide (powerTotal o + 10 * t.fv Reg.POWER_CAP_CTL_HYST_W ≤ cap)) := by
  have hlive : ¬((!d.pins.pwrgood || d.mode == mdSHUTTERED || (d.mode == mdKINDLE && decide (d.kstep < 7))) = true) := by
    simpa [or_assoc] using h
  have hpeak : d.peakNoted o = if 10 * (d.powerShown o).fv Reg.POWER_CAP_CTL_PEAK_W < powerTotal o then
      ((d.powerShown o).bump Reg.POWER_CNT_PEAK_VALUE).raise pgPOWER Reg.EV_POWER_PEAK else d.powerShown o := by
    simp only [Dev.peakNoted, Dev.abovePeak, decide_eq_true_eq]
  rw [hpeak, Dev.powerUpdate]
  exact if_neg hlive

theorem Dev.powerUpdate_of_still (hstill : (d.peakNoted o).ladderActs = false) : d.powerUpdate o = d.peakNoted o := by
  rw [Dev.powerUpdate_eq h]
  exact if_pos (by rw [hstill]; rfl)

variable (hacts : (d.peakNoted o).ladderActs = true)
include hacts

theorem Dev.powerUpdate_of_over (hcap : 10 * (d.powerShown o).fv Reg.POWER_CAP_CTL_CAP_W < powerTotal o) :
    d.powerUpdate o = (d.peakNoted o).overCap (d.abovePeak o) := by
  rw [Dev.powerUpdate_eq h]
  exact (if_neg (by rw [hacts]; decide)).trans (if_pos hcap)

theorem Dev.powerUpdate_of_under (hcap : powerTotal o ≤ 10 * (d.powerShown o).fv Reg.POWER_CAP_CTL_CAP_W) :
    d.powerUpdate o = (d.peakNoted o).underCap
      (decide (powerTotal o + 10 * (d.peakNoted o).fv Reg.POWER_CAP_CTL_HYST_W ≤ 10 * (d.powerShown o).fv Reg.POWER_CAP_CTL_CAP_W)) := by
  rw [Dev.powerUpdate_eq h]
  exact (if_neg (by rw [hacts]; decide)).trans (if_neg (Nat.not_lt.mpr hcap))

end

/-! ### An estimate below the peak with the ladder off -/

/-- Showing fields apart from `f` leaves it. -/
theorem Dev.fv_foldl_setSat_apart {f : Fld} (l : List (Fld × Nat)) (d : Dev) (h : ∀ x ∈ l, f.Apart x.1) :
    (l.foldl (fun t x => t.setSat x.1 (x.2 / 10)) d).fv f = d.fv f := by
  induction l generalizing d with
  | nil => rfl
  | cons x l ih =>
    obtain ⟨hx, hl⟩ := List.forall_mem_cons.mp h
    rw [List.foldl_cons, ih _ hl, Dev.setSat, Dev.fv_setF_apart _ _ _ hx]

/-- The field stands apart from every field that shows a part. -/
abbrev Fld.ApartFromParts (f : Fld) : Prop :=
  ∀ g ∈ [Reg.POWER_EST_PARTS0_REF_STATIC, Reg.POWER_EST_PARTS0_DRAM, Reg.POWER_EST_PARTS0_LOGIC, Reg.POWER_EST_PARTS0_ENGINE,
    Reg.POWER_EST_PARTS1_FAR, Reg.POWER_EST_PARTS1_HOST], f.Apart g

theorem Dev.fv_powerShown (d : Dev) (o : PowerObs) {f : Fld} (h : f.ApartFromParts) : (d.powerShown o).fv f = (d.totalShown o).fv f :=
  Dev.fv_foldl_setSat_apart (powerParts o) _ fun _ hx => h _ (List.mem_map_of_mem (f := Prod.fst) hx)

/-- A field apart from the estimate and its parts keeps its value. -/
theorem Dev.fv_powerShown_other (d : Dev) (o : PowerObs) {f : Fld} (h : f.ApartFromParts) (htotal : f.Apart Reg.POWER_EST_TOTAL)
    (hpeak : f.Apart Reg.POWER_EST_PEAK) : (d.powerShown o).fv f = d.fv f := by
  rw [Dev.fv_powerShown d o h, Dev.totalShown, Dev.fv_setF_apart _ _ _ hpeak, Dev.fv_setF_apart _ _ _ htotal]

theorem powerTotal_lt (o : PowerObs) : powerTotal o < 2 ^ 12 := by
  unfold powerTotal
  omega

theorem Dev.total_powerShown (d : Dev) (o : PowerObs) : (d.powerShown o).fv Reg.POWER_EST_TOTAL = powerTotal o := by
  rw [Dev.fv_powerShown d o (by decide), Dev.totalShown, Dev.fv_setF_apart _ _ _ (by decide)]
  exact Dev.fv_setF_same _ 0 (by decide) (powerTotal_lt o)

theorem Dev.peak_powerShown (d : Dev) (o : PowerObs) :
    (d.powerShown o).fv Reg.POWER_EST_PEAK = max (powerTotal o) (d.fv Reg.POWER_EST_PEAK) := by
  have hold : d.fv Reg.POWER_EST_PEAK < 2 ^ 12 := bitsOf_lt _ 27 16
  rw [Dev.fv_powerShown d o (by decide), Dev.totalShown]
  exact Dev.fv_setF_same _ 0 (by decide) (max_lt (powerTotal_lt o) hold)

/-- `t` differs from `d` in registers at most. -/
def Dev.OnlyRegs (d t : Dev) : Prop := ∃ r, t = { d with regs := r }

theorem Dev.OnlyRegs.setF {d t : Dev} (h : d.OnlyRegs t) (f : Fld) (v : Nat) : d.OnlyRegs (t.setF f v) := by
  obtain ⟨r, rfl⟩ := h
  exact ⟨_, rfl⟩

theorem Dev.OnlyRegs.foldl_setSat {d t : Dev} (h : d.OnlyRegs t) (l : List (Fld × Nat)) :
    d.OnlyRegs (l.foldl (fun t x => t.setSat x.1 (x.2 / 10)) t) := by
  induction l generalizing t with
  | nil => exact h
  | cons x l ih => exact ih (h.setF x.1 _)

/-- An estimate changes registers alone. -/
theorem Dev.powerShown_regs (d : Dev) (o : PowerObs) : d.powerShown o = { d with regs := (d.powerShown o).regs } := by
  have hsame : d.OnlyRegs d := ⟨d.regs, rfl⟩
  obtain ⟨r, hr⟩ : d.OnlyRegs (d.powerShown o) := ((hsame.setF _ _).setF _ _).foldl_setSat (powerParts o)
  rw [hr]

/-- An estimate at or below PEAK_W with the ladder off is only shown. -/
theorem Dev.powerUpdate_of_off (h : ¬d.powerDark) (hoff : d.fb Reg.POWER_CAP_CTL_EN = false)
    (hpeak : powerTotal o ≤ 10 * d.fv Reg.POWER_CAP_CTL_PEAK_W) : d.powerUpdate o = d.powerShown o := by
  have hcalm : d.abovePeak o = false := by
    rw [Dev.abovePeak, Dev.fv_powerShown_other d o (by decide) (by decide) (by decide)]
    exact decide_eq_false (Nat.not_lt.mpr hpeak)
  have hnoted : d.peakNoted o = d.powerShown o := by simp [Dev.peakNoted, hcalm]
  have hstill : (d.powerShown o).ladderActs = false := by
    have hen : (d.powerShown o).fb Reg.POWER_CAP_CTL_EN = false := by
      rw [Dev.fb, Dev.fv_powerShown_other d o (by decide) (by decide) (by decide)]
      exact hoff
    rw [Dev.ladderActs, hen, Bool.and_false]
  rw [Dev.powerUpdate_of_still h (hnoted ▸ hstill), hnoted]

end

/-! ### A fuse word ends (R431, R435) -/

theorem exec_fuseWordBurnEnd (a b : BitVec 32) (s : State) :
    exec (.fuseWordBurnEnd a b) s = .next (s.put (s.dev.fuseWordEnd a b).rekindleNow) := (rfl)

/-- A return from LAMPROOM that waits starts when neither a fuse word nor a column copy is under way. -/
theorem Dev.rekindleNow_eq (t : Dev) :
    t.rekindleNow =
      if t.ms.rekindleHeld = true ∧ t.fuse.job = none ∧ t.shafts.any (fun x => x.2.colRun.isSome) = false then t.rekindle else t := by
  rw [Dev.rekindleNow]
  exact if_congr (by simp only [Bool.and_eq_true, Option.isNone_iff_eq_none, Bool.not_eq_true', and_assoc, Dev.copying]) rfl rfl

/-- Settles O58: modes, wakes, the exit and the power ladder, each by its lemmas above. -/
theorem modesChangeAndPowerIsCapped : Obligations.ModesChangeAndPowerIsCapped := by
  unfold Obligations.ModesChangeAndPowerIsCapped
  intro s
  have hno {b : Bool} (h : b = false) : ¬b = true := Bool.eq_false_iff.mp h
  refine ⟨fun h => State.next_same (exec_dimGroupEnd s) (Dev.groupEnd_of_busy h),
    ?groups, ⟨fun h => State.next_same (exec_lamproomDrainEnd s) (Dev.lampDrained_of_live h),
      fun h hquiet => State.next_as (exec_lamproomDrainEnd s) (Dev.lampDrained_of_quiet h hquiet)⟩, ?entry, ?noDrain, ?drain, ?sense,
    fun h => State.next_same (exec_wakeComparatorWake s) (Dev.wakeUp_of_low h), ?wake, ?exit, ?power, fun n => exec_idleParkUnderCap n s,
    ?fuse⟩
  case groups =>
    exact fun hgroup hidle => ⟨fun h => State.next_as (exec_dimGroupEnd s) (Dev.groupEnd_of_more hgroup hidle h),
      fun hlast h => State.next_as (exec_dimGroupEnd s) (Dev.groupEnd_of_last hgroup hidle hlast h)⟩
  case entry =>
    refine ⟨fun h => State.next_same (exec_entryStageEnd s) (Dev.stageEnd_of_noEntry h), fun h => ?stage1, fun h => ?stage2,
      fun h => ?stage3, fun h => ?stage4,
      fun h => State.next_as (exec_entryStageEnd s) (Dev.stageEnd_stage5 h),
      fun h => State.next_as (exec_entryStageEnd s) (Dev.stageEnd_stage6 h)⟩
    case stage1 =>
      have hstep := State.next_as (exec_entryStageEnd s) (Dev.stageEnd_stage1 h)
      refine ⟨fun hover => State.next_same hstep (if_neg (hno hover)), fun hover => ⟨fun hwake => ?_, fun hwake => ?_⟩⟩
      · exact State.next_as hstep ((if_pos hover).trans (if_pos hwake))
      · exact State.next_as hstep ((if_pos hover).trans (if_neg (hno hwake)))
    case stage2 =>
      have hstep := State.next_as (exec_entryStageEnd s) (Dev.stageEnd_stage2 h)
      refine ⟨fun hover => State.next_same hstep (if_neg (hno hover)), fun hover hwake => ?_, fun hover hwake => ?_⟩
      · exact State.next_as hstep ((if_pos hover).trans (if_pos hwake))
      · exact State.next_as hstep ((if_pos hover).trans (if_neg (hno hwake)))
    case stage3 =>
      have hstep := State.next_as (exec_entryStageEnd s) (Dev.stageEnd_stage3 h)
      exact ⟨fun hwake => State.next_as hstep (if_pos hwake), fun hwake => State.next_as hstep (if_neg (hno hwake))⟩
    case stage4 =>
      have hstep := State.next_as (exec_entryStageEnd s) (Dev.stageEnd_stage4 h)
      refine ⟨fun hbusy => State.next_same hstep (if_pos hbusy), fun hbusy => ⟨fun hwake => ?_, fun hwake => ?_⟩⟩
      · exact State.next_as hstep ((if_neg (hno hbusy)).trans (if_pos hwake))
      · exact State.next_as hstep ((if_neg (hno hbusy)).trans (if_neg (hno hwake)))
  case noDrain => exact fun h => State.next_same (exec_drainLimit s) (if_neg h)
  case drain => exact fun h => State.next_as (exec_drainLimit s) (if_pos h)
  case sense =>
    exact fun mv => ⟨fun h => State.next_as (exec_wakeSenseCrossing mv s) (if_neg (hno h)),
      fun h => State.next_as (exec_wakeSenseCrossing mv s) (if_pos h)⟩
  case wake =>
    exact fun h => ⟨fun hlo hhi => State.next_as (exec_wakeComparatorWake s) (Dev.wakeUp_of_entry h hlo hhi),
      fun hphase hmode => State.next_as (exec_wakeComparatorWake s) (Dev.wakeUp_of_shuttered h hphase hmode),
      fun hphase hmode => State.next_same (exec_wakeComparatorWake s) (Dev.wakeUp_of_awake h hphase hmode)⟩
  case exit =>
    intro o
    refine ⟨fun h => State.next_same (exec_exitStepEnd o s) (Dev.exitStep_of_idle h), fun hon hdone => ?done,
      fun hon hk hwalk => ?walking, fun hon hk hwalk => ?walked,
      fun hon h0 h8 hdone => ?late⟩
    case done =>
      have hstep {k : Nat} (hk : s.dev.ms.exit = k) (h0 : k ≠ 0) (h8 : k ≠ 8) :
          exec (.exitStepEnd o) s = .next (s.put ((s.dev.modMs (fun m => { m with exit := s.dev.ms.exit + 1 })).exitWork o k)) :=
        State.next_as (exec_exitStepEnd o s) (by rw [Dev.exitStep_of_done hon (hk ▸ h0) (hk ▸ h8) hdone, hk])
      refine ⟨fun hk => hstep hk (by decide) (by decide), fun hk => hstep hk (by decide) (by decide),
        fun hk => State.next_as (hstep rfl (by omega) (by omega)) (Dev.exitWork_of_plain _ o hk),
        fun hk => hstep hk (by decide) (by decide), fun hk => hstep hk (by decide) (by decide),
        fun hk => hstep hk (by decide) (by decide), fun hk => hstep hk (by decide) (by decide)⟩
    case walking => exact State.next_same (exec_exitStepEnd o s) ((Dev.exitStep_of_walk hon hk).trans (if_pos hwalk))
    case walked => exact State.next_as (exec_exitStepEnd o s) ((Dev.exitStep_of_walk hon hk).trans (if_neg (hno hwalk)))
    case late =>
      have hstep := State.next_as (exec_exitStepEnd o s) (Dev.exitStep_of_late hon h0 h8 hdone)
      exact ⟨fun hd => State.next_as hstep (if_pos hd), fun hd => State.next_as hstep (if_neg (hno hd))⟩
  case power =>
    intro o
    refine ⟨fun h => State.next_same (exec_powerEstimate o s) (Dev.powerUpdate_of_dark h), fun h => ⟨fun hacts => ?still,
      fun hacts hcap => ?aboveCap, fun hacts hcap => ?belowCap⟩,
      fun hpower hmode hkindle hoff hpeak => ?shown⟩
    case still =>
      exact State.next_as (exec_powerEstimate o s) (Dev.powerUpdate_of_still h (Bool.eq_false_iff.mpr (mt (Dev.ladderActs_iff _).mp hacts)))
    case aboveCap => exact State.next_as (exec_powerEstimate o s) (Dev.powerUpdate_of_over h ((Dev.ladderActs_iff _).mpr hacts) hcap)
    case belowCap => exact State.next_as (exec_powerEstimate o s) (Dev.powerUpdate_of_under h ((Dev.ladderActs_iff _).mpr hacts) hcap)
    case shown =>
      have hlive : ¬s.dev.powerDark := by
        rintro (h | h | ⟨h, _⟩)
        · exact hno h hpower
        · exact hmode h
        · exact hkindle h
      exact ⟨s.dev.powerShown o, State.next_as (exec_powerEstimate o s) (Dev.powerUpdate_of_off hlive hoff hpeak), Dev.powerShown_regs _ o,
        Dev.total_powerShown _ o, Dev.peak_powerShown _ o, Dev.fv_powerShown_other _ o (by decide) (by decide) (by decide)⟩
  case fuse => exact fun a b => State.next_as (exec_fuseWordBurnEnd a b s) (Dev.rekindleNow_eq _)

end Sys2Proof.Machine

/-!
PROOFS. Which registers a port may write, and how mode, walk and state refuse a memory request (R74, R107, R112, R113, R459).
-/
namespace Sys2Proof.Machine

/-! ### Who may write (R459) -/

/-- A port may write with MGMT_EN, a doorbell, or the registers that R459 lists of its own page. -/
theorem Dev.mayWrite_port_iff (d : Dev) (h : Fin 12) (a : Nat) :
    d.mayWrite h a = true ↔ d.fb Reg.HOSTPORT_MGMT_MGMT_EN h = true ∨ (a / 4096 = 0x0B ∧ 0x800 ≤ a % 4096 ∧ a % 4096 < 0x900) ∨
      (a / 4096 = 0x10 + h ∧ a % 4096 ∈ ownRegs) := by
  have hport : h.val ≠ 12 := by omega
  simp [Dev.mayWrite, hport, hostPage, or_assoc, and_assoc]

/-- A write that its requester may not make changes nothing: an earlier row of R453 answers it, or the row of permission does. -/
theorem Dev.serveReg_of_unwritable (d : Dev) {reader a : Nat} (v : Word32) (o : Option WObs) (late : Bool) (h : d.mayWrite reader a = false) :
    (d.serveReg reader a (some v) o late).2 = d := by
  cases hpage : absentPage (a / 4096) with
  | true => rw [Dev.serveReg_of_absent o late hpage]
  | false =>
    by_cases halign : a % 4 = 0
    · rw [Dev.serveReg_of_forbidden o late hpage halign (by simp [Dev.forbids, h])]
    · rw [Dev.serveReg_of_misaligned o late hpage halign]

/-- Settles O19: the permission of a port is read off its three cases, and a write without it is answered without effect. -/
theorem portsMayWrite : Obligations.PortsMayWrite := by
  intro d h a v o late
  refine ⟨rfl, fun hmgmt => (d.mayWrite_port_iff h a).mpr (Or.inl hmgmt), fun hmgmt => ?_, d.serveReg_of_unwritable v o late⟩
  rw [d.mayWrite_port_iff h a, or_iff_right (by simp [hmgmt])]
  rfl

/-! ### Haulage that serves (R46, R74) -/

theorem Dev.haulServes_of_walk {d : Dev} (h : d.space.walking = true ∨ d.space.clearing = true) : d.haulServes = false := by
  rcases h with h | h <;> simp [Dev.haulServes, h]

theorem Dev.haulServes_of_state {d : Dev} (h : d.ust hauPage ∈ [stOFFLINE, stKINDLING, stDARK, stFAILED, stRESETTING]) :
    d.haulServes = false := by
  simp only [List.mem_cons, List.not_mem_nil, or_false] at h
  rcases h with h | h | h | h | h <;> simp [Dev.haulServes, h]

theorem Dev.haulServes_of_still {d : Dev} (hwalk : d.space.walking = false) (hclear : d.space.clearing = false)
    (h : d.ust hauPage ∉ [stOFFLINE, stKINDLING, stDARK, stFAILED, stRESETTING]) : d.haulServes = true := by
  simp only [List.mem_cons, List.not_mem_nil, or_false, not_or] at h
  simp [Dev.haulServes, hwalk, hclear, h]

/-! ### The refusal of a memory request (R107, R112, R113) -/

/-- LAMPROOM, a halt of start-up, or the drain at the entry of LAMPROOM. -/
def Dev.inLamproom (d : Dev) : Prop := d.mode = mdLAMPROOM ∨ d.ks.halted = true ∨ d.phase = 3 ∨ d.phase = 4

theorem Dev.memRefusal_of_lamproom {d : Dev} (h : d.inLamproom) (p : Nat) : d.memRefusal p = some (10000, true) :=
  if_pos (by simpa [Dev.inLamproom, Dev.phase, or_assoc] using h)

section
variable {d : Dev} (p : Nat) (hlamp : ¬d.inLamproom)
include hlamp

/-- Outside LAMPROOM haulage is asked first, then start-up, SHUTTERED and the port's own state. -/
theorem Dev.memRefusal_eq :
    d.memRefusal p = if d.haulRefusal.isSome = true then d.haulRefusal
      else if d.mode = mdKINDLE ∧ d.kstep < 14 then some (100, true)
      else if d.mode = mdSHUTTERED ∨ 5 ≤ d.phase then some (1000, true)
      else if d.portSt p = stFENCED then some (1000, false)
      else none := by
  have hno : ¬(d.mode == mdLAMPROOM || d.ks.halted || d.phase == 3 || d.phase == 4) = true := by
    simpa [Dev.inLamproom, Dev.phase, or_assoc] using hlamp
  refine (if_neg hno).trans ?_
  simp only [Bool.and_eq_true, Bool.or_eq_true, beq_iff_eq, decide_eq_true_eq]
  rfl

theorem Dev.memRefusal_of_haulage {x : Nat × Bool} (h : d.haulRefusal = some x) : d.memRefusal p = some x := by
  rw [Dev.memRefusal_eq p hlamp, h]
  rfl

theorem Dev.memRefusal_of_serving (h : d.haulServes = true) :
    d.memRefusal p = if d.mode = mdKINDLE ∧ d.kstep < 14 then some (100, true)
      else if d.mode = mdSHUTTERED ∨ 5 ≤ d.phase then some (1000, true)
      else if d.portSt p = stFENCED then some (1000, false)
      else none := by
  rw [Dev.memRefusal_eq p hlamp, Dev.haulRefusal_of_serves h]
  rfl

end

/-- Settles O13: LAMPROOM comes first, then haulage by its unit and its walks, then start-up, SHUTTERED and the port's state. -/
theorem modeRefusalsOfMemoryRequests : Obligations.ModeRefusalsOfMemoryRequests := by
  intro d h
  refine ⟨fun hlamp => Dev.memRefusal_of_lamproom hlamp h, fun hmode hhalt h3 h4 => ?_⟩
  have hlamp : ¬d.inLamproom := by simp [Dev.inLamproom, hmode, hhalt, h3, h4]
  have hserves (hfail : d.ust hauPage ≠ stFAILED) (hwalk : d.space.walking = false) (hclear : d.space.clearing = false)
      (hst : d.ust hauPage ∉ [stOFFLINE, stDARK, stRESETTING, stKINDLING]) : d.haulServes = true :=
    Dev.haulServes_of_still hwalk hclear (by simp_all)
  refine ⟨fun hfail => ?_, fun hfail => ⟨fun hbusy => ?_, fun hwalk hclear hst => ?_, fun hwalk hclear hst hkindle hstep => ?_,
    fun hwalk hclear hst hrun => ⟨fun hshut => ?_, fun hshut hphase => ?_⟩⟩⟩
  · exact Dev.memRefusal_of_haulage h hlamp (Dev.haulRefusal_of_failed (Dev.haulServes_of_state (by simp [hfail])) hfail)
  · have hstop : d.haulServes = false := by
      rcases hbusy with hwalk | hclear | hst
      · exact Dev.haulServes_of_walk (Or.inl hwalk)
      · exact Dev.haulServes_of_walk (Or.inr hclear)
      · exact Dev.haulServes_of_state (by simp [hst])
    rw [Dev.memRefusal_of_haulage h hlamp (Dev.haulRefusal_of_unfailed hstop hfail)]
    simpa [or_assoc] using hbusy
  · have hstop : d.haulServes = false := Dev.haulServes_of_state ((by decide : [stOFFLINE, stDARK, stRESETTING] ⊆ _) hst)
    have hkindling : d.ust hauPage ≠ stKINDLING := fun e => absurd (e ▸ hst) (by decide)
    rw [Dev.memRefusal_of_haulage h hlamp (Dev.haulRefusal_of_unfailed hstop hfail)]
    simp [hwalk, hclear, hkindling]
  · rw [Dev.memRefusal_of_serving h hlamp (hserves hfail hwalk hclear hst), if_pos ⟨hkindle, hstep⟩]
  all_goals
    have hlate : ¬(d.mode = mdKINDLE ∧ d.kstep < 14) := fun hk => by
      rw [hk.1] at hrun
      exact absurd hrun (by decide)
    rw [Dev.memRefusal_of_serving h hlamp (hserves hfail hwalk hclear hst), if_neg hlate]
  · exact if_pos hshut
  · exact if_neg (not_or.mpr ⟨hshut, Nat.not_le.mpr hphase⟩)

end Sys2Proof.Machine

/-!
PROOFS. What a host port sends: responses of VC1 and VC2, and the events of the pages (R85, R92, R93, R96, R102, R103, R109, R130, R139,
R141, R151).
-/
namespace Sys2Proof.Machine

/-! ### The flit of a message (R82, R83, R85) -/

/-- The low bits of a word are those of the number it holds. -/
theorem toNat_ofNat_mod {k m : Nat} (h : k ≤ m) (x : Nat) : (BitVec.ofNat m x).toNat % 2 ^ k = x % 2 ^ k := by
  rw [BitVec.toNat_ofNat, Nat.mod_mod_of_dvd _ (Nat.pow_dvd_pow 2 h)]

/-- The low half of a flit: its header field, and its first slot. -/
theorem flitOf_toNat_low (fh x : Nat) (l : List Nat) : (flitOf fh (x :: l)).toNat % 2 ^ 256 = (fh * 2 ^ 16 + x % 2 ^ 128 * 2 ^ 128) % 2 ^ 256 := by
  rw [flitOf, toNat_ofNat_mod (by decide), List.foldr_cons]
  omega

section
variable (hw w : Word64) (data : Line) (n : Nat)

/-- The low half of a flit of one message: SMAP names slot 1, which holds H and W. -/
theorem messageFlit_low :
    (flitOf (fhOf 0 0 0 0 false 1) (msgSlotsOf hw w data n)).toNat % 2 ^ 256 = 2 ^ 16 + hw.toNat * 2 ^ 128 + w.toNat * 2 ^ 192 := by
  have hh := hw.isLt
  have hword := w.isLt
  rw [msgSlotsOf, flitOf_toNat_low, show fhOf 0 0 0 0 false 1 = 1 from rfl]
  omega

theorem messageFlit_header : (flitOf (fhOf 0 0 0 0 false 1) (msgSlotsOf hw w data n)).toNat / 2 ^ 128 % 2 ^ 64 = hw.toNat := by
  have hlow := messageFlit_low hw w data n
  have hh := hw.isLt
  have hword := w.isLt
  omega

theorem messageFlit_word : (flitOf (fhOf 0 0 0 0 false 1) (msgSlotsOf hw w data n)).toNat / 2 ^ 192 % 2 ^ 64 = w.toNat := by
  have hlow := messageFlit_low hw w data n
  have hh := hw.isLt
  have hword := w.isLt
  omega

theorem messageFlit_smap : (flitOf (fhOf 0 0 0 0 false 1) (msgSlotsOf hw w data n)).toNat / 2 ^ 16 % 2 ^ 15 = 1 := by
  have hlow := messageFlit_low hw w data n
  omega

end

/-! ### RESPONSE_SEND (R93, R96, R102, R103, R139, R141, R151) -/

theorem exec_responseSend_vc1 (h : Fin 12) (ns : Nat) (s : State) : exec (.responseSend h false ns) s = .next (s.put (s.dev.respSend1 h ns)) := (rfl)

theorem exec_responseSend_vc2 (h : Fin 12) (ns : Nat) (s : State) : exec (.responseSend h true ns) s = .next (s.put (s.dev.respSend2 h)) := (rfl)

/-- The responses of VC1 that may go. -/
def PortSt.ready (p : PortSt) : List Resp := p.resp1.filter (respReady p.resp1)

/-- The key of a response at its port. -/
def Dev.respKey (d : Dev) (h : Nat) (r : Resp) : Nat := d.keyAt (arbResp h) r.cls r.cls r.urg r.starved

/-- A NACK is counted. -/
def Dev.countNack (d : Dev) (h : Nat) (r : Resp) : Dev := if isNack r.opc then d.bump Reg.HOSTPORT_CNT_NACK_VALUE h else d

/-- The response leaves in a flit of its own, and what it held is free. -/
def Dev.respLeaves (d : Dev) (h : Nat) (r : Resp) : Dev :=
  ((d.setPort h { d.port h with
                       have1 := (d.port h).have1 - respLen r.opc, resv1 := (d.port h).resv1 - r.slots,
                       resp1 := dropFirst (fun q => q.id == r.id) (d.port h).resp1,
                       outst := if r.owns then (d.port h).outst.filter (· != r.tag) else (d.port h).outst }).granted (arbResp h) r.cls).sendMsg h
    (headerWord r.opc r.cls r.tag r.addr r.flag) r.w r.data (respLen r.opc)

/-- The latency sample that a response gives, unless it is a NACK. -/
def Dev.respSampled (d : Dev) (r : Resp) (ns : Nat) : Dev := if r.sample && !(isNack r.opc) then d.sample r.cls ns else d

/-- A NACK gives no sample, whatever was measured. -/
theorem Dev.respSampled_congr {d : Dev} {r : Resp} {m n : Nat} (h : isNack r.opc = false → m = n) : d.respSampled r m = d.respSampled r n := by
  cases hnack : isNack r.opc with
  | true => simp [Dev.respSampled, hnack]
  | false => rw [h hnack]

theorem Dev.respSend1_of_none {d : Dev} {h : Nat} (ns : Nat) (hready : (d.port h).ready = []) : d.respSend1 h ns = d := by
  rw [PortSt.ready] at hready
  simp [Dev.respSend1, hready, bestBy]

section
variable {d : Dev} {h : Nat} {r : Resp} (ns : Nat) (hbest : bestBy (d.respKey h) (d.port h).ready = some r)
include hbest

/-- What the port does with the response it has chosen. -/
theorem Dev.respSend1_of_best :
    d.respSend1 h ns = if (d.port h).have1 < respLen r.opc ∨ d.fb Reg.HOSTPORT_LINK_STATUS_INIT_DONE h = false then d
      else
        let c := ((d.respLeaves h r).countNack h r).respSampled r
          (ns + linkTerm (((d.respLeaves h r).countNack h r).fv Reg.HOSTPORT_LINK_STATUS_RATE h))
        if r.opc == 0x24 && r.miss then c.miss r.cls else c := by
  unfold Dev.respSend1
  change (match bestBy (d.respKey h) (d.port h).ready with | none => d | some r => _) = _
  rw [hbest]
  exact if_congr (by simp) rfl rfl

theorem Dev.respSend1_of_uninitialised (hinit : d.fb Reg.HOSTPORT_LINK_STATUS_INIT_DONE h = false) : d.respSend1 h ns = d := by
  rw [Dev.respSend1_of_best ns hbest, if_pos (Or.inr hinit)]

theorem Dev.respSend1_of_sent (hinit : d.fb Reg.HOSTPORT_LINK_STATUS_INIT_DONE h = true) :
    d.respSend1 h ns = if (d.port h).have1 < respLen r.opc then d
      else
        let c := ((d.respLeaves h r).countNack h r).respSampled r (ns + linkTerm (d.fv Reg.HOSTPORT_LINK_STATUS_RATE h))
        if r.opc == 0x24 && r.miss then c.miss r.cls else c := by
  have hrate : isNack r.opc = false →
      ns + linkTerm (((d.respLeaves h r).countNack h r).fv Reg.HOSTPORT_LINK_STATUS_RATE h) =
        ns + linkTerm (d.fv Reg.HOSTPORT_LINK_STATUS_RATE h) := fun hnack => by
    rw [Dev.countNack, if_neg (by simp [hnack])]
    rfl
  rw [Dev.respSend1_of_best ns hbest, Dev.respSampled_congr hrate]
  exact if_congr (by simp [hinit]) rfl rfl

end

/-- A register answer leaves for one credit, and what it held is free. -/
def Dev.regRespLeaves (d : Dev) (h : Nat) (r : Resp) (rest : List Resp) : Dev :=
  (d.setPort h { d.port h with have2 := (d.port h).have2 - 1, resv2 := (d.port h).resv2 - 1, resp2 := rest,
                               out2 := if r.owns then (d.port h).out2.filter (· != r.tag) else (d.port h).out2 }).sendMsg h
    (headerWord r.opc r.cls r.tag r.addr r.flag) r.w 0 1

theorem Dev.respSend2_of_idle {d : Dev} {h : Nat}
    (hidle : (d.port h).resp2 = [] ∨ (d.port h).have2 = 0 ∨ d.fb Reg.HOSTPORT_LINK_STATUS_INIT_DONE h = false) : d.respSend2 h = d := by
  unfold Dev.respSend2
  cases hresp : (d.port h).resp2 with
  | nil => simp [hresp]
  | cons r rest =>
    rw [hresp, or_iff_right (List.cons_ne_nil r rest)] at hidle
    simp only [hresp]
    exact if_pos (by simpa using hidle)

theorem Dev.respSend2_of_sent {d : Dev} {h : Nat} {r : Resp} {rest : List Resp} (hresp : (d.port h).resp2 = r :: rest)
    (hcredit : 1 ≤ (d.port h).have2) (hinit : d.fb Reg.HOSTPORT_LINK_STATUS_INIT_DONE h = true) :
    d.respSend2 h = let b := (d.regRespLeaves h r rest).countNack h r
      if r.opc == 0x24 then b.miss 63 else b := by
  unfold Dev.respSend2
  simp only [hresp]
  refine (if_neg ?_).trans rfl
  simp only [hinit, Bool.not_true, Bool.or_false, decide_eq_true_eq]
  omega

/-- Settles O14: the response sent is one of the greatest key among those that are ready, or the oldest register answer. -/
theorem responsesLeave : Obligations.ResponsesLeave := by
  intro s h ns d p ready key flit
  have hvc1 := exec_responseSend_vc1 h ns s
  have hvc2 := exec_responseSend_vc2 h ns s
  refine ⟨fun hinit => ⟨fun hready => ?vc1, fun r rest hresp hcredit => ?vc2⟩,
    fun r data n => ⟨messageFlit_header _ _ _ _, messageFlit_word _ _ _ _, messageFlit_smap _ _ _ _⟩,
    fun hready => State.next_same hvc1 (Dev.respSend1_of_none ns hready),
    fun hidle => State.next_same hvc2 (Dev.respSend2_of_idle (hidle.imp_right Or.inl)), fun hinit => ⟨?_, ?_⟩⟩
  case vc1 =>
    obtain ⟨r, hbest, hmem, hmax⟩ := exists_bestBy (d.respKey h) hready
    refine ⟨r, hmem, hmax, hvc1.trans ?_⟩
    rw [Dev.respSend1_of_sent ns hbest hinit]
    exact apply_ite (fun e => Host.Outcome.next (s.put e)) _ _ _
  case vc2 => exact State.next_as hvc2 (Dev.respSend2_of_sent hresp hcredit hinit)
  · by_cases hready : ready = []
    · exact State.next_same hvc1 (Dev.respSend1_of_none ns hready)
    · obtain ⟨r, hbest, -, -⟩ := exists_bestBy (d.respKey h) hready
      exact State.next_same hvc1 (Dev.respSend1_of_uninitialised ns hbest hinit)
  · exact State.next_same hvc2 (Dev.respSend2_of_idle (Or.inr (Or.inr hinit)))

/-! ### The port of an event (R109) -/

/-- A port that takes the events of pages whose own port is not there. -/
def Dev.takesEvents (d : Dev) (h : Nat) : Prop := d.portSt h = stONLINE ∧ d.fb Reg.HOSTPORT_MGMT_MGMT_EN h = true

theorem Dev.takesEvents_iff (d : Dev) (h : Nat) :
    (d.portSt h == stONLINE && d.fb Reg.HOSTPORT_MGMT_MGMT_EN h) = true ↔ d.takesEvents h := by
  rw [Bool.and_eq_true, beq_iff_eq, Dev.takesEvents]

/-- The port that EVT_ROUTE of a page names. -/
def Dev.routedPort (d : Dev) (page : Nat) : Nat := bitsOf (d.rdReg (page * 4096 + 0x20)) 19 16

theorem Dev.evtPort_of_online {d : Dev} {page : Nat} (h : d.portSt (d.routedPort page) = stONLINE) :
    d.evtPort page = some (d.routedPort page) := if_pos (beq_iff_eq.mpr h)

section
variable {d : Dev} {page : Nat} (hoff : d.portSt (d.routedPort page) ≠ stONLINE)
include hoff

theorem Dev.evtPort_eq_find :
    d.evtPort page = (List.range 12).find? (fun h => d.portSt h == stONLINE && d.fb Reg.HOSTPORT_MGMT_MGMT_EN h) :=
  if_neg (mt beq_iff_eq.mp hoff)

theorem Dev.evtPort_eq_some_iff (h : Nat) : d.evtPort page = some h ↔ h < 12 ∧ d.takesEvents h ∧ ∀ g < h, ¬d.takesEvents g := by
  rw [Dev.evtPort_eq_find hoff, List.find?_range_eq_some]
  simp only [Bool.not_eq_true', Bool.eq_false_iff, ne_eq, Dev.takesEvents_iff, List.mem_range]
  exact and_left_comm

theorem Dev.evtPort_eq_none_iff : d.evtPort page = none ↔ ∀ h < 12, ¬d.takesEvents h := by
  rw [Dev.evtPort_eq_find hoff, List.find?_range_eq_none]
  simp only [Bool.not_eq_true', Bool.eq_false_iff, ne_eq, Dev.takesEvents_iff]

end

/-! ### EVENT_NOTICE and EVENT_SEND (R93, R109, R130) -/

theorem exec_eventNotice (page : BitVec 14) (s : State) : exec (.eventNotice page) s = .next (s.put (s.dev.evtNotice page.toNat)) := (rfl)

theorem exec_eventSend (h : Fin 12) (s : State) : exec (.eventSend h) s = .next (s.put (s.dev.evtSend h)) := (rfl)

/-- The notice of a page is in flight no more, and is counted. -/
def Dev.noticeLanded (d : Dev) (page : Nat) : Dev :=
  ({ d with notice := { d.notice with evtFlight := d.notice.evtFlight.filter (fun e => e.1 != page) } } : Dev).bump
    Reg.FABRIC_CNT_EVT_NOTICE_VALUE

/-- An event joins the queue of its port, coalesces with one of its page that waits there, or finds the queue full. -/
def Dev.queueEvent (d : Dev) (h page : Nat) (v : Word32) : Dev :=
  if (d.port h).evq.any (fun e => e.page == page) then
    d.setPort h { d.port h with evq := (d.port h).evq.map (fun e => if e.page == page then ⟨page, v, true⟩ else e) }
  else if (d.port h).evq.length < 64 then d.setPort h { d.port h with evq := (d.port h).evq ++ [⟨page, v, false⟩] }
  else (d.setF Reg.HOSTPORT_EVT_OVF_OVF 1 h).raise (hostPage h) Reg.EV_HOSTPORT_EVT_OVF

theorem Dev.evtNotice_of_none {d : Dev} {page : Nat} (h : d.notice.evtFlight.find? (fun e => e.1 == page) = none) : d.evtNotice page = d := by
  unfold Dev.evtNotice
  rw [h]

section
variable {d : Dev} {page k : Nat} {v : Word32} (hflight : d.notice.evtFlight.find? (fun e => e.1 == page) = some (k, v))
include hflight

theorem Dev.evtNotice_of_unrouted (h : (d.noticeLanded page).evtPort page = none) : d.evtNotice page = d.noticeLanded page := by
  rw [Dev.noticeLanded] at h
  simp only [Dev.evtNotice, hflight, h]
  rfl

theorem Dev.evtNotice_of_routed {g : Nat} (h : (d.noticeLanded page).evtPort page = some g) :
    d.evtNotice page = ((d.noticeLanded page).countCell (attOfPage page) g 3).queueEvent g page v := by
  rw [Dev.noticeLanded] at h
  simp only [Dev.evtNotice, hflight, h]
  rfl

end

theorem Dev.evtSend_of_idle {d : Dev} {h : Nat}
    (hidle : (d.port h).evq = [] ∨ (d.port h).have3 = 0 ∨ d.fb Reg.HOSTPORT_LINK_STATUS_INIT_DONE h = false) : d.evtSend h = d := by
  unfold Dev.evtSend
  cases hq : (d.port h).evq with
  | nil => simp [hq]
  | cons e rest =>
    rw [hq, or_iff_right (List.cons_ne_nil e rest)] at hidle
    simp only [hq]
    exact if_pos (by simpa using hidle)

theorem Dev.evtSend_of_sent {d : Dev} {h : Nat} {e : EvtEntry} {rest : List EvtEntry} (hq : (d.port h).evq = e :: rest)
    (hcredit : 1 ≤ (d.port h).have3) (hinit : d.fb Reg.HOSTPORT_LINK_STATUS_INIT_DONE h = true) :
    d.evtSend h = (d.setPort h { d.port h with have3 := (d.port h).have3 - 1, evq := rest, evtCount := (d.port h).evtCount + 1 }).sendMsg h
      (headerWord 0x30 63 ((d.port h).evtCount % 4096) (e.page * 2 ^ 25 + bitsOf (d.rdReg (e.page * 4096 + 0x20)) 11 0 * 2 ^ 13) e.coalesced)
      (BitVec.ofNat 64 (d.time % 2 ^ 32 * 2 ^ 32 + e.status.toNat)) 0 1 := by
  unfold Dev.evtSend
  simp only [hq]
  refine (if_neg ?_).trans rfl
  simp only [hinit, Bool.not_true, Bool.or_false, decide_eq_true_eq]
  omega

/-- Settles O15: a notice by where its page's event goes, an event by what stands at the head of its port's queue. -/
theorem eventsReachTheHost : Obligations.EventsReachTheHost := by
  refine ⟨fun s page h => ?_, fun d page => ?_⟩
  · intro d
    refine ⟨fun hnone => State.next_same (exec_eventNotice page s) (Dev.evtNotice_of_none hnone),
      fun k v hflight => ⟨fun hport => ?_, fun g hport => ?_⟩, fun e rest hq hcredit hinit => ?_, fun hidle => ?_⟩
    · exact State.next_as (exec_eventNotice page s) (Dev.evtNotice_of_unrouted hflight hport)
    · exact State.next_as (exec_eventNotice page s) (Dev.evtNotice_of_routed hflight hport)
    · exact State.next_as (exec_eventSend h s) (Dev.evtSend_of_sent hq hcredit hinit)
    · exact State.next_same (exec_eventSend h s) (Dev.evtSend_of_idle hidle)
  · intro p both
    exact ⟨Dev.evtPort_of_online, fun hoff => ⟨Dev.evtPort_eq_some_iff hoff, Dev.evtPort_eq_none_iff hoff⟩⟩

end Sys2Proof.Machine

/-!
PROOFS. How a host link comes up: training and lane repair, the adapter's link, and the initialisation of the credits (R78 to R81, R96, R97,
R113, R208, R473).
-/
namespace Sys2Proof.Machine

/-! ### HOST_PORT_TRAINING_END (R78 to R81, R113, R473) -/

theorem exec_hostPortTrainingEnd (h : Fin 12) (o : PortTrainObs) (s : State) :
    exec (.hostPortTrainingEnd h o) s = .next (s.put (s.dev.trainingEnd h o)) := (rfl)

/-- The port trains: its pads are released, it is not disabled, and its reference clock runs. -/
structure Dev.Trains (d : Dev) (h : Nat) : Prop where
  state : d.portSt h = stKINDLING ∨ d.portSt h = stFENCED
  down : (d.port h).adapterUp = false
  pads : d.fb Reg.MODES_STATUS_PADS_LATCHED = false
  enabled : d.fb Reg.HOSTPORT_LINK_CTL_DISABLE h = false
  clock : d.pins.refclk = true

theorem Dev.Trains.not_idle {d : Dev} {h : Nat} (t : d.Trains h) :
    ¬((d.portSt h != stKINDLING && d.portSt h != stFENCED) || (d.port h).adapterUp || d.fb Reg.MODES_STATUS_PADS_LATCHED ||
      d.fb Reg.HOSTPORT_LINK_CTL_DISABLE h || !d.pins.refclk) = true := by
  simpa [t.down, t.pads, t.enabled, t.clock, ← not_or, not_and_or, imp_iff_not_or] using t.state

/-- The attempt passes: the lanes replaced are `tx` and `rx`, and the rate is the one found, at most MAX_RATE. -/
def Dev.trained (d : Dev) (h rate : Nat) (tx rx : List Nat) : Dev :=
  (((d.setPort h { d.port h with
                        trainFails := 0, replTx := tx, replRx := rx,
                        imp := d.fv Reg.CALREF_IMP_MASTER }).setF Reg.HOSTPORT_LINK_STATUS_RATE rate h).setF
      Reg.HOSTPORT_LINK_STATUS_REPAIRED_TX tx.length h).setF Reg.HOSTPORT_LINK_STATUS_REPAIRED_RX rx.length h

section
variable {d : Dev} {h : Nat} (t : d.Trains h) (hrail : d.pins.vddUcie = true)
include t hrail

theorem Dev.trainingEnd_noPartner :
    d.trainingEnd h .noPartner = if d.portSt h = stKINDLING then d.enter (hostPage h) stOFFLINE else d := by
  unfold Dev.trainingEnd
  rw [if_neg t.not_idle, if_pos hrail]
  exact if_congr beq_iff_eq rfl rfl

theorem Dev.trainingEnd_failed :
    d.trainingEnd h .failed =
      let c := d.setPort h { d.port h with trainFails := (d.port h).trainFails + 1 }
      if (d.port h).trainFails < 7 then c
      else (c.enter (hostPage h) stFAILED).record (hostPage h) codeOTHER sevCRITICAL [(d.port h).trainFails + 1] := by
  unfold Dev.trainingEnd
  rw [if_neg t.not_idle, if_pos hrail]
  refine (ite_not _ _ _).symm.trans (if_congr ?_ rfl rfl)
  omega

section
variable {rate : Fin 4} {tx rx : List (Fin 64)}

theorem Dev.trainingEnd_trained {l m : List Nat}
    (htx : addLanes (d.port h).replTx (d.laneEntries h 1 ++ tx.map (·.val)) = some l)
    (hrx : addLanes (d.port h).replRx (d.laneEntries h 0 ++ rx.map (·.val)) = some m) :
    d.trainingEnd h (.trained rate tx rx) =
      let top := d.fv Reg.HOSTPORT_LINK_CTL_MAX_RATE h
      let a := d.trained h (min (rate.val + 1) top) l m
      let b := if (d.port h).replTx.length < l.length ∨ (d.port h).replRx.length < m.length then
        a.raise (hostPage h) Reg.EV_HOSTPORT_LANE_REPAIRED else a
      if min (rate.val + 1) top < top then b.raise (hostPage h) Reg.EV_HOSTPORT_RATE_LOW else b := by
  unfold Dev.trainingEnd
  rw [if_neg t.not_idle, if_pos hrail]
  simp only [htx, hrx, Bool.or_eq_true, decide_eq_true_eq]
  rfl

theorem Dev.trainingEnd_unrepaired
    (hnone : addLanes (d.port h).replTx (d.laneEntries h 1 ++ tx.map (·.val)) = none ∨
      addLanes (d.port h).replRx (d.laneEntries h 0 ++ rx.map (·.val)) = none) :
    d.trainingEnd h (.trained rate tx rx) = d.repairFail h := by
  unfold Dev.trainingEnd
  rw [if_neg t.not_idle, if_pos hrail]
  dsimp only
  split
  next htx hrx => simp [htx, hrx] at hnone
  next => rfl

end
end

/-! ### ADAPTER_LINK_UP and the initialisation of the credits (R96, R97) -/

theorem exec_adapterLinkUp (h : Fin 12) (s : State) : exec (.adapterLinkUp h) s = .next (s.put (s.dev.linkUp h)) := (rfl)

theorem Dev.linkUp_eq (d : Dev) (h : Nat) :
    d.linkUp h = if d.fv Reg.HOSTPORT_LINK_STATUS_RATE h = 0 ∨ (d.port h).adapterUp = true then d
      else ((d.setPort h { d.port h with adapterUp := true, initSent := false, initRecv := false, grant1 := 0, grant2 := 0, have1 := 0, have2 := 0,
                                         have3 := 0 }).setF Reg.HOSTPORT_LINK_STATUS_UP 1 h).sendInit h :=
  if_congr (by simp) rfl rfl

theorem exec_initFlit (h : Fin 12) (fh : BitVec 80) (s : State) : exec (.initFlit h fh) s = .next (s.put (s.dev.initFlit h fh.toNat)) := (rfl)

/-- The port with the grants of an INIT flit. -/
def PortSt.granted (p : PortSt) (fh : Nat) : PortSt :=
  { takeCredits p fh with grant1 := (takeCredits p fh).have1, grant2 := (takeCredits p fh).have2 }

theorem Dev.initFlit_of_waiting {d : Dev} {h : Nat} (hup : (d.port h).adapterUp = true) (hrecv : (d.port h).initRecv = false) (fh opc : Nat) :
    d.initFlit h fh opc = if fhBits fh 45 45 = 0 then (d.setPort h { (d.port h).granted fh with initRecv := true }).endInit h
      else if fhBits fh 14 0 = 0 then d.setPort h ((d.port h).granted fh)
      else d.protocolError h (firstSlot (fhBits fh 14 0)) opc := by
  have hbit : fhBits fh 45 45 = 1 ↔ ¬fhBits fh 45 45 = 0 := by
    simp only [fhBits]
    omega
  unfold Dev.initFlit
  rw [if_neg (by simp [hup, hrecv])]
  simp only [beq_iff_eq, hbit, ite_not]
  rfl

theorem exec_creditInitTimeout (h : Fin 12) (s : State) :
    exec (.creditInitTimeout h) s = .next (s.put (
      if (s.dev.port h).adapterUp = true ∧ s.dev.fb Reg.HOSTPORT_LINK_STATUS_INIT_DONE h = false then s.dev.retrainLink h else s.dev)) := by
  refine (s.on_ite (fun d => (d.port h).adapterUp && !(d.fb Reg.HOSTPORT_LINK_STATUS_INIT_DONE h)) (fun d => d.retrainLink h) id).trans
    (State.next_congr (if_congr ?_ rfl rfl))
  simp

/-- Settles O16: a training attempt by its outcome, and each step of the initialisation by what it finds. -/
theorem linksComeUp : Obligations.LinksComeUp := by
  intro s h d p
  refine ⟨fun hst hdown hpads hrail hdisable hclk => ?_, State.next_as (exec_adapterLinkUp h s) (d.linkUp_eq h), fun fh hup hrecv => ?_,
    exec_creditInitTimeout h s⟩
  · have t : d.Trains h := ⟨hst, hdown, hpads, hdisable, hclk⟩
    exact ⟨State.next_as (exec_hostPortTrainingEnd h _ s) (Dev.trainingEnd_noPartner t hrail),
      State.next_as (exec_hostPortTrainingEnd h _ s) (Dev.trainingEnd_failed t hrail), fun rate tx rx =>
        ⟨fun l m hl hm => State.next_as (exec_hostPortTrainingEnd h _ s) (Dev.trainingEnd_trained t hrail hl hm),
          fun hnone => State.next_as (exec_hostPortTrainingEnd h _ s) (Dev.trainingEnd_unrepaired t hrail hnone)⟩⟩
  · exact State.next_as (exec_initFlit h fh s) (Dev.initFlit_of_waiting hup hrecv fh.toNat 0)

end Sys2Proof.Machine

/-!
PROOFS. What reaches a host port: flits with their credits and messages, the requests they bring, and the loss of the link (R82 to R92, R94
to R97, R99, R101, R105, R110, R111, R113).
-/
namespace Sys2Proof.Machine

/-! ### Operations that leave the ports -/

theorem Dev.port_congr {d e : Dev} (h : d.ports = e.ports) (k : Nat) : d.port k = e.port k := by rw [Dev.port, h, Dev.port]

@[simp] theorem Dev.port_raise (d : Dev) (page bit k : Nat) : (d.raise page bit).port k = d.port k :=
  Dev.port_congr (by rw [Dev.raise_eq]) k

@[simp] theorem Dev.port_raiseRec (d : Dev) (page bit sev : Nat) (ps : List Nat) (k : Nat) :
    (d.raiseRec page bit sev ps).port k = d.port k := d.port_raise page bit k

@[simp] theorem Dev.port_enter (d : Dev) (page st k : Nat) : (d.enter page st).port k = d.port k := by
  have h := d.enter_eq page st
  exact Dev.port_congr (by rw [h]) k

@[simp] theorem Dev.port_bumpSat (d : Dev) (f : Fld) (i j k : Nat) : (d.bumpSat f i j).port k = d.port k := (rfl)

@[simp] theorem Dev.port_startTraining (d : Dev) (h k : Nat) : (d.startTraining h).port k = d.port k := by
  unfold Dev.startTraining
  split
  · split <;> simp
  · split
    · rfl
    · dsimp only
      split <;> simp

/-! ### A link that goes down (R110, R113) -/

/-- Raising an event of a host port leaves the fields of its other registers. -/
theorem Dev.fv_raise_host (d : Dev) {f : Fld} (h bit : Nat) (hpage : f.page = 0x10) (hoff : f.off ≠ 0x14) :
    (d.raise (hostPage h) bit).fv f h = d.fv f h := by
  unfold Dev.fv
  rw [Dev.rdReg_raise_other _ _ _ _ (by simp only [Fld.addr, hostPage]; omega)]

/-- The status of the link after its loss, before the event. -/
def Dev.linkCleared (d : Dev) (h : Nat) : Dev :=
  ((d.setF Reg.HOSTPORT_LINK_STATUS_UP 0 h).setF Reg.HOSTPORT_LINK_STATUS_INIT_DONE 0 h).setF Reg.HOSTPORT_LINK_STATUS_RATE 0 h

theorem Dev.dropLink_eq (d : Dev) (h : Nat) :
    d.dropLink h =
      let c := ((d.setPort h { (d.port h).afterLoss with evtCount := (d.port h).evtCount, trainFails := (d.port h).trainFails }).emit
        (.link h false)).linkCleared h
      if (d.port h).adapterUp then c.raise (hostPage h) Reg.EV_HOSTPORT_LINK_DOWN else c := (rfl)

theorem Dev.port_dropLink (d : Dev) (h : Nat) :
    (d.dropLink h).port h = { (d.port h).afterLoss with evtCount := (d.port h).evtCount, trainFails := (d.port h).trainFails } := by
  rw [Dev.dropLink_eq]
  dsimp only
  split <;> simp [Dev.linkCleared]

theorem Dev.fv_linkCleared (d : Dev) (h : Nat) :
    (d.linkCleared h).fv Reg.HOSTPORT_LINK_STATUS_UP h = 0 ∧ (d.linkCleared h).fv Reg.HOSTPORT_LINK_STATUS_INIT_DONE h = 0 := by
  unfold Dev.linkCleared
  constructor
  · rw [Dev.fv_setF_apart _ _ _ (by decide), Dev.fv_setF_apart _ _ _ (by decide), Dev.fv_setF_same _ _ (by decide) (by decide)]
  · rw [Dev.fv_setF_apart _ _ _ (by decide), Dev.fv_setF_same _ _ (by decide) (by decide)]

theorem Dev.fv_dropLink (d : Dev) (h : Nat) :
    (d.dropLink h).fv Reg.HOSTPORT_LINK_STATUS_UP h = 0 ∧ (d.dropLink h).fv Reg.HOSTPORT_LINK_STATUS_INIT_DONE h = 0 := by
  rw [Dev.dropLink_eq]
  dsimp only
  split
  · rw [Dev.fv_raise_host _ _ _ rfl (by decide), Dev.fv_raise_host _ _ _ rfl (by decide)]
    exact Dev.fv_linkCleared _ h
  · exact Dev.fv_linkCleared _ h

/-- After a protocol error the link is down. -/
theorem Dev.protocolError_down (d : Dev) (h slot opc : Nat) : ((d.protocolError h slot opc).port h).adapterUp = false := by
  rw [Dev.protocolError, Dev.retrainLink, Dev.port_startTraining, Dev.port_bumpSat, Dev.port_dropLink]
  rfl

theorem exec_creditTimeout (h : Fin 12) (s : State) :
    exec (.creditTimeout h) s = .next (s.put (
      if (s.dev.port h).adapterUp = true ∧ ((s.dev.port h).resp1 ≠ [] ∨ (s.dev.port h).resp2 ≠ []) then
        ((s.dev.raise (hostPage h) Reg.EV_HOSTPORT_CREDIT_TIMEOUT).dropLink h).startTraining h else s.dev)) := by
  refine (s.on_ite (fun d => ((d.port h).resp1.isEmpty && (d.port h).resp2.isEmpty) || !(d.port h).adapterUp) id
    (fun d => ((d.raise (hostPage h) Reg.EV_HOSTPORT_CREDIT_TIMEOUT).dropLink h).startTraining h)).trans (State.next_congr ?_)
  refine (ite_not _ _ _).symm.trans (if_congr ?_ rfl rfl)
  simp only [Bool.or_eq_true, Bool.and_eq_true, List.isEmpty_iff, Bool.not_eq_true', not_or, not_and_or, Bool.not_eq_false]
  exact and_comm

theorem exec_linkDown (h : Fin 12) (s : State) :
    exec (.linkDown h) s = .next (s.put (if (s.dev.port h).adapterUp = true then (s.dev.dropLink h).startTraining h else s.dev)) :=
  s.on_ite (fun d => (d.port h).adapterUp) (fun d => (d.dropLink h).startTraining h) id

/-! ### The fields of a flit (R82, R83, R85) -/

/-- Bits of a field that is bits of a number are bits of the number. -/
theorem bits_of_bits (x a b c n : Nat) (h : c + n ≤ b) : x / 2 ^ a % 2 ^ b / 2 ^ c % 2 ^ n = x / 2 ^ (a + c) % 2 ^ n := by
  apply Nat.eq_of_testBit_eq
  intro i
  simp only [Nat.testBit_mod_two_pow, Nat.testBit_div_two_pow]
  by_cases hi : i < n
  · rw [decide_eq_true hi, decide_eq_true (show i + c < b by omega), Nat.add_assoc, Nat.add_comm c a]
    rfl
  · simp [hi]

/-- The field FH of a flit. -/
def flitHeader (flit : Nat) : Nat := flit / 2 ^ 16 % 2 ^ 80

theorem bitsAt_flit (flit hi lo : Nat) : bitsAt (BitVec.ofNat 80 (flit / 2 ^ 16)) hi lo = fhBits (flitHeader flit) hi lo := by
  rw [bitsAt, BitVec.toNat_ofNat, fhBits, flitHeader]

/-- The header word of slot 1. -/
def firstHeader (flit : Nat) : Nat := flitSlot flit 1 % 2 ^ 64

theorem firstHeader_eq (flit : Nat) : firstHeader flit = flit / 2 ^ 128 % 2 ^ 64 := by
  rw [firstHeader, flitSlot, Nat.mod_mod_of_dvd _ (Nat.pow_dvd_pow 2 (by decide))]

theorem firstHeader_opc (flit : Nat) : bitsIn (firstHeader flit) 63 58 = flitOpc flit 1 := by
  rw [firstHeader_eq, bitsIn]
  exact bits_of_bits flit 128 64 58 6 (by decide)

/-- A field of the header word of slot 1 is a run of bits of the flit. -/
theorem firstHeader_field (flit : BitVec 2048) {hi lo : Nat} (n k : Nat) (hn : hi + 1 - lo = n) (hk : 128 + lo = k) (h : lo + n ≤ 64) :
    BitVec.ofNat n (bitsIn (firstHeader flit.toNat) hi lo) = flit.extractLsb' k n := by
  subst hn hk
  rw [firstHeader_eq, bitsIn, bits_of_bits _ _ _ _ _ h]
  apply BitVec.eq_of_toNat_eq
  simp [Nat.shiftRight_eq_div_pow]

/-- The URG field of a flit. -/
theorem flitUrg_eq (flit : BitVec 2048) : BitVec.ofNat 2 (fhBits (flitHeader flit.toNat) 47 46) = flit.extractLsb' 62 2 := by
  rw [fhBits, flitHeader, bits_of_bits _ _ _ _ _ (by decide)]
  apply BitVec.eq_of_toNat_eq
  simp [Nat.shiftRight_eq_div_pow]

/-- The request of the message in slot 1. -/
theorem memReqOf_first (h : Fin 12) (flit : BitVec 2048) :
    memReqOf h (fhBits (flitHeader flit.toNat) 47 46) (firstHeader flit.toNat) =
      ⟨h, flit.extractLsb' 168 12, flit.extractLsb' 180 6, flit.extractLsb' 62 2, flit.extractLsb' 129 39⟩ := by
  rw [memReqOf, firstHeader_field flit 6 180 rfl rfl (by decide), firstHeader_field flit 12 168 rfl rfl (by decide),
    firstHeader_field flit 39 129 rfl rfl (by decide), flitUrg_eq]

/-! ### The messages of a flit (R84, R87, R88) -/

theorem Dev.messages_of_none (d : Dev) (h : Fin 12) {flit : Nat} (hsmap : fhBits (flitHeader flit) 14 0 = 0) : d.messages h flit = d := by
  rw [flitHeader] at hsmap
  simp only [Dev.messages, hsmap]
  rfl

theorem Dev.messages_of_first (d : Dev) (h : Fin 12) {flit : Nat} (hsmap : fhBits (flitHeader flit) 14 0 = 1) :
    d.messages h flit = d.message h flit 1 := by
  rw [flitHeader] at hsmap
  simp only [Dev.messages, hsmap]
  rfl

/-- An RD64 in slot 1 arrives with the fields of its header word. -/
theorem Dev.message_rd64 (d : Dev) (h : Fin 12) {flit : BitVec 2048} (hopc : flitOpc flit.toNat 1 = 0x01) :
    d.message h flit.toNat 1 =
      d.arrive ⟨h, flit.extractLsb' 168 12, flit.extractLsb' 180 6, flit.extractLsb' 62 2, flit.extractLsb' 129 39⟩ .rd 1 id 1 := by
  have hfirst : bitsIn (flitSlot flit.toNat 1 % 2 ^ 64) 63 58 = 1 := (firstHeader_opc flit.toNat).trans hopc
  unfold Dev.message
  simp only [hfirst]
  exact congrArg (fun m => d.arrive m .rd 1 id 1) (memReqOf_first h flit)

/-! ### CREDIT_RETURN (R84, R96, R97, R111) -/

theorem exec_creditReturn (h : Fin 12) (flit : BitVec 2048) (replays : Nat) (s : State) :
    exec (.creditReturn h ⟨flit, replays⟩) s = .next (s.put (s.dev.flitArrives h flit.toNat replays)) := (rfl)

theorem Dev.flitArrives_of_down {d : Dev} {h : Fin 12} (hdown : (d.port h).adapterUp = false) (flit replays : Nat) :
    d.flitArrives h flit replays = d := by
  simp [Dev.flitArrives, hdown, Dev.flitIn, Dev.flitOk]

section
variable {d : Dev} {h : Fin 12} {flit : Nat} (hup : (d.port h).adapterUp = true) (hrecv : (d.port h).initRecv = true)
  (hinit : d.fb Reg.HOSTPORT_LINK_STATUS_INIT_DONE h = true) (hfh : fhBits (flitHeader flit) 45 45 = 0)
include hup hrecv hinit hfh

/-- On a link that serves, the header of a flit adds its credits, or breaks the rule of its slots. -/
theorem Dev.flitIn_of_serving :
    d.flitIn h flit = match checkSlots flit (fhBits (flitHeader flit) 14 0) (0, 0) 15 1 0 with
      | some (slot, opc) => d.protocolError h slot opc
      | none => d.setPort h { takeCredits (d.port h) (flitHeader flit) with urg := fhBits (flitHeader flit) 47 46 } := by
  rw [flitHeader] at hfh
  simp only [Dev.flitIn, hup, hrecv, hinit, hfh, Nat.reduceBEq, Bool.not_true, Bool.false_and, Bool.false_eq_true, if_false, if_true]
  rfl

theorem Dev.flitIn_messages (hslots : checkSlots flit (fhBits (flitHeader flit) 14 0) (0, 0) 15 1 0 = none) :
    (if (d.flitIn h flit).flitOk h flit then (d.flitIn h flit).messages h flit else d.flitIn h flit) =
      (d.setPort h { takeCredits (d.port h) (flitHeader flit) with urg := fhBits (flitHeader flit) 47 46 }).messages h flit := by
  rw [Dev.flitIn_of_serving hup hrecv hinit hfh, hslots]
  refine if_pos ?_
  rw [flitHeader] at hfh hslots
  simp only [Dev.flitOk, hfh, hslots, Dev.port_setPort_same]
  exact (Bool.and_eq_true _ _).mpr ⟨(Bool.and_eq_true _ _).mpr ⟨(Bool.and_eq_true _ _).mpr ⟨hup, hinit⟩, rfl⟩, rfl⟩

theorem Dev.flitIn_breaks {slot opc : Nat} (hslots : checkSlots flit (fhBits (flitHeader flit) 14 0) (0, 0) 15 1 0 = some (slot, opc)) :
    (if (d.flitIn h flit).flitOk h flit then (d.flitIn h flit).messages h flit else d.flitIn h flit) = d.protocolError h slot opc := by
  rw [Dev.flitIn_of_serving hup hrecv hinit hfh, hslots]
  exact if_neg (by simp [Dev.flitOk, Dev.protocolError_down])

end

/-- Settles O17: a flit on a link that serves by the judgement of its slots, and the loss of a link by what the port keeps. -/
theorem creditFlitsAndLostLinks : Obligations.CreditFlitsAndLostLinks := by
  intro s h flit replays d b p fh
  have hbits (hi lo : Nat) : bitsAt fh hi lo = fhBits (flitHeader flit.toNat) hi lo := bitsAt_flit flit.toNat hi lo
  simp only [hbits]
  refine ⟨fun hup hrecv hinit hfh => ?_, fun hsmap e => e.messages_of_none h hsmap, fun e hopc hsmap =>
    (e.messages_of_first h hsmap).trans (e.message_rd64 h hopc), fun hdown =>
    State.next_same (exec_creditReturn h flit replays s) (Dev.flitArrives_of_down hdown _ _), exec_creditTimeout h s, exec_linkDown h s,
    d.port_dropLink h, d.fv_dropLink h⟩
  have hb : b.fb Reg.HOSTPORT_LINK_STATUS_INIT_DONE h = true :=
    (congrArg (· == 1) (d.fv_setF_apart _ _ (by decide))).trans hinit
  have harrive : d.flitArrives h flit.toNat replays =
      if (b.flitIn h flit.toNat).flitOk h flit.toNat then (b.flitIn h flit.toNat).messages h flit.toNat else b.flitIn h flit.toNat := by
    unfold Dev.flitArrives
    rw [if_pos hup]
  exact ⟨fun hslots => State.next_as (exec_creditReturn h flit replays s) (harrive.trans (Dev.flitIn_messages (d := b) hup hrecv hb hfh hslots)),
    fun slot opc hslots => State.next_as (exec_creditReturn h flit replays s) (harrive.trans (Dev.flitIn_breaks (d := b) hup hrecv hb hfh hslots))⟩

end Sys2Proof.Machine

/-!
PROOFS. How memory requests arrive at a host port (R87 to R91, R94 to R97, R105, R110, R111).
-/
namespace Sys2Proof.Machine

/-! ### The arrival of a request (R94, R96, R105, R111) -/

/-- A row that is a memory request arrives with what its message adds, and takes the slots of its operation. -/
theorem exec_of_memRow {i : Instr} {m : MemReq} {op : MOp} {opc slots : Nat} {fill : Req → Req} (h : memRow i = some (m, op, opc, slots, fill))
    (s : State) : exec i s = .next (s.put (s.dev.arrive m op opc fill)) ∧ msgSlots op = slots := by
  unfold memRow at h
  split at h <;> cases h <;> exact ⟨rfl, rfl⟩

theorem Dev.tagErr_eq (d : Dev) (h tag : Nat) :
    d.tagErr h tag = if d.fv Reg.HOSTPORT_TAG_LIMIT_LIMIT h ≤ tag then 2 else if tag ∈ (d.port h).outst then 3 else 0 :=
  if_congr Iff.rfl rfl (if_congr List.contains_iff_mem rfl rfl)

/-- The request as it waits in the ingress buffer, before what its message adds; `e` is what is wrong with its tag. -/
def Dev.reqOf (d : Dev) (m : MemReq) (op : MOp) (e : Nat) : Req :=
  { id := d.nextId, org := .host m.port m.tag.toNat, op := op, cls := min 59 m.cls.toNat, urg := m.urg.toNat, line := m.line.toNat, tagErr := e }

/-- A request waits last in the ingress buffer of its port, its credits and its tag taken. -/
def Dev.enqueued (d : Dev) (m : MemReq) (op : MOp) (fill : Req → Req) (e : Nat) : Dev :=
  (d.setPort m.port { d.port m.port with
                           cr0 := (d.port m.port).cr0 - msgSlots op, ingress0 := (d.port m.port).ingress0 ++ [fill (d.reqOf m op e)],
                           outst := if e = 0 then (d.port m.port).outst ++ [m.tag.toNat] else (d.port m.port).outst }).fresh

section
variable {d : Dev} {m : MemReq} {op : MOp} {opc : Nat} {fill : Req → Req} {slot : Nat}

theorem Dev.arrive_of_down (h : (d.port m.port).adapterUp = false) : d.arrive m op opc fill slot = d :=
  if_pos (by simp [h])

variable (hup : (d.port m.port).adapterUp = true)
include hup

theorem Dev.arrive_of_refused (h : d.fb Reg.HOSTPORT_LINK_STATUS_INIT_DONE m.port = false ∨ (d.port m.port).cr0 < msgSlots op) :
    d.arrive m op opc fill slot = d.protocolError m.port slot opc := by
  unfold Dev.arrive
  rw [if_neg (by simp [hup])]
  cases hinit : d.fb Reg.HOSTPORT_LINK_STATUS_INIT_DONE m.port with
  | false => rfl
  | true =>
    exact (if_neg (by simp)).trans (if_pos (h.resolve_left (by simp [hinit])))

theorem Dev.arrive_of_credit (hinit : d.fb Reg.HOSTPORT_LINK_STATUS_INIT_DONE m.port = true) (hcr : msgSlots op ≤ (d.port m.port).cr0) :
    d.arrive m op opc fill slot = d.enqueued m op fill (d.tagErr m.port m.tag.toNat) := by
  unfold Dev.arrive
  rw [if_neg (by simp [hup]), if_neg (by simp [hinit]), if_neg (Nat.not_lt.mpr hcr)]
  simp only [beq_iff_eq]
  rfl

end

/-! ### Other opcodes (R87, R90, R91, R111) -/

theorem exec_unknownOpc (m : MemReq) (opc : BitVec 6) (slots : Fin 16) (w2 : BitVec 64) (arg : BitVec 128) (s : State) :
    exec (.unknownOpc m opc slots ⟨w2, arg⟩) s = .next (s.put (s.dev.arriveOther m opc.toNat slots.val w2.toNat arg.toNat)) := (rfl)

theorem opcSlots_of_response : ∀ k ∈ [0x20, 0x21, 0x22, 0x23, 0x24, 0x25, 0x26, 0x30], opcSlots k = none := by decide

theorem opcSlots_of_unlisted : ∀ k < 64, k ∉ [1, 2, 3, 4, 5, 6, 7, 8, 0x10, 0x11, 0x20, 0x21, 0x22, 0x23, 0x24, 0x25, 0x26, 0x30] →
    opcSlots k = some none := by decide

/-- The operands of an ATOM whose AOP no row names, and the verdict on their parity. -/
def otherAtom (w2 arg : Nat) (r : Req) : Req :=
  { r with a := BitVec.ofNat 64 arg, b := BitVec.ofNat 64 (arg / 2 ^ 64), off := w2 / 2 ^ 16 % 8,
           parOk := parityOf 16 (arg % 2 ^ 128) == w2 % 65536 }

theorem otherAtom_eq (w2 : Nat) (arg : BitVec 128) :
    otherAtom w2 arg.toNat = fun r =>
      { r with a := arg.extractLsb' 0 64, b := arg.extractLsb' 64 64, off := w2 / 2 ^ 16 % 8,
               parOk := parityOf 16 arg.toNat == w2 % 65536 } := by
  funext r
  rw [otherAtom, Nat.mod_eq_of_lt arg.isLt, ← Nat.shiftRight_eq_div_pow]
  rfl

section
variable {d : Dev} {m : MemReq} {opc slots w2 arg : Nat}

theorem Dev.arriveOther_of_down (h : (d.port m.port).adapterUp = false) : d.arriveOther m opc slots w2 arg = d := by
  unfold Dev.arriveOther
  split
  · exact if_neg (by simp [h])
  · simp only [Dev.arrive_of_down h, ite_self]

theorem Dev.arriveOther_of_response (hup : (d.port m.port).adapterUp = true) (h : opcSlots opc = none) :
    d.arriveOther m opc slots w2 arg = d.protocolError m.port 1 opc := by
  unfold Dev.arriveOther
  rw [h]
  exact if_pos hup

theorem Dev.arriveOther_atom : d.arriveOther m 5 slots w2 arg = d.arrive m (.atom (w2 / 2 ^ 20 % 8)) 0x05 (otherAtom w2 arg) := (rfl)

theorem Dev.arriveOther_hint :
    d.arriveOther m 6 slots w2 arg = d.arrive m (.hint (w2 % 8) (w2 / 256 % 64 + 1) (w2 / 65536 % 64)) 0x06 id := (rfl)

theorem Dev.arriveOther_unlisted (h : opcSlots opc = some none) :
    d.arriveOther m opc slots w2 arg = d.arrive m (.unknown opc (max 1 slots)) opc id := by
  have h5 : opc ≠ 5 := fun e => absurd (e ▸ h) (by decide)
  have h6 : opc ≠ 6 := fun e => absurd (e ▸ h) (by decide)
  unfold Dev.arriveOther
  rw [h]
  simp [h5, h6]

end

/-- Settles O11: each row by whether its link is up, initialised, and in credit; the other opcodes by what R87 says of them. -/
theorem memoryRequestsArrive : Obligations.MemoryRequestsArrive := by
  refine ⟨?rows, ?other⟩
  case rows =>
    intro i s m op opc slots fill hrow d p e r
    obtain ⟨hexec, rfl⟩ := exec_of_memRow hrow s
    refine ⟨fun hdown => State.next_same hexec (Dev.arrive_of_down hdown), fun hup hinit hcr => State.next_as hexec ?_,
      fun hup hrefused => State.next_as hexec (Dev.arrive_of_refused hup hrefused)⟩
    rw [Dev.arrive_of_credit hup hinit hcr, Dev.tagErr_eq]
    rfl
  case other =>
    intro s m opc slots w2 arg d p e waits
    have hexec := exec_unknownOpc m opc slots w2 arg s
    have hwait (op : MOp) {k n : Nat} {fill : Req → Req} (hn : msgSlots op = n) (hup : p.adapterUp = true)
        (hinit : d.fb Reg.HOSTPORT_LINK_STATUS_INIT_DONE m.port = true) (hcr : n ≤ p.cr0)
        (h : d.arriveOther m opc.toNat slots.val w2.toNat arg.toNat = d.arrive m op k fill) :
        exec (.unknownOpc m opc slots ⟨w2, arg⟩) s = waits op n fill := by
      subst hn
      refine State.next_as hexec (h.trans ?_)
      rw [Dev.arrive_of_credit hup hinit hcr, Dev.tagErr_eq]
      rfl
    refine ⟨fun hdown => State.next_same hexec (Dev.arriveOther_of_down hdown),
      fun hup hopc => State.next_as hexec (Dev.arriveOther_of_response hup (opcSlots_of_response _ hopc)),
      fun hup hinit hcr => ⟨fun hopc => ?_, fun hopc haop => ?_, fun k hk hopc hkind => ?_⟩⟩
    · exact hwait (.unknown _ (max 1 slots.val)) (n := max 1 slots.val) rfl hup hinit (by omega)
        (Dev.arriveOther_unlisted (opcSlots_of_unlisted _ opc.isLt hopc))
    · have hatom : d.arriveOther m opc.toNat slots.val w2.toNat arg.toNat = d.arrive m (.atom 7) 0x05 (otherAtom w2.toNat arg.toNat) := by
        rw [hopc, Dev.arriveOther_atom, haop]
      rw [otherAtom_eq] at hatom
      exact hwait (.atom 7) rfl hup hinit (show 2 ≤ p.cr0 by omega) hatom
    · have hhint : d.arriveOther m opc.toNat slots.val w2.toNat arg.toNat =
          d.arrive m (.hint k (w2.toNat / 256 % 64 + 1) (w2.toNat / 65536 % 64)) 0x06 id := by
        rw [hopc, Dev.arriveOther_hint, hkind]
      exact hwait (.hint k _ _) rfl hup hinit (show 1 ≤ p.cr0 by omega) hhint

end Sys2Proof.Machine

/-!
PROOFS. REQUEST_ADMIT on VC0: what keeps a request in the ingress buffer, what its admission takes and gives back, and the first rows of
R104 (R92, R98, R99, R101, R104 to R106, R112, R122, R397, R411).
-/
namespace Sys2Proof.Machine

theorem exec_requestAdmit_vc0 (h : Fin 12) (s : State) : exec (.requestAdmit h false) s = .next (s.put (s.dev.admit0 h)) := (rfl)

/-! ### What keeps a request waiting (R98, R122, R397, R411, R412) -/

/-- The payload that the port would have admitted in this 10 ns, with the request. -/
def Dev.loadWith (d : Dev) (h : Nat) (op : MOp) : Nat := d.paidNow h + payload op

theorem Dev.loadWith_eq (d : Dev) (h : Nat) (op : MOp) :
    d.loadWith h op = (if (d.port h).paid.1 = d.time then (d.port h).paid.2 else 0) + (match op with
      | .rd | .rdNa | .wr | .wrm => 64
      | .atom _ => 16
      | _ => 0) := by
  rw [Dev.loadWith, Dev.paidNow]
  exact congrArg₂ (· + ·) (if_congr beq_iff_eq rfl rfl) rfl

/-- Within the limits that T3 and P4 set, no request is kept waiting. -/
theorem Dev.not_paced {d : Dev} {h : Nat} {r : Req}
    (ht : d.fv Reg.HEAT_STATUS_STEP = 3 → d.loadWith h r.op ≤ 10 * d.fv Reg.HEAT_HOST_LIMIT_GBPS)
    (hp : d.fv Reg.POWER_LADDER_STEP = 4 → d.loadWith h r.op ≤ 960) : d.paced h r = false := by
  rw [Dev.loadWith] at ht hp
  unfold Dev.paced Dev.hostPace
  by_cases h3 : d.fv Reg.HEAT_STATUS_STEP = 3 <;> by_cases h4 : d.fv Reg.POWER_LADDER_STEP = 4 <;> simp [h3, h4]
  · exact ⟨ht h3, hp h4⟩
  · exact ht h3
  · exact hp h4

/-- The response of a request can be reserved, a cell of the store is free, and nothing holds the port back. -/
structure Dev.MayAdmit (d : Dev) (h : Nat) (r : Req) : Prop where
  grants : 5 ≤ (d.port h).grant1 ∧ 1 ≤ (d.port h).grant2
  room : (d.port h).resv1 + respSlots r.op ≤ 20480
  cells : (d.port h).store.length + (d.fabric.voq.filter (fun c => c.src == h && c.net == 0)).length < 1024
  cool : d.fb Reg.HEAT_STATUS_TRIPPED = false
  pace : d.paced h r = false

/-! ### What an admission does (R96, R98, R99, R105, R106) -/

/-- The request leaves the ingress buffer, its credits return, its response is reserved, and it is counted and checked. -/
def Dev.taken (d : Dev) (h : Nat) (r : Req) (rest : List Req) : Dev :=
  (((d.setPort h { d.port h with
                        ingress0 := rest, cr0 := (d.port h).cr0 + msgSlots r.op, resv1 := (d.port h).resv1 + respSlots r.op,
                        paid := (d.time, d.loadWith h r.op) }).sendCredits h (msgSlots r.op) 0).bump Reg.HOSTPORT_CNT_REQ_VALUE h).creditCheck h
    (d.port h).have1 ((d.port h).resv1 + respSlots r.op)

/-- Bad parity is counted and raised. -/
def Dev.notedParity (d : Dev) (h : Nat) (r : Req) : Dev :=
  if r.parOk then d else (d.bump Reg.HOSTPORT_CNT_PARITY_VALUE h).raise (hostPage h) Reg.EV_HOSTPORT_PARITY_IN

/-- A request that admission judges gets its answer at once. -/
def Dev.admitAnswered (d : Dev) (h : Nat) (r : Req) (tag : Nat) (res : Result) (quiet : Bool) : Dev :=
  d.modPort h (fun p => { p with resp1 := p.resp1 ++ [{ respOf r tag res quiet with owns := r.tagErr == 0 }] })

/-- A request that no row of admission answers waits: a FENCE for the earlier ones, any other for its lookup. -/
def PortSt.holds (p : PortSt) (r : Req) : PortSt :=
  if r.op = .fence then settleFences { p with live := p.live ++ [r.id], fences := p.fences ++ [(r, p.live)] }
  else { p with live := p.live ++ [r.id], spans := p.spans ++ [(r.id, r.span)], store := p.store ++ [r] }

/-- A request that was taken is judged, and answered or held. -/
def Dev.admitted (d : Dev) (h : Nat) (r : Req) (tag : Nat) : Dev :=
  match d.admitJudge h r with
  | some (res, quiet) => d.admitAnswered h r tag res quiet
  | none => d.modPort h (fun p => p.holds r)

theorem Dev.admitted_of_some {d : Dev} {h : Nat} {r : Req} {res : Result} {quiet : Bool} (tag : Nat) (hj : d.admitJudge h r = some (res, quiet)) :
    d.admitted h r tag = d.admitAnswered h r tag res quiet := by rw [Dev.admitted, hj]

theorem Dev.admitted_of_none {d : Dev} {h : Nat} {r : Req} (tag : Nat) (hj : d.admitJudge h r = none) :
    d.admitted h r tag = d.modPort h (fun p => p.holds r) := by rw [Dev.admitted, hj]

theorem Dev.admit0_of_idle {d : Dev} {h : Nat} (hidle : (d.port h).ingress0 = [] ∨ (d.port h).grant1 < 5 ∨ (d.port h).grant2 < 1) :
    d.admit0 h = d := by
  unfold Dev.admit0
  cases hin : (d.port h).ingress0 with
  | nil => simp [hin]
  | cons r rest =>
    rw [hin, or_iff_right (List.cons_ne_nil r rest)] at hidle
    have hgrants : (decide ((d.port h).grant1 < 5) || decide ((d.port h).grant2 < 1)) = true := by simpa using hidle
    simp only [hin, hgrants]

theorem Dev.admit0_of_taken {d : Dev} {h tag : Nat} {r : Req} {rest : List Req} (hin : (d.port h).ingress0 = r :: rest)
    (horg : r.org = .host h tag) (hmay : d.MayAdmit h r) :
    d.admit0 h = ((d.taken h r rest).notedParity h r).admitted h r tag := by
  obtain ⟨⟨hg1, hg2⟩, hroom, hcells, hcool, hpace⟩ := hmay
  have hgrants : (decide ((d.port h).grant1 < 5) || decide ((d.port h).grant2 < 1)) = false := by simp; omega
  have hstay : ¬(decide (20480 < (d.port h).resv1 + respSlots r.op) ||
      decide (1024 ≤ (d.port h).store.length + (d.fabric.voq.filter (fun c => c.src == h && c.net == 0)).length) ||
      d.fb Reg.HEAT_STATUS_TRIPPED || d.paced h r) = true := by
    simp [hcool, hpace]
    omega
  unfold Dev.admit0
  simp only [hin, hgrants, horg]
  rw [if_neg hstay]
  change (match ((d.taken h r rest).notedParity h r).admitJudge h r with | some (res, quiet) => _ | none => _) = _
  rw [Dev.admitted]
  cases ((d.taken h r rest).notedParity h r).admitJudge h r with
  | some x => rfl
  | none =>
    exact (if_congr beq_iff_eq rfl rfl).trans (apply_ite (((d.taken h r rest).notedParity h r).setPort h) _ _ _).symm

/-! ### The first rows of R104 -/

/-- The detail under which admission refuses an operation that no row names. -/
def refusedDetail : MOp → Option Nat
  | .unknown _ _ => some 1
  | .atom 7 => some 4
  | .hint 6 _ _ => some 5
  | .hint 7 _ _ => some 5
  | _ => none

theorem refusedDetail_eq_none {op : MOp} (hopc : ∀ opc slots, op ≠ .unknown opc slots) (haop : op ≠ .atom 7)
    (h6 : ∀ count target, op ≠ .hint 6 count target) (h7 : ∀ count target, op ≠ .hint 7 count target) : refusedDetail op = none := by
  unfold refusedDetail
  split
  next => exact absurd rfl (hopc _ _)
  next => exact absurd rfl haop
  next => exact absurd rfl (h6 _ _)
  next => exact absurd rfl (h7 _ _)
  next => rfl

section
variable {d : Dev} {h : Nat} {r : Req}

theorem Dev.admitJudge_of_tag (htag : r.tagErr ≠ 0) : d.admitJudge h r = some (.error 3 r.tagErr, false) :=
  if_pos (bne_iff_ne.mpr htag)

variable (htag : r.tagErr = 0)
include htag

theorem Dev.admitJudge_of_parity (hpar : r.parOk = false) : d.admitJudge h r = some (.error 3 6, false) :=
  (if_neg (by simp [htag])).trans (if_pos (by simp [hpar]))

/-- A request with a good tag and good parity is judged by its operation, then by the mode. -/
theorem Dev.admitJudge_of_good (hpar : r.parOk = true) :
    d.admitJudge h r = match refusedDetail r.op with
      | some n => some (.error 3 n, false)
      | none => (d.memRefusal h).map fun x => (.retry x.1, x.2) := by
  refine (if_neg (by simp [htag])).trans ((if_neg (by simp [hpar])).trans ?_)
  split
  next hop => rw [hop, refusedDetail]
  next hop => rw [hop, refusedDetail]
  next hop => rw [hop, refusedDetail]
  next hop => rw [hop, refusedDetail]
  next hopc haop h6 h7 =>
    rw [refusedDetail_eq_none hopc haop h6 h7]
    cases d.memRefusal h <;> rfl

end

/-- Settles O12: an admission that nothing holds back takes the request, and the rows of R104 answer it in their order. -/
theorem requestsAreAdmitted : Obligations.RequestsAreAdmitted := by
  intro s h r rest tag p hin horg hg1 hg2 hroom hcells hcool load ht hp a c refuses
  refine ⟨?_, fun u hidle => State.next_same (exec_requestAdmit_vc0 h u) (Dev.admit0_of_idle hidle)⟩
  have hload : s.dev.loadWith h r.op = load := s.dev.loadWith_eq h r.op
  have hmay : s.dev.MayAdmit h r := ⟨⟨hg1, hg2⟩, hroom, hcells, hcool, Dev.not_paced (by rwa [hload]) (by rwa [hload])⟩
  have hexec := State.next_as (exec_requestAdmit_vc0 h s) (Dev.admit0_of_taken hin horg hmay)
  have hc : (s.dev.taken h r rest).notedParity h r = c := by
    rw [Dev.taken, hload]
    rfl
  rw [hc] at hexec
  have hrefuse {res : Result} {quiet : Bool} (hj : c.admitJudge h r = some (res, quiet)) :
      exec (.requestAdmit h false) s = .next (s.put (c.admitAnswered h r tag res quiet)) := State.next_as hexec (Dev.admitted_of_some tag hj)
  split
  next htag =>
    have hj := hrefuse (Dev.admitJudge_of_tag htag)
    rwa [Dev.admitAnswered, beq_eq_false_iff_ne.mpr htag] at hj
  next htag =>
    have htag : r.tagErr = 0 := not_not.mp htag
    have howns : (r.tagErr == 0) = true := beq_iff_eq.mpr htag
    split
    next hpar =>
      have hj := hrefuse (Dev.admitJudge_of_parity htag hpar)
      rwa [Dev.admitAnswered, howns] at hj
    next hpar =>
      have hjudge := Dev.admitJudge_of_good (d := c) (h := h) htag (Bool.not_eq_false _ ▸ hpar)
      have hdetail {n : Nat} (hop : refusedDetail r.op = some n) : exec (.requestAdmit h false) s = refuses n true := by
        have hj := hrefuse (hjudge.trans (by rw [hop]))
        rwa [Dev.admitAnswered, howns] at hj
      split
      next hop => exact hdetail (by rw [hop]; rfl)
      next hop => exact hdetail (by rw [hop]; rfl)
      next hop => exact hdetail (by rw [hop]; rfl)
      next hop => exact hdetail (by rw [hop]; rfl)
      next hopc haop h6 h7 =>
        rw [refusedDetail_eq_none hopc haop h6 h7] at hjudge
        refine State.next_as hexec ?_
        cases hmode : c.memRefusal h with
        | none => exact Dev.admitted_of_none tag (hjudge.trans (by rw [hmode]; rfl))
        | some x =>
          rw [Dev.admitted_of_some tag (hjudge.trans (by rw [hmode]; rfl)), Dev.admitAnswered, howns]

end Sys2Proof.Machine

/-!
PROOFS. The register write of a host port, from its arrival to the answer that waits for the port (R92, R96, R98, R99, R103 to R105, R453,
R459).
-/
namespace Sys2Proof.Machine

/-! ### Writing a key twice -/

section
variable {β : Type}

theorem sput_sput (m : Sparse β) (k : Nat) (v w : β) : sput (sput m k v) k w = sput m k w := by
  induction m with
  | nil => simp [sput]
  | cons e m ih =>
    by_cases hlt : k < e.1
    · simp [sput, hlt]
    · by_cases heq : k = e.1
      · simp [sput, heq]
      · simp [sput, hlt, heq, ih]

theorem sdel_sput (m : Sparse β) (k : Nat) (v : β) : sdel (sput m k v) k = sdel m k := by
  induction m with
  | nil => simp [sput, sdel]
  | cons e m ih =>
    by_cases hlt : k < e.1
    · simp [sput, hlt, sdel]
    · by_cases heq : k = e.1
      · simp [sput, heq, sdel]
      · rw [sdel, sdel] at ih
        simp [sput, hlt, heq, sdel, List.filter_cons, ih]

/-- The second write of a key leaves nothing of the first, where that was no default. -/
theorem sset_sset [DecidableEq β] {d : Nat → β} {k : Nat} {v : β} (m : Sparse β) (w : β) (hv : v ≠ d k) :
    sset d (sset d m k v) k w = sset d m k w := by
  rw [sset, sset, if_neg hv, sput_sput, sdel_sput, sset]

end

theorem Dev.setPort_setPort (d : Dev) (h : Nat) {p : PortSt} (q : PortSt) (hp : p ≠ {}) : (d.setPort h p).setPort h q = d.setPort h q := by
  rw [Dev.setPort, Dev.setPort_ports, sset_sset d.ports q hp]
  rfl

/-! ### Operations that leave a port's registers (R99, R134) -/

/-- Counting a cell changes registers, nothing else. -/
theorem Dev.countCell_eq (d : Dev) (src dst net : Nat) : d.countCell src dst net = { d with regs := (d.countCell src dst net).regs } := by
  unfold Dev.countCell
  dsimp only
  split
  · rfl
  · split <;> split <;> rfl

/-- The check of an admission leaves the fields of a port but for its events and the count of violations. -/
theorem Dev.fv_creditCheck (d : Dev) {f : Fld} (h have1 need : Nat) (hpage : f.page = 0x10) (hoff : f.off ≠ 0x14)
    (hcnt : f.Apart Reg.HOSTPORT_CNT_CREDIT_VIOL_VALUE) : (d.creditCheck h have1 need).fv f h = d.fv f h := by
  unfold Dev.creditCheck
  split
  · exact (Dev.fv_raise_host _ _ _ hpage hoff).trans (d.fv_setF_apart _ _ hcnt)
  · rfl

/-! ### A request of a page that answers (R453) -/

section
variable {d : Dev} {reader a : Nat} {w : Option Word32} {o : Option WObs}

/-- A request of a register page that is not dark is carried out, between its two cells. -/
theorem Dev.serveReg_of_live (halign : a % 4 = 0) (hpage : isRegPage (a / 4096) = true) (hmay : d.forbids reader a w.isSome = false)
    (hdark : d.isDark (a / 4096) = false) {x : RegAns} {e : Dev}
    (h : (d.countCell (readerAtt reader) (attOfPage (a / 4096)) 2).carryOut reader a w o = (x, e)) :
    d.serveReg reader a w o false = (x, e.countCell (attOfPage (a / 4096)) (readerAtt reader) 2) := by
  have hunit := unitPageOf_regPage (isRegPage_lt hpage)
  have hopen : d.darkTo a w.isSome = false := by simp [Dev.darkTo, hunit, hdark]
  rw [Dev.serveReg_of_open o (by simp [absentPage, hpage]) halign hmay hopen (x := x) (e := e) (by rwa [hunit]), hunit]

/-- A permitted write of a register of the map, with the outcomes it meets. -/
theorem Dev.serveReg_write (v : Word32) (x : WObs) (ha : RegAddr a) (hmay : d.mayWrite reader a = true) (hdark : d.isDark (a / 4096) = false) :
    d.serveReg reader a (some v) (some x) false =
      (.done, ((d.countCell (readerAtt reader) (attOfPage (a / 4096)) 2).writeReg a v x).countCell (attOfPage (a / 4096)) (readerAtt reader) 2) := by
  obtain ⟨halign, hpage, hlt, hdef⟩ := ha
  exact Dev.serveReg_of_live halign hpage (by simp [Dev.forbids, hmay]) hdark
    (Dev.carryOut_write _ reader (some x) (isWinPage_regPage hlt) v hdef)

/-- MGMT_EN as it stands says no more than naming no value of it. -/
theorem Dev.serveReg_mgmt (late : Bool) :
    d.serveReg reader a w o late (some (d.fb Reg.HOSTPORT_MGMT_MGMT_EN reader)) = d.serveReg reader a w o late := (rfl)

end

/-! ### A port's request, admitted as it arrives (R96, R98, R99, R103) -/

/-- A request of VC2 is admitted as it arrives: the port serves, its request holds a credit and a tag of its own, and nothing waits. -/
structure Dev.AdmitsAtOnce (d : Dev) (h : Nat) (q : RegReq) : Prop where
  up : (d.port h).adapterUp = true
  init : d.fb Reg.HOSTPORT_LINK_STATUS_INIT_DONE h = true
  credit : 1 ≤ (d.port h).cr2
  tag : tagErr2 (d.port h) q.tag = 0
  ingress : (d.port h).ingress2 = []
  wait : (d.port h).wait2 = []
  room : mayAdmit2 (d.port h) = true
  fence : fenceBefore (d.port h) q = false

theorem tagErr2_of_free {p : PortSt} {tag : Nat} (hlt : tag < 32) (hfree : tag ∉ p.out2) : tagErr2 p tag = 0 := by
  simp [tagErr2, Nat.not_le.mpr hlt, hfree]

theorem mayAdmit2_iff (p : PortSt) : mayAdmit2 p = true ↔ p.resv2 < 32 ∧ 5 ≤ p.grant1 ∧ 1 ≤ p.grant2 := by
  simp [mayAdmit2, and_assoc]

theorem fenceBefore_of_none {p : PortSt} (q : RegReq) (hfences : p.fences = []) (hin : p.ingress0.all (fun r => r.op != .fence) = true) :
    fenceBefore p q = false := by
  have hno : p.ingress0.any (fun r => r.op == .fence && decide (r.id < q.before)) = false := by
    rw [List.all_eq_true] at hin
    rw [List.any_eq_false]
    intro r hr
    have hop := bne_iff_ne.mp (hin r hr)
    simp [hop]
  simp [fenceBefore, hfences, hno]

/-- The port's response is reserved and the credit of its request goes back to the host. -/
def Dev.regReserved (d : Dev) (h : Nat) (p : PortSt) : Dev :=
  ((d.setPort h { p with resv2 := p.resv2 + 1 }).sendCredits h 0 1).creditCheck h p.have2 (p.resv2 + 1)

theorem Dev.fb_regReserved_mgmt (d : Dev) (h : Nat) (p : PortSt) :
    (d.regReserved h p).fb Reg.HOSTPORT_MGMT_MGMT_EN h = d.fb Reg.HOSTPORT_MGMT_MGMT_EN h :=
  congrArg (· == 1) (Dev.fv_creditCheck _ h _ _ rfl (by decide) (by decide))

/-- A request with good parity that neither waits nor is held back is carried out as it is admitted. -/
theorem Dev.admitReg_of_free {d : Dev} {h : Nat} {q : RegReq} (hwait : (d.port h).wait2 = []) (hfence : fenceBefore (d.port h) q = false)
    (hpar : q.parOk = true) (o : Option WObs) (late : Bool) :
    d.admitReg h q o late =
      (d.regReserved h { d.port h with cr2 := (d.port h).cr2 + 1 }).carryReg h { q with mgmt := d.fb Reg.HOSTPORT_MGMT_MGMT_EN h } o late := by
  unfold Dev.admitReg
  dsimp only
  have hnow : fenceBefore (d.port h) { q with mgmt := d.fb Reg.HOSTPORT_MGMT_MGMT_EN h } = false := hfence
  rw [if_neg (by simp [hwait, hnow]), if_neg (by simp [hpar])]
  rfl

/-- The port with the tag of a request outstanding. -/
def PortSt.withTag (p : PortSt) (tag : Nat) : PortSt := { p with out2 := p.out2 ++ [tag] }

/-- The same port, the host's credit taken. -/
def PortSt.withRequest (p : PortSt) (tag : Nat) : PortSt := { p with cr2 := p.cr2 - 1, out2 := p.out2 ++ [tag] }

theorem PortSt.withRequest_ne (p : PortSt) (tag : Nat) : p.withRequest tag ≠ {} := fun e => by
  simpa [PortSt.withRequest] using congrArg PortSt.out2 e

/-- The credit that the request took returns at its admission. -/
theorem PortSt.withRequest_credit {p : PortSt} (h : 1 ≤ p.cr2) (tag : Nat) :
    { p.withRequest tag with cr2 := (p.withRequest tag).cr2 + 1 } = p.withTag tag := by
  simp only [PortSt.withRequest, PortSt.withTag, Nat.sub_add_cancel h]

theorem Dev.regReserved_setPort (d : Dev) (h : Nat) {p : PortSt} (hp : p ≠ {}) (q : PortSt) :
    (d.setPort h p).regReserved h q = d.regReserved h q := by
  rw [Dev.regReserved, Dev.setPort_setPort d h _ hp, Dev.regReserved]

/-- A request that is admitted as it arrives, with good parity, is carried out there and then. -/
theorem Dev.arriveReg_of_atOnce {d : Dev} {h : Nat} {q : RegReq} (hq : d.AdmitsAtOnce h q) (hpar : q.parOk = true) (o : Option WObs) (late : Bool) :
    d.arriveReg h q o late =
      (d.regReserved h ((d.port h).withTag q.tag)).carryReg h { q with tagErr := 0, mgmt := d.fb Reg.HOSTPORT_MGMT_MGMT_EN h } o late := by
  obtain ⟨hup, hinit, hcredit, htag, hingress, hwait, hroom, hfence⟩ := hq
  have harrive : d.arriveReg h q o late = (d.setPort h ((d.port h).withRequest q.tag)).admitReg h { q with tagErr := 0 } o late := by
    unfold Dev.arriveReg
    rw [if_neg (by simp [hup]), if_neg (by simp [hinit]), if_neg (Nat.not_lt.mpr hcredit), if_neg (by simp [hingress, hroom])]
    simp only [htag]
    rfl
  rw [harrive, Dev.admitReg_of_free (q := { q with tagErr := 0 }) (by rwa [Dev.port_setPort_same]) (by rwa [Dev.port_setPort_same]) hpar,
    Dev.port_setPort_same, PortSt.withRequest_credit hcredit, Dev.regReserved_setPort _ _ ((d.port h).withRequest_ne q.tag)]
  rfl

/-! ### The answer of a port's request (R103 to R105) -/

/-- An answer waits for its port, unless the request itself took the link down. -/
def Dev.regAnswered (d : Dev) (h : Nat) (q : RegReq) (x : RegAns) : Dev :=
  if (d.port h).out2.contains q.tag then
    d.modPort h (fun p => { p with resp2 := p.resp2 ++ [regResp q.tag q.write (q.tagErr == 0) x] })
  else d

theorem Dev.carryReg_of_good {d : Dev} {h : Nat} {q : RegReq} {o : Option WObs} {late : Bool} (htag : q.tagErr = 0) (hpar : q.parOk = true)
    {x : RegAns} {e : Dev} (hserve : d.serveReg h q.addr (if q.write then some q.v else none) o late (some q.mgmt) = (x, e)) :
    d.carryReg h q o late = e.regAnswered h q x := by
  unfold Dev.carryReg
  rw [if_neg (by simp [htag]), if_neg (by simp [hpar]), hserve]
  rfl

/-- The write of a row by a port, as a request of VC2. -/
def Dev.portWrite (d : Dev) (tag : BitVec 12) (a : Nat) (v : Word32) : RegReq := ⟨tag.toNat, a, true, v, true, d.nextId, 0, false⟩

theorem Dev.regWrite_port (d : Dev) (h : Fin 12) (tag : BitVec 12) (a : Nat) (v : Word32) (o : WObs) :
    d.regWrite (.port h tag true) a v o = d.arriveReg h (d.portWrite tag a v) (some o) false := (rfl)

/-- The write of a row stores its register, has the row's effect, and goes to the partner. -/
theorem Dev.writeReg_of_regRow {i : Instr} {w : Who} {a : Nat} {v : Word32} {o : WObs} (h : regRow i = some (w, a, v, o)) (d : Dev) :
    d.writeReg a v o = (rowEffect d (d.storeReg a v) i).mirrorReg a :=
  congrArg (·.mirrorReg a) (Dev.regEffect_of_regRow h d _)

/-- Settles O22: the request is admitted as it arrives, so that its register is stored and the row has its effect before its answer waits. -/
theorem registerRowsAsPort : Obligations.RegisterRowsAsPort := by
  intro i s h tag a v o hrow hwf d p hup hinit hcredit hingress hwait hg1 hg2 hfences hin hresv hlt hfree b hmay hdark att e c
  have hq : d.AdmitsAtOnce h (d.portWrite tag a v) :=
    ⟨hup, hinit, hcredit, tagErr2_of_free hlt hfree, hingress, hwait, (mayAdmit2_iff p).mpr ⟨hresv, hg1, hg2⟩,
      fenceBefore_of_none _ hfences hin⟩
  have hatt : readerAtt h = h := if_pos h.isLt
  have hserve : b.serveReg h a (some v) (some o) false (some (d.fb Reg.HOSTPORT_MGMT_MGMT_EN h)) = (.done, c) := by
    rw [← d.fb_regReserved_mgmt h (p.withTag tag.toNat)]
    refine (Dev.serveReg_mgmt false).trans ?_
    rw [Dev.serveReg_write v o (regAddr_of_regRow hrow hwf) hmay hdark, hatt, Dev.writeReg_of_regRow hrow]
  refine State.next_as (exec_of_regRow hrow s) ?_
  rw [Dev.regWrite_port, Dev.arriveReg_of_atOnce hq rfl]
  exact Dev.carryReg_of_good rfl rfl hserve

end Sys2Proof.Machine

/-!
PROOFS. Firmware's reads, plain writes and timeouts, and the admission of the requests of VC2 that wait (R96, R99, R103, R110, R129, R152,
R243, R375, R402, R444, R451, R453, R458, R462).
-/
namespace Sys2Proof.Machine

/-! ### What a read answers (R152, R375, R402, R462) -/

section
variable {d : Dev} {a : Nat} (reader : Nat)

/-- A read of a LO half answers it, and latches the HI half for its reader. -/
theorem Dev.readReg_of_counter {x : Nat} (h : d.pairCount a = some x) :
    d.readReg reader a =
      (BitVec.ofNat 32 x, { d with hiLatch := sset (fun _ => 0) d.hiLatch (latchKey reader (a + 4)) (BitVec.ofNat 32 (x / 2 ^ 32)) }) := by
  rw [Dev.readReg, h]

theorem Dev.readReg_of_plain (h : d.pairCount a = none) (hhi : isHiHalf a = false) (hest : a ≠ 0xE044) :
    d.readReg reader a = (d.regValue a, d) := by
  simp [Dev.readReg, h, hhi, hest]

theorem Dev.readReg_est : d.readReg reader 0xE044 = (d.rdReg 0xE044, d.setF Reg.POWER_EST_PEAK 0) := (rfl)

end

/-! ### Firmware's requests -/

/-- A request of firmware on its way to a page is counted as a cell. -/
def Dev.toPage (d : Dev) (page : Nat) : Dev := d.countCell 0x4A (attOfPage page) 2

/-- Counting the cell leaves the latches of the HI halves, the free values and the counters that a LO register begins. -/
theorem Dev.toPage_hiLatch (d : Dev) (page : Nat) : (d.toPage page).hiLatch = d.hiLatch := by
  rw [Dev.toPage, Dev.countCell_eq]

theorem Dev.toPage_free (d : Dev) (page : Nat) : (d.toPage page).free = d.free := by
  rw [Dev.toPage, Dev.countCell_eq]

theorem Dev.pairCount_toPage (d : Dev) (page a : Nat) : (d.toPage page).pairCount a = d.pairCount a := by
  rw [Dev.toPage, Dev.countCell_eq]
  rfl

/-- A read of a LO half at its page answers it, and latches the HI half for firmware. -/
theorem Dev.readReg_toPage {d : Dev} {a x : Nat} (page : Nat) (h : d.pairCount a = some x) :
    (d.toPage page).readReg 12 a =
      (BitVec.ofNat 32 x,
        { d.toPage page with hiLatch := sset (fun _ => 0) d.hiLatch (latchKey 12 (a + 4)) (BitVec.ofNat 32 (x / 2 ^ 32)) }) := by
  rw [Dev.readReg_of_counter 12 ((d.pairCount_toPage page a).trans h), Dev.toPage_hiLatch]

/-- The page's answer reaches firmware, as another cell. -/
def Dev.toFirmware (d : Dev) (page a : Nat) (x : RegAns) : Dev := (d.countCell (attOfPage page) 0x4A 2).emit (.fw a x)

theorem Dev.regReq_firmware {d : Dev} (hruns : d.fwRuns = true) (a : Nat) (w : Option Word32) (o : Option WObs) (late : Bool) :
    d.regReq .firmware a w o late = ((d.serveReg 12 a w o late).2).emit (.fw a (d.serveReg 12 a w o late).1) := if_pos hruns

theorem Dev.forbids_firmware (d : Dev) (a : Nat) (write : Bool) : d.forbids 12 a write = false := by
  simp [Dev.forbids, Dev.mayWrite]

section
variable {d : Dev} {a : Nat} {w : Option Word32} {o : Option WObs} (hruns : d.fwRuns = true)
include hruns

/-- Firmware's request of a register page that is not dark. -/
theorem Dev.regReq_of_live (halign : a % 4 = 0) (hpage : isRegPage (a / 4096) = true) (hdark : d.isDark (a / 4096) = false) {x : RegAns} {e : Dev}
    (h : (d.toPage (a / 4096)).carryOut 12 a w o = (x, e)) : d.regReq .firmware a w o false = e.toFirmware (a / 4096) a x := by
  rw [Dev.regReq_firmware hruns, Dev.serveReg_of_live halign hpage (d.forbids_firmware a _) hdark h]
  rfl

theorem Dev.regRead_of_live {v : Word32} {e : Dev} (halign : a % 4 = 0) (hpage : isRegPage (a / 4096) = true)
    (hdark : d.isDark (a / 4096) = false) (hdef : (regAt a).isSome = true) (hflash : a ≠ 0x5064)
    (h : (d.toPage (a / 4096)).readReg 12 a = (v, e)) : d.regRead .firmware a = e.toFirmware (a / 4096) a (.value v) := by
  refine Dev.regReq_of_live hruns halign hpage hdark ?_
  rw [Dev.carryOut_read _ 12 none (isWinPage_regPage (isRegPage_lt hpage)) hdef hflash, h]

theorem Dev.regWrite_of_live (v : Word32) (halign : a % 4 = 0) (hpage : isRegPage (a / 4096) = true) (hdark : d.isDark (a / 4096) = false)
    (hdef : (regAt a).isSome = true) (hobs : needsObs a = false) :
    d.regReq .firmware a (some v) none false = ((d.toPage (a / 4096)).writeReg a v noObs).toFirmware (a / 4096) a .done := by
  refine Dev.regReq_of_live hruns halign hpage hdark ?_
  rw [Dev.carryOut_write _ 12 none (isWinPage_regPage (isRegPage_lt hpage)) v hdef]
  simp [Dev.takeObs, hobs]

end

/-- A read of FLASH_DATA answers the word that the flash gives. -/
theorem Dev.carryOut_flashRead {d t : Dev} {v : Word32} (h : d.flashRead = (t, some v)) (reader : Nat) (o : Option WObs) :
    d.carryOut reader 0x5064 none o = (.value v, t) := by
  simp [Dev.carryOut, isWinPage, h]

/-! ### REG_TIMEOUT (R129) -/

/-- A timeout is counted, raised and recorded; `w` says whether the request was a write. -/
def Dev.timedOut (d : Dev) (a w page : Nat) : Dev :=
  ((d.bump Reg.FABRIC_CNT_REG_TIMEOUT_VALUE).raiseRec pgFABRIC Reg.EV_FABRIC_REG_TIMEOUT sevWARNING [a, w, page]).nextFree

theorem Dev.noAnswer_eq (d : Dev) (reader a : Nat) (w : Option Word32) :
    d.noAnswer reader a w = (.dark 0 (unitPageOf (a / 4096)),
      if w.isSome && Config.freeFlag d.free then ((d.timedOut a (b2n w.isSome) (unitPageOf (a / 4096))).carryOut reader a w none).2
      else d.timedOut a (b2n w.isSome) (unitPageOf (a / 4096))) := by
  have hfree : ((d.bump Reg.FABRIC_CNT_REG_TIMEOUT_VALUE).raiseRec pgFABRIC Reg.EV_FABRIC_REG_TIMEOUT sevWARNING
      [a, b2n w.isSome, unitPageOf (a / 4096)]).free = d.free := by
    rw [Dev.raiseRec, Dev.raise_eq]
    rfl
  unfold Dev.noAnswer
  simp only [hfree]
  rfl

/-- A late request of firmware, on a register page that is not dark. -/
theorem Dev.regReq_of_late {d : Dev} {a : Nat} (hruns : d.fwRuns = true) (w : Option Word32) (halign : a % 4 = 0)
    (hpage : isRegPage (a / 4096) = true) (hdark : d.isDark (a / 4096) = false) :
    d.regReq .firmware a w none true =
      (((d.toPage (a / 4096)).noAnswer 12 a w).2).emit (.fw a (.dark 0 (a / 4096))) := by
  have hunit := unitPageOf_regPage (isRegPage_lt hpage)
  have hopen : d.darkTo a w.isSome = false := by simp [Dev.darkTo, hunit, hdark]
  have hserve : d.serveReg 12 a w none true = (d.toPage (a / 4096)).noAnswer 12 a w := by
    rw [Dev.serveReg, Dev.judge_of_open (by simp [absentPage, hpage]) halign (d.forbids_firmware a _) hopen, hunit]
    rfl
  rw [Dev.regReq_firmware hruns, hserve, Dev.noAnswer_eq, hunit]

/-! ### PROGRAM_STORE_WRITE (R243, R458) -/

/-- The page and the offset of a word of a program store. -/
theorem programStore_addr (n : Fin 48) {off : Nat} (hoff : off < 65536) :
    (BitVec.ofNat 26 ((0x2000 + 16 * n.val) * 4096 + off)).toNat = (0x2000 + 16 * n.val) * 4096 + off := by
  rw [BitVec.toNat_ofNat]
  omega

theorem programStore_page (n : Fin 48) (off : Nat) : ((0x2000 + 16 * n.val) * 4096 + off) / 4096 = 0x2000 + 16 * n.val + off / 4096 := by omega

section
variable {n : Fin 48} {off : Nat} (hoff : off < 65536)
include hoff

theorem isWinPage_programStore : isWinPage (((0x2000 + 16 * n.val) * 4096 + off) / 4096) = true := by
  rw [programStore_page]
  simp only [isWinPage, Bool.or_eq_true, Bool.and_eq_true, decide_eq_true_eq]
  omega

theorem unitPageOf_programStore : unitPageOf (((0x2000 + 16 * n.val) * 4096 + off) / 4096) = 0x100 + n.val := by
  rw [programStore_page, unitPageOf, if_pos (by omega), enginePage]
  omega

/-- A write of the window of a program store reaches the engine's store. -/
theorem Dev.carryOut_programStore (d : Dev) (reader : Nat) (v : Word32) :
    d.carryOut reader ((0x2000 + 16 * n.val) * 4096 + off) (some v) (some noObs) = (.done, d.storeWrite n off v) := by
  unfold Dev.carryOut
  dsimp only
  rw [if_pos (isWinPage_programStore hoff), programStore_page, if_neg (by omega),
    show (0x2000 + 16 * n.val + off / 4096 - 0x2000) / 16 = n.val by omega,
    show (0x2000 + 16 * n.val + off / 4096 - 0x2000) % 16 * 4096 + ((0x2000 + 16 * n.val) * 4096 + off) % 4096 = off by omega]

theorem Dev.regWrite_programStore {d : Dev} (hruns : d.fwRuns = true) (v : Word32) (halign : off % 4 = 0) (hdark : d.isDark (0x100 + n.val) = false) :
    d.regWrite .firmware ((0x2000 + 16 * n.val) * 4096 + off) v =
      ((d.toPage (0x100 + n.val)).storeWrite n off v).toFirmware (0x100 + n.val) ((0x2000 + 16 * n.val) * 4096 + off) .done := by
  have hwin := isWinPage_programStore (n := n) hoff
  have hunit := unitPageOf_programStore (n := n) hoff
  have hopen : d.darkTo ((0x2000 + 16 * n.val) * 4096 + off) true = false := by
    simp only [Dev.darkTo, hunit, hdark, Bool.and_false, Bool.false_and]
  have hserve := Dev.serveReg_of_open (d := d) (reader := 12) (w := some v) (some noObs) (by simp [absentPage, hwin]) (by omega)
    (d.forbids_firmware _ _) hopen (Dev.carryOut_programStore hoff _ 12 v)
  rw [hunit] at hserve
  rw [Dev.regWrite, Dev.regReq_firmware hruns, hserve]
  rfl

end

/-! ### REQUEST_ADMIT on VC2 (R96, R98, R99, R103, R110) -/

theorem exec_requestAdmit_vc2 (h : Fin 12) (s : State) : exec (.requestAdmit h true) s = .next (s.put (s.dev.admit2 h)) := (rfl)

section
variable {d : Dev} {h : Nat}

theorem Dev.admit2_of_old {q : RegReq} {rest : List RegReq} (hold : (d.port h).oldWait2 = q :: rest) :
    d.admit2 h = if (d.port h).oldFences.any (fun f => f.1.id < q.before) then d else d.carryOld h q := by
  unfold Dev.admit2
  simp only [hold]

/-- The oldest request in the ingress buffer is admitted, once its response can be reserved. -/
def Dev.admitNext (d : Dev) (h : Nat) : Dev :=
  match (d.port h).ingress2 with
  | x :: l => if mayAdmit2 (d.port h) then (d.setPort h { d.port h with ingress2 := l }).admitReg h x none false else d
  | [] => d

theorem Dev.admitNext_of_idle (hidle : (d.port h).ingress2 = [] ∨ mayAdmit2 (d.port h) = false) : d.admitNext h = d := by
  unfold Dev.admitNext
  split
  next x l hin => exact if_neg (by simpa [hin] using hidle)
  next => rfl

theorem Dev.admitNext_of_room {q : RegReq} {rest : List RegReq} (hin : (d.port h).ingress2 = q :: rest) (hroom : mayAdmit2 (d.port h) = true) :
    d.admitNext h = (d.setPort h { d.port h with ingress2 := rest }).admitReg h q none false := by
  rw [Dev.admitNext, hin]
  exact if_pos hroom

variable (hold : (d.port h).oldWait2 = [])
include hold

theorem Dev.admit2_of_released {q : RegReq} {rest : List RegReq} (hwait : (d.port h).wait2 = q :: rest)
    (hfence : fenceBefore (d.port h) q = false) :
    d.admit2 h = (d.setPort h { d.port h with wait2 := rest }).carryReg h q none false := by
  unfold Dev.admit2
  simp only [hold, hwait, hfence]
  rfl

/-- Where no request that waits may go, the ingress buffer is looked at. -/
theorem Dev.admit2_of_held (hwait : (d.port h).wait2 = [] ∨ ∃ q rest, (d.port h).wait2 = q :: rest ∧ fenceBefore (d.port h) q = true) :
    d.admit2 h = d.admitNext h := by
  unfold Dev.admit2
  rcases hwait with hwait | ⟨q, rest, hwait, hfence⟩
  · simp only [hold, hwait, Dev.admitNext]
    cases (d.port h).ingress2 <;> rfl
  · simp only [hold, hwait, hfence, Dev.admitNext]
    cases (d.port h).ingress2 <;> rfl

end

/-- Settles O23: firmware's requests of a page that answers, each by what its register's read or write does, and the requests of VC2 that wait,
oldest link first. -/
theorem registerReadsAndPlainWrites : Obligations.RegisterReadsAndPlainWrites := by
  constructor
  · intro s hruns d sent back
    have hfw {e f : Dev} (h : e = f) : Host.Outcome.next (s.put e) = (Host.Outcome.next (s.put f) : Host.Outcome State Fault Refusal) :=
      State.next_congr h
    have hon (page : Nat) (h : isAlwaysOn page = true) : d.isDark page = false := if_pos h
    refine ⟨fun a halign hpage hdark => ⟨fun hdef hcount hhi hest hflash => ?read, fun x hdef hcount => ?counter, fun v hdef hobs => ?write,
      ?timeout⟩, ?time, ?est, fun t v hflash hdark => ?flash, fun n off v hoff halign hdark => ?store⟩
    case read =>
      exact hfw (Dev.regRead_of_live hruns halign hpage hdark hdef hflash
        (Dev.readReg_of_plain 12 ((d.pairCount_toPage _ _).trans hcount) hhi hest))
    case counter =>
      have hflash : a.toNat ≠ 0x5064 := fun e => absurd (e ▸ hcount) (by simp [Dev.pairCount])
      exact hfw (Dev.regRead_of_live hruns halign hpage hdark hdef hflash (Dev.readReg_toPage _ hcount))
    case write => exact hfw (Dev.regWrite_of_live hruns v halign hpage hdark hdef hobs)
    case timeout =>
      intro c
      have hlate (w : Option Word32) := Dev.regReq_of_late hruns w halign hpage hdark
      have hunit := unitPageOf_regPage (isRegPage_lt hpage)
      simp only [Dev.noAnswer_eq, hunit, Dev.toPage_free] at hlate
      exact ⟨hfw (hlate none), fun v => hfw (hlate (some v))⟩
    case time =>
      exact hfw (Dev.regRead_of_live (a := 0x6C) hruns rfl rfl (hon 0 rfl) (by decide +kernel) (by decide) (Dev.readReg_toPage 0 rfl))
    case est =>
      refine hfw (Dev.regRead_of_live (a := 0xE044) hruns rfl rfl (hon 0xE rfl) (by decide +kernel) (by decide) ?_)
      rw [Dev.readReg_est, Dev.toPage, Dev.rdReg_countCell_other _ _ _ _ _ (by decide)]
    case flash => exact hfw (Dev.regReq_of_live (a := 0x5064) hruns rfl rfl hdark (Dev.carryOut_flashRead hflash 12 none))
    case store =>
      intro a
      have hstore := Dev.regWrite_programStore (n := n) hoff hruns v halign hdark
      rw [← programStore_addr n hoff] at hstore
      exact hfw hstore
  · intro s h d p room
    have hexec := exec_requestAdmit_vc2 h s
    refine ⟨fun q rest hold => State.next_as hexec (Dev.admit2_of_old hold), fun hold => ⟨fun q rest hwait hfence =>
      State.next_as hexec (Dev.admit2_of_released hold hwait hfence), fun hheld => ⟨fun hidle => ?_, fun q rest hin hroom => ?_⟩⟩⟩
    · refine State.next_same hexec ((Dev.admit2_of_held hold hheld).trans (Dev.admitNext_of_idle (hidle.imp_right fun hroom => ?_)))
      exact Bool.eq_false_iff.mpr (mt (mayAdmit2_iff p).mp hroom)
    · exact State.next_as hexec ((Dev.admit2_of_held hold hheld).trans (Dev.admitNext_of_room hin ((mayAdmit2_iff p).mpr hroom)))

end Sys2Proof.Machine
